-- ==== Sys2Proof/Word.lean ====
section
/-! DEFINITION. The word types of the Zabriuz: what the manual treats as bits. -/

namespace Sys2Proof

/-- One byte of a packet, an image or the embedded flash. -/
abbrev Byte := BitVec 8

/-- A 16-bit fabric word: the native word of the fabric (01 R20). -/
abbrev Half := BitVec 16

/-- One CSR register (00 R6). -/
abbrev Word := BitVec 32

/-- A working register or data word of a signal engine (07 R204). -/
abbrev W24 := BitVec 24

/-- An accumulator of a signal engine (07 R204). -/
abbrev Acc := BitVec 56

/-- The 128 data bits of a bank word (05 R139). -/
abbrev BankData := BitVec 128

/-- The 144 stored bits of a bank word (05 R139, 06 R171). -/
abbrev BankBits := BitVec 144

/-- 2,048 data bits: a bank row, a landing buffer, a fabric frame (05 R139, 03 R90, 03 R80). -/
abbrev RowBits := BitVec 2048

end Sys2Proof
end

