-- ==== Sys2Proof/Syntax.lean ====
section
/-! DEFINITION. The commands of the block: one constructor for each row of the table of operations and events
(spec/opcode_table.json). A command is an operation the outside asks for, or an event the outside brings; its
operands say which unit it concerns and what the world shows the block at that moment (a reading, a word, a packet). -/

namespace Sys2Proof

/-- The masters of the memory layer (05): fabric tile ports, engine movers (number 0 to 255 of the island), the
management complex and the queue-manager slices are foreground; the rest background. -/
inductive MemMaster where
  | fabric
  | mover (j : Nat)
  | management
  | slice (q : Nat)
  | dma
  | rowCopy
  | test
  | scrubber
  | repair
  | raw
deriving DecidableEq, Repr

/-- An operation of one bank port in one memory cycle (05 R140). A write names the bytes it writes. -/
inductive MemOp where
  | readWord (word : Nat)
  | writeWord (word : Nat) (data : BankData) (mask : Nat)
  | readRow (row : Nat)
  | writeRow (row : Nat) (data : RowBits)
deriving DecidableEq, Repr


/-- Stored bits of an engine's memories that an upset has inverted by the moment of a command: whether in program
memory, the word, the bit (check bits above the data). -/
structure EngUpset where
  prog : Bool
  word : Nat
  bit : Nat
deriving DecidableEq, Repr

/-- A producer of queue packets (11 R316): source device, node and port. A MAC is device 16, with its number as node. -/
structure Producer where
  dev : Nat
  node : Nat
  port : Nat
deriving DecidableEq, Repr

/-- The head of a packet as it enters this device's network (10 R287): who sent it and to whom, the node at which it
enters, its virtual channel, tag, poison, traffic class and number of flits; the router, if any, that finds its head bad or its op
reserved, and the router, if any, that first finds a flit of it bad (10 R290). -/
structure NocHead where
  srcDev : Nat
  srcNode : Nat
  srcPort : Nat
  entry : Nat
  dstDev : Nat
  dstNode : Nat
  dstPort : Nat
  vc : Nat
  tag : Nat
  poison : Bool
  cls : Nat
  flits : Nat
  badHead : Option Nat
  badFlit : Option Nat
deriving DecidableEq, Repr

/-- The descriptor and payload of a STREAM segment (11 R315). -/
structure Segment where
  queue : Nat
  sop : Bool
  eop : Bool
  abort : Bool
  ack : Bool
  pktLen : Nat
  lastBytes : Nat
  meta32 : Nat
  arrival : Nat
  payload : List (BitVec 512)
deriving DecidableEq, Repr

/-- A FLOW_REQ (12 R339): its head data fields, the user area where a data flit follows, whether it has more than two
flits, and whether its operation code is a reserved one. -/
structure FlowReq where
  key : BitVec 320
  keyLen : Nat
  ret : Bool
  count : Bool
  touch : Bool
  learn : Bool
  target : Nat
  countBytes : Nat
  queue : Nat
  eflags : Nat
  opa : Nat
  opb : Nat
  user : Option (List Byte)
  long : Bool
  reservedOp : Bool
deriving DecidableEq, Repr

/-- What a packet of the network asks for (10 R289). -/
inductive NocOp where
  | read (addr bytes : Nat)
  | write (addr : Nat) (data : List Byte) (posted : Bool)
  | stream (seg : Segment)
  | flow (fop : Nat) (req : FlowReq)
  | resp (op status : Nat) (data : List Byte)
deriving DecidableEq, Repr

/-- A packet of the network. -/
structure NocPacket where
  head : NocHead
  op : NocOp
deriving DecidableEq, Repr

/-- The commands. -/
inductive Instr where
  /-- REGISTER_WRITE (R8): A CSR write to a register that has no row of its own takes effect under the access type of each field. -/
  | registerWrite (off : Nat) (value : Word) (size : Nat)
  /-- READ_CLEAR (R8): An ordinary read of an RC field returns the field's value and then clears it. -/
  | readClear (off size : Nat)
  /-- BLK_COMMIT_WRITE (R11): A write of 1 to bit n of a block's BLK_COMMIT requests a commit of group n. -/
  | blkCommitWrite (off : Nat) (value : Word)
  /-- COMMIT_SAFE_POINT (R11): At its block's next safe point, a pending commit group moves all its staged RWS fields into force together, after any check, and its bit returns to 0. -/
  | commitSafePoint (off group : Nat)
  /-- RISER_BEAT_ERROR (R38): A riser or trunk beat with an error arrives; a single-bit error is corrected, and an uncorrectable beat is poisoned or discarded with VX_RISER_FAULT. -/
  | riserBeatError (trunk : Bool) (unit : Nat) (double control : Bool)
  /-- PARITY_MISMATCH (R41): The upper end of a bundle finds a parity mismatch; it is counted, recorded if it is the first, and can start localisation. -/
  | parityMismatch (island tile : Nat) (idleFailing : List Nat) (wire : Nat)
  /-- BGTEST_VISIT_END (R42): The background tester ends its 256-cycle visit of a bundle and acts on any failing idle wire or spare. -/
  | bgtestVisitEnd (island tile : Nat) (wires spares : List Nat) (bank : Nat) (rowBits : List Nat)
  /-- LOC_WINDOW_END (R44): A localisation window ends; the set is halved, the fault is confirmed, or the wire is steered to the spare. -/
  | locWindowEnd (island tile : Nat) (spareMismatch parityMismatch : Bool)
  /-- RESTAGE_PATH_TEST_DONE (R57): The 2,048-cycle path test ends; the failing bit is steered to its spare, or the path is dead (R58), and the restage restarts. -/
  | restagePathTestDone (sector wire : Nat)
  /-- RETUNE_STEP (R60): Every 64 fabric cycles during a re-tune, a delay line moves by at most one tap toward its band target. -/
  | retuneStep (island line : Nat) (window : Option (Nat × Nat)) (last : Bool)
  /-- RESTAGE_PATH_RETUNE_DONE (R62): A 128-cycle re-tune of a free restage path completes. -/
  | restagePathRetuneDone (sector : Nat)
  /-- MAP_WRITE_DONE (R63): A flash write of a defect-map entry completes and VX_MAP_GEN increases by 1, or VX_MAP_FULL is recorded when the map is full. -/
  | mapWriteDone
  /-- ROW_LOAD (R92): The fabric of a lower landing tile presents a LOAD of a bank row into its landing buffer. -/
  | rowLoad (sector tile row : Nat)
  /-- ROW_STORE (R92): The fabric of a lower landing tile presents a STORE of its landing buffer to a bank row. -/
  | rowStore (sector tile row : Nat)
  /-- ROW_CMD_DONE (R92): A row command completes; row_done rises and, for a LOAD, row_err and err_mask are presented. -/
  | rowCmdDone (sector tile : Nat) (errors : List (Nat × Nat))
  /-- UPPER_READ (R96): The upper tile presents a READ burst over the landing path. -/
  | upperRead (sector tile group count : Nat)
  /-- UPPER_WRITE (R96): The upper tile presents a WRITE burst with a word mask over the landing path. -/
  | upperWrite (sector tile group mask : Nat) (data : List (BitVec 256))
  /-- UPPER_BURST_DONE (R96): The last group of an upper-path burst crosses and the path turns around. -/
  | upperBurstDone (sector tile : Nat)
  /-- Z_CONFLICT (R89): An upset sets z_drv at both ends of a wire or makes land_en disagree; the resolver acts and FAB_Z_CONFLICT is recorded. -/
  | zConflict (island tile wire : Nat) (upper : Bool)
  /-- EDGE_CHANNEL_WORD (R84): A word written to an edge channel becomes visible to the neighbouring sector after the FIFO crossing. -/
  | edgeChannelWord (sector edge channel : Nat) (word : Half)
  /-- SERIAL_SETTINGS_WORD (R99): A transmit word with its control flag set changes a hard serial port's settings once the port is idle. -/
  | serialSettingsWord (port : Nat) (word : Half)
  /-- SERIAL_DATA_WORD (R99): A data or command word is transmitted by a UART, SPI or I3C/I2C port, and the received result enters the receive FIFO. -/
  | serialDataWord (port : Nat) (word : Half) (received : List Half)
  /-- FLASH_USER_READ (R100): A READ command on the flash user port returns one data word. -/
  | flashUserRead (address : Nat)
  /-- FLASH_USER_PROGRAM (R100): A PROGRAM command on the flash user port clears bits of one word and returns a status word when it completes. -/
  | flashUserProgram (address : Nat) (word : Half)
  /-- FLASH_USER_ERASE (R100): An ERASE command on the flash user port erases a 4 KiB sector and returns a status word when it completes. -/
  | flashUserErase (address : Nat)
  /-- CAPTURE_GO_COMMAND (R105): A write of go with src 0 triggers a capture of the selected sectors. -/
  | captureGoCommand (edges : List Nat)
  /-- CAPTURE_ARM (R105): A write of go with src 1 arms a capture to await the fabric trigger. -/
  | captureArm
  /-- CAPTURE_FABRIC_TRIGGER (R105): A 1 on the capture trigger port of a selected sector fires an armed capture. -/
  | captureFabricTrigger (sector : Nat) (edges : List Nat)
  /-- CAPTURE_DRAIN_DONE (R107): Every selected sector has drained its shadow bits; seq increases and valid is set. -/
  | captureDrainDone
  /-- RESTAGE_ACCEPT (R116): A restage request is accepted at a configuration-clock edge, and the staged state becomes restaging. -/
  | restageAccept (sector : Nat)
  /-- WRITE_BACK_DONE (R117): The write-back of memory-cluster truth tables into the resident plane ends and the restage begins. -/
  | writeBackDone (sector : Nat)
  /-- RESTAGE_DONE (R116): A restage ends and the staged latches become valid with the new plane, which checks R86 and R104. -/
  | restageDone (sector : Nat) (badWire : Option Nat)
  /-- CTX_STROBE (R124): The fabric strobes ctx_req_strobe to request a switch to a plane. -/
  | ctxStrobe (sector plane : Nat)
  /-- SWITCH (R125): CTX_CMD op SWITCH requests a switch to a plane. -/
  | switch (sector plane : Nat)
  /-- STAGE (R125): CTX_CMD op STAGE does a write-back if needed, then restages a plane. -/
  | stage (sector plane : Nat)
  /-- SCHED_START (R129): CTX_CMD op SCHED_START arms the active table to start at CTX_START. -/
  | schedStart (sector : Nat)
  /-- SCHED_STOP (R129): CTX_CMD op SCHED_STOP halts the schedule within the current entry. -/
  | schedStop (sector : Nat)
  /-- EVENT (R128): CTX_CMD op EVENT gives a schedule event for evt_src 1. -/
  | event (sector : Nat)
  /-- CTX_CMD_INVALID (R125): A CTX_CMD with op 0 or 6 to 15 records CTX_CMD_REFUSED. -/
  | ctxCmdInvalid (sector op : Nat)
  /-- SCHED_START_TIME (R129): Device time reaches the start time, and the sector switches to entry 0 of the active table. -/
  | schedStartTime (sector : Nat)
  /-- SCHED_DWELL_END (R127): An entry's dwell count expires, and the schedule enters the next entry, waits for an event, loops or stops. -/
  | schedDwellEnd (sector : Nat)
  /-- SCHED_EVT_IN (R128): A 1 on ctx_sched_evt is latched, or is discarded as missed. -/
  | schedEvtIn (sector : Nat)
  /-- CTX_TICK (R128): Device time reaches a multiple of CTX_TICK.period_ns and gives a schedule event for evt_src 2. -/
  | ctxTick (sector : Nat)
  /-- SCHED_TABLE_TAKE (R131): A checked next table becomes active at the end of a lap, at a stop entry or at once. -/
  | schedTableTake (sector : Nat)
  /-- MEM_FOREGROUND_REQUEST (R153): A foreground master presents a word or row request to a bank port, and it is granted or refused as not owner. -/
  | memForegroundRequest (master : MemMaster) (bank : Nat) (portB : Bool) (op : MemOp) (other : Option (MemMaster × MemOp)) (upsets : List Nat)
  /-- MEM_BACKGROUND_GRANT (R155): A waiting background request is granted an idle bank cycle, oldest first. -/
  | memBackgroundGrant (bank : Nat) (other : Option (MemMaster × MemOp))
  /-- BG_STARVED (R156): A background request's age passes starve_cycles and it is counted and recorded as starved. -/
  | bgStarved (bank master : Nat)
  /-- ROW_TOKEN_GRANT (R159): A waiting row move is granted a whole token from its island's bucket. -/
  | rowTokenGrant (island : Nat)
  /-- ROW_COPY_GO (R162): A write of go to MEM_RC_CTRL starts a row copy, or it is refused. -/
  | rowCopyGo (count : Nat)
  /-- ROW_COPY_DONE (R162): The row-copy engine completes its last row and busy falls. -/
  | rowCopyDone (column : Nat)
  /-- REPAIR_WRITEBACK (R177): A corrected word in the repair queue is written back in an idle bank cycle. -/
  | repairWriteback (column : Nat)
  /-- NARROW_WRITE (R181): A narrow write is laid into a merge-buffer entry, and it waits when no entry is free. -/
  | narrowWrite (master : MemMaster) (bank word : Nat) (data : BankData) (mask : Nat)
  /-- MERGE_DRAIN (R182): A merge entry drains on age, on a full mask or on demand, by a whole write or a read-modify-write. -/
  | mergeDrain (column : Nat) (upsets : List Nat)
  /-- BANK_FILL_DONE (R186): A fill after a code change completes and waiting accesses to the bank proceed. -/
  | bankFillDone (bank : Nat)
  /-- LAP_SCRUB_READ (R188): A lap-scrubber read of a bank falls due and is made in an idle cycle; errors are corrected or poisoned. -/
  | lapScrubRead (bank : Nat) (upsets : List Nat)
  /-- LAP_END (R189): Every column has completed its lap; MI_LAP_STAT is updated and the next lap starts. -/
  | lapEnd
  /-- SCRUB_PASS_GO (R190): A write of go to MI_SCRUB_CTRL starts a scrub pass over a word range, or it is refused. -/
  | scrubPassGo
  /-- SCRUB_PASS_ABORT (R190): A write of abort stops the pass after the reads in flight. -/
  | scrubPassAbort
  /-- SCRUB_PASS_READ (R190): A scrub-pass read is issued when fewer than 16 are in flight and the bank is idle. -/
  | scrubPassRead (upsets : List Nat)
  /-- SCRUB_PASS_DONE (R190): The last word of the pass is checked, busy falls and done is set. -/
  | scrubPassDone
  /-- REMAP_CMD (R195): A write of go to MI_REMAP_CMD requests a remap of a word. -/
  | remapCmd (bank word : Nat)
  /-- REMAP_DONE (R196): In an idle cycle the word is copied to a spare word and its entry becomes valid, or MI_REMAP_FULL is recorded. -/
  | remapDone
  /-- REMAP_FLASH_WRITE (R196): The management complex writes a remap entry to embedded flash. -/
  | remapFlashWrite
  /-- RAW_READ (R197): Raw-window op 0 reads a word's physical bits without decoding. -/
  | rawRead
  /-- RAW_WRITE (R197): Raw-window op 1 writes physical bits without encoding, or it is refused. -/
  | rawWrite
  /-- CODED_READ (R197): Raw-window op 2 reads decoded data and reports the outcome without counting it. -/
  | codedRead
  /-- MARCH_GO (R199): A write of go to MI_MARCH_CTRL starts a march test on a bank range, or it is refused. -/
  | marchGo (value : Nat)
  /-- MARCH_DONE (R199): A march test completes; failures are counted and banks are restored or left filled. -/
  | marchDone (fails : List (Nat × Nat))
  /-- TRANSPARENT_TEST_ROW (R200): Transparent test saves a row, applies the march table and writes the row back. -/
  | transparentTestRow (column : Nat) (fails : List Nat)
  /-- NOPA (R237): Parallel op 0 does no arithmetic and performs its move slots. -/
  | nopa (e : Nat) (upsets : List EngUpset)
  /-- MPY (R237): Parallel op 1 writes the product to the accumulator. -/
  | mpy (e : Nat) (upsets : List EngUpset)
  /-- MAC (R237): Parallel op 2 adds the product to the accumulator. -/
  | mac (e : Nat) (upsets : List EngUpset)
  /-- MSU (R237): Parallel op 3 subtracts the product from the accumulator. -/
  | msu (e : Nat) (upsets : List EngUpset)
  /-- MPYR (R237): Parallel op 4 writes the rounded product. -/
  | mpyr (e : Nat) (upsets : List EngUpset)
  /-- MACR (R237): Parallel op 5 accumulates the product and rounds. -/
  | macr (e : Nat) (upsets : List EngUpset)
  /-- MSUR (R237): Parallel op 6 subtracts the product and rounds. -/
  | msur (e : Nat) (upsets : List EngUpset)
  /-- ADDX (R237): Parallel op 7 adds a register to the accumulator. -/
  | addx (e : Nat) (upsets : List EngUpset)
  /-- SUBX (R237): Parallel op 8 subtracts a register from the accumulator. -/
  | subx (e : Nat) (upsets : List EngUpset)
  /-- CLR (R237): Parallel op 9 clears the accumulator. -/
  | clr (e : Nat) (upsets : List EngUpset)
  /-- CPYA (R237): Parallel op 10 copies one accumulator into another. -/
  | cpya (e : Nat) (upsets : List EngUpset)
  /-- NEG (R237): Parallel op 11 negates the accumulator. -/
  | negAcc (e : Nat) (upsets : List EngUpset)
  /-- ABS (R237): Parallel op 12 takes the absolute value of the accumulator. -/
  | absAcc (e : Nat) (upsets : List EngUpset)
  /-- ASL1 (R237): Parallel op 13 shifts the accumulator left by one bit. -/
  | asl1 (e : Nat) (upsets : List EngUpset)
  /-- ASR1 (R237): Parallel op 14 shifts the accumulator right by one bit, arithmetically. -/
  | asr1 (e : Nat) (upsets : List EngUpset)
  /-- RND (R237): Parallel op 15 rounds the accumulator. -/
  | rnd (e : Nat) (upsets : List EngUpset)
  /-- NOP (R243): Control opcode 0x00 does nothing. -/
  | nop (e : Nat) (upsets : List EngUpset)
  /-- LDI (R245): A sign-extended 16-bit immediate is loaded into a register. -/
  | ldi (e : Nat) (upsets : List EngUpset)
  /-- LDIH (R245): Bits [23:16] of a register are replaced by an 8-bit immediate. -/
  | ldih (e : Nat) (upsets : List EngUpset)
  /-- MOV (R245): One register is copied into another. -/
  | mov (e : Nat) (upsets : List EngUpset)
  /-- LDD (R245): A data word is loaded from a direct address in slot A. -/
  | ldd (e : Nat) (upsets : List EngUpset)
  /-- STD (R245): A register is stored to a direct address, optionally as a rounding store. -/
  | std (e : Nat) (upsets : List EngUpset)
  /-- BRA (R246): An unconditional branch is taken after two delay slots. -/
  | bra (e : Nat) (upsets : List EngUpset)
  /-- BCC (R247): The branch is taken if the condition on the flags holds. -/
  | bcc (e : Nat) (upsets : List EngUpset)
  /-- CALL (R248): The return address is pushed and the branch is taken. -/
  | call (e : Nat) (upsets : List EngUpset)
  /-- RET (R248): The return address is popped and the branch is taken. -/
  | ret (e : Nat) (upsets : List EngUpset)
  /-- RTI (R249): The handler returns to ipc, restoring st and setting IE. -/
  | rti (e : Nat) (upsets : List EngUpset)
  /-- DBNZ (R250): lc is decremented and the branch is taken while lc is not 0. -/
  | dbnz (e : Nat) (upsets : List EngUpset)
  /-- REP (R251): The next instruction is repeated n times. -/
  | rep (e : Nat) (upsets : List EngUpset)
  /-- EXP (R216): The normalisation count of an accumulator is written to a register. -/
  | exp (e : Nat) (upsets : List EngUpset)
  /-- NORM (R217): The accumulator is shifted by a signed count. -/
  | norm (e : Nat) (upsets : List EngUpset)
  /-- SHL (R252): The accumulator is shifted left by an immediate count. -/
  | shl (e : Nat) (upsets : List EngUpset)
  /-- SHR (R252): The accumulator is shifted right arithmetically by an immediate count. -/
  | shr (e : Nat) (upsets : List EngUpset)
  /-- SAT (R252): The accumulator is saturated to 48 bits if its bits [55:47] are not all equal. -/
  | sat (e : Nat) (upsets : List EngUpset)
  /-- AND (R253): The accumulator is ANDed with an extended register operand. -/
  | andOp (e : Nat) (upsets : List EngUpset)
  /-- OR (R253): The accumulator is ORed with an extended register operand. -/
  | orOp (e : Nat) (upsets : List EngUpset)
  /-- XOR (R253): The accumulator is XORed with an extended register operand. -/
  | xorOp (e : Nat) (upsets : List EngUpset)
  /-- IN (R254): A port value or a popped input word is read into a register; the instruction stalls on an empty FIFO. -/
  | inPort (e : Nat) (upsets : List EngUpset)
  /-- OUT (R254): A register is pushed to an output port; the instruction stalls on a full FIFO. -/
  | outPort (e : Nat) (upsets : List EngUpset)
  /-- WAIT (R254): Issue stops until any interrupt source raises a request. -/
  | wait (e : Nat) (upsets : List EngUpset)
  /-- SIG (R255): A pulse is queued on a sig_out line; the instruction stalls when 4 pulses are already queued. -/
  | sig (e : Nat) (upsets : List EngUpset)
  /-- XFER (R256): The engine mover is started on a transfer between engine memory and a bank. -/
  | xfer (e : Nat) (upsets : List EngUpset)
  /-- EI (R257): Interrupts are enabled. -/
  | ei (e : Nat) (upsets : List EngUpset)
  /-- DI (R257): Interrupts are disabled. -/
  | di (e : Nat) (upsets : List EngUpset)
  /-- LOCK (R258): A locked sequence of at most 8 instructions is opened. -/
  | lock (e : Nat) (upsets : List EngUpset)
  /-- UNLOCK (R258): The locked sequence is closed. -/
  | unlock (e : Nat) (upsets : List EngUpset)
  /-- KICK (R257): wdt is reloaded from wdt_per. -/
  | kick (e : Nat) (upsets : List EngUpset)
  /-- TAS (R259): A semaphore is tested and set, or cleared. -/
  | tas (e : Nat) (upsets : List EngUpset)
  /-- HALT (R257): The engine halts after this instruction with cause 5. -/
  | halt (e : Nat) (upsets : List EngUpset)
  /-- TRAP (R257): The engine halts without executing the TRAP, with cause 2. -/
  | trap (e : Nat) (upsets : List EngUpset)
  /-- DMEM_REWRITE (R209): A pending rewrite of a corrected data word is made in a free half-cycle. -/
  | dmemRewrite (e : Nat)
  /-- TIMER_RELOAD (R206): tmr reaches 0, reloads from tmr_per and raises the timer interrupt. -/
  | timerReload (e : Nat)
  /-- WATCHDOG_EXPIRE (R276): wdt goes from 1 to 0, and the engine halts at once with cause 3. -/
  | watchdogExpire (e : Nat)
  /-- INTERRUPT_ENTRY (R271): An enabled request is taken, D and F are discarded, ipc and ist are saved and the handler is entered. -/
  | interruptEntry (e : Nat) (upsets : List EngUpset)
  /-- ENG_PORT_PUSH (R223): The fabric pushes a word into an engine input FIFO, or takes one from an output FIFO. -/
  | engPortPush (e port : Nat) (word : Word)
  /-- ENG_STALL_END (R225): A stalled IN, OUT or SIG finds its word or room and the pipeline advances. -/
  | engStallEnd (e cycles : Nat)
  /-- SIG_PULSE_DELIVERED (R255): A queued pulse is delivered on sig_out for one fabric cycle. -/
  | sigPulseDelivered (e line : Nat)
  /-- MOVER_BANK_WORD (R230): A mover bank-word request completes, or it is refused with error 2. -/
  | moverBankWord (e : Nat) (upsets : List EngUpset) (bankUpsets : List Nat)
  /-- MOVER_DONE (R231): A mover transfer completes and busy falls in the mover status. -/
  | moverDone (e : Nat)
  /-- ENG_CMD_HALT (R277): ENG_CMD op HALT requests a boundary halt of the selected engine. -/
  | engCmdHalt
  /-- ENG_CMD_RESUME (R280): ENG_CMD op RESUME restarts fetch at ENG_STATE.pc and reloads wdt. -/
  | engCmdResume
  /-- ENG_CMD_STEP (R281): ENG_CMD op STEP executes one step and then halts. -/
  | engCmdStep
  /-- ENG_CMD_RESET (R233): ENG_CMD op RESET halts the engine, resets its registers, empties its FIFOs and abandons its transfer. -/
  | engCmdReset
  /-- BOUNDARY_HALT (R278): A pending command halt acts at the first cycle whose instruction in D is not held off. -/
  | boundaryHalt (e : Nat)
  /-- BREAKPOINT (R278): An enabled breakpoint address reaches D while not held off, and the engine halts with cause 2. -/
  | breakpoint (e : Nat)
  /-- ENGINE_WINDOW_READ (R232): A read of a halted engine's window returns a data word, program word or register, or is refused. -/
  | engineWindowRead (e off size : Nat)
  /-- ENGINE_WINDOW_WRITE (R232): A write to a halted engine's window writes a data word, program word or register, or is refused. -/
  | engineWindowWrite (e off size : Nat) (value : Word)
  /-- NOC_READ (R289): A READ packet reaches its target, which returns a READ_RESP. -/
  | nocRead (head : NocHead) (addr bytes : Nat)
  /-- NOC_WRITE (R289): A WRITE packet reaches its target, which writes the data and returns a WRITE_ACK. -/
  | nocWrite (head : NocHead) (addr : Nat) (data : List Byte)
  /-- WRITE_POSTED (R289): A WRITE_POSTED packet reaches its target and is written without a response. -/
  | writePosted (head : NocHead) (addr : Nat) (data : List Byte)
  /-- READ_RESP (R289): A READ_RESP reaches its requester, which releases its tag and space; a late response is discarded. -/
  | readResp (head : NocHead) (status : Nat) (data : List Byte)
  /-- WRITE_ACK (R289): A WRITE_ACK reaches its requester or producer. -/
  | writeAck (head : NocHead) (status info : Nat)
  /-- RESP_TIMEOUT (R300): A request has no response after resp_timeout_us and is ended with status 2. -/
  | respTimeout (node port tag : Nat)
  /-- WAKE_FORWARD (R302): A head held for a sleeping domain is forwarded once the domain reports awake. -/
  | wakeForward (node : Nat)
  /-- STREAM_SEGMENT (R315): A STREAM segment reaches its queue-manager slice and is written, refused or rewound by its flags and class. -/
  | streamSegment (head : NocHead) (seg : Segment) (descBad : Bool)
  /-- FAR_CELL_ACK (R319): The DRAM path acknowledges the last cell of a far packet, which commits. -/
  | farCellAck (q : Nat) (descBad : Bool)
  /-- OPEN_TIMEOUT (R316): An open packet receives no segment for open_timeout_us and is rewound with code 3. -/
  | openTimeout (q : Nat)
  /-- SP_SEGMENT_INJECT (R322): A sector stream port injects a gathered segment into the network. -/
  | spSegmentInject (sector : Nat)
  /-- SP_IDLE_TIMEOUT (R322): sp_tx_valid stays 0 for 16 fabric cycles with a packet open, and the segment is injected. -/
  | spIdleTimeout (sector : Nat)
  /-- FRAME_RECEIVE (R323): A MAC receives a frame, which is classified and enters its queue or is discarded. -/
  | frameReceive (mac : Nat) (data : List Byte) (fecCorrected fecUncorr : Nat) (descBad : Bool)
  /-- PORT_SLOT_START (R327): A valid calendar slot starts and its queue gains an entitlement. -/
  | portSlotStart (slice port dry : Nat) (descBad : Bool)
  /-- PORT_PACKET_DONE (R328): An egress port's packet has left, and the port chooses and starts its next packet. -/
  | portPacketDone (slice port dry : Nat) (descBad : Bool)
  /-- QUEUE_ENABLE (R313): A write that sets en from 0 to 1 applies the entry and checks it. -/
  | queueEnable (q : Nat) (value : Word)
  /-- QUEUE_DISABLE (R314): A write that clears en refuses new packets while open and committed ones finish. -/
  | queueDisable (q : Nat) (value : Word)
  /-- QUEUE_FLUSH (R314): QM_Q_CMD op FLUSH discards a disabled queue's committed packets, or it is refused. -/
  | queueFlush (q : Nat)
  /-- FAR_CELLS_WRITE (R330): A write of QM_FAR_CELLS is taken, or it is ignored when the total exceeds the limit. -/
  | farCellsWrite (slice n : Nat)
  /-- LOOKUP (R340): A flow LOOKUP returns HIT or MISS and can learn a new entry. -/
  | flowLookup (head : NocHead) (req : FlowReq) (flips : List (Nat × Nat))
  /-- INSERT (R340): A flow INSERT places a new key, or returns EXISTS or FULL. -/
  | flowInsert (head : NocHead) (req : FlowReq) (flips : List (Nat × Nat))
  /-- DELETE (R340): A flow DELETE frees the entry. -/
  | flowDelete (head : NocHead) (req : FlowReq) (flips : List (Nat × Nat))
  /-- ADD (R340): A flow ADD adds opa to the target field. -/
  | flowAdd (head : NocHead) (req : FlowReq) (flips : List (Nat × Nat))
  /-- CAS (R340): A flow CAS replaces the target if it equals opa. -/
  | flowCas (head : NocHead) (req : FlowReq) (flips : List (Nat × Nat))
  /-- FLOW_RESP (R341): A FLOW_RESP reaches its requester. -/
  | flowResp (node port tag headData : Nat) (entry : List Byte)
  /-- RELOCATE (R337): The relocator moves or swaps one stash entry in a free pipe slot. -/
  | relocate
  /-- AGE_SCAN_START (R346): A write of go to FS_AGE_CTRL starts an age scan, or it is refused. -/
  | ageScanStart (action : Nat)
  /-- AGE_SCAN_VISIT (R346): The scan visits a bucket in a free slot and ages its old entries. -/
  | ageScanVisit
  /-- AGE_SCAN_DONE (R346): The age scan has visited the stash and done is set. -/
  | ageScanDone
  /-- FS_KILL (R345): A write of go to FS_KILL frees an entry under its bucket locks. -/
  | fsKill (stash : Bool) (index : Nat)
  /-- CONTRACT_COMMIT (R353): QM_CT_CMD op COMMIT checks a contract and computes its bound and slack. -/
  | contractCommit (q : Nat)
  /-- CONTRACT_REMOVE (R355): QM_CT_CMD op REMOVE clears the contract. -/
  | contractRemove (q : Nat)
  /-- PROMISE_RESUME (R363): One bound after the last cause clears, susp falls and PRM_RESUMED is recorded. -/
  | promiseResume (q : Nat)
  /-- DRAM_LINE_READ (R375): A DRAM channel reads a line and decodes it as clean, corrected, uncorrectable or poison. -/
  | dramLineRead (cls addr : Nat) (flips : List Nat)
  /-- DRAM_LINE_WRITE (R375): A DRAM channel writes a line in order with other requests to that line. -/
  | dramLineWrite (cls addr : Nat) (data : BitVec 512)
  /-- LINE_REWRITE (R373): A corrected line is rewritten in its bank's next idle slot. -/
  | lineRewrite (ch line : Nat)
  /-- PER_BANK_REFRESH (R376): A bank's refresh interval expires and a per-bank refresh is issued. -/
  | perBankRefresh (ch : Nat)
  /-- MR4_READ (R376): The refresh multiplier inputs are read, at least every 16 ms. -/
  | mr4Read (ch code mult : Nat) (above : Bool)
  /-- TRAINING_STEP_DONE (R378): A training step completes, is retried, or fails the channel on its second failure. -/
  | trainingStepDone (ch : Nat) (ok unfit : Bool)
  /-- TRACKING_READ (R379): WCK-to-DQ tracking runs every track_ms and adjusts the delay lines. -/
  | trackingRead (ch : Nat) (drift : Int) (beyond : Bool)
  /-- LP_RETRAIN (R380): LP_CMD op RETRAIN retrains the active set point, or it is refused. -/
  | lpRetrain (ch : Nat)
  /-- LP_SWITCH (R380): LP_CMD op SWITCH changes to the other set point, or it is refused. -/
  | lpSwitch (ch : Nat)
  /-- LP_POWER_DOWN_ENTRY (R381): A channel idle for pd_idle_ns enters power-down. -/
  | lpPowerDownEntry (ch : Nat)
  /-- REGION_ENABLE (R386): A write of en = 1 to MEE_REG_CFG checks and enables a region. -/
  | regionEnable (value : Nat)
  /-- MEE_PARTIAL_WRITE (R393): A partial-line write is merged in the merge buffer, then encrypted and written. -/
  | meePartialWrite (cls addr : Nat) (data : List Byte)
  /-- REENC_WALK_START (R396): A page waiting for re-encryption obtains a free walker. -/
  | reencWalkStart
  /-- REENC_WALK_DONE (R396): A re-encryption walk ends, and waiting writes proceed with M + 1. -/
  | reencWalkDone (page : Nat)
  /-- KEY_LOAD (R404): MEE_KEY_CMD op LOAD fills an empty key slot. -/
  | keyLoad (slot src label : Nat)
  /-- KEY_RETIRE (R405): MEE_KEY_CMD op RETIRE wipes an unreferenced slot. -/
  | keyRetire (slot : Nat)
  /-- REKEY (R406): MEE_CMD op REKEY starts a walk of a region under a new key. -/
  | rekey (region key : Nat)
  /-- MEE_INIT (R403): MEE_CMD op INIT starts the initialisation of an encrypted region. -/
  | meeInit (region : Nat)
  /-- MEE_FLUSH (R406): MEE_CMD op FLUSH starts to write back and empty the counter cache and buffers. -/
  | meeFlush
  /-- MEE_WALK_DONE (R406): A REKEY, INIT or FLUSH completes and MEE_WALK_STAT.busy falls. -/
  | meeWalkDone
  /-- BRINGUP_START (R413): en rises, restart is written or a retrain begins, and a bundle starts bring-up from RESET. -/
  | bringupStart (bundle : Nat)
  /-- BRINGUP_STAGE_DONE (R413): A bring-up stage completes and the bundle moves to the next state. -/
  | bringupStageDone (bundle lane inverted : Nat) (numbers : List Nat) (skew : Nat)
  /-- BRINGUP_STAGE_TIMEOUT (R413): A bring-up stage exceeds its limit or fails; the attempt ends, and after 3 attempts the bundle enters FAILED. -/
  | bringupStageTimeout (bundle : Nat)
  /-- LANE_LOCK_LOST (R413): A lane that is up loses lock and returns to state 2. -/
  | laneLockLost (bundle lane : Nat)
  /-- PRBS_CHECKER_LOCK (R418): A checker locks after 64 good bits, or loses lock after 1,024 errors. -/
  | prbsCheckerLock (bundle lane : Nat) (lock : Bool) (errors : Nat)
  /-- INJECT_SINGLE (R419): LN_INJ go with mode 1 inverts one bit on each selected lane. -/
  | injectSingle (bundle : Nat) (value : Word)
  /-- INJECT_BURST (R419): LN_INJ go with mode 2 inverts a burst of bits. -/
  | injectBurst (bundle : Nat) (value : Word)
  /-- INJECT_RATE (R419): LN_INJ go with mode 3 starts periodic bit inversion. -/
  | injectRate (bundle : Nat) (value : Word)
  /-- INJECT_OFF (R419): LN_INJ go with mode 0 stops injection. -/
  | injectOff (bundle : Nat) (value : Word)
  /-- GRAFT_FLIT_RECEIVE (R426): A wire flit is received, decoded and delivered in sequence, or discarded with nak. -/
  | graftFlitReceive (bundle : Nat) (wire : List Byte) (misaligned : Bool)
  /-- GRAFT_CAPABILITY (R425): A partner's capability word is received and the version, rate and channels are settled. -/
  | graftCapability (bundle : Nat) (word : BitVec 64)
  /-- ECHO (R430): An ECHO link command is received and answered with its times. -/
  | echo (bundle t1 : Nat)
  /-- LATENCY_MEASURE (R430): Each millisecond the link measures its latency and recomputes its hop bound. -/
  | latencyMeasure (bundle t1 t2 t3 t4 : Nat)
  /-- REPLAY_TIMEOUT (R426): A flit stays unacknowledged and the transmitter resends from ack + 1. -/
  | replayTimeout (bundle : Nat)
  /-- GRAFT_RETRAIN_CMD (R428): GR_CMD op RETRAIN retrains the selected link. -/
  | graftRetrainCmd (bundle : Nat)
  /-- TIME_SEND (R431): Every 1,024 ns a time-sending end sends a TIME link command. -/
  | timeSend (bundle : Nat)
  /-- TIME_RECEIVE (R431): A received TIME command gives an offset that steps or slews device time. -/
  | timeReceive (bundle stamp : Nat)
  /-- GR_TIME_LOST (R431): No TIME command arrives for 16 us; time_lock falls and time runs free. -/
  | grTimeLost
  /-- HOST_READ (R439): A host memory read TLP becomes READ packets and completes to the host. -/
  | hostRead (function bar off bytes tag : Nat)
  /-- HOST_WRITE (R439): A host memory write TLP becomes WRITE_POSTED packets. -/
  | hostWrite (function bar off : Nat) (data : List Byte) (poison : Bool)
  /-- RING_ENABLE (R443): A write of en to PCI_RING_CFG checks and enables a host ring. -/
  | ringEnable (ring : Nat) (value : Word)
  /-- DOORBELL (R445): A doorbell write gives a ring's producer index. -/
  | doorbell (ring index : Nat)
  /-- FROM_HOST_FETCH (R447): The port reads posted descriptors and buffers and sends them as STREAM segments. -/
  | fromHostFetch (ring : Nat) (desc data : List Byte) (fail : Bool)
  /-- RING_COMPLETION (R446): The device writes a buffer's completion descriptor and sends the vector. -/
  | ringCompletion (ring addr bufLen : Nat) (fail : Bool)
  /-- PCIE_FUNCTION_RESET (R448): A function-level reset, hot reset or link down stops the affected rings. -/
  | pcieFunctionReset (functions : List Nat) (linkDown : Bool)
  /-- PCIE_PERST (R484): A low on PCIE_PERST_N resets only the host port. -/
  | pciePerst
  /-- MSIX_UNMASK (R441): A masked vector with its pending bit set is unmasked and sent. -/
  | msixUnmask (fn vec : Nat)
  /-- LTR_UPDATE (R442): The host writes the LTR capability and the host tolerance changes. -/
  | ltrUpdate (on : Bool) (snoop noSnoop : Nat)
  /-- LTR_SEND (R442): A write that changes PCI_LTR.send_us sends an LTR message. -/
  | ltrSend (value : Nat)
  /-- MAC_ENABLE (R450): A write of en to ETH_MAC_CFG checks and enables a MAC. -/
  | macEnable (mac : Nat) (value : Word)
  /-- MAC_LINK_DOWN (R450): A MAC's link goes down and ETH_LINK_DOWN is recorded. -/
  | macLinkDown (mac : Nat)
  /-- PFC_PAUSE_RECEIVE (R452): A received pause frame stops or restarts the egress of a priority's classes. -/
  | pfcPauseReceive (mac pri : Nat) (stop : Bool)
  /-- TIME_PPS_EDGE (R454): A rising edge of TIME_PPS gives an offset that disciplines device time. -/
  | timePpsEdge
  /-- PPS_LOST (R454): No TIME_PPS edge arrives for 1.1 s, and time runs free. -/
  | ppsLost
  /-- ETH_TIME_HI_WRITE (R455): A write of ETH_TIME_HI sets device time from HI and the held LO, as a slew while contracts are committed. -/
  | ethTimeHiWrite (value : Word)
  /-- ETH_TIME_LO_WRITE (R455): A write of ETH_TIME_LO is held for the next HI write. -/
  | ethTimeLoWrite (value : Word)
  /-- ETH_TIME_LO_READ (R455): A read of ETH_TIME_LO latches HI. -/
  | ethTimeLoRead
  /-- ETH_TIME_STEP (R455): A write of ETH_TIME_STEP steps device time, or slews it. -/
  | ethTimeStep (value : Word)
  /-- TIME_SLEW_STEP (R455): A step carried out as a slew advances device time by 1 ns every 10 us. -/
  | timeSlewStep
  /-- ETH_TXTS_TAG_READ (R453): A read of ETH_TXTS_TAG pops the transmit timestamp FIFO head. -/
  | ethTxtsTagRead
  /-- IMAGE_HEADER (R462): The 64-byte image header is read and checked. -/
  | imageHeader (bytes : List Byte)
  /-- FRAME (R465): A FRAME record writes one fabric frame. -/
  | frameRecord (bytes : List Byte)
  /-- RANGE (R465): A RANGE record writes a run of fabric frames. -/
  | rangeRecord (bytes : List Byte)
  /-- REPEAT (R465): A REPEAT record writes decoded frames at each listed address. -/
  | repeatRecord (bytes : List Byte)
  /-- FILL (R465): A FILL record writes frames holding a repeated pattern. -/
  | fillRecord (bytes : List Byte)
  /-- ENGINE_PROG (R465): An ENGINE_PROG record writes engine program words. -/
  | engineProgRecord (bytes : List Byte)
  /-- ENGINE_DATA (R465): An ENGINE_DATA record writes engine data words. -/
  | engineDataRecord (bytes : List Byte)
  /-- MEMINIT (R465): A MEMINIT record writes bank rows. -/
  | meminitRecord (bytes : List Byte)
  /-- TABLE (R469): A TABLE record is checked and held until the tables take effect. -/
  | tableRecord (bytes : List Byte)
  /-- CSR (R471): A CSR record writes register values in order. -/
  | csrRecord (bytes : List Byte)
  /-- SIGNATURES (R472): A SIGNATURES record supplies golden signatures for fabric frames. -/
  | signaturesRecord (bytes : List Byte)
  /-- REGION (R478): A REGION record declares the sectors and planes of a partial image. -/
  | regionRecord (bytes : List Byte)
  /-- CHAIN (R482): A CHAIN record carries the follower's image, which is buffered for forwarding. -/
  | chainRecord (bytes : List Byte)
  /-- END (R466): The END record ends the payload; authentication, tag and signatures are checked and the image is accepted or fails. -/
  | endRecord (bytes auth : List Byte)
  /-- IMAGE_STREAM_WRITE (R496): A write to the image stream window appends bytes to the load stream, or they are discarded. -/
  | imageStreamWrite (data : List Byte)
  /-- POWER_ON (R484): Power is applied, or a rail leaves its range outside D4, and a start-up begins. -/
  | powerOn
  /-- RESET_N_LOW (R484): RESET_N is low for at least 1 us and a start-up begins. -/
  | resetNLow
  /-- POR_RELEASE (R484): The hold ends 1 ms after rails and RESET_N are good; blocks take reset values and MODE is sampled. -/
  | porRelease (mode : Nat) (slew hot : Bool)
  /-- STARTUP_STAGE_DONE (R491): A start-up stage completes and the next stage starts. -/
  | startupStageDone (windows : List (Nat × Nat × Nat)) (marchFails : List (Nat × Nat))
  /-- SEQ_STEP (R492): A start-up sequence step is carried out once the previous step's delay has passed. -/
  | seqStep (dramLocked : Bool)
  /-- LOCK_TIMEOUT (R492): WAIT_LOCK does not complete in 10 ms and the attempt fails. -/
  | lockTimeout
  /-- LOAD_TIMEOUT (R498): END is not read within load_timeout_ms, or the Graft link is not active in time, and the attempt fails. -/
  | loadTimeout
  /-- CHAIN_FORWARD (R502): The leader forwards a CHAIN body once CFG_FRDY is high, pausing while it falls. -/
  | chainForward (frdy : Bool) (count : Nat)
  /-- CHAIN_FRDY_TIMEOUT (R502): CFG_FRDY is not high within 100 ms and STU_CHAIN_TIMEOUT is recorded. -/
  | chainFrdyTimeout
  /-- RESEND_REQUEST (R503): A follower holds CFG_RDY low for at least 50 us after a load failure and the leader resends once. -/
  | resendRequest
  /-- PARTIAL_LOAD_GO (R504): A write of go to CFG_LOAD_CMD starts a partial load, or it is refused. -/
  | partialLoadGo
  /-- SCAN_FRAME_READ (R508): A scanner reads and checks a frame of a resident plane or latch set. -/
  | scanFrameRead (sector place plane frame : Nat) (flips : List Nat) (sigBad : Bool)
  /-- LATCH_REPAIR (R513): A mismatched latch frame is rewritten from its resident plane and checked again. -/
  | latchRepair (sector : Nat) (flips again : List Nat)
  /-- SECTOR_RELOAD (R515): Every live frame is rewritten and flip-flops are initialised. -/
  | sectorReload (sector : Nat)
  /-- SCAN_LAP_END (R511): A scanner completes its lap and checks its scan list for the next. -/
  | scanLapEnd (sector : Nat) (listBad : Bool)
  /-- VOTE_CORRECTION (R518): A scanner state copy disagrees and is rewritten from the vote. -/
  | voteCorrection
  /-- SCAN_STALL (R520): A scanner does not complete a lap within 2 x lap_us. -/
  | scanStall (sector : Nat)
  /-- RESTART (R520): CI_CMD op RESTART restarts a scanner. -/
  | restart (sector : Nat)
  /-- REBUILD (R519): CI_CMD op REBUILD rebuilds a scan list and signatures. -/
  | rebuild (sector : Nat)
  /-- TRIM_WINDOW_END (R525): A trim window ends and the fast oscillator's code moves. -/
  | trimWindowEnd (err : Int) (absent : Bool)
  /-- LOOP_LOCK (R527): A system loop or island generator locks. -/
  | loopLock (island : Bool) (n : Nat)
  /-- OP_TARGET_WRITE (R533): A write of CLK_ISL_OP.target starts a transition, or waits for the current one. -/
  | opTargetWrite (island target : Nat)
  /-- BRANCH_SWITCH (R533): The generator switches branch at a fabric edge once the regulators and branch are ready. -/
  | branchSwitch (island : Nat)
  /-- OP_TRANSITION_END (R533): An operating-point transition ends and any waiting commit or target is taken. -/
  | opTransitionEnd (island : Nat)
  /-- OP_TIMEOUT (R533): The regulators are not in range within 100 us and the island returns to its former point. -/
  | opTimeout (island : Nat)
  /-- GENERATOR_UNLOCK (R530): An island generator loses lock, stops its clocks and relocks. -/
  | generatorUnlock (island : Nat)
  /-- MISSING_CLOCK (R535): A clock shows no edge for 200 ns and is flagged. -/
  | missingClock (clock : Nat)
  /-- FREQ_MONITOR_WINDOW (R535): A frequency monitor's window ends and a clock off frequency is flagged. -/
  | freqMonitorWindow (clock ppm : Nat)
  /-- REGULATOR_FAULT (R542): A regulator output stays off target for 10 us, or hits its current limit. -/
  | regulatorFault (rail : Bool) (unit : Nat)
  /-- GOVERNOR_EVAL (R549): The governor evaluates every domain and puts eligible ones to sleep. -/
  | governorEval (idle : List Nat)
  /-- ISLAND_WAKE (R545): A wake source reaches a sleeping island, which starts its return to I0. -/
  | islandWake (island : Nat)
  /-- ISLAND_WAKE_DONE (R545): The island reaches I0 and pm_woke rises. -/
  | islandWakeDone (island : Nat)
  /-- DEVICE_WAKE (R547): A wake cause returns the device to D0. -/
  | deviceWake
  /-- PM_OFF (R547): PM_DEV_CMD op OFF enters D4. -/
  | pmOff
  /-- SENSOR_SAMPLE (R551): Each 100 us sensors are read and bands, warnings, throttling and estimates are updated. -/
  | sensorSample (readings : List (Option Int)) (activity : List (Nat × Nat × Nat × Nat)) (dw : Nat)
  /-- MGMT_FRAME (R568): A 1 ms Heartwood frame ends, duties are budgeted and the shed level moves. -/
  | mgmtFrame (left done : Bool) (idleUs safetyUs busyUs : Nat)
  /-- HEARTBEAT_MISS (R571): No kick arrives in 10 ms and a warm reset starts. -/
  | heartbeatMiss (executing : Bool)
  /-- LOCKSTEP_MISMATCH (R566): The lockstep cores disagree and a warm reset starts. -/
  | lockstepMismatch (executing : Bool)
  /-- HEARTWOOD_RESTART (R573): Heartwood runs again after a warm reset, or the complex is held dead on a third reset. -/
  | heartwoodRestart
  /-- MB_CMD_POST (R576): The host writes MB_CMD_IDX.prod, posting commands. -/
  | mbCmdPost (prod : Nat)
  /-- MB_RESET_RING (R576): A write of reset_ring resets the ring indices. -/
  | mbResetRing
  /-- GET_VERSION (R577): Mailbox GET_VERSION negotiates the version. -/
  | getVersion
  /-- GET_FACTORY (R578): Mailbox GET_FACTORY writes the public factory bytes. -/
  | getFactory
  /-- GET_SETTINGS (R578): Mailbox GET_SETTINGS writes the settings copy in force. -/
  | getSettings
  /-- SET_SETTINGS (R578): Mailbox SET_SETTINGS writes the other settings copy. -/
  | setSettings (good : Bool)
  /-- REBOOT (R578): Mailbox REBOOT responds and then starts a start-up. -/
  | reboot
  /-- GET_VX_MAP (R578): Mailbox GET_VX_MAP writes the defect map. -/
  | getVxMap
  /-- GET_FAULTS (R578): Mailbox GET_FAULTS writes fault entries. -/
  | getFaults
  /-- ENG_SIGNAL (R578): Mailbox ENG_SIGNAL sets an engine's vector 7 pending bit. -/
  | engSignal
  /-- FLOW_OP (R578): Mailbox FLOW_OP performs a flow-store operation. -/
  | flowOp
  /-- READ_CAPTURE (R578): Mailbox READ_CAPTURE writes capture-store bytes. -/
  | readCapture
  /-- MON_FRAME (R582): A monitor frame is received whole, checked and dispatched. -/
  | monFrame (transport : Nat) (bytes : List Byte)
  /-- HELLO (R583): Monitor HELLO negotiates the protocol. -/
  | hello
  /-- READ_REG (R586): Monitor READ_REG returns registers without side effects. -/
  | readReg
  /-- READ_REG_LIVE (R586): Monitor READ_REG_LIVE performs ordinary reads. -/
  | readRegLive
  /-- WRITE_REG (R584): Monitor WRITE_REG writes a register. -/
  | writeReg
  /-- READ_MEM (R585): Monitor READ_MEM reads device memory where allowed. -/
  | readMem
  /-- WRITE_MEM (R585): Monitor WRITE_MEM writes device memory where allowed. -/
  | writeMem
  /-- ENG_CTRL (R587): Monitor ENG_CTRL writes an engine command and responds. -/
  | engCtrl
  /-- ENG_CTRL_PENDING (R587): A HALT or STEP not done in 1 ms responds PENDING. -/
  | engCtrlPending
  /-- BREAK (R588): Monitor BREAK sets a hardware breakpoint. -/
  | breakCmd
  /-- MON_ENG_SIGNAL (R584): Monitor ENG_SIGNAL signals an engine. -/
  | monEngSignal
  /-- MON_GET_FAULTS (R623): Monitor GET_FAULTS returns fault entries. -/
  | monGetFaults
  /-- SETTINGS (R584): Monitor SETTINGS stages, writes or reads the settings record. -/
  | settings (good : Bool)
  /-- MON_GET_FACTORY (R584): Monitor GET_FACTORY returns factory bytes. -/
  | monGetFactory
  /-- MON_REBOOT (R584): Monitor REBOOT responds and then starts a start-up. -/
  | monReboot
  /-- MON_GET_VX_MAP (R584): Monitor GET_VX_MAP returns map entries. -/
  | monGetVxMap
  /-- CAPTURE (R584): Monitor CAPTURE sets the masks and src and writes go. -/
  | capture
  /-- MON_READ_CAPTURE (R590): Monitor READ_CAPTURE returns capture bytes. -/
  | monReadCapture
  /-- BIST_GO (R597): A write of go to BT_CTRL starts a logic BIST run, or it is refused. -/
  | bistGo (value : Nat) (baseOk : Bool)
  /-- BIST_ABORT (R599): A write of abort ends the run with result 3. -/
  | bistAbort
  /-- BIST_RUN_DONE (R598): A BIST run completes its run and restore, and the result is written. -/
  | bistRunDone (misr expected : Nat) (restoreBad : Bool)
  /-- ANALOGUE_CHECK_GO (R600): A write of go to BT_ANA_CTRL starts an analogue check. -/
  | analogueCheckGo (value : Nat)
  /-- ANALOGUE_CHECK_DONE (R601): An analogue check ends and its result is written. -/
  | analogueCheckDone (worstItem worst : Nat) (fail : Bool) (sensors : List Nat)
  /-- TAP_UPDATE_IR (R603): A TAP instruction update takes effect; a pin-control instruction wipes and enters the scan state. -/
  | tapUpdateIr (op : Nat)
  /-- TAP_RESET (R603): A TAP reset selects IDCODE and ends a pin-control instruction. -/
  | tapReset
  /-- LC_TRANSITION (R605): A valid SEC_LC_CMD write wipes, kills secrets if needed and burns the target fuse. -/
  | lcTransition (value : Nat)
  /-- FUSE_BURN_DONE (R605): A life-cycle fuse burn is read back and a start-up follows. -/
  | fuseBurnDone (good : Bool)
  /-- WIPE_DONE (R606): A wipe completes and SEC_WIPED is recorded. -/
  | wipeDone
  /-- TAMPER (R607): An enabled tamper source fires and a wipe is made. -/
  | tamper (mask : Nat)
  /-- PROG_SLOT (R609): SEC_CMD PROG_SLOT burns a fuse key slot. -/
  | progSlot (slot : Nat) (good : Bool)
  /-- REVOKE (R609): SEC_CMD REVOKE burns a slot's revoked fuse. -/
  | revoke (slot : Nat) (good : Bool)
  /-- PROVISION (R610): SEC_CMD PROVISION imports a secret into the key store. -/
  | provision (label : Nat) (good : Bool)
  /-- KILL (R610): SEC_CMD KILL burns a secret's kill fuse. -/
  | kill (label : Nat) (good : Bool)
  /-- GET_DEVPUB (R610): SEC_CMD GET_DEVPUB writes the identity public key. -/
  | getDevpub
  /-- SEC_WIPE_CMD (R606): SEC_CMD WIPE makes a wipe. -/
  | secWipeCmd
  /-- FACTORY_WRITE (R611): SEC_CMD FACTORY_WRITE writes the factory record in MANUFACTURE and test mode. -/
  | factoryWrite (good : Bool)
  /-- TRNG_HEALTH_FAIL (R613): The random source fails its health tests and trng_ok falls. -/
  | trngHealthFail
  /-- FAULT_TAKE (R620): The collector takes one queued fault into the record and signals it. -/
  | faultTake
  /-- FAULT_GROUP_OFFER (R620): Fault groups of one cycle enter the queue whole or are dropped. -/
  | faultGroupOffer
  /-- FLASH_LOG_WRITE (R622): Heartwood writes a fatal or flagged entry to the flash log. -/
  | flashLogWrite
  /-- FAULT_PORT_DELIVER (R626): An entry is delivered on a sector's fabric fault port. -/
  | faultPortDeliver (sector : Nat)
  /-- FLT_PEND_CLEAR (R624): A W1C write of FLT_PEND acknowledges entries and may release ERR_N. -/
  | fltPendClear (value : Nat)
  /-- FABRIC_CLOCK_EDGE (R73): At a rising edge of an island's fabric clock every enabled user flip-flop loads its D input, memory clusters take their writes and landing-buffer word-port writes land. -/
  | fabricClockEdge (island : Nat) (slow : Bool) (fast : Nat)
  /-- MAC_LINK_UP (R450): A MAC's PCS aligns, with FEC locked where used, and ETH_MAC_STAT.link_up rises. -/
  | macLinkUp (mac : Nat)
  /-- PCIE_LINK_UP (R437): PCIe link training completes and the host link reaches L0, setting PCI_STATUS.up, gen and width. -/
  | pcieLinkUp (gen width : Nat)
  /-- PCIE_L1_ENTRY (R442): The host link enters ASPM L1 or an L1 substate, which sets the retrain cause of host-ring class-0 queues. -/
  | pcieL1Entry
  /-- PCIE_L1_EXIT (R547): The host link exits L1 back to L0, which clears the promise cause and may wake the device. -/
  | pcieL1Exit
  /-- PCIE_COMPLETION_TIMEOUT (R448): A host-ring descriptor or buffer read gets no completion within 50 ms and the ring stops. -/
  | pcieCompletionTimeout (ring : Nat)
  /-- PFC_PAUSE_EXPIRE (R452): The pause time of a received IEEE 802.1Qbb pause for a priority runs out and the classes of that priority resume egress. -/
  | pfcPauseExpire (mac pri : Nat)
  /-- MON_FRAME_GAP_TIMEOUT (R582): A gap of more than 10 ms inside a monitor UART frame discards the partial frame and returns the receiver to hunting. -/
  | monFrameGapTimeout
  /-- I3C_DYNAMIC_ADDRESS (R580): The management I3C target receives ENTDAA or SETDASA and takes a dynamic address, setting MON_STATUS.i3c_dyn. -/
  | i3cDynamicAddress (address : Nat)
  /-- TRNG_HEALTH_RECOVER (R613): The random source passes its health tests again and trng_ok rises to 1. -/
  | trngHealthRecover
  /-- DEVICE_WAKE_DONE (R546): The device finishes the exit latency of D1, D2 or D3 and reports itself awake in D0. -/
  | deviceWakeDone
  /-- SLEEP_ENTRY_DONE (R543): An island or the device completes its entry into a deeper power state, such as the ramp to 0.50 V retention. -/
  | sleepEntryDone (device : Bool) (island : Nat)
  /-- RING_HOLDOFF_EXPIRE (R446): A ring's holdoff_us interval ends and a vector held back by it is sent. -/
  | ringHoldoffExpire (ring : Nat)
deriving DecidableEq, Repr

end Sys2Proof
end

