-- ==== Sys2Proof/Decode.lean ====
section
/-! DEFINITION. What a word of the table's bits spells. The table gives no row of this block any bits: its commands are
register accesses, packets, records and events, whose fields are the operands of the constructors of Instr. -/

namespace Sys2Proof

/-- The command that a word spells by the table's bits: none, as no row has bits. -/
def decodeTableWord (_nbits _w : Nat) : Option Instr := none

end Sys2Proof
end

