-- ==== Sys2Proof/Machine/Codes.lean ====
section
/-! DEFINITION. The codes that protect stored and moved data: codes S, M and L of the memory layer (06 R171 to
R175), the CRCs, and the (39,32) and (30,24) codes of the engine memories (07 R207). -/

namespace Sys2Proof.Machine

/-! ## Remainders over GF(2) -/

/-- The remainder of the polynomial with the `n` coefficient bits of `v` by `g`, of degree `deg`: one bit of `v` at a
time, the highest first. -/
def polyRem (g deg : Nat) : Nat → Nat → Nat
  | 0, _ => 0
  | n + 1, v =>
    let r := 2 * polyRem g deg n (v / 2) + v % 2
    if bit r deg then r ^^^ g else r

/-- A CRC run over bytes, most significant bit first: polynomial without its top term, width, register. -/
def crcMsb (poly width : Nat) (crc : Nat) (l : List Byte) : Nat :=
  l.foldl (fun c b =>
    (List.range 8).foldl (fun c _ =>
      let d := 2 * c
      if bit c (width - 1) then (d % 2 ^ width) ^^^ poly else d % 2 ^ width)
      (c ^^^ (b.toNat * 2 ^ (width - 8)))) crc

/-- A reflected 32-bit CRC run over bytes: reflected polynomial, register. -/
def crcLsb (poly : Nat) (crc : Nat) (l : List Byte) : Nat :=
  l.foldl (fun c b =>
    (List.range 8).foldl (fun c _ => if c % 2 = 1 then c / 2 ^^^ poly else c / 2) (c ^^^ b.toNat)) crc

/-- CRC-32C of RFC 3720 (18 R459, 16 R421). -/
def crc32c (l : List Byte) : Nat := crcLsb 0x82F63B78 0xFFFFFFFF l ^^^ 0xFFFFFFFF

/-- CRC-32C with another initial value (12 R334). -/
def crc32cInit (init : Nat) (l : List Byte) : Nat := crcLsb 0x82F63B78 init l ^^^ 0xFFFFFFFF

/-- CRC-32 of IEEE 802.3 (18 R472). -/
def crc32 (l : List Byte) : Nat := crcLsb 0xEDB88320 0xFFFFFFFF l ^^^ 0xFFFFFFFF

/-- CRC-8 with polynomial 0x07 and initial value 0 (10 R288). -/
def crc8 (l : List Byte) : Nat := crcMsb 0x07 8 0 l

/-- CRC-16 with polynomial 0x1021 and initial value 0xFFFF (14 R371, 23 R581). -/
def crc16 (l : List Byte) : Nat := crcMsb 0x1021 16 0xFFFF l

/-! ## Outcomes of a decode -/

/-- What a decode finds (06 R176). -/
inductive Found where
  | clean | corrected | uncorrectable | poison
deriving DecidableEq, Repr

/-- A decoded word: the outcome, the data (corrected, or as read), and the stored bits found in error. -/
structure Decoded where
  found : Found
  data : BankData
  errs : List Nat
deriving DecidableEq, Repr

/-- Bits corrected. -/
def Decoded.bits (d : Decoded) : Nat := if d.found = .corrected then d.errs.length else 0

/-- Whether the word goes to its master with a poison flag (06 R176). -/
def Decoded.bad (d : Decoded) : Bool := decide (d.found = .uncorrectable) || decide (d.found = .poison)

/-! ## Code S (06 R172) -/

/-- The generator polynomial of code S. -/
def bchGen : Nat := 0x16F63

/-- Check bits of code S. -/
def bchCheck (d : Nat) : Nat := polyRem bchGen 16 144 (d * 2 ^ 16)

/-- x^i mod g for i = 0 to 143. -/
def bchPowers : List Nat :=
  ((List.range 144).foldl (fun (acc : List Nat × Nat) _ =>
    let n := 2 * acc.2
    (acc.1 ++ [acc.2], if bit n 16 then n ^^^ bchGen else n)) ([], 1)).1

/-- The code positions of the one or two errors that a syndrome names, if it names any: position i is the coefficient
of x^i. -/
def bchLocate (syn : Nat) : Option (List Nat) :=
  let p := bchPowers
  let at' := fun v => (List.range 144).find? fun i => decide (p[i]? = some v)
  match at' syn with
  | some i => some [i]
  | none =>
    ((List.range 144).filterMap fun i =>
      match at' (syn ^^^ (p[i]?).getD 0) with
      | some j => if i < j then some [i, j] else none
      | none => none).head?

/-- Code S, stored: data in bits [127:0], check bits above. -/
def encodeS (d : BankData) : BankBits := BitVec.ofNat 144 (bchCheck d.toNat * 2 ^ 128 + d.toNat)

/-- The poison pattern of code S (06 R175). -/
def poisonS : BankBits := BitVec.ofNat 144 (0xFFFF * 2 ^ 128)

/-- Decoding under code S. Code position i is check bit i for i < 16, else data bit i - 16. -/
def decodeS (w : BankBits) : Decoded :=
  let d := w.toNat % 2 ^ 128
  let c := w.toNat / 2 ^ 128
  let syn := bchCheck d ^^^ c
  if w = poisonS then ⟨.poison, BitVec.ofNat 128 d, []⟩
  else if syn = 0 then ⟨.clean, BitVec.ofNat 128 d, []⟩
  else
    match bchLocate syn with
    | some ps =>
      let d' := ps.foldl (fun v i => if 16 ≤ i then v ^^^ 2 ^ (i - 16) else v) d
      ⟨.corrected, BitVec.ofNat 128 d', ps.map fun i => if 16 ≤ i then i - 16 else 128 + i⟩
    | none => ⟨.uncorrectable, BitVec.ofNat 128 d, []⟩

/-! ## Code M (06 R173): two extended Hamming (72,64) halves -/

/-- Whether n is a power of two. -/
def isPow2 (n : Nat) : Bool := decide (n ≠ 0) && decide (n &&& (n - 1) = 0)

/-- The Hamming positions of data bits 0 to k-1: the numbers from 1 that are no power of two, rising. -/
def hamPositions (last : Nat) : List Nat := (List.range (last + 1)).filter fun n => decide (n ≠ 0) && !isPow2 n

/-- The XOR of the positions of the 1 data bits: its bit j is check bit c_j before the overall parity. -/
def hamSyndrome (last width d : Nat) : Nat :=
  ((hamPositions last).zip (List.range width)).foldl (fun a p => if bit d p.2 then a ^^^ p.1 else a) 0

/-- Check bits c0 to c7 of a half. -/
def hamCheck (d : Nat) : Nat :=
  let c := hamSyndrome 71 64 d
  c + (parity 64 d ^^ parity 7 c).toNat * 128

/-- One half decoded: outcome, data, errors (0 to 63 data bit, 64 to 71 check bit). -/
def hamDecode (d c : Nat) : Found × Nat × List Nat :=
  let s := hamSyndrome 71 64 d ^^^ (c % 128)
  let p := parity 64 d ^^ parity 8 c
  if p then
    if s = 0 then (.corrected, d, [71])
    else if isPow2 s then (.corrected, d, [64 + log2 s])
    else
      match ((hamPositions 71).zip (List.range 64)).find? fun x => decide (x.1 = s) with
      | some x => (.corrected, d ^^^ 2 ^ x.2, [x.2])
      | none => (.uncorrectable, d, [])
  else if s = 0 then (.clean, d, []) else (.uncorrectable, d, [])

/-- Code M, stored: half 0 in bits [71:0], half 1 in bits [143:72], each data then checks. -/
def encodeM (d : BankData) : BankBits :=
  let h := fun v => hamCheck v * 2 ^ 64 + v
  BitVec.ofNat 144 (h (d.toNat / 2 ^ 64) * 2 ^ 72 + h (d.toNat % 2 ^ 64))

/-- The poison pattern of code M. -/
def poisonM : BankBits := BitVec.ofNat 144 (0xFF * 2 ^ 136 + 0xFF * 2 ^ 64)

/-- Decoding under code M. -/
def decodeM (w : BankBits) : Decoded :=
  let v := w.toNat
  let a := hamDecode (bits v 63 0) (bits v 71 64)
  let b := hamDecode (bits v 135 72) (bits v 143 136)
  let data := fun (x y : Nat) => BitVec.ofNat 128 (y * 2 ^ 64 + x)
  if w = poisonM then ⟨.poison, data (bits v 63 0) (bits v 135 72), []⟩
  else if a.1 = .uncorrectable ∨ b.1 = .uncorrectable then ⟨.uncorrectable, data (bits v 63 0) (bits v 135 72), []⟩
  else
    let errs := a.2.2 ++ b.2.2.map (72 + ·)
    ⟨if errs = [] then .clean else .corrected, data a.2.1 b.2.1, errs⟩

/-! ## Code L (06 R174): a parity bit a byte -/

/-- Code L, stored: byte i in bits [9 i + 7 : 9 i], its even parity above it. -/
def encodeL (d : BankData) : BankBits :=
  BitVec.ofNat 144 (ungroups 9 ((groups 8 16 d.toNat).map fun b => b + (parity 8 b).toNat * 256))

/-- The poison pattern of code L. -/
def poisonL : BankBits := BitVec.ofNat 144 (ungroups 9 (List.replicate 16 256))

/-- Decoding under code L. -/
def decodeL (w : BankBits) : Decoded :=
  let gs := groups 9 16 w.toNat
  let data := BitVec.ofNat 128 (ungroups 8 gs)
  if w = poisonL then ⟨.poison, data, []⟩
  else if gs.all fun g => !parity 9 g then ⟨.clean, data, []⟩
  else ⟨.uncorrectable, data, []⟩

/-! ## The code of a bank: 0 S, 1 M, 2 L, 3 as 0 (06 R202) -/

/-- A word encoded under a bank's code. -/
def encodeWord (code : Nat) (d : BankData) : BankBits :=
  match code with
  | 1 => encodeM d
  | 2 => encodeL d
  | _ => encodeS d

/-- A word decoded under a bank's code. -/
def decodeWord (code : Nat) (w : BankBits) : Decoded :=
  match code with
  | 1 => decodeM w
  | 2 => decodeL w
  | _ => decodeS w

/-- The poison pattern of a bank's code. -/
def poisonWord (code : Nat) : BankBits :=
  match code with
  | 1 => poisonM
  | 2 => poisonL
  | _ => poisonS

/-- The 16-bit byte mask as a 128-bit mask. -/
def maskBits (mask : Nat) : Nat := ungroups 8 ((List.range 16).map fun i => if bit mask i then 255 else 0)

/-- Bytes of `d` chosen by `mask` laid over `old` (06 R181). -/
def overlay (old d : BankData) (mask : Nat) : BankData :=
  let m : BankData := BitVec.ofNat 128 (maskBits mask)
  (old &&& ~~~m) ||| (d &&& m)

/-- The bits of the stored word that a direct write of the masked bytes replaces (06 R180): the 9-bit granules of code
L, the 72-bit half of code M. -/
def directMask (code mask : Nat) : Nat :=
  match code with
  | 1 => (if bit mask 0 then 2 ^ 72 - 1 else 0) + (if bit mask 8 then (2 ^ 72 - 1) * 2 ^ 72 else 0)
  | _ => ungroups 9 ((List.range 16).map fun i => if bit mask i then 511 else 0)

/-- Whether a write is narrow (06 R180), so that it goes through the merge buffer. -/
def isNarrow (code mask : Nat) : Bool :=
  match code with
  | 1 => !(mask = 0xFFFF || mask = 0x00FF || mask = 0xFF00)
  | 2 => false
  | _ => !(mask = 0xFFFF)

/-! ## Hamming with overall parity for engine memories (07 R207) -/

/-- Check bits of a `width`-bit data word with `k` Hamming checks and an overall parity above them. -/
def secdedCheck (last width k d : Nat) : Nat :=
  let c := hamSyndrome last width d
  c + (parity width d ^^ parity k c).toNat * 2 ^ k

/-- A SEC-DED word decoded: outcome and data. -/
def secdedDecode (last width k d c : Nat) : Found × Nat :=
  let s := hamSyndrome last width d ^^^ (c % 2 ^ k)
  let p := parity width d ^^ parity (k + 1) c
  if p then
    if s = 0 ∨ isPow2 s then (.corrected, d)
    else
      match ((hamPositions last).zip (List.range width)).find? fun x => decide (x.1 = s) with
      | some x => (.corrected, d ^^^ 2 ^ x.2)
      | none => (.uncorrectable, d)
  else if s = 0 then (.clean, d) else (.uncorrectable, d)

end Sys2Proof.Machine
end

