-- ==== Sys2Proof/Config.lean ====
section
/-! DEFINITION. What an implementation fixes and the values the manual leaves open. A constant declared
opaque has no value that Lean can see: whatever is proved holds for every value of it. -/

namespace Sys2Proof.Config

/-- The free values of the model: value number n, of any width (the low bits are taken). -/
opaque freeNat : Nat → Nat

/-- A source of the fabric routing file (03 R83): a wire that passes or ends at the tile, or an output of a cell of
the tile. `wire back driver`: the planar wire whose driver is number `driver` (0 to 319) at the tile `back` tiles
upstream; `cell c out`: output 0 LF, 1 LH, 2 S, 3 CO, 4 QA, 5 QB of cell c. -/
inductive RouteSource where
  | wire (back driver : Nat)
  | cell (c out : Nat)
deriving DecidableEq, Repr, Inhabited

/-- The fabric routing file (03 R83): the source that select value v, 1 to 59, names at multiplexer m. Multiplexers
868 to 931 are the sources of the Z-wire ends 0 to 63. The file is Golhorn's own and not in the manual: UNVERIFIED,
left open. -/
opaque routeSource : Nat → Nat → RouteSource

/-- The value of a fabric signal that the manual states none for, a combinational loop or a Z wire in landing mode: free, by
the number of free values taken and the place. -/
opaque loopValue : Nat → Nat → Bool

/-- Data backgrounds 1 to 3 of march tests by background, bank and word (06 R202 names them and gives no layout). -/
opaque marchBackground : Nat → Nat → Nat → Nat

/-- AES-256 of a 128-bit block under a 256-bit key (15 R389), as FIPS 197 gives it; the manual names the standard and
does not restate it. -/
opaque aes256 : Nat → Nat → Nat

/-- GHASH under H of the four ciphertext blocks of a line, given as 512 bits (15 R390), as NIST SP 800-38D gives it. -/
opaque ghash : Nat → Nat → Nat

/-- An encryption key derived from a key store secret, its slot and the start-up epoch (15 R404, 24 R612): HMAC-SHA-384
in counter mode, named by its standard. -/
opaque deriveKey : Nat → Nat → Nat → Nat

/-- The secret that a PROVISION blob holds for a label, or none where its tag fails (24 R610): ECDH over P-384, SHA-384 and
AES-256-GCM, named by their standards; the device's identity key is the device's own. -/
opaque unwrapSecret : List Byte → Nat → Option Nat

/-- The identity public key, 97 bytes, byte 0 lowest (24 R610). -/
opaque devPub : Nat

/-- The payload key of an image derived from a key store secret (18 R475, 24 R612): HMAC-SHA-384 in counter mode. -/
opaque imageKey : Nat → Nat

/-- The AES-256-GCM tag under a key and a nonce of additional data and ciphertext (18 R475), as NIST SP 800-38D gives it. -/
opaque gcmTag : Nat → Nat → List Byte → List Byte → Nat

/-- SHA-384 of bytes, byte 0 of the hash lowest (18 R474). -/
opaque sha384 : List Byte → Nat

/-- Whether an ECDSA P-384 signature (r, s) verifies under a public key over a SHA-384 hash (18 R474). -/
opaque ecdsaVerify : List Byte → Nat → Nat → Nat → Bool

/-- The mask of each entry of the factory record as manufactured, by CSR offset (19 R486), and its public bytes 4, 5 and
12 to 31 by place: what the sample in hand holds. -/
opaque factoryMask : Nat → Nat
opaque factoryByte : Nat → Byte

end Sys2Proof.Config
end

