-- ==== Sys2Proof/Machine/FaultCodes.lean ====
section
/-! DEFINITION. The fault codes of the manual with their severities (25 R617, R627 and the fault tables of the chapters). -/

namespace Sys2Proof.Machine

/-- A fault code and the severity its table gives it. -/
structure FaultCode where
  code : Nat
  sev : Nat
deriving DecidableEq, Repr

/-- info: Write ignored under R12 -/
abbrev Flt.VX_WR_IGNORED : FaultCode := ⟨0x0200, 0⟩
/-- degraded: First parity mismatch in a bundle (R41) -/
abbrev Flt.VX_PARITY : FaultCode := ⟨0x0201, 2⟩
/-- corrected: Wire, row-port bit or restage bit steered to a spare -/
abbrev Flt.VX_WIRE_REPAIRED : FaultCode := ⟨0x0202, 1⟩
/-- degraded: Idle wire failed with no free spare (R48) -/
abbrev Flt.VX_WIRE_DEAD : FaultCode := ⟨0x0203, 2⟩
/-- degraded: Localisation found no fault (R45) -/
abbrev Flt.VX_LOC_INCONCLUSIVE : FaultCode := ⟨0x0204, 2⟩
/-- fatal-block: Live-context wire failed with no free spare; island held (R50) -/
abbrev Flt.VX_SPARES_EXHAUSTED : FaultCode := ⟨0x0205, 3⟩
/-- degraded: Plane or staged context uses a dead resource (R53) -/
abbrev Flt.VX_RESTAGE_REFUSED : FaultCode := ⟨0x0206, 2⟩
/-- degraded: Image plane uses a dead resource (R54) -/
abbrev Flt.VX_PLANE_DEAD_WIRE : FaultCode := ⟨0x0207, 2⟩
/-- fatal-block: Row port dead (R56) -/
abbrev Flt.VX_ROW_SPARES_EXHAUSTED : FaultCode := ⟨0x0208, 3⟩
/-- fatal-block: Restage path dead (R58) -/
abbrev Flt.VX_RESTAGE_PATH_DEAD : FaultCode := ⟨0x0209, 3⟩
/-- degraded: Narrow passing window after re-tune (R61) -/
abbrev Flt.VX_TUNE_MARGIN : FaultCode := ⟨0x020A, 2⟩
/-- degraded: Defect map full (R65) -/
abbrev Flt.VX_MAP_FULL : FaultCode := ⟨0x020B, 2⟩
/-- info: Held island released (R52) -/
abbrev Flt.VX_RELEASED : FaultCode := ⟨0x020C, 0⟩
/-- fatal-block: Uncorrectable riser or trunk beat (R38) -/
abbrev Flt.VX_RISER_FAULT : FaultCode := ⟨0x020D, 3⟩
/-- info: Write ignored under R14 -/
abbrev Flt.FAB_WR_IGNORED : FaultCode := ⟨0x0300, 0⟩
/-- degraded: Staged plane drives a Z wire from both ends (R86) -/
abbrev Flt.FAB_DOUBLE_DRIVER : FaultCode := ⟨0x0301, 2⟩
/-- degraded: land_en disagrees or is set off a landing position (R86) -/
abbrev Flt.FAB_LANDING_MISMATCH : FaultCode := ⟨0x0302, 2⟩
/-- corrected: Resolver acted on a Z-end conflict (R89) -/
abbrev Flt.FAB_Z_CONFLICT : FaultCode := ⟨0x0303, 1⟩
/-- info: Capture requested while one is in progress (R108) -/
abbrev Flt.FAB_CAP_REFUSED : FaultCode := ⟨0x0304, 0⟩
/-- degraded: Plane attaches a port segment against R104 -/
abbrev Flt.FAB_ATTACH_INVALID : FaultCode := ⟨0x0305, 2⟩
/-- info: Write ignored under R12 -/
abbrev Flt.CTX_WR_IGNORED : FaultCode := ⟨0x0400, 0⟩
/-- info: Schedule switch made late (R123) -/
abbrev Flt.CTX_LATE_SWITCH : FaultCode := ⟨0x0401, 0⟩
/-- info: Next table failed its check (R130) -/
abbrev Flt.CTX_SCHED_INVALID : FaultCode := ⟨0x0402, 0⟩
/-- degraded: Switch refused under R122 -/
abbrev Flt.CTX_SWITCH_REFUSED : FaultCode := ⟨0x0403, 2⟩
/-- info: Management command refused (R125) -/
abbrev Flt.CTX_CMD_REFUSED : FaultCode := ⟨0x0404, 0⟩
/-- degraded: Write-back bit forced to 0 (R118) -/
abbrev Flt.CTX_WB_LIMIT : FaultCode := ⟨0x0405, 2⟩
/-- info: Staged plane overwritten by a partial image (R135) -/
abbrev Flt.CTX_STAGE_STALE : FaultCode := ⟨0x0406, 0⟩
/-- info: Write ignored under R12 or R14 -/
abbrev Flt.MEM_WR_IGNORED : FaultCode := ⟨0x0500, 0⟩
/-- info: Background request starved (R156) -/
abbrev Flt.MEM_BG_STARVED : FaultCode := ⟨0x0501, 0⟩
/-- info: Same-word double write on a dual-port bank (R147) -/
abbrev Flt.MEM_DP_COLLISION : FaultCode := ⟨0x0502, 0⟩
/-- degraded: Access to the flow array or secure region refused (R166) -/
abbrev Flt.MEM_PROTECTED_ACCESS : FaultCode := ⟨0x0503, 2⟩
/-- degraded: Plane names an owner against R150 -/
abbrev Flt.MEM_OWNER_CONFLICT : FaultCode := ⟨0x0504, 2⟩
/-- info: Row shares exceed 4,096 at commit (R160) -/
abbrev Flt.MEM_SHARE_INVALID : FaultCode := ⟨0x0505, 0⟩
/-- degraded: Set layout or class invalid at load (R145) -/
abbrev Flt.MEM_SET_INVALID : FaultCode := ⟨0x0506, 2⟩
/-- degraded: Slice near-buffer bank limit exceeded (R145, R163) -/
abbrev Flt.MEM_NEAR_LIMIT : FaultCode := ⟨0x0507, 2⟩
/-- info: Background access beyond bg_access (R152) -/
abbrev Flt.MEM_BG_REFUSED : FaultCode := ⟨0x0508, 0⟩
/-- info: Foreground request from a master that does not own the bank (R151) -/
abbrev Flt.MEM_NOT_OWNER : FaultCode := ⟨0x0509, 0⟩
/-- info: Row-copy command refused (R162) -/
abbrev Flt.MEM_RC_REFUSED : FaultCode := ⟨0x050A, 0⟩
/-- info: Write ignored under R12 or R14 -/
abbrev Flt.MI_WR_IGNORED : FaultCode := ⟨0x0600, 0⟩
/-- corrected: First corrected read of a column in a millisecond (R176) -/
abbrev Flt.MI_CORRECTED : FaultCode := ⟨0x0601, 1⟩
/-- degraded: Uncorrectable read (R176) -/
abbrev Flt.MI_UNCORRECTABLE : FaultCode := ⟨0x0602, 2⟩
/-- degraded: Merge drain met a bad word (R184) -/
abbrev Flt.MI_MERGE_POISONED : FaultCode := ⟨0x0603, 2⟩
/-- corrected: Word remapped (R196) -/
abbrev Flt.MI_REMAPPED : FaultCode := ⟨0x0604, 1⟩
/-- degraded: Remap table full (R196) -/
abbrev Flt.MI_REMAP_FULL : FaultCode := ⟨0x0605, 2⟩
/-- info: Scrub pass refused (R190) -/
abbrev Flt.MI_SCRUB_REFUSED : FaultCode := ⟨0x0606, 0⟩
/-- info: Raw access refused (R197) -/
abbrev Flt.MI_RAW_REFUSED : FaultCode := ⟨0x0607, 0⟩
/-- info: March test refused (R199) -/
abbrev Flt.MI_MARCH_REFUSED : FaultCode := ⟨0x0608, 0⟩
/-- degraded: March or transparent test found a failing word (R199, R200) -/
abbrev Flt.MI_MARCH_FAIL : FaultCode := ⟨0x0609, 2⟩
/-- degraded: Codes differ within a set at load (R170) -/
abbrev Flt.MI_CODE_INVALID : FaultCode := ⟨0x060A, 2⟩
/-- info: Reserved; never recorded (R233) -/
abbrev Flt.ENG_WR_IGNORED : FaultCode := ⟨0x0700, 0⟩
/-- corrected: First corrected data-memory read of an engine in a millisecond (R209) -/
abbrev Flt.ENG_DMEM_CORRECTED : FaultCode := ⟨0x0701, 1⟩
/-- degraded: Uncorrectable data-memory read (R209) -/
abbrev Flt.ENG_DMEM_UNCORR : FaultCode := ⟨0x0702, 2⟩
/-- corrected: First corrected program word of an engine in a millisecond (R209) -/
abbrev Flt.ENG_PMEM_CORRECTED : FaultCode := ⟨0x0703, 1⟩
/-- degraded: Uncorrectable program word (R209) -/
abbrev Flt.ENG_PMEM_UNCORR : FaultCode := ⟨0x0704, 2⟩
/-- info: Mover transfer ended with an error (R231) -/
abbrev Flt.ENG_XFER_ERR : FaultCode := ⟨0x0705, 0⟩
/-- info: Window access to a running engine (R232) -/
abbrev Flt.ENG_WINDOW_REFUSED : FaultCode := ⟨0x0706, 0⟩
/-- degraded: Instruction error; engine halted (R279) -/
abbrev Flt.ENG_INSTR_ERROR : FaultCode := ⟨0x0707, 2⟩
/-- degraded: Watchdog expired; engine halted (R276) -/
abbrev Flt.ENG_WATCHDOG : FaultCode := ⟨0x0708, 2⟩
/-- info: Write ignored under R12 or R14 -/
abbrev Flt.NOC_WR_IGNORED : FaultCode := ⟨0x0800, 0⟩
/-- degraded: Packet discarded for head CRC or reserved op (R289, R290) -/
abbrev Flt.NOC_HEAD_CRC : FaultCode := ⟨0x0801, 2⟩
/-- degraded: First flit parity failure of a router in a millisecond (R290) -/
abbrev Flt.NOC_DATA_PARITY : FaultCode := ⟨0x0802, 2⟩
/-- degraded: First request timeout in a millisecond; the location is the source node and port (R300) -/
abbrev Flt.NOC_RESP_TIMEOUT : FaultCode := ⟨0x0803, 2⟩
/-- info: Address or device with no route (R286, R303) -/
abbrev Flt.NOC_UNROUTABLE : FaultCode := ⟨0x0804, 0⟩
/-- info: Calendar check failed at commit (R296) -/
abbrev Flt.NOC_CAL_INVALID : FaultCode := ⟨0x0805, 0⟩
/-- info: Reserved slot changed while a class-0 contract is committed (R296) -/
abbrev Flt.NOC_CAL_IN_USE : FaultCode := ⟨0x0806, 0⟩
/-- degraded: VC0 packet reached an output without VC0 (R293) -/
abbrev Flt.NOC_VC0_DEMOTED : FaultCode := ⟨0x0807, 2⟩
/-- degraded: Wake exceeded its exit latency by more than 1 µs (R302) -/
abbrev Flt.NOC_WAKE_SLOW : FaultCode := ⟨0x0808, 2⟩
/-- info: Write ignored under R12 or R14 -/
abbrev Flt.QM_WR_IGNORED : FaultCode := ⟨0x0900, 0⟩
/-- info: Entry failed its check at enable (R313) -/
abbrev Flt.QM_Q_CFG_INVALID : FaultCode := ⟨0x0901, 0⟩
/-- info: First refusal or rewind of a slice in a millisecond (R321); the location is the slice -/
abbrev Flt.QM_REWOUND : FaultCode := ⟨0x0902, 0⟩
/-- degraded: First poisoned word of a slice in a millisecond (R325) -/
abbrev Flt.QM_POISON_READ : FaultCode := ⟨0x0903, 2⟩
/-- info: Open packet timed out (R316) -/
abbrev Flt.QM_OPEN_TIMEOUT : FaultCode := ⟨0x0904, 0⟩
/-- info: Segment discarded with code 7 (R320) -/
abbrev Flt.QM_PROTOCOL : FaultCode := ⟨0x0905, 0⟩
/-- info: Calendar check failed at commit (R330); the location is the slice and port -/
abbrev Flt.QM_CAL_INVALID : FaultCode := ⟨0x0906, 0⟩
/-- info: Reserved slot changed while a contract holds it (R330) -/
abbrev Flt.QM_CAL_IN_USE : FaultCode := ⟨0x0907, 0⟩
/-- info: Far cells above 96 GiB in all (R330); the location is the slice -/
abbrev Flt.QM_FAR_LIMIT : FaultCode := ⟨0x0908, 0⟩
/-- fatal-block: Uncorrectable descriptor (R312) -/
abbrev Flt.QM_DESC_UNCORR : FaultCode := ⟨0x0909, 3⟩
/-- info: FLUSH on an enabled queue (R314) -/
abbrev Flt.QM_CMD_REFUSED : FaultCode := ⟨0x090A, 0⟩
/-- degraded: Slice free list empty (R330); the location is the slice -/
abbrev Flt.QM_FAR_EXHAUSTED : FaultCode := ⟨0x090B, 2⟩
/-- info: Write ignored under R12 or R14 -/
abbrev Flt.FS_WR_IGNORED : FaultCode := ⟨0x0A00, 0⟩
/-- info: First FULL result in a millisecond (R336) -/
abbrev Flt.FS_INSERT_FULL : FaultCode := ⟨0x0A01, 0⟩
/-- degraded: Bad read of an entry or stash slot (R345) -/
abbrev Flt.FS_ENTRY_UNCORR : FaultCode := ⟨0x0A02, 2⟩
/-- info: Malformed request or unknown source (R338, R339) -/
abbrev Flt.FS_BAD_REQ : FaultCode := ⟨0x0A03, 0⟩
/-- info: Age scan requested while one runs (R346) -/
abbrev Flt.FS_AGE_REFUSED : FaultCode := ⟨0x0A04, 0⟩
/-- info: COMMIT failed (R353) -/
abbrev Flt.PRM_CT_REFUSED : FaultCode := ⟨0x0B00, 0⟩
/-- degraded: susp rose (R363) -/
abbrev Flt.PRM_SUSPENDED : FaultCode := ⟨0x0B01, 2⟩
/-- info: susp fell (R363) -/
abbrev Flt.PRM_RESUMED : FaultCode := ⟨0x0B02, 0⟩
/-- degraded: Late delivery not covered (R364) -/
abbrev Flt.PRM_LATE : FaultCode := ⟨0x0B03, 2⟩
/-- info: First covered late delivery of a slice in a millisecond (R364); the location is the slice -/
abbrev Flt.PRM_LATE_SUSP : FaultCode := ⟨0x0B04, 0⟩
/-- info: Write ignored under R12 or R14 -/
abbrev Flt.LP_WR_IGNORED : FaultCode := ⟨0x0C00, 0⟩
/-- corrected: First corrected line of a channel in a millisecond (R373) -/
abbrev Flt.LP_CORRECTED : FaultCode := ⟨0x0C01, 1⟩
/-- degraded: Uncorrectable line (R373) -/
abbrev Flt.LP_UNCORR : FaultCode := ⟨0x0C02, 2⟩
/-- fatal-block: Training failed twice; channel failed (R378) -/
abbrev Flt.LP_TRAIN_FAIL : FaultCode := ⟨0x0C03, 3⟩
/-- fatal-block: Memory or LP_CFG outside R367 or R377; channel failed -/
abbrev Flt.LP_CFG_INVALID : FaultCode := ⟨0x0C04, 3⟩
/-- degraded: Memory reports a temperature above its range (R377) -/
abbrev Flt.LP_REFRESH_HOT : FaultCode := ⟨0x0C05, 2⟩
/-- degraded: Tracking drift beyond the trained window (R379) -/
abbrev Flt.LP_TRACK_DRIFT : FaultCode := ⟨0x0C06, 2⟩
/-- info: RETRAIN or SWITCH refused (R380) -/
abbrev Flt.LP_CMD_REFUSED : FaultCode := ⟨0x0C07, 0⟩
/-- info: Write ignored under R12 or R14 -/
abbrev Flt.MEE_WR_IGNORED : FaultCode := ⟨0x0D00, 0⟩
/-- degraded: Data tag failed (R402) -/
abbrev Flt.MEE_TAG_FAIL : FaultCode := ⟨0x0D01, 2⟩
/-- degraded: Counter or node verification failed (R401) -/
abbrev Flt.MEE_TREE_FAIL : FaultCode := ⟨0x0D02, 2⟩
/-- degraded: Major counter at its end (R398) -/
abbrev Flt.MEE_COUNTER_END : FaultCode := ⟨0x0D03, 2⟩
/-- degraded: Partial write to a bad line (R402) -/
abbrev Flt.MEE_PARTIAL_REFUSED : FaultCode := ⟨0x0D04, 2⟩
/-- info: Access without the right (R388) -/
abbrev Flt.MEE_RIGHTS : FaultCode := ⟨0x0D05, 0⟩
/-- info: Address in no region (R387) -/
abbrev Flt.MEE_NO_REGION : FaultCode := ⟨0x0D06, 0⟩
/-- info: Region not initialised (R402, R403) -/
abbrev Flt.MEE_NOT_INIT : FaultCode := ⟨0x0D07, 0⟩
/-- info: Region failed its check (R386) -/
abbrev Flt.MEE_REGION_INVALID : FaultCode := ⟨0x0D08, 0⟩
/-- info: LOAD or RETIRE refused (R404, R405) -/
abbrev Flt.MEE_KEY_REFUSED : FaultCode := ⟨0x0D09, 0⟩
/-- fatal-block: Bad-page list full; region disabled (R401) -/
abbrev Flt.MEE_BADPAGE_FULL : FaultCode := ⟨0x0D0A, 3⟩
/-- info: REKEY, INIT or FLUSH refused (R406) -/
abbrev Flt.MEE_CMD_REFUSED : FaultCode := ⟨0x0D0B, 0⟩
/-- degraded: A write to an eager page waited for re-encryption (R397) -/
abbrev Flt.MEE_EAGER_LATE : FaultCode := ⟨0x0D0C, 2⟩
/-- info: Write ignored under R14 -/
abbrev Flt.LN_WR_IGNORED : FaultCode := ⟨0x0E00, 0⟩
/-- fatal-block: Three bring-up attempts failed (R413) -/
abbrev Flt.LN_BRINGUP_FAIL : FaultCode := ⟨0x0E01, 3⟩
/-- fatal-block: Graft lanes neither straight nor reversed (R416) -/
abbrev Flt.LN_LANE_ORDER : FaultCode := ⟨0x0E02, 3⟩
/-- degraded: A lane lost lock while up (R413) -/
abbrev Flt.LN_LOCK_LOST : FaultCode := ⟨0x0E03, 2⟩
/-- info: Write ignored under R12 or R14 -/
abbrev Flt.GR_WR_IGNORED : FaultCode := ⟨0x0E10, 0⟩
/-- fatal-block: No common Graft version (R425) -/
abbrev Flt.GR_VERSION : FaultCode := ⟨0x0E11, 3⟩
/-- fatal-block: Capabilities incompatible (R425) -/
abbrev Flt.GR_CAP_MISMATCH : FaultCode := ⟨0x0E12, 3⟩
/-- degraded: Link retrained (R428) -/
abbrev Flt.GR_RETRAIN : FaultCode := ⟨0x0E13, 2⟩
/-- fatal-block: Retrain failed; link down (R428) -/
abbrev Flt.GR_LINK_DOWN : FaultCode := ⟨0x0E14, 3⟩
/-- info: Link calendar check failed (R434) -/
abbrev Flt.GR_CAL_INVALID : FaultCode := ⟨0x0E15, 0⟩
/-- info: Reserved link slot changed under a contract (R434) -/
abbrev Flt.GR_CAL_IN_USE : FaultCode := ⟨0x0E16, 0⟩
/-- degraded: No TIME command for 16 µs (R431) -/
abbrev Flt.GR_TIME_LOST : FaultCode := ⟨0x0E17, 2⟩
/-- info: Write ignored under R12 or R14 -/
abbrev Flt.PCI_WR_IGNORED : FaultCode := ⟨0x0F00, 0⟩
/-- info: Ring failed its check (R443); the location is the ring -/
abbrev Flt.PCI_RING_INVALID : FaultCode := ⟨0x0F01, 0⟩
/-- degraded: Ring stopped (R448); the location is the ring -/
abbrev Flt.PCI_RING_FAULT : FaultCode := ⟨0x0F02, 2⟩
/-- info: Write ignored under R12 or R14 -/
abbrev Flt.ETH_WR_IGNORED : FaultCode := ⟨0x0F10, 0⟩
/-- info: MAC failed its check (R450); the location is the MAC -/
abbrev Flt.ETH_CFG_INVALID : FaultCode := ⟨0x0F11, 0⟩
/-- degraded: MAC link went down (R450) -/
abbrev Flt.ETH_LINK_DOWN : FaultCode := ⟨0x0F12, 2⟩
/-- degraded: First uncorrectable codeword of a MAC in a millisecond (R451) -/
abbrev Flt.ETH_FEC_UNCORR : FaultCode := ⟨0x0F13, 2⟩
/-- info: Transmit timestamp lost (R453) -/
abbrev Flt.ETH_TXTS_OVERFLOW : FaultCode := ⟨0x0F14, 0⟩
/-- degraded: No TIME_PPS edge for 1.1 s (R454) -/
abbrev Flt.ETH_PPS_LOST : FaultCode := ⟨0x0F15, 2⟩
/-- degraded: Header malformed or image truncated (R462) -/
abbrev Flt.IMG_HEADER : FaultCode := ⟨0x1000, 2⟩
/-- degraded: Format version not accepted (R463) -/
abbrev Flt.IMG_VERSION : FaultCode := ⟨0x1001, 2⟩
/-- degraded: Part code not 0x9608 (R462) -/
abbrev Flt.IMG_PART : FaultCode := ⟨0x1002, 2⟩
/-- degraded: Record CRC failed (R464) -/
abbrev Flt.IMG_RECORD_CRC : FaultCode := ⟨0x1003, 2⟩
/-- degraded: Record malformed, misplaced or not in the version (R464 to R466, R471) -/
abbrev Flt.IMG_RECORD : FaultCode := ⟨0x1004, 2⟩
/-- degraded: Invalid frame address or run (R460, R465, R472) -/
abbrev Flt.IMG_ADDRESS : FaultCode := ⟨0x1005, 2⟩
/-- degraded: Bad token stream (R468) -/
abbrev Flt.IMG_TOKEN : FaultCode := ⟨0x1006, 2⟩
/-- degraded: Key slot or signature check failed (R474) -/
abbrev Flt.IMG_AUTH : FaultCode := ⟨0x1007, 2⟩
/-- degraded: Payload key missing or GCM tag failed (R475) -/
abbrev Flt.IMG_DECRYPT : FaultCode := ⟨0x1008, 2⟩
/-- degraded: Partial image outside its region, or declares a live plane (R478, R480) -/
abbrev Flt.IMG_REGION : FaultCode := ⟨0x1009, 2⟩
/-- degraded: Held records exceed 4 MiB (R477) -/
abbrev Flt.IMG_STAGE_FULL : FaultCode := ⟨0x100A, 2⟩
/-- degraded: Table malformed or failed its check (R469, R470) -/
abbrev Flt.IMG_TABLE : FaultCode := ⟨0x100B, 2⟩
/-- degraded: Frame differs from its golden signature (R472) -/
abbrev Flt.IMG_SIGNATURE : FaultCode := ⟨0x100C, 2⟩
/-- degraded: Engine running or bank in use for a partial image (R477) -/
abbrev Flt.IMG_TARGET_BUSY : FaultCode := ⟨0x100D, 2⟩
/-- info: Image loaded; the location gives full or partial and map_gen -/
abbrev Flt.IMG_LOADED : FaultCode := ⟨0x100E, 0⟩
/-- info: Write ignored in the CFG block under R14 -/
abbrev Flt.STU_WR_IGNORED : FaultCode := ⟨0x1100, 0⟩
/-- fatal-device: Factory record invalid (R487) -/
abbrev Flt.STU_FACTORY_BAD : FaultCode := ⟨0x1101, 4⟩
/-- degraded: No valid settings copy (R488) -/
abbrev Flt.STU_SETTINGS_INVALID : FaultCode := ⟨0x1102, 2⟩
/-- info: Setting outside factory mask, or unknown offset (R489) -/
abbrev Flt.STU_SETTING_LIMIT : FaultCode := ⟨0x1103, 0⟩
/-- fatal-device: Reserved MODE value (R485) -/
abbrev Flt.STU_MODE_INVALID : FaultCode := ⟨0x1104, 4⟩
/-- degraded: Attempt or Graft link timed out (R496, R498) -/
abbrev Flt.STU_LOAD_TIMEOUT : FaultCode := ⟨0x1105, 2⟩
/-- degraded: WAIT_LOCK exceeded 10 ms (R492) -/
abbrev Flt.STU_LOCK_TIMEOUT : FaultCode := ⟨0x1106, 2⟩
/-- info: First load failure; retrying (R499) -/
abbrev Flt.STU_RETRY : FaultCode := ⟨0x1107, 0⟩
/-- degraded: Loading the golden image (R499) -/
abbrev Flt.STU_GOLDEN : FaultCode := ⟨0x1108, 2⟩
/-- fatal-device: Safe state entered (R501) -/
abbrev Flt.STU_SAFE_STATE : FaultCode := ⟨0x1109, 4⟩
/-- degraded: Follower not ready within 100 ms (R502) -/
abbrev Flt.STU_CHAIN_TIMEOUT : FaultCode := ⟨0x110A, 2⟩
/-- degraded: Second resend request from the follower (R503) -/
abbrev Flt.STU_CHAIN_FAIL : FaultCode := ⟨0x110B, 2⟩
/-- info: Partial load command refused (R504) -/
abbrev Flt.STU_LOAD_REFUSED : FaultCode := ⟨0x110C, 0⟩
/-- info: Write ignored under R12 -/
abbrev Flt.CI_WR_IGNORED : FaultCode := ⟨0x1200, 0⟩
/-- corrected: Latch frame repaired (R513) -/
abbrev Flt.CI_LATCH_CORRECTED : FaultCode := ⟨0x1201, 1⟩
/-- degraded: Mismatch reported without repair (R512) -/
abbrev Flt.CI_LATCH_MISMATCH : FaultCode := ⟨0x1202, 2⟩
/-- degraded: Sector reloaded (R515) -/
abbrev Flt.CI_SECTOR_RELOADED : FaultCode := ⟨0x1203, 2⟩
/-- fatal-block: Island held by policy 3 (R516) -/
abbrev Flt.CI_SECTOR_HALTED : FaultCode := ⟨0x1204, 3⟩
/-- fatal-block: Persistent live-latch mismatch (R514) -/
abbrev Flt.CI_PERSISTENT : FaultCode := ⟨0x1205, 3⟩
/-- corrected: Resident-plane word corrected (R517) -/
abbrev Flt.CI_PLANE_CORRECTED : FaultCode := ⟨0x1206, 1⟩
/-- degraded: Resident plane damaged (R517) -/
abbrev Flt.CI_PLANE_BAD : FaultCode := ⟨0x1207, 2⟩
/-- degraded: Scan signature uncorrectable (R519) -/
abbrev Flt.CI_SIG_UNCORR : FaultCode := ⟨0x1208, 2⟩
/-- degraded: Scan list failed its check (R519) -/
abbrev Flt.CI_LIST_BAD : FaultCode := ⟨0x1209, 2⟩
/-- corrected: First voting correction in a millisecond (R518) -/
abbrev Flt.CI_VOTE_CORR : FaultCode := ⟨0x120A, 1⟩
/-- degraded: Lap not completed within 2 × lap_us (R520) -/
abbrev Flt.CI_SCAN_STALL : FaultCode := ⟨0x120B, 2⟩
/-- degraded: Second stall; sector unscanned (R520) -/
abbrev Flt.CI_SCAN_DEAD : FaultCode := ⟨0x120C, 2⟩
/-- info: Write ignored under R12 or R14 -/
abbrev Flt.CLK_WR_IGNORED : FaultCode := ⟨0x1300, 0⟩
/-- degraded: Trim reference absent for two windows (R525) -/
abbrev Flt.CLK_TRIM_LOST : FaultCode := ⟨0x1301, 2⟩
/-- degraded: Reference flagged by a monitor (R536) -/
abbrev Flt.CLK_REF_LOST : FaultCode := ⟨0x1302, 2⟩
/-- fatal-block: Loop output flagged (R536); the location is the loop -/
abbrev Flt.CLK_LOOP_FAULT : FaultCode := ⟨0x1303, 3⟩
/-- degraded: Island generator lost lock (R530); the location is the island -/
abbrev Flt.CLK_ISL_UNLOCK : FaultCode := ⟨0x1304, 2⟩
/-- degraded: Regulators not in range within 100 µs (R533) -/
abbrev Flt.CLK_OP_TIMEOUT : FaultCode := ⟨0x1305, 2⟩
/-- info: Operating-point table failed its check (R532) -/
abbrev Flt.CLK_TABLE_INVALID : FaultCode := ⟨0x1306, 0⟩
/-- info: Loop frequency changed with its consumers released (R537) -/
abbrev Flt.CLK_LOOP_IN_USE : FaultCode := ⟨0x1307, 0⟩
/-- info: Write ignored under R12 or R14 -/
abbrev Flt.PM_WR_IGNORED : FaultCode := ⟨0x1400, 0⟩
/-- fatal-block or fatal-device: Regulator failed (R542) -/
abbrev Flt.PM_REG_FAULT : FaultCode := ⟨0x1401, 3⟩
/-- info: Write ignored under R12 -/
abbrev Flt.TH_WR_IGNORED : FaultCode := ⟨0x1410, 0⟩
/-- info: Island reached warn (R556) -/
abbrev Flt.TH_WARN : FaultCode := ⟨0x1411, 0⟩
/-- degraded: Island throttling began (R557) -/
abbrev Flt.TH_THROTTLE : FaultCode := ⟨0x1412, 2⟩
/-- degraded: Guaranteed island throttled (R558) -/
abbrev Flt.TH_GUAR_THROTTLE : FaultCode := ⟨0x1413, 2⟩
/-- degraded: Rise limit exceeded (R559); the location is the sensor -/
abbrev Flt.TH_RATE : FaultCode := ⟨0x1414, 2⟩
/-- degraded: Sensor failed (R552) -/
abbrev Flt.TH_SENSOR_FAIL : FaultCode := ⟨0x1415, 2⟩
/-- degraded: Layer-2 sensor marked suspect (R562) -/
abbrev Flt.TH_SENSOR_DISAGREE : FaultCode := ⟨0x1416, 2⟩
/-- fatal-device: Critical temperature reached (R560) -/
abbrev Flt.TH_SHUTDOWN : FaultCode := ⟨0x1417, 4⟩
/-- info: Curve check failed at commit (R564) -/
abbrev Flt.TH_TABLE_INVALID : FaultCode := ⟨0x1418, 0⟩
/-- info: Reserved; never recorded (R591) -/
abbrev Flt.MB_WR_IGNORED : FaultCode := ⟨0x1500, 0⟩
/-- degraded: Core compare mismatch; warm reset (R566) -/
abbrev Flt.MGT_LOCKSTEP : FaultCode := ⟨0x1501, 2⟩
/-- degraded: Heartbeat missed; warm reset (R571) -/
abbrev Flt.MGT_HEARTBEAT : FaultCode := ⟨0x1502, 2⟩
/-- fatal-device: Third warm reset within 1 s (R573) -/
abbrev Flt.MGT_DEAD : FaultCode := ⟨0x1503, 4⟩
/-- info: Shed level rose (R570) -/
abbrev Flt.MGT_SHED : FaultCode := ⟨0x1504, 0⟩
/-- degraded: Producer index beyond the ring (R576) -/
abbrev Flt.MB_RING_ERROR : FaultCode := ⟨0x1505, 2⟩
/-- info: First discarded frame of a transport in a second (R582) -/
abbrev Flt.MON_FRAME_ERROR : FaultCode := ⟨0x1506, 0⟩
/-- info: Monitor access refused by the complex (R585) -/
abbrev Flt.MON_REFUSED : FaultCode := ⟨0x1507, 0⟩
/-- info: Write ignored under R12 -/
abbrev Flt.MON_WR_IGNORED : FaultCode := ⟨0x1510, 0⟩
/-- info: Write ignored under R14 -/
abbrev Flt.BT_WR_IGNORED : FaultCode := ⟨0x1600, 0⟩
/-- info: Run refused (R597) -/
abbrev Flt.BT_REFUSED : FaultCode := ⟨0x1601, 0⟩
/-- degraded: MISR differs from its signature (R598) -/
abbrev Flt.BT_LBIST_FAIL : FaultCode := ⟨0x1602, 2⟩
/-- degraded: Restored state did not verify (R598) -/
abbrev Flt.BT_RESTORE_FAIL : FaultCode := ⟨0x1603, 2⟩
/-- info: Run ended early (R599) -/
abbrev Flt.BT_ABORTED : FaultCode := ⟨0x1604, 0⟩
/-- degraded: Analogue check failed (R601) -/
abbrev Flt.BT_ANA_FAIL : FaultCode := ⟨0x1605, 2⟩
/-- info: Write ignored under R15 -/
abbrev Flt.SEC_WR_IGNORED : FaultCode := ⟨0x1700, 0⟩
/-- degraded: Tamper source fired (R607) -/
abbrev Flt.SEC_TAMPER : FaultCode := ⟨0x1701, 2⟩
/-- info: Wipe completed (R606) -/
abbrev Flt.SEC_WIPED : FaultCode := ⟨0x1702, 0⟩
/-- info: Life-cycle transition (R605) -/
abbrev Flt.SEC_LC_CHANGED : FaultCode := ⟨0x1703, 0⟩
/-- fatal-device: Fuse read-back failed (R605) -/
abbrev Flt.SEC_FUSE_FAIL : FaultCode := ⟨0x1704, 4⟩
/-- info: Command or transition refused (R605, R615) -/
abbrev Flt.SEC_CMD_REFUSED : FaultCode := ⟨0x1705, 0⟩
/-- degraded: Random source health test failed (R613) -/
abbrev Flt.SEC_TRNG_FAIL : FaultCode := ⟨0x1706, 2⟩
/-- info: Write ignored under R12 -/
abbrev Flt.FLT_WR_IGNORED : FaultCode := ⟨0x0100, 0⟩
/-- degraded: Faults dropped at the collector (R620) -/
abbrev Flt.FLT_RECORD_LOST : FaultCode := ⟨0x0101, 2⟩

end Sys2Proof.Machine
end

