-- ==== Sys2Proof/Machine/RegTable.lean ====
section
/-! DEFINITION. The register tables of every block of the manual: where each register sits in the
CSR space (25 R629), its fields, their access types (00 R8), its commit group (00 R11), its copies
and its reset value. Names and numbers are those of the register tables of the chapters. -/

namespace Sys2Proof.Machine

/-- Access types of fields (00 R8). -/
inductive Acc where
  | rw | ro | wo | w1c | w1s | rc | rws | rwh | rwl
deriving DecidableEq, Repr

/-- What a register has a copy of its own for (the "per ..." of its heading). -/
inductive Per where
  | one | island | column | engine | router | queue | port | slice | region | lane | bundle | ring | mac | sector | sensor
deriving DecidableEq, Repr

/-- A field of a register: the register's CSR offset (in the first window of a block with windows) and the bits it takes. -/
structure FieldRef where
  reg : Nat
  hi : Nat
  lo : Nat
deriving DecidableEq, Repr

/-- A run of like registers. `fields` lists every field that is not RO: high bit, low bit, access type. -/
structure RegDesc where
  name : String
  off : Nat
  count : Nat
  stride : Nat
  per : Per
  group : Nat
  resets : List Nat
  fields : List (Nat × Nat × Acc)
deriving DecidableEq, Repr

-- Offsets of the registers.

abbrev R.DEV_ID : Nat := 0x0000000
abbrev R.DEV_PARAM : Nat := 0x0000004
abbrev R.DEV_STATUS : Nat := 0x0000008
abbrev R.DEV_BLK_COMMIT : Nat := 0x000000C
abbrev R.VX_STATUS : Nat := 0x0800000
abbrev R.VX_BLK_COMMIT : Nat := 0x0800004
abbrev R.VX_CTRL : Nat := 0x0800008
abbrev R.VX_MAP_GEN : Nat := 0x080000C
abbrev R.VX_HELD_LO : Nat := 0x0800010
abbrev R.VX_HELD_HI : Nat := 0x0800014
abbrev R.VX_SEL : Nat := 0x0800018
abbrev R.VX_ISL_STAT : Nat := 0x080001C
abbrev R.VX_ISL_PAR : Nat := 0x0800020
abbrev R.VX_ISL_ROW : Nat := 0x0800024
abbrev R.VX_TUNE_STAT : Nat := 0x0800028
abbrev R.FAB_STATUS : Nat := 0x0700000
abbrev R.FAB_BLK_COMMIT : Nat := 0x0700004
abbrev R.FAB_CAP_CTRL : Nat := 0x0700008
abbrev R.FAB_CAP_MASK0 : Nat := 0x070000C
abbrev R.FAB_CAP_MASK1 : Nat := 0x0700010
abbrev R.FAB_CAP_MASK2 : Nat := 0x0700014
abbrev R.FAB_CAP_STAT : Nat := 0x0700018
abbrev R.FAB_CAP_TIME_LO : Nat := 0x070001C
abbrev R.FAB_CAP_TIME_HI : Nat := 0x0700020
abbrev R.FAB_CAP_SKEW0 : Nat := 0x0700024
abbrev R.FAB_CAP_SKEW1 : Nat := 0x0700028
abbrev R.FAB_CAP_SKEW2 : Nat := 0x070002C
abbrev R.FAB_ZC_COUNT : Nat := 0x0700030
abbrev R.FAB_ZC_LAST : Nat := 0x0700034
abbrev R.FAB_LAND_SEL : Nat := 0x0700038
abbrev R.FAB_LAND_STAT : Nat := 0x070003C
abbrev R.HSP_STATUS : Nat := 0x1A00000
abbrev R.HSP_BLK_COMMIT : Nat := 0x1A00004
abbrev R.CTX_STATUS : Nat := 0x0600000
abbrev R.CTX_BLK_COMMIT : Nat := 0x0600004
abbrev R.CTX_CTRL : Nat := 0x0600008
abbrev R.CTX_TICK : Nat := 0x060000C
abbrev R.CTX_CMD : Nat := 0x0600010
abbrev R.CTX_START_LO : Nat := 0x0600014
abbrev R.CTX_START_HI : Nat := 0x0600018
abbrev R.CTX_SWITCH_CNT : Nat := 0x060001C
abbrev R.CTX_LATE_CNT : Nat := 0x0600020
abbrev R.CTX_LAST_LATE : Nat := 0x0600024
abbrev R.CTX_REQ_DROP : Nat := 0x0600028
abbrev R.CTX_SCHED_STAT : Nat := 0x060002C
abbrev R.CTX_PLANE_INFO : Nat := 0x0600040
abbrev R.CTX_SCHED_NEXT : Nat := 0x0600100
abbrev R.CTX_SCHED_ACT : Nat := 0x0600200
abbrev R.MEM_STATUS : Nat := 0x0900000
abbrev R.MEM_BLK_COMMIT : Nat := 0x0900004
abbrev R.MEM_BG_CTRL : Nat := 0x0900008
abbrev R.MEM_ROW_BURST : Nat := 0x090000C
abbrev R.MEM_COL_SEL : Nat := 0x0900010
abbrev R.MEM_COL_STAT : Nat := 0x0900014
abbrev R.MEM_COL_STARVE : Nat := 0x0900018
abbrev R.MEM_COL_ROWWAIT : Nat := 0x090001C
abbrev R.MEM_COL_ROWS : Nat := 0x0900020
abbrev R.MEM_DP_COLLIDE : Nat := 0x0900024
abbrev R.MEM_STARVE_LAST : Nat := 0x0900028
abbrev R.MEM_PROT_LAST : Nat := 0x090002C
abbrev R.MEM_RC_SRC : Nat := 0x0900030
abbrev R.MEM_RC_DST : Nat := 0x0900034
abbrev R.MEM_RC_CTRL : Nat := 0x0900038
abbrev R.MEM_ROW_SHARE : Nat := 0x0900100
abbrev R.MEM_BANK_CFG : Nat := 0x0900400
abbrev R.MI_STATUS : Nat := 0x0A00000
abbrev R.MI_BLK_COMMIT : Nat := 0x0A00004
abbrev R.MI_CTRL : Nat := 0x0A00008
abbrev R.MI_COL_SEL : Nat := 0x0A0000C
abbrev R.MI_COL_ERR : Nat := 0x0A00010
abbrev R.MI_ERR_LAST : Nat := 0x0A00014
abbrev R.MI_REPAIR_STAT : Nat := 0x0A00018
abbrev R.MI_REMAP_CMD : Nat := 0x0A0001C
abbrev R.MI_SCRUB_FIRST : Nat := 0x0A00020
abbrev R.MI_SCRUB_LAST : Nat := 0x0A00024
abbrev R.MI_SCRUB_CTRL : Nat := 0x0A00028
abbrev R.MI_SCRUB_CHECKED : Nat := 0x0A0002C
abbrev R.MI_SCRUB_CORR : Nat := 0x0A00030
abbrev R.MI_SCRUB_UNC : Nat := 0x0A00034
abbrev R.MI_SCRUB_FAIL_FIRST : Nat := 0x0A00038
abbrev R.MI_SCRUB_FAIL_LAST : Nat := 0x0A0003C
abbrev R.MI_LAP_STAT : Nat := 0x0A00040
abbrev R.MI_CODE : Nat := 0x0A00100
abbrev R.MI_RAW_ADDR : Nat := 0x0A00200
abbrev R.MI_RAW_D : Nat := 0x0A00204
abbrev R.MI_RAW_CHK : Nat := 0x0A00214
abbrev R.MI_RAW_CTRL : Nat := 0x0A00218
abbrev R.MI_MARCH_CTRL : Nat := 0x0A00300
abbrev R.MI_MARCH_RES : Nat := 0x0A00304
abbrev R.MI_MARCH_ELEM : Nat := 0x0A00310
abbrev R.ENG_STATUS : Nat := 0x0B00000
abbrev R.ENG_BLK_COMMIT : Nat := 0x0B00004
abbrev R.ENG_SEL : Nat := 0x0B00008
abbrev R.ENG_STATE : Nat := 0x0B0000C
abbrev R.ENG_CMD : Nat := 0x0B00010
abbrev R.ENG_MEM_ERR : Nat := 0x0B00014
abbrev R.ENG_XFER_STAT : Nat := 0x0B00018
abbrev R.NOC_STATUS : Nat := 0x0C00000
abbrev R.NOC_BLK_COMMIT : Nat := 0x0C00004
abbrev R.NOC_CTRL : Nat := 0x0C00008
abbrev R.NOC_GROVE : Nat := 0x0C0000C
abbrev R.NOC_SEL : Nat := 0x0C00010
abbrev R.NOC_LINK_CFG : Nat := 0x0C00014
abbrev R.NOC_WEIGHT0 : Nat := 0x0C00018
abbrev R.NOC_WEIGHT1 : Nat := 0x0C0001C
abbrev R.NOC_RTR_FLITS : Nat := 0x0C00020
abbrev R.NOC_RTR_ERR : Nat := 0x0C00024
abbrev R.NOC_RTR_WAKE : Nat := 0x0C00028
abbrev R.NOC_TIMEOUTS : Nat := 0x0C0002C
abbrev R.NOC_DISCARD : Nat := 0x0C00030
abbrev R.NOC_GROVE_ROUTE : Nat := 0x0C00040
abbrev R.NOC_CAL : Nat := 0x0C00100
abbrev R.QM_STATUS : Nat := 0x0D00000
abbrev R.QM_BLK_COMMIT : Nat := 0x0D00004
abbrev R.QM_CTRL : Nat := 0x0D00008
abbrev R.QM_QSEL : Nat := 0x0D0000C
abbrev R.QM_Q_CFG0 : Nat := 0x0D00010
abbrev R.QM_Q_CFG1 : Nat := 0x0D00014
abbrev R.QM_Q_CFG2 : Nat := 0x0D00018
abbrev R.QM_Q_CFG3 : Nat := 0x0D0001C
abbrev R.QM_Q_CFG4 : Nat := 0x0D00020
abbrev R.QM_Q_CFG5 : Nat := 0x0D00024
abbrev R.QM_Q_CMD : Nat := 0x0D00028
abbrev R.QM_Q_DEPTH : Nat := 0x0D0002C
abbrev R.QM_Q_PKTS : Nat := 0x0D00030
abbrev R.QM_Q_CNT : Nat := 0x0D00034
abbrev R.QM_Q_BAD : Nat := 0x0D00038
abbrev R.QM_PSEL : Nat := 0x0D00040
abbrev R.QM_PORT_CFG : Nat := 0x0D00044
abbrev R.QM_FAR_BASE : Nat := 0x0D00050
abbrev R.QM_FAR_LINK : Nat := 0x0D00054
abbrev R.QM_FAR_CELLS : Nat := 0x0D00058
abbrev R.QM_FAR_FREE : Nat := 0x0D0005C
abbrev R.QM_PORT_CAL : Nat := 0x0D00100
abbrev R.QM_LVL_PEND : Nat := 0x0D00200
abbrev R.FS_STATUS : Nat := 0x0E00000
abbrev R.FS_BLK_COMMIT : Nat := 0x0E00004
abbrev R.FS_CTRL : Nat := 0x0E00008
abbrev R.FS_SEED0 : Nat := 0x0E0000C
abbrev R.FS_SEED1 : Nat := 0x0E00010
abbrev R.FS_OCC : Nat := 0x0E00014
abbrev R.FS_OPS : Nat := 0x0E00018
abbrev R.FS_MISSES : Nat := 0x0E0001C
abbrev R.FS_FULL : Nat := 0x0E00020
abbrev R.FS_AGE_CTRL : Nat := 0x0E00024
abbrev R.FS_AGE_THRESH : Nat := 0x0E00028
abbrev R.FS_AGE_RES : Nat := 0x0E0002C
abbrev R.FS_KILL : Nat := 0x0E00030
abbrev R.FS_PROFILE : Nat := 0x0E00100
abbrev R.FS_PORT_PROF : Nat := 0x0E00200
abbrev R.QM_CT_RATE : Nat := 0x0D01000
abbrev R.QM_CT_BURST : Nat := 0x0D01004
abbrev R.QM_CT_PKT : Nat := 0x0D01008
abbrev R.QM_CT_OP : Nat := 0x0D0100C
abbrev R.QM_CT_ISL_LO : Nat := 0x0D01010
abbrev R.QM_CT_ISL_HI : Nat := 0x0D01014
abbrev R.QM_CT_CMD : Nat := 0x0D01018
abbrev R.QM_CT_STAT : Nat := 0x0D0101C
abbrev R.QM_Q_BOUND : Nat := 0x0D01020
abbrev R.QM_Q_SLACK : Nat := 0x0D01024
abbrev R.QM_PROMISE_STATUS : Nat := 0x0D01028
abbrev R.QM_Q_LATE : Nat := 0x0D0102C
abbrev R.QM_Q_WORST : Nat := 0x0D01030
abbrev R.QM_PROMISE_SUM : Nat := 0x0D01034
abbrev R.LP_STATUS : Nat := 0x0F00000
abbrev R.LP_BLK_COMMIT : Nat := 0x0F00004
abbrev R.LP_CFG : Nat := 0x0F00008
abbrev R.LP_REF : Nat := 0x0F0000C
abbrev R.LP_PWR : Nat := 0x0F00010
abbrev R.LP_TEMP : Nat := 0x0F00014
abbrev R.LP_ERR : Nat := 0x0F00018
abbrev R.LP_ERR_LAST : Nat := 0x0F0001C
abbrev R.LP_ERR_LANE : Nat := 0x0F00020
abbrev R.LP_CMD : Nat := 0x0F00024
abbrev R.MEE_STATUS : Nat := 0x1000000
abbrev R.MEE_BLK_COMMIT : Nat := 0x1000004
abbrev R.MEE_CTRL : Nat := 0x1000008
abbrev R.MEE_CTR_BASE : Nat := 0x100000C
abbrev R.MEE_TREE_BASE : Nat := 0x1000010
abbrev R.MEE_REG_SEL : Nat := 0x1000014
abbrev R.MEE_REG_BASE : Nat := 0x1000018
abbrev R.MEE_REG_LIMIT : Nat := 0x100001C
abbrev R.MEE_REG_CFG : Nat := 0x1000020
abbrev R.MEE_REG_RIGHTS : Nat := 0x1000024
abbrev R.MEE_KEY_CMD : Nat := 0x1000028
abbrev R.MEE_KEY_STAT : Nat := 0x100002C
abbrev R.MEE_CMD : Nat := 0x1000030
abbrev R.MEE_WALK_STAT : Nat := 0x1000034
abbrev R.MEE_ERR : Nat := 0x1000038
abbrev R.MEE_FAIL_LAST : Nat := 0x100003C
abbrev R.LN_STATUS : Nat := 0x1100000
abbrev R.LN_BLK_COMMIT : Nat := 0x1100004
abbrev R.LN_CTRL : Nat := 0x1100008
abbrev R.LN_STATE : Nat := 0x110000C
abbrev R.LN_LANE_SEL : Nat := 0x1100010
abbrev R.LN_PRBS_CTRL : Nat := 0x1100014
abbrev R.LN_PRBS_STAT : Nat := 0x1100018
abbrev R.LN_INJ : Nat := 0x110001C
abbrev R.GR_STATUS : Nat := 0x1200000
abbrev R.GR_BLK_COMMIT : Nat := 0x1200004
abbrev R.GR_SEL : Nat := 0x1200008
abbrev R.GR_CTRL : Nat := 0x120000C
abbrev R.GR_LINK : Nat := 0x1200010
abbrev R.GR_PEER_CAP_LO : Nat := 0x1200014
abbrev R.GR_PEER_CAP_HI : Nat := 0x1200018
abbrev R.GR_LAT : Nat := 0x120001C
abbrev R.GR_HOP_BOUND : Nat := 0x1200020
abbrev R.GR_REPLAY : Nat := 0x1200024
abbrev R.GR_FEC : Nat := 0x1200028
abbrev R.GR_TIME_OFS : Nat := 0x120002C
abbrev R.GR_ASYM : Nat := 0x1200030
abbrev R.GR_CMD : Nat := 0x1200034
abbrev R.GR_CAL_LO : Nat := 0x1200040
abbrev R.GR_CAL_HI : Nat := 0x1200044
abbrev R.GR_VC0_MAX : Nat := 0x1200048
abbrev R.PCI_STATUS : Nat := 0x1400000
abbrev R.PCI_BLK_COMMIT : Nat := 0x1400004
abbrev R.PCI_WIN_BASE : Nat := 0x1400008
abbrev R.PCI_LTR : Nat := 0x140000C
abbrev R.PCI_ERR : Nat := 0x1400010
abbrev R.PCI_RSEL : Nat := 0x1400014
abbrev R.PCI_RING_CFG : Nat := 0x1400018
abbrev R.PCI_RING_BASE_LO : Nat := 0x140001C
abbrev R.PCI_RING_BASE_HI : Nat := 0x1400020
abbrev R.PCI_RING_IRQ : Nat := 0x1400024
abbrev R.PCI_RING_IDX : Nat := 0x1400028
abbrev R.ETH_STATUS : Nat := 0x1300000
abbrev R.ETH_BLK_COMMIT : Nat := 0x1300004
abbrev R.ETH_SEL : Nat := 0x1300008
abbrev R.ETH_MAC_CFG : Nat := 0x130000C
abbrev R.ETH_MAC_STAT : Nat := 0x1300010
abbrev R.ETH_MAC_CNT : Nat := 0x1300014
abbrev R.ETH_FEC_CNT : Nat := 0x1300018
abbrev R.ETH_PFC : Nat := 0x130001C
abbrev R.ETH_TS_ADJ : Nat := 0x1300020
abbrev R.ETH_TXTS_TAG : Nat := 0x1300024
abbrev R.ETH_TXTS_LO : Nat := 0x1300028
abbrev R.ETH_TXTS_HI : Nat := 0x130002C
abbrev R.ETH_TIME_CTRL : Nat := 0x1300030
abbrev R.ETH_TIME_LO : Nat := 0x1300034
abbrev R.ETH_TIME_HI : Nat := 0x1300038
abbrev R.ETH_TIME_STEP : Nat := 0x130003C
abbrev R.CFG_STATUS : Nat := 0x0400000
abbrev R.CFG_BLK_COMMIT : Nat := 0x0400004
abbrev R.CFG_BOOT_TIME : Nat := 0x0400008
abbrev R.CFG_LOAD_SRC : Nat := 0x040000C
abbrev R.CFG_LOAD_ADDR_LO : Nat := 0x0400010
abbrev R.CFG_LOAD_ADDR_HI : Nat := 0x0400014
abbrev R.CFG_LOAD_LEN : Nat := 0x0400018
abbrev R.CFG_LOAD_CMD : Nat := 0x040001C
abbrev R.CFG_LOAD_STAT : Nat := 0x0400020
abbrev R.CFG_STREAM_DROP : Nat := 0x0400024
abbrev R.CFG_BOOT_FAULT : Nat := 0x0400028
abbrev R.CFG_GOLDEN_FAULT : Nat := 0x040002C
abbrev R.CI_STATUS : Nat := 0x0500000
abbrev R.CI_BLK_COMMIT : Nat := 0x0500004
abbrev R.CI_CTRL : Nat := 0x0500008
abbrev R.CI_SEL : Nat := 0x050000C
abbrev R.CI_SEC_STAT : Nat := 0x0500010
abbrev R.CI_SEC_CNT : Nat := 0x0500014
abbrev R.CI_LAST : Nat := 0x0500018
abbrev R.CI_LAP : Nat := 0x050001C
abbrev R.CI_VOTE : Nat := 0x0500020
abbrev R.CI_CMD : Nat := 0x0500024
abbrev R.CI_POLICY : Nat := 0x0500040
abbrev R.CLK_STATUS : Nat := 0x0100000
abbrev R.CLK_BLK_COMMIT : Nat := 0x0100004
abbrev R.CLK_REF_CFG : Nat := 0x0100008
abbrev R.CLK_TRIM : Nat := 0x010000C
abbrev R.CLK_LOOP_CFG : Nat := 0x0100040
abbrev R.CLK_OP_A : Nat := 0x0100080
abbrev R.CLK_OP_B : Nat := 0x01000A0
abbrev R.CLK_ISL_SEL : Nat := 0x01000C0
abbrev R.CLK_ISL_OP : Nat := 0x01000C4
abbrev R.CLK_ISL_STAT : Nat := 0x01000C8
abbrev R.PM_STATUS : Nat := 0x0200000
abbrev R.PM_BLK_COMMIT : Nat := 0x0200004
abbrev R.PM_CTRL : Nat := 0x0200008
abbrev R.PM_LAT_TOL : Nat := 0x020000C
abbrev R.PM_SLACK : Nat := 0x0200010
abbrev R.PM_DEV_CMD : Nat := 0x0200014
abbrev R.PM_POWER : Nat := 0x0200018
abbrev R.PM_ISL_SEL : Nat := 0x020001C
abbrev R.PM_ISL_CTRL : Nat := 0x0200020
abbrev R.PM_ISL_STAT : Nat := 0x0200024
abbrev R.PM_WAKE_CNT : Nat := 0x0200028
abbrev R.PM_GUAR_ISL_LO : Nat := 0x0200030
abbrev R.PM_GUAR_ISL_HI : Nat := 0x0200034
abbrev R.PM_GUAR_BLK_LO : Nat := 0x0200038
abbrev R.PM_GUAR_BLK_HI : Nat := 0x020003C
abbrev R.TH_STATUS : Nat := 0x0300000
abbrev R.TH_BLK_COMMIT : Nat := 0x0300004
abbrev R.TH_LIMITS : Nat := 0x0300008
abbrev R.TH_RISE : Nat := 0x030000C
abbrev R.TH_DISAGREE : Nat := 0x0300010
abbrev R.TH_EST_CFG : Nat := 0x0300014
abbrev R.TH_SEL : Nat := 0x0300018
abbrev R.TH_SENSOR : Nat := 0x030001C
abbrev R.TH_ISL_STAT : Nat := 0x0300020
abbrev R.TH_ISL_EST : Nat := 0x0300024
abbrev R.TH_SUSPECT_LO : Nat := 0x0300030
abbrev R.TH_SUSPECT_HI : Nat := 0x0300034
abbrev R.TH_CURVE : Nat := 0x0300100
abbrev R.TH_BAND_A : Nat := 0x0300200
abbrev R.TH_BAND_B : Nat := 0x0300204
abbrev R.TH_BAND_C : Nat := 0x0300208
abbrev R.MB_STATUS : Nat := 0x1500000
abbrev R.MB_BLK_COMMIT : Nat := 0x1500004
abbrev R.MB_VERSION : Nat := 0x1500008
abbrev R.MB_CMD_IDX : Nat := 0x150000C
abbrev R.MB_RSP_IDX : Nat := 0x1500010
abbrev R.MB_CTRL : Nat := 0x1500014
abbrev R.MB_LOAD : Nat := 0x1500018
abbrev R.MB_SHED_CNT : Nat := 0x150001C
abbrev R.MON_STATUS : Nat := 0x1600000
abbrev R.MON_BLK_COMMIT : Nat := 0x1600004
abbrev R.MON_CFG : Nat := 0x1600008
abbrev R.MON_CNT : Nat := 0x160000C
abbrev R.MON_H2M_IDX : Nat := 0x1600010
abbrev R.MON_M2H_IDX : Nat := 0x1600014
abbrev R.MON_BP_SEL : Nat := 0x1600018
abbrev R.MON_BP : Nat := 0x1600020
abbrev R.BT_STATUS : Nat := 0x1700000
abbrev R.BT_BLK_COMMIT : Nat := 0x1700004
abbrev R.BT_CTRL : Nat := 0x1700008
abbrev R.BT_SCRATCH : Nat := 0x170000C
abbrev R.BT_RESULT : Nat := 0x1700010
abbrev R.BT_MISR_LO : Nat := 0x1700014
abbrev R.BT_MISR_HI : Nat := 0x1700018
abbrev R.BT_ANA_CTRL : Nat := 0x170001C
abbrev R.BT_ANA_RES : Nat := 0x1700020
abbrev R.SEC_STATUS : Nat := 0x1800000
abbrev R.SEC_BLK_COMMIT : Nat := 0x1800004
abbrev R.SEC_LC_CMD : Nat := 0x1800008
abbrev R.SEC_TAMPER_CFG : Nat := 0x180000C
abbrev R.SEC_TAMPER_STAT : Nat := 0x1800010
abbrev R.SEC_SLOT : Nat := 0x1800014
abbrev R.SEC_CMD : Nat := 0x1800024
abbrev R.SEC_CMD_ADDR_LO : Nat := 0x1800028
abbrev R.SEC_CMD_ADDR_HI : Nat := 0x180002C
abbrev R.SEC_CMD_STAT : Nat := 0x1800030
abbrev R.FLT_STATUS : Nat := 0x1900000
abbrev R.FLT_BLK_COMMIT : Nat := 0x1900004
abbrev R.FLT_CTRL : Nat := 0x1900008
abbrev R.FLT_HEAD : Nat := 0x190000C
abbrev R.FLT_PEND : Nat := 0x1900010
abbrev R.FLT_LOST : Nat := 0x1900014
abbrev R.FLT_PORT_MASK : Nat := 0x1900018
abbrev R.FLT_FLASH : Nat := 0x1900024

-- Fields of the registers.

abbrev F.DEV_ID_version : FieldRef := ⟨R.DEV_ID, 31, 28⟩
abbrev F.DEV_ID_part : FieldRef := ⟨R.DEV_ID, 27, 12⟩
abbrev F.DEV_ID_mfr : FieldRef := ⟨R.DEV_ID, 11, 1⟩
abbrev F.DEV_ID_one : FieldRef := ⟨R.DEV_ID, 0, 0⟩
abbrev F.DEV_PARAM_logic_layers : FieldRef := ⟨R.DEV_PARAM, 31, 30⟩
abbrev F.DEV_PARAM_sectors : FieldRef := ⟨R.DEV_PARAM, 29, 23⟩
abbrev F.DEV_PARAM_contexts : FieldRef := ⟨R.DEV_PARAM, 22, 19⟩
abbrev F.DEV_PARAM_lane_bundles : FieldRef := ⟨R.DEV_PARAM, 18, 14⟩
abbrev F.DEV_PARAM_dram_channels : FieldRef := ⟨R.DEV_PARAM, 13, 9⟩
abbrev F.DEV_PARAM_bank_columns : FieldRef := ⟨R.DEV_PARAM, 8, 3⟩
abbrev F.DEV_STATUS_safe_state : FieldRef := ⟨R.DEV_STATUS, 2, 2⟩
abbrev F.DEV_STATUS_done : FieldRef := ⟨R.DEV_STATUS, 1, 1⟩
abbrev F.DEV_STATUS_wr_ignored : FieldRef := ⟨R.DEV_STATUS, 0, 0⟩
abbrev F.VX_STATUS_map_full : FieldRef := ⟨R.VX_STATUS, 3, 3⟩
abbrev F.VX_STATUS_tune_busy : FieldRef := ⟨R.VX_STATUS, 2, 2⟩
abbrev F.VX_STATUS_held_any : FieldRef := ⟨R.VX_STATUS, 1, 1⟩
abbrev F.VX_STATUS_wr_ignored : FieldRef := ⟨R.VX_STATUS, 0, 0⟩
abbrev F.VX_BLK_COMMIT_grp0 : FieldRef := ⟨R.VX_BLK_COMMIT, 0, 0⟩
abbrev F.VX_CTRL_loc_threshold : FieldRef := ⟨R.VX_CTRL, 23, 16⟩
abbrev F.VX_CTRL_loc_window : FieldRef := ⟨R.VX_CTRL, 15, 12⟩
abbrev F.VX_CTRL_bgtest_gap : FieldRef := ⟨R.VX_CTRL, 11, 4⟩
abbrev F.VX_CTRL_bgtest_en : FieldRef := ⟨R.VX_CTRL, 0, 0⟩
abbrev F.VX_MAP_GEN_gen : FieldRef := ⟨R.VX_MAP_GEN, 31, 0⟩
abbrev F.VX_HELD_LO_held : FieldRef := ⟨R.VX_HELD_LO, 31, 0⟩
abbrev F.VX_HELD_HI_held : FieldRef := ⟨R.VX_HELD_HI, 15, 0⟩
abbrev F.VX_SEL_island : FieldRef := ⟨R.VX_SEL, 5, 0⟩
abbrev F.VX_ISL_STAT_no_spare : FieldRef := ⟨R.VX_ISL_STAT, 31, 24⟩
abbrev F.VX_ISL_STAT_repaired : FieldRef := ⟨R.VX_ISL_STAT, 23, 13⟩
abbrev F.VX_ISL_STAT_dead : FieldRef := ⟨R.VX_ISL_STAT, 10, 0⟩
abbrev F.VX_ISL_PAR_count : FieldRef := ⟨R.VX_ISL_PAR, 31, 0⟩
abbrev F.VX_ISL_ROW_banks_held : FieldRef := ⟨R.VX_ISL_ROW, 24, 16⟩
abbrev F.VX_ISL_ROW_banks_repaired : FieldRef := ⟨R.VX_ISL_ROW, 8, 0⟩
abbrev F.VX_TUNE_STAT_retune_us : FieldRef := ⟨R.VX_TUNE_STAT, 31, 16⟩
abbrev F.VX_TUNE_STAT_margin_low : FieldRef := ⟨R.VX_TUNE_STAT, 3, 3⟩
abbrev F.VX_TUNE_STAT_band : FieldRef := ⟨R.VX_TUNE_STAT, 2, 0⟩
abbrev F.FAB_STATUS_zconf : FieldRef := ⟨R.FAB_STATUS, 3, 3⟩
abbrev F.FAB_STATUS_cap_draining : FieldRef := ⟨R.FAB_STATUS, 2, 2⟩
abbrev F.FAB_STATUS_cap_pending : FieldRef := ⟨R.FAB_STATUS, 1, 1⟩
abbrev F.FAB_STATUS_wr_ignored : FieldRef := ⟨R.FAB_STATUS, 0, 0⟩
abbrev F.FAB_CAP_CTRL_src : FieldRef := ⟨R.FAB_CAP_CTRL, 2, 1⟩
abbrev F.FAB_CAP_CTRL_go : FieldRef := ⟨R.FAB_CAP_CTRL, 0, 0⟩
abbrev F.FAB_CAP_MASK0_sel : FieldRef := ⟨R.FAB_CAP_MASK0, 31, 0⟩
abbrev F.FAB_CAP_MASK1_sel : FieldRef := ⟨R.FAB_CAP_MASK1, 31, 0⟩
abbrev F.FAB_CAP_MASK2_sel : FieldRef := ⟨R.FAB_CAP_MASK2, 31, 0⟩
abbrev F.FAB_CAP_STAT_seq : FieldRef := ⟨R.FAB_CAP_STAT, 31, 16⟩
abbrev F.FAB_CAP_STAT_valid : FieldRef := ⟨R.FAB_CAP_STAT, 0, 0⟩
abbrev F.FAB_CAP_TIME_LO_time : FieldRef := ⟨R.FAB_CAP_TIME_LO, 31, 0⟩
abbrev F.FAB_CAP_TIME_HI_time : FieldRef := ⟨R.FAB_CAP_TIME_HI, 31, 0⟩
abbrev F.FAB_CAP_SKEW0_skew : FieldRef := ⟨R.FAB_CAP_SKEW0, 31, 0⟩
abbrev F.FAB_CAP_SKEW1_skew : FieldRef := ⟨R.FAB_CAP_SKEW1, 31, 0⟩
abbrev F.FAB_CAP_SKEW2_skew : FieldRef := ⟨R.FAB_CAP_SKEW2, 31, 0⟩
abbrev F.FAB_ZC_COUNT_count : FieldRef := ⟨R.FAB_ZC_COUNT, 31, 0⟩
abbrev F.FAB_ZC_LAST_island : FieldRef := ⟨R.FAB_ZC_LAST, 29, 24⟩
abbrev F.FAB_ZC_LAST_tile : FieldRef := ⟨R.FAB_ZC_LAST, 23, 14⟩
abbrev F.FAB_ZC_LAST_wire : FieldRef := ⟨R.FAB_ZC_LAST, 6, 0⟩
abbrev F.FAB_LAND_SEL_island : FieldRef := ⟨R.FAB_LAND_SEL, 5, 0⟩
abbrev F.FAB_LAND_STAT_cmd_refused : FieldRef := ⟨R.FAB_LAND_STAT, 31, 16⟩
abbrev F.FAB_LAND_STAT_lost_writes : FieldRef := ⟨R.FAB_LAND_STAT, 15, 0⟩
abbrev F.HSP_STATUS_busy : FieldRef := ⟨R.HSP_STATUS, 10, 1⟩
abbrev F.HSP_STATUS_wr_ignored : FieldRef := ⟨R.HSP_STATUS, 0, 0⟩
abbrev F.CTX_STATUS_cur_entry : FieldRef := ⟨R.CTX_STATUS, 25, 20⟩
abbrev F.CTX_STATUS_sched_wait : FieldRef := ⟨R.CTX_STATUS, 19, 19⟩
abbrev F.CTX_STATUS_sched_run : FieldRef := ⟨R.CTX_STATUS, 18, 18⟩
abbrev F.CTX_STATUS_wb_busy : FieldRef := ⟨R.CTX_STATUS, 17, 17⟩
abbrev F.CTX_STATUS_restaging : FieldRef := ⟨R.CTX_STATUS, 16, 16⟩
abbrev F.CTX_STATUS_restage_plane : FieldRef := ⟨R.CTX_STATUS, 15, 13⟩
abbrev F.CTX_STATUS_staged_state : FieldRef := ⟨R.CTX_STATUS, 12, 11⟩
abbrev F.CTX_STATUS_staged_plane : FieldRef := ⟨R.CTX_STATUS, 10, 8⟩
abbrev F.CTX_STATUS_live_plane : FieldRef := ⟨R.CTX_STATUS, 7, 5⟩
abbrev F.CTX_STATUS_late_pend : FieldRef := ⟨R.CTX_STATUS, 4, 4⟩
abbrev F.CTX_STATUS_wr_ignored : FieldRef := ⟨R.CTX_STATUS, 0, 0⟩
abbrev F.CTX_BLK_COMMIT_grp1 : FieldRef := ⟨R.CTX_BLK_COMMIT, 1, 1⟩
abbrev F.CTX_BLK_COMMIT_grp0 : FieldRef := ⟨R.CTX_BLK_COMMIT, 0, 0⟩
abbrev F.CTX_CTRL_wb_mask : FieldRef := ⟨R.CTX_CTRL, 31, 24⟩
abbrev F.CTX_CTRL_evt_src : FieldRef := ⟨R.CTX_CTRL, 5, 4⟩
abbrev F.CTX_CTRL_fab_en : FieldRef := ⟨R.CTX_CTRL, 3, 3⟩
abbrev F.CTX_TICK_period_ns : FieldRef := ⟨R.CTX_TICK, 31, 0⟩
abbrev F.CTX_CMD_op : FieldRef := ⟨R.CTX_CMD, 7, 4⟩
abbrev F.CTX_CMD_plane : FieldRef := ⟨R.CTX_CMD, 2, 0⟩
abbrev F.CTX_START_LO_time : FieldRef := ⟨R.CTX_START_LO, 31, 0⟩
abbrev F.CTX_START_HI_time : FieldRef := ⟨R.CTX_START_HI, 31, 0⟩
abbrev F.CTX_SWITCH_CNT_count : FieldRef := ⟨R.CTX_SWITCH_CNT, 31, 0⟩
abbrev F.CTX_LATE_CNT_count : FieldRef := ⟨R.CTX_LATE_CNT, 31, 0⟩
abbrev F.CTX_LAST_LATE_cycles : FieldRef := ⟨R.CTX_LAST_LATE, 31, 0⟩
abbrev F.CTX_REQ_DROP_count : FieldRef := ⟨R.CTX_REQ_DROP, 31, 0⟩
abbrev F.CTX_SCHED_STAT_laps : FieldRef := ⟨R.CTX_SCHED_STAT, 31, 16⟩
abbrev F.CTX_SCHED_STAT_missed_evt : FieldRef := ⟨R.CTX_SCHED_STAT, 15, 10⟩
abbrev F.CTX_SCHED_STAT_fail_entry : FieldRef := ⟨R.CTX_SCHED_STAT, 9, 4⟩
abbrev F.CTX_SCHED_STAT_fail_reason : FieldRef := ⟨R.CTX_SCHED_STAT, 2, 0⟩
abbrev F.CTX_PLANE_INFO_loaded : FieldRef := ⟨R.CTX_PLANE_INFO, 31, 31⟩
abbrev F.CTX_PLANE_INFO_mem_frames : FieldRef := ⟨R.CTX_PLANE_INFO, 12, 0⟩
abbrev F.CTX_SCHED_NEXT_entry : FieldRef := ⟨R.CTX_SCHED_NEXT, 31, 0⟩
abbrev F.CTX_SCHED_ACT_entry : FieldRef := ⟨R.CTX_SCHED_ACT, 31, 0⟩
abbrev F.MEM_STATUS_prot_viol : FieldRef := ⟨R.MEM_STATUS, 3, 3⟩
abbrev F.MEM_STATUS_secure_wipe : FieldRef := ⟨R.MEM_STATUS, 2, 2⟩
abbrev F.MEM_STATUS_starve_any : FieldRef := ⟨R.MEM_STATUS, 1, 1⟩
abbrev F.MEM_STATUS_wr_ignored : FieldRef := ⟨R.MEM_STATUS, 0, 0⟩
abbrev F.MEM_BLK_COMMIT_grp1 : FieldRef := ⟨R.MEM_BLK_COMMIT, 1, 1⟩
abbrev F.MEM_BLK_COMMIT_grp0 : FieldRef := ⟨R.MEM_BLK_COMMIT, 0, 0⟩
abbrev F.MEM_BG_CTRL_starve_cycles : FieldRef := ⟨R.MEM_BG_CTRL, 23, 0⟩
abbrev F.MEM_ROW_BURST_burst : FieldRef := ⟨R.MEM_ROW_BURST, 10, 0⟩
abbrev F.MEM_COL_SEL_column : FieldRef := ⟨R.MEM_COL_SEL, 5, 0⟩
abbrev F.MEM_COL_STAT_near_banks : FieldRef := ⟨R.MEM_COL_STAT, 24, 16⟩
abbrev F.MEM_COL_STAT_set_banks : FieldRef := ⟨R.MEM_COL_STAT, 8, 0⟩
abbrev F.MEM_COL_STARVE_count : FieldRef := ⟨R.MEM_COL_STARVE, 31, 0⟩
abbrev F.MEM_COL_ROWWAIT_cycles : FieldRef := ⟨R.MEM_COL_ROWWAIT, 31, 0⟩
abbrev F.MEM_COL_ROWS_rows : FieldRef := ⟨R.MEM_COL_ROWS, 31, 0⟩
abbrev F.MEM_DP_COLLIDE_count : FieldRef := ⟨R.MEM_DP_COLLIDE, 15, 0⟩
abbrev F.MEM_STARVE_LAST_master : FieldRef := ⟨R.MEM_STARVE_LAST, 31, 29⟩
abbrev F.MEM_STARVE_LAST_column : FieldRef := ⟨R.MEM_STARVE_LAST, 13, 8⟩
abbrev F.MEM_STARVE_LAST_bank : FieldRef := ⟨R.MEM_STARVE_LAST, 7, 0⟩
abbrev F.MEM_PROT_LAST_master : FieldRef := ⟨R.MEM_PROT_LAST, 31, 28⟩
abbrev F.MEM_PROT_LAST_region : FieldRef := ⟨R.MEM_PROT_LAST, 27, 24⟩
abbrev F.MEM_PROT_LAST_word : FieldRef := ⟨R.MEM_PROT_LAST, 22, 0⟩
abbrev F.MEM_RC_SRC_bank : FieldRef := ⟨R.MEM_RC_SRC, 16, 9⟩
abbrev F.MEM_RC_SRC_row : FieldRef := ⟨R.MEM_RC_SRC, 8, 0⟩
abbrev F.MEM_RC_DST_bank : FieldRef := ⟨R.MEM_RC_DST, 16, 9⟩
abbrev F.MEM_RC_DST_row : FieldRef := ⟨R.MEM_RC_DST, 8, 0⟩
abbrev F.MEM_RC_CTRL_go : FieldRef := ⟨R.MEM_RC_CTRL, 31, 31⟩
abbrev F.MEM_RC_CTRL_busy : FieldRef := ⟨R.MEM_RC_CTRL, 30, 30⟩
abbrev F.MEM_RC_CTRL_err : FieldRef := ⟨R.MEM_RC_CTRL, 29, 29⟩
abbrev F.MEM_RC_CTRL_count : FieldRef := ⟨R.MEM_RC_CTRL, 9, 0⟩
abbrev F.MEM_ROW_SHARE_share : FieldRef := ⟨R.MEM_ROW_SHARE, 11, 0⟩
abbrev F.MEM_BANK_CFG_set_size : FieldRef := ⟨R.MEM_BANK_CFG, 15, 14⟩
abbrev F.MEM_BANK_CFG_bg_access : FieldRef := ⟨R.MEM_BANK_CFG, 13, 12⟩
abbrev F.MEM_BANK_CFG_owner_class : FieldRef := ⟨R.MEM_BANK_CFG, 11, 9⟩
abbrev F.MI_STATUS_lap_forced : FieldRef := ⟨R.MI_STATUS, 3, 3⟩
abbrev F.MI_STATUS_remap_full : FieldRef := ⟨R.MI_STATUS, 2, 2⟩
abbrev F.MI_STATUS_uncorr_any : FieldRef := ⟨R.MI_STATUS, 1, 1⟩
abbrev F.MI_STATUS_wr_ignored : FieldRef := ⟨R.MI_STATUS, 0, 0⟩
abbrev F.MI_BLK_COMMIT_grp0 : FieldRef := ⟨R.MI_BLK_COMMIT, 0, 0⟩
abbrev F.MI_CTRL_lap_pace : FieldRef := ⟨R.MI_CTRL, 31, 16⟩
abbrev F.MI_CTRL_tt_en : FieldRef := ⟨R.MI_CTRL, 2, 2⟩
abbrev F.MI_CTRL_auto_remap : FieldRef := ⟨R.MI_CTRL, 1, 1⟩
abbrev F.MI_CTRL_lap_en : FieldRef := ⟨R.MI_CTRL, 0, 0⟩
abbrev F.MI_COL_SEL_column : FieldRef := ⟨R.MI_COL_SEL, 5, 0⟩
abbrev F.MI_COL_ERR_uncorr : FieldRef := ⟨R.MI_COL_ERR, 31, 16⟩
abbrev F.MI_COL_ERR_corrected : FieldRef := ⟨R.MI_COL_ERR, 15, 0⟩
abbrev F.MI_ERR_LAST_uncorr : FieldRef := ⟨R.MI_ERR_LAST, 31, 31⟩
abbrev F.MI_ERR_LAST_poison : FieldRef := ⟨R.MI_ERR_LAST, 30, 30⟩
abbrev F.MI_ERR_LAST_bits : FieldRef := ⟨R.MI_ERR_LAST, 29, 28⟩
abbrev F.MI_ERR_LAST_bank : FieldRef := ⟨R.MI_ERR_LAST, 20, 13⟩
abbrev F.MI_ERR_LAST_word : FieldRef := ⟨R.MI_ERR_LAST, 12, 0⟩
abbrev F.MI_REPAIR_STAT_fuse_rows : FieldRef := ⟨R.MI_REPAIR_STAT, 31, 20⟩
abbrev F.MI_REPAIR_STAT_fuse_cols : FieldRef := ⟨R.MI_REPAIR_STAT, 19, 9⟩
abbrev F.MI_REPAIR_STAT_remap_used : FieldRef := ⟨R.MI_REPAIR_STAT, 6, 0⟩
abbrev F.MI_REMAP_CMD_go : FieldRef := ⟨R.MI_REMAP_CMD, 31, 31⟩
abbrev F.MI_REMAP_CMD_bank : FieldRef := ⟨R.MI_REMAP_CMD, 20, 13⟩
abbrev F.MI_REMAP_CMD_word : FieldRef := ⟨R.MI_REMAP_CMD, 12, 0⟩
abbrev F.MI_SCRUB_FIRST_word : FieldRef := ⟨R.MI_SCRUB_FIRST, 26, 0⟩
abbrev F.MI_SCRUB_LAST_word : FieldRef := ⟨R.MI_SCRUB_LAST, 26, 0⟩
abbrev F.MI_SCRUB_CTRL_go : FieldRef := ⟨R.MI_SCRUB_CTRL, 31, 31⟩
abbrev F.MI_SCRUB_CTRL_abort : FieldRef := ⟨R.MI_SCRUB_CTRL, 30, 30⟩
abbrev F.MI_SCRUB_CTRL_busy : FieldRef := ⟨R.MI_SCRUB_CTRL, 29, 29⟩
abbrev F.MI_SCRUB_CTRL_done : FieldRef := ⟨R.MI_SCRUB_CTRL, 28, 28⟩
abbrev F.MI_SCRUB_CTRL_max_bits : FieldRef := ⟨R.MI_SCRUB_CTRL, 27, 25⟩
abbrev F.MI_SCRUB_CHECKED_count : FieldRef := ⟨R.MI_SCRUB_CHECKED, 31, 0⟩
abbrev F.MI_SCRUB_CORR_count : FieldRef := ⟨R.MI_SCRUB_CORR, 31, 0⟩
abbrev F.MI_SCRUB_UNC_count : FieldRef := ⟨R.MI_SCRUB_UNC, 31, 0⟩
abbrev F.MI_SCRUB_FAIL_FIRST_valid : FieldRef := ⟨R.MI_SCRUB_FAIL_FIRST, 31, 31⟩
abbrev F.MI_SCRUB_FAIL_FIRST_word : FieldRef := ⟨R.MI_SCRUB_FAIL_FIRST, 26, 0⟩
abbrev F.MI_SCRUB_FAIL_LAST_valid : FieldRef := ⟨R.MI_SCRUB_FAIL_LAST, 31, 31⟩
abbrev F.MI_SCRUB_FAIL_LAST_word : FieldRef := ⟨R.MI_SCRUB_FAIL_LAST, 26, 0⟩
abbrev F.MI_LAP_STAT_laps : FieldRef := ⟨R.MI_LAP_STAT, 31, 24⟩
abbrev F.MI_LAP_STAT_lap_us : FieldRef := ⟨R.MI_LAP_STAT, 23, 0⟩
abbrev F.MI_CODE_code : FieldRef := ⟨R.MI_CODE, 31, 0⟩
abbrev F.MI_RAW_ADDR_bank : FieldRef := ⟨R.MI_RAW_ADDR, 20, 13⟩
abbrev F.MI_RAW_ADDR_word : FieldRef := ⟨R.MI_RAW_ADDR, 12, 0⟩
abbrev F.MI_RAW_D_data : FieldRef := ⟨R.MI_RAW_D, 31, 0⟩
abbrev F.MI_RAW_CHK_chk : FieldRef := ⟨R.MI_RAW_CHK, 15, 0⟩
abbrev F.MI_RAW_CTRL_go : FieldRef := ⟨R.MI_RAW_CTRL, 31, 31⟩
abbrev F.MI_RAW_CTRL_op : FieldRef := ⟨R.MI_RAW_CTRL, 30, 29⟩
abbrev F.MI_RAW_CTRL_busy : FieldRef := ⟨R.MI_RAW_CTRL, 28, 28⟩
abbrev F.MI_RAW_CTRL_refused : FieldRef := ⟨R.MI_RAW_CTRL, 27, 27⟩
abbrev F.MI_RAW_CTRL_bits : FieldRef := ⟨R.MI_RAW_CTRL, 3, 2⟩
abbrev F.MI_RAW_CTRL_result : FieldRef := ⟨R.MI_RAW_CTRL, 1, 0⟩
abbrev F.MI_MARCH_CTRL_go : FieldRef := ⟨R.MI_MARCH_CTRL, 31, 31⟩
abbrev F.MI_MARCH_CTRL_busy : FieldRef := ⟨R.MI_MARCH_CTRL, 30, 30⟩
abbrev F.MI_MARCH_CTRL_fail : FieldRef := ⟨R.MI_MARCH_CTRL, 29, 29⟩
abbrev F.MI_MARCH_CTRL_preserve : FieldRef := ⟨R.MI_MARCH_CTRL, 28, 28⟩
abbrev F.MI_MARCH_CTRL_bgnd : FieldRef := ⟨R.MI_MARCH_CTRL, 27, 26⟩
abbrev F.MI_MARCH_CTRL_last_bank : FieldRef := ⟨R.MI_MARCH_CTRL, 23, 16⟩
abbrev F.MI_MARCH_CTRL_first_bank : FieldRef := ⟨R.MI_MARCH_CTRL, 15, 8⟩
abbrev F.MI_MARCH_RES_fail_words : FieldRef := ⟨R.MI_MARCH_RES, 31, 21⟩
abbrev F.MI_MARCH_RES_bank : FieldRef := ⟨R.MI_MARCH_RES, 20, 13⟩
abbrev F.MI_MARCH_RES_word : FieldRef := ⟨R.MI_MARCH_RES, 12, 0⟩
abbrev F.MI_MARCH_ELEM_order : FieldRef := ⟨R.MI_MARCH_ELEM, 11, 10⟩
abbrev F.MI_MARCH_ELEM_ops : FieldRef := ⟨R.MI_MARCH_ELEM, 9, 8⟩
abbrev F.MI_MARCH_ELEM_op : FieldRef := ⟨R.MI_MARCH_ELEM, 7, 0⟩
abbrev F.ENG_STATUS_uncorr_any : FieldRef := ⟨R.ENG_STATUS, 1, 1⟩
abbrev F.ENG_STATUS_wr_ignored : FieldRef := ⟨R.ENG_STATUS, 0, 0⟩
abbrev F.ENG_SEL_engine : FieldRef := ⟨R.ENG_SEL, 13, 0⟩
abbrev F.ENG_STATE_pc : FieldRef := ⟨R.ENG_STATE, 25, 16⟩
abbrev F.ENG_STATE_cause : FieldRef := ⟨R.ENG_STATE, 7, 4⟩
abbrev F.ENG_STATE_mover_busy : FieldRef := ⟨R.ENG_STATE, 3, 3⟩
abbrev F.ENG_STATE_state : FieldRef := ⟨R.ENG_STATE, 2, 0⟩
abbrev F.ENG_CMD_op : FieldRef := ⟨R.ENG_CMD, 3, 0⟩
abbrev F.ENG_MEM_ERR_uncorr : FieldRef := ⟨R.ENG_MEM_ERR, 31, 16⟩
abbrev F.ENG_MEM_ERR_corrected : FieldRef := ⟨R.ENG_MEM_ERR, 15, 0⟩
abbrev F.ENG_XFER_STAT_status : FieldRef := ⟨R.ENG_XFER_STAT, 23, 0⟩
abbrev F.NOC_STATUS_vc0_demoted : FieldRef := ⟨R.NOC_STATUS, 4, 4⟩
abbrev F.NOC_STATUS_timeout_any : FieldRef := ⟨R.NOC_STATUS, 3, 3⟩
abbrev F.NOC_STATUS_crc_any : FieldRef := ⟨R.NOC_STATUS, 2, 2⟩
abbrev F.NOC_STATUS_wake_pend : FieldRef := ⟨R.NOC_STATUS, 1, 1⟩
abbrev F.NOC_STATUS_wr_ignored : FieldRef := ⟨R.NOC_STATUS, 0, 0⟩
abbrev F.NOC_BLK_COMMIT_grp2 : FieldRef := ⟨R.NOC_BLK_COMMIT, 2, 2⟩
abbrev F.NOC_BLK_COMMIT_grp1 : FieldRef := ⟨R.NOC_BLK_COMMIT, 1, 1⟩
abbrev F.NOC_BLK_COMMIT_grp0 : FieldRef := ⟨R.NOC_BLK_COMMIT, 0, 0⟩
abbrev F.NOC_CTRL_resp_timeout_us : FieldRef := ⟨R.NOC_CTRL, 15, 0⟩
abbrev F.NOC_GROVE_devnum : FieldRef := ⟨R.NOC_GROVE, 3, 0⟩
abbrev F.NOC_SEL_router : FieldRef := ⟨R.NOC_SEL, 5, 0⟩
abbrev F.NOC_LINK_CFG_n : FieldRef := ⟨R.NOC_LINK_CFG, 7, 6⟩
abbrev F.NOC_LINK_CFG_e : FieldRef := ⟨R.NOC_LINK_CFG, 5, 4⟩
abbrev F.NOC_LINK_CFG_s : FieldRef := ⟨R.NOC_LINK_CFG, 3, 2⟩
abbrev F.NOC_LINK_CFG_w : FieldRef := ⟨R.NOC_LINK_CFG, 1, 0⟩
abbrev F.NOC_WEIGHT0_n : FieldRef := ⟨R.NOC_WEIGHT0, 23, 18⟩
abbrev F.NOC_WEIGHT0_e : FieldRef := ⟨R.NOC_WEIGHT0, 17, 12⟩
abbrev F.NOC_WEIGHT0_s : FieldRef := ⟨R.NOC_WEIGHT0, 11, 6⟩
abbrev F.NOC_WEIGHT0_w : FieldRef := ⟨R.NOC_WEIGHT0, 5, 0⟩
abbrev F.NOC_WEIGHT1_l3 : FieldRef := ⟨R.NOC_WEIGHT1, 23, 18⟩
abbrev F.NOC_WEIGHT1_l2 : FieldRef := ⟨R.NOC_WEIGHT1, 17, 12⟩
abbrev F.NOC_WEIGHT1_l1 : FieldRef := ⟨R.NOC_WEIGHT1, 11, 6⟩
abbrev F.NOC_WEIGHT1_l0 : FieldRef := ⟨R.NOC_WEIGHT1, 5, 0⟩
abbrev F.NOC_RTR_FLITS_count : FieldRef := ⟨R.NOC_RTR_FLITS, 31, 0⟩
abbrev F.NOC_RTR_ERR_data_parity : FieldRef := ⟨R.NOC_RTR_ERR, 31, 16⟩
abbrev F.NOC_RTR_ERR_head_crc : FieldRef := ⟨R.NOC_RTR_ERR, 15, 0⟩
abbrev F.NOC_RTR_WAKE_wakes : FieldRef := ⟨R.NOC_RTR_WAKE, 31, 16⟩
abbrev F.NOC_RTR_WAKE_longest_us : FieldRef := ⟨R.NOC_RTR_WAKE, 15, 0⟩
abbrev F.NOC_TIMEOUTS_count : FieldRef := ⟨R.NOC_TIMEOUTS, 31, 0⟩
abbrev F.NOC_DISCARD_held_discard : FieldRef := ⟨R.NOC_DISCARD, 31, 16⟩
abbrev F.NOC_DISCARD_late_resp : FieldRef := ⟨R.NOC_DISCARD, 15, 0⟩
abbrev F.NOC_GROVE_ROUTE_vc0 : FieldRef := ⟨R.NOC_GROVE_ROUTE, 5, 5⟩
abbrev F.NOC_GROVE_ROUTE_valid : FieldRef := ⟨R.NOC_GROVE_ROUTE, 4, 4⟩
abbrev F.NOC_GROVE_ROUTE_bundle : FieldRef := ⟨R.NOC_GROVE_ROUTE, 3, 0⟩
abbrev F.NOC_CAL_valid0 : FieldRef := ⟨R.NOC_CAL, 3, 3⟩
abbrev F.NOC_CAL_valid1 : FieldRef := ⟨R.NOC_CAL, 7, 7⟩
abbrev F.NOC_CAL_valid2 : FieldRef := ⟨R.NOC_CAL, 11, 11⟩
abbrev F.NOC_CAL_valid3 : FieldRef := ⟨R.NOC_CAL, 15, 15⟩
abbrev F.NOC_CAL_valid4 : FieldRef := ⟨R.NOC_CAL, 19, 19⟩
abbrev F.NOC_CAL_valid5 : FieldRef := ⟨R.NOC_CAL, 23, 23⟩
abbrev F.NOC_CAL_valid6 : FieldRef := ⟨R.NOC_CAL, 27, 27⟩
abbrev F.NOC_CAL_valid7 : FieldRef := ⟨R.NOC_CAL, 31, 31⟩
abbrev F.NOC_CAL_input0 : FieldRef := ⟨R.NOC_CAL, 2, 0⟩
abbrev F.NOC_CAL_input1 : FieldRef := ⟨R.NOC_CAL, 6, 4⟩
abbrev F.NOC_CAL_input2 : FieldRef := ⟨R.NOC_CAL, 10, 8⟩
abbrev F.NOC_CAL_input3 : FieldRef := ⟨R.NOC_CAL, 14, 12⟩
abbrev F.NOC_CAL_input4 : FieldRef := ⟨R.NOC_CAL, 18, 16⟩
abbrev F.NOC_CAL_input5 : FieldRef := ⟨R.NOC_CAL, 22, 20⟩
abbrev F.NOC_CAL_input6 : FieldRef := ⟨R.NOC_CAL, 26, 24⟩
abbrev F.NOC_CAL_input7 : FieldRef := ⟨R.NOC_CAL, 30, 28⟩
abbrev F.QM_STATUS_poison_any : FieldRef := ⟨R.QM_STATUS, 2, 2⟩
abbrev F.QM_STATUS_lvl_any : FieldRef := ⟨R.QM_STATUS, 1, 1⟩
abbrev F.QM_STATUS_wr_ignored : FieldRef := ⟨R.QM_STATUS, 0, 0⟩
abbrev F.QM_BLK_COMMIT_grp1 : FieldRef := ⟨R.QM_BLK_COMMIT, 1, 1⟩
abbrev F.QM_BLK_COMMIT_grp0 : FieldRef := ⟨R.QM_BLK_COMMIT, 0, 0⟩
abbrev F.QM_CTRL_open_timeout_us : FieldRef := ⟨R.QM_CTRL, 15, 0⟩
abbrev F.QM_QSEL_queue : FieldRef := ⟨R.QM_QSEL, 11, 0⟩
abbrev F.QM_Q_CFG0_en : FieldRef := ⟨R.QM_Q_CFG0, 31, 31⟩
abbrev F.QM_Q_CFG0_far : FieldRef := ⟨R.QM_Q_CFG0, 30, 30⟩
abbrev F.QM_Q_CFG0_class : FieldRef := ⟨R.QM_Q_CFG0, 29, 28⟩
abbrev F.QM_Q_CFG0_egress : FieldRef := ⟨R.QM_Q_CFG0, 27, 23⟩
abbrev F.QM_Q_CFG0_bulk : FieldRef := ⟨R.QM_Q_CFG0, 22, 22⟩
abbrev F.QM_Q_CFG0_max_pkt : FieldRef := ⟨R.QM_Q_CFG0, 21, 8⟩
abbrev F.QM_Q_CFG0_quantum : FieldRef := ⟨R.QM_Q_CFG0, 7, 0⟩
abbrev F.QM_Q_CFG1_buf : FieldRef := ⟨R.QM_Q_CFG1, 28, 0⟩
abbrev F.QM_Q_CFG2_near_words : FieldRef := ⟨R.QM_Q_CFG2, 21, 0⟩
abbrev F.QM_Q_CFG3_desc_log : FieldRef := ⟨R.QM_Q_CFG3, 17, 14⟩
abbrev F.QM_Q_CFG3_desc_base : FieldRef := ⟨R.QM_Q_CFG3, 13, 0⟩
abbrev F.QM_Q_CFG4_irq_en : FieldRef := ⟨R.QM_Q_CFG4, 31, 31⟩
abbrev F.QM_Q_CFG4_level : FieldRef := ⟨R.QM_Q_CFG4, 23, 0⟩
abbrev F.QM_Q_CFG5_irq_vec : FieldRef := ⟨R.QM_Q_CFG5, 22, 12⟩
abbrev F.QM_Q_CFG5_dst_dev : FieldRef := ⟨R.QM_Q_CFG5, 11, 8⟩
abbrev F.QM_Q_CFG5_dst_node : FieldRef := ⟨R.QM_Q_CFG5, 7, 2⟩
abbrev F.QM_Q_CFG5_dst_port : FieldRef := ⟨R.QM_Q_CFG5, 1, 0⟩
abbrev F.QM_Q_CMD_op : FieldRef := ⟨R.QM_Q_CMD, 1, 0⟩
abbrev F.QM_Q_DEPTH_open : FieldRef := ⟨R.QM_Q_DEPTH, 31, 31⟩
abbrev F.QM_Q_DEPTH_stopped : FieldRef := ⟨R.QM_Q_DEPTH, 30, 30⟩
abbrev F.QM_Q_DEPTH_words : FieldRef := ⟨R.QM_Q_DEPTH, 29, 0⟩
abbrev F.QM_Q_PKTS_held : FieldRef := ⟨R.QM_Q_PKTS, 23, 0⟩
abbrev F.QM_Q_CNT_committed : FieldRef := ⟨R.QM_Q_CNT, 31, 0⟩
abbrev F.QM_Q_BAD_refused : FieldRef := ⟨R.QM_Q_BAD, 31, 24⟩
abbrev F.QM_Q_BAD_rewound : FieldRef := ⟨R.QM_Q_BAD, 23, 16⟩
abbrev F.QM_Q_BAD_poisoned : FieldRef := ⟨R.QM_Q_BAD, 15, 8⟩
abbrev F.QM_Q_BAD_flushed : FieldRef := ⟨R.QM_Q_BAD, 7, 0⟩
abbrev F.QM_PSEL_slice : FieldRef := ⟨R.QM_PSEL, 6, 5⟩
abbrev F.QM_PSEL_port : FieldRef := ⟨R.QM_PSEL, 4, 0⟩
abbrev F.QM_PORT_CFG_dflt_en : FieldRef := ⟨R.QM_PORT_CFG, 31, 31⟩
abbrev F.QM_PORT_CFG_dflt_q : FieldRef := ⟨R.QM_PORT_CFG, 30, 19⟩
abbrev F.QM_PORT_CFG_c2_weight : FieldRef := ⟨R.QM_PORT_CFG, 18, 13⟩
abbrev F.QM_PORT_CFG_c1_weight : FieldRef := ⟨R.QM_PORT_CFG, 12, 7⟩
abbrev F.QM_PORT_CFG_slot_ns : FieldRef := ⟨R.QM_PORT_CFG, 6, 0⟩
abbrev F.QM_FAR_BASE_addr : FieldRef := ⟨R.QM_FAR_BASE, 25, 0⟩
abbrev F.QM_FAR_LINK_addr : FieldRef := ⟨R.QM_FAR_LINK, 25, 0⟩
abbrev F.QM_FAR_CELLS_cells : FieldRef := ⟨R.QM_FAR_CELLS, 28, 0⟩
abbrev F.QM_FAR_FREE_cells : FieldRef := ⟨R.QM_FAR_FREE, 28, 0⟩
abbrev F.QM_PORT_CAL_valid0 : FieldRef := ⟨R.QM_PORT_CAL, 15, 15⟩
abbrev F.QM_PORT_CAL_valid1 : FieldRef := ⟨R.QM_PORT_CAL, 31, 31⟩
abbrev F.QM_PORT_CAL_queue0 : FieldRef := ⟨R.QM_PORT_CAL, 9, 0⟩
abbrev F.QM_PORT_CAL_queue1 : FieldRef := ⟨R.QM_PORT_CAL, 25, 16⟩
abbrev F.QM_LVL_PEND_pend : FieldRef := ⟨R.QM_LVL_PEND, 31, 0⟩
abbrev F.FS_STATUS_stash_any : FieldRef := ⟨R.FS_STATUS, 3, 3⟩
abbrev F.FS_STATUS_full_any : FieldRef := ⟨R.FS_STATUS, 2, 2⟩
abbrev F.FS_STATUS_uncorr_any : FieldRef := ⟨R.FS_STATUS, 1, 1⟩
abbrev F.FS_STATUS_wr_ignored : FieldRef := ⟨R.FS_STATUS, 0, 0⟩
abbrev F.FS_BLK_COMMIT_grp1 : FieldRef := ⟨R.FS_BLK_COMMIT, 1, 1⟩
abbrev F.FS_BLK_COMMIT_grp0 : FieldRef := ⟨R.FS_BLK_COMMIT, 0, 0⟩
abbrev F.FS_CTRL_max_kicks : FieldRef := ⟨R.FS_CTRL, 8, 4⟩
abbrev F.FS_CTRL_reloc_en : FieldRef := ⟨R.FS_CTRL, 0, 0⟩
abbrev F.FS_SEED0_seed : FieldRef := ⟨R.FS_SEED0, 31, 0⟩
abbrev F.FS_SEED1_seed : FieldRef := ⟨R.FS_SEED1, 31, 0⟩
abbrev F.FS_OCC_stash : FieldRef := ⟨R.FS_OCC, 27, 21⟩
abbrev F.FS_OCC_entries : FieldRef := ⟨R.FS_OCC, 20, 0⟩
abbrev F.FS_OPS_count : FieldRef := ⟨R.FS_OPS, 31, 0⟩
abbrev F.FS_MISSES_count : FieldRef := ⟨R.FS_MISSES, 31, 0⟩
abbrev F.FS_FULL_uncorr : FieldRef := ⟨R.FS_FULL, 31, 16⟩
abbrev F.FS_FULL_full : FieldRef := ⟨R.FS_FULL, 15, 0⟩
abbrev F.FS_AGE_CTRL_go : FieldRef := ⟨R.FS_AGE_CTRL, 31, 31⟩
abbrev F.FS_AGE_CTRL_busy : FieldRef := ⟨R.FS_AGE_CTRL, 30, 30⟩
abbrev F.FS_AGE_CTRL_done : FieldRef := ⟨R.FS_AGE_CTRL, 29, 29⟩
abbrev F.FS_AGE_CTRL_action : FieldRef := ⟨R.FS_AGE_CTRL, 28, 28⟩
abbrev F.FS_AGE_THRESH_age : FieldRef := ⟨R.FS_AGE_THRESH, 31, 0⟩
abbrev F.FS_AGE_RES_aged : FieldRef := ⟨R.FS_AGE_RES, 20, 0⟩
abbrev F.FS_KILL_go : FieldRef := ⟨R.FS_KILL, 31, 31⟩
abbrev F.FS_KILL_stash : FieldRef := ⟨R.FS_KILL, 20, 20⟩
abbrev F.FS_KILL_index : FieldRef := ⟨R.FS_KILL, 19, 0⟩
abbrev F.FS_PROFILE_learn : FieldRef := ⟨R.FS_PROFILE, 27, 27⟩
abbrev F.FS_PROFILE_port_byte : FieldRef := ⟨R.FS_PROFILE, 26, 26⟩
abbrev F.FS_PROFILE_len1 : FieldRef := ⟨R.FS_PROFILE, 25, 20⟩
abbrev F.FS_PROFILE_off1 : FieldRef := ⟨R.FS_PROFILE, 19, 13⟩
abbrev F.FS_PROFILE_len0 : FieldRef := ⟨R.FS_PROFILE, 12, 7⟩
abbrev F.FS_PROFILE_off0 : FieldRef := ⟨R.FS_PROFILE, 6, 0⟩
abbrev F.FS_PORT_PROF_prof0 : FieldRef := ⟨R.FS_PORT_PROF, 2, 0⟩
abbrev F.FS_PORT_PROF_prof1 : FieldRef := ⟨R.FS_PORT_PROF, 5, 3⟩
abbrev F.FS_PORT_PROF_prof2 : FieldRef := ⟨R.FS_PORT_PROF, 8, 6⟩
abbrev F.FS_PORT_PROF_prof3 : FieldRef := ⟨R.FS_PORT_PROF, 11, 9⟩
abbrev F.FS_PORT_PROF_prof4 : FieldRef := ⟨R.FS_PORT_PROF, 14, 12⟩
abbrev F.FS_PORT_PROF_prof5 : FieldRef := ⟨R.FS_PORT_PROF, 17, 15⟩
abbrev F.FS_PORT_PROF_prof6 : FieldRef := ⟨R.FS_PORT_PROF, 20, 18⟩
abbrev F.FS_PORT_PROF_prof7 : FieldRef := ⟨R.FS_PORT_PROF, 23, 21⟩
abbrev F.QM_CT_RATE_rate : FieldRef := ⟨R.QM_CT_RATE, 23, 0⟩
abbrev F.QM_CT_BURST_burst : FieldRef := ⟨R.QM_CT_BURST, 23, 0⟩
abbrev F.QM_CT_PKT_c_unit : FieldRef := ⟨R.QM_CT_PKT, 30, 16⟩
abbrev F.QM_CT_PKT_c_max : FieldRef := ⟨R.QM_CT_PKT, 14, 0⟩
abbrev F.QM_CT_OP_min_op : FieldRef := ⟨R.QM_CT_OP, 2, 0⟩
abbrev F.QM_CT_ISL_LO_isl : FieldRef := ⟨R.QM_CT_ISL_LO, 31, 0⟩
abbrev F.QM_CT_ISL_HI_isl : FieldRef := ⟨R.QM_CT_ISL_HI, 15, 0⟩
abbrev F.QM_CT_CMD_op : FieldRef := ⟨R.QM_CT_CMD, 1, 0⟩
abbrev F.QM_CT_STAT_committed : FieldRef := ⟨R.QM_CT_STAT, 31, 31⟩
abbrev F.QM_CT_STAT_fail : FieldRef := ⟨R.QM_CT_STAT, 3, 0⟩
abbrev F.QM_Q_BOUND_ns : FieldRef := ⟨R.QM_Q_BOUND, 31, 0⟩
abbrev F.QM_Q_SLACK_ns : FieldRef := ⟨R.QM_Q_SLACK, 31, 0⟩
abbrev F.QM_PROMISE_STATUS_consumer : FieldRef := ⟨R.QM_PROMISE_STATUS, 5, 5⟩
abbrev F.QM_PROMISE_STATUS_op_low : FieldRef := ⟨R.QM_PROMISE_STATUS, 4, 4⟩
abbrev F.QM_PROMISE_STATUS_retrain : FieldRef := ⟨R.QM_PROMISE_STATUS, 3, 3⟩
abbrev F.QM_PROMISE_STATUS_fault : FieldRef := ⟨R.QM_PROMISE_STATUS, 2, 2⟩
abbrev F.QM_PROMISE_STATUS_throttle : FieldRef := ⟨R.QM_PROMISE_STATUS, 1, 1⟩
abbrev F.QM_PROMISE_STATUS_susp : FieldRef := ⟨R.QM_PROMISE_STATUS, 0, 0⟩
abbrev F.QM_Q_LATE_late : FieldRef := ⟨R.QM_Q_LATE, 31, 16⟩
abbrev F.QM_Q_LATE_late_susp : FieldRef := ⟨R.QM_Q_LATE, 15, 0⟩
abbrev F.QM_Q_WORST_ns : FieldRef := ⟨R.QM_Q_WORST, 31, 0⟩
abbrev F.QM_PROMISE_SUM_suspended : FieldRef := ⟨R.QM_PROMISE_SUM, 12, 0⟩
abbrev F.LP_STATUS_data_lost : FieldRef := ⟨R.LP_STATUS, 6, 6⟩
abbrev F.LP_STATUS_fsp : FieldRef := ⟨R.LP_STATUS, 5, 5⟩
abbrev F.LP_STATUS_state : FieldRef := ⟨R.LP_STATUS, 4, 2⟩
abbrev F.LP_STATUS_uncorr_any : FieldRef := ⟨R.LP_STATUS, 1, 1⟩
abbrev F.LP_STATUS_wr_ignored : FieldRef := ⟨R.LP_STATUS, 0, 0⟩
abbrev F.LP_BLK_COMMIT_grp0 : FieldRef := ⟨R.LP_BLK_COMMIT, 0, 0⟩
abbrev F.LP_CFG_rate_b : FieldRef := ⟨R.LP_CFG, 9, 8⟩
abbrev F.LP_CFG_rate_a : FieldRef := ⟨R.LP_CFG, 7, 6⟩
abbrev F.LP_CFG_ranks : FieldRef := ⟨R.LP_CFG, 5, 5⟩
abbrev F.LP_CFG_gib : FieldRef := ⟨R.LP_CFG, 4, 0⟩
abbrev F.LP_REF_b4 : FieldRef := ⟨R.LP_REF, 9, 8⟩
abbrev F.LP_REF_b3 : FieldRef := ⟨R.LP_REF, 7, 6⟩
abbrev F.LP_REF_b2 : FieldRef := ⟨R.LP_REF, 5, 4⟩
abbrev F.LP_REF_b1 : FieldRef := ⟨R.LP_REF, 3, 2⟩
abbrev F.LP_REF_b0 : FieldRef := ⟨R.LP_REF, 1, 0⟩
abbrev F.LP_PWR_track_ms : FieldRef := ⟨R.LP_PWR, 23, 16⟩
abbrev F.LP_PWR_pd_idle_ns : FieldRef := ⟨R.LP_PWR, 15, 0⟩
abbrev F.LP_TEMP_band : FieldRef := ⟨R.LP_TEMP, 10, 8⟩
abbrev F.LP_TEMP_mr4 : FieldRef := ⟨R.LP_TEMP, 7, 4⟩
abbrev F.LP_TEMP_mult : FieldRef := ⟨R.LP_TEMP, 1, 0⟩
abbrev F.LP_ERR_uncorr : FieldRef := ⟨R.LP_ERR, 31, 16⟩
abbrev F.LP_ERR_corrected : FieldRef := ⟨R.LP_ERR, 15, 0⟩
abbrev F.LP_ERR_LAST_uncorr : FieldRef := ⟨R.LP_ERR_LAST, 31, 31⟩
abbrev F.LP_ERR_LAST_poison : FieldRef := ⟨R.LP_ERR_LAST, 30, 30⟩
abbrev F.LP_ERR_LAST_line : FieldRef := ⟨R.LP_ERR_LAST, 27, 0⟩
abbrev F.LP_ERR_LANE_lane : FieldRef := ⟨R.LP_ERR_LANE, 4, 0⟩
abbrev F.LP_CMD_op : FieldRef := ⟨R.LP_CMD, 1, 0⟩
abbrev F.MEE_STATUS_badpage_any : FieldRef := ⟨R.MEE_STATUS, 3, 3⟩
abbrev F.MEE_STATUS_tag_any : FieldRef := ⟨R.MEE_STATUS, 2, 2⟩
abbrev F.MEE_STATUS_walk_busy : FieldRef := ⟨R.MEE_STATUS, 1, 1⟩
abbrev F.MEE_STATUS_wr_ignored : FieldRef := ⟨R.MEE_STATUS, 0, 0⟩
abbrev F.MEE_BLK_COMMIT_grp0 : FieldRef := ⟨R.MEE_BLK_COMMIT, 0, 0⟩
abbrev F.MEE_CTRL_eager_at : FieldRef := ⟨R.MEE_CTRL, 6, 0⟩
abbrev F.MEE_CTR_BASE_base : FieldRef := ⟨R.MEE_CTR_BASE, 16, 0⟩
abbrev F.MEE_TREE_BASE_base : FieldRef := ⟨R.MEE_TREE_BASE, 16, 0⟩
abbrev F.MEE_REG_SEL_region : FieldRef := ⟨R.MEE_REG_SEL, 4, 0⟩
abbrev F.MEE_REG_BASE_block : FieldRef := ⟨R.MEE_REG_BASE, 16, 0⟩
abbrev F.MEE_REG_LIMIT_block : FieldRef := ⟨R.MEE_REG_LIMIT, 16, 0⟩
abbrev F.MEE_REG_CFG_en : FieldRef := ⟨R.MEE_REG_CFG, 31, 31⟩
abbrev F.MEE_REG_CFG_init : FieldRef := ⟨R.MEE_REG_CFG, 30, 30⟩
abbrev F.MEE_REG_CFG_eager : FieldRef := ⟨R.MEE_REG_CFG, 29, 29⟩
abbrev F.MEE_REG_CFG_mode : FieldRef := ⟨R.MEE_REG_CFG, 28, 27⟩
abbrev F.MEE_REG_CFG_ecc : FieldRef := ⟨R.MEE_REG_CFG, 26, 26⟩
abbrev F.MEE_REG_CFG_key : FieldRef := ⟨R.MEE_REG_CFG, 5, 0⟩
abbrev F.MEE_REG_RIGHTS_dbg : FieldRef := ⟨R.MEE_REG_RIGHTS, 12, 12⟩
abbrev F.MEE_REG_RIGHTS_class0 : FieldRef := ⟨R.MEE_REG_RIGHTS, 1, 0⟩
abbrev F.MEE_REG_RIGHTS_class1 : FieldRef := ⟨R.MEE_REG_RIGHTS, 3, 2⟩
abbrev F.MEE_REG_RIGHTS_class2 : FieldRef := ⟨R.MEE_REG_RIGHTS, 5, 4⟩
abbrev F.MEE_REG_RIGHTS_class3 : FieldRef := ⟨R.MEE_REG_RIGHTS, 7, 6⟩
abbrev F.MEE_REG_RIGHTS_class4 : FieldRef := ⟨R.MEE_REG_RIGHTS, 9, 8⟩
abbrev F.MEE_REG_RIGHTS_class5 : FieldRef := ⟨R.MEE_REG_RIGHTS, 11, 10⟩
abbrev F.MEE_KEY_CMD_op : FieldRef := ⟨R.MEE_KEY_CMD, 31, 30⟩
abbrev F.MEE_KEY_CMD_slot : FieldRef := ⟨R.MEE_KEY_CMD, 29, 24⟩
abbrev F.MEE_KEY_CMD_src : FieldRef := ⟨R.MEE_KEY_CMD, 16, 16⟩
abbrev F.MEE_KEY_CMD_label : FieldRef := ⟨R.MEE_KEY_CMD, 15, 0⟩
abbrev F.MEE_KEY_STAT_busy : FieldRef := ⟨R.MEE_KEY_STAT, 31, 31⟩
abbrev F.MEE_KEY_STAT_result : FieldRef := ⟨R.MEE_KEY_STAT, 30, 28⟩
abbrev F.MEE_KEY_STAT_active : FieldRef := ⟨R.MEE_KEY_STAT, 6, 6⟩
abbrev F.MEE_KEY_STAT_slot : FieldRef := ⟨R.MEE_KEY_STAT, 5, 0⟩
abbrev F.MEE_CMD_op : FieldRef := ⟨R.MEE_CMD, 31, 30⟩
abbrev F.MEE_CMD_region : FieldRef := ⟨R.MEE_CMD, 10, 6⟩
abbrev F.MEE_CMD_key : FieldRef := ⟨R.MEE_CMD, 5, 0⟩
abbrev F.MEE_WALK_STAT_busy : FieldRef := ⟨R.MEE_WALK_STAT, 31, 31⟩
abbrev F.MEE_WALK_STAT_op : FieldRef := ⟨R.MEE_WALK_STAT, 30, 29⟩
abbrev F.MEE_WALK_STAT_pages : FieldRef := ⟨R.MEE_WALK_STAT, 25, 0⟩
abbrev F.MEE_ERR_reenc : FieldRef := ⟨R.MEE_ERR, 31, 16⟩
abbrev F.MEE_ERR_tag_fail : FieldRef := ⟨R.MEE_ERR, 15, 0⟩
abbrev F.MEE_FAIL_LAST_page : FieldRef := ⟨R.MEE_FAIL_LAST, 25, 0⟩
abbrev F.LN_STATUS_down_any : FieldRef := ⟨R.LN_STATUS, 2, 2⟩
abbrev F.LN_STATUS_up : FieldRef := ⟨R.LN_STATUS, 1, 1⟩
abbrev F.LN_STATUS_wr_ignored : FieldRef := ⟨R.LN_STATUS, 0, 0⟩
abbrev F.LN_CTRL_restart : FieldRef := ⟨R.LN_CTRL, 31, 31⟩
abbrev F.LN_CTRL_lane_en : FieldRef := ⟨R.LN_CTRL, 23, 16⟩
abbrev F.LN_CTRL_lb : FieldRef := ⟨R.LN_CTRL, 10, 8⟩
abbrev F.LN_CTRL_test : FieldRef := ⟨R.LN_CTRL, 7, 7⟩
abbrev F.LN_CTRL_rate : FieldRef := ⟨R.LN_CTRL, 6, 4⟩
abbrev F.LN_CTRL_mode : FieldRef := ⟨R.LN_CTRL, 3, 3⟩
abbrev F.LN_CTRL_en : FieldRef := ⟨R.LN_CTRL, 0, 0⟩
abbrev F.LN_STATE_lane_up : FieldRef := ⟨R.LN_STATE, 31, 24⟩
abbrev F.LN_STATE_rx_inv : FieldRef := ⟨R.LN_STATE, 23, 16⟩
abbrev F.LN_STATE_reversed : FieldRef := ⟨R.LN_STATE, 15, 15⟩
abbrev F.LN_STATE_fail : FieldRef := ⟨R.LN_STATE, 11, 8⟩
abbrev F.LN_STATE_tries : FieldRef := ⟨R.LN_STATE, 7, 4⟩
abbrev F.LN_STATE_state : FieldRef := ⟨R.LN_STATE, 3, 0⟩
abbrev F.LN_LANE_SEL_lane : FieldRef := ⟨R.LN_LANE_SEL, 2, 0⟩
abbrev F.LN_PRBS_CTRL_gen_en : FieldRef := ⟨R.LN_PRBS_CTRL, 31, 24⟩
abbrev F.LN_PRBS_CTRL_chk_en : FieldRef := ⟨R.LN_PRBS_CTRL, 23, 16⟩
abbrev F.LN_PRBS_CTRL_pattern : FieldRef := ⟨R.LN_PRBS_CTRL, 3, 0⟩
abbrev F.LN_PRBS_STAT_lock : FieldRef := ⟨R.LN_PRBS_STAT, 31, 31⟩
abbrev F.LN_PRBS_STAT_errors : FieldRef := ⟨R.LN_PRBS_STAT, 30, 0⟩
abbrev F.LN_INJ_go : FieldRef := ⟨R.LN_INJ, 31, 31⟩
abbrev F.LN_INJ_mode : FieldRef := ⟨R.LN_INJ, 29, 28⟩
abbrev F.LN_INJ_rate_exp : FieldRef := ⟨R.LN_INJ, 21, 16⟩
abbrev F.LN_INJ_burst_len : FieldRef := ⟨R.LN_INJ, 13, 8⟩
abbrev F.LN_INJ_lanes : FieldRef := ⟨R.LN_INJ, 7, 0⟩
abbrev F.GR_STATUS_time_lock : FieldRef := ⟨R.GR_STATUS, 3, 3⟩
abbrev F.GR_STATUS_down_any : FieldRef := ⟨R.GR_STATUS, 2, 2⟩
abbrev F.GR_STATUS_retrain_any : FieldRef := ⟨R.GR_STATUS, 1, 1⟩
abbrev F.GR_STATUS_wr_ignored : FieldRef := ⟨R.GR_STATUS, 0, 0⟩
abbrev F.GR_BLK_COMMIT_grp0 : FieldRef := ⟨R.GR_BLK_COMMIT, 0, 0⟩
abbrev F.GR_SEL_bundle : FieldRef := ⟨R.GR_SEL, 3, 0⟩
abbrev F.GR_CTRL_time_role : FieldRef := ⟨R.GR_CTRL, 13, 12⟩
abbrev F.GR_CTRL_ver_max : FieldRef := ⟨R.GR_CTRL, 11, 8⟩
abbrev F.GR_CTRL_rate_max : FieldRef := ⟨R.GR_CTRL, 6, 4⟩
abbrev F.GR_CTRL_vc_mask : FieldRef := ⟨R.GR_CTRL, 3, 0⟩
abbrev F.GR_LINK_state : FieldRef := ⟨R.GR_LINK, 31, 28⟩
abbrev F.GR_LINK_ver : FieldRef := ⟨R.GR_LINK, 27, 24⟩
abbrev F.GR_LINK_rate : FieldRef := ⟨R.GR_LINK, 22, 20⟩
abbrev F.GR_LINK_vcs : FieldRef := ⟨R.GR_LINK, 19, 16⟩
abbrev F.GR_LINK_peer_dev : FieldRef := ⟨R.GR_LINK, 15, 12⟩
abbrev F.GR_LINK_retrains : FieldRef := ⟨R.GR_LINK, 7, 0⟩
abbrev F.GR_PEER_CAP_LO_cap : FieldRef := ⟨R.GR_PEER_CAP_LO, 31, 0⟩
abbrev F.GR_PEER_CAP_HI_cap : FieldRef := ⟨R.GR_PEER_CAP_HI, 31, 0⟩
abbrev F.GR_LAT_lat : FieldRef := ⟨R.GR_LAT, 19, 0⟩
abbrev F.GR_HOP_BOUND_ns : FieldRef := ⟨R.GR_HOP_BOUND, 31, 0⟩
abbrev F.GR_REPLAY_crc_fail : FieldRef := ⟨R.GR_REPLAY, 31, 16⟩
abbrev F.GR_REPLAY_replays : FieldRef := ⟨R.GR_REPLAY, 15, 0⟩
abbrev F.GR_FEC_uncorr : FieldRef := ⟨R.GR_FEC, 31, 16⟩
abbrev F.GR_FEC_corrected : FieldRef := ⟨R.GR_FEC, 15, 0⟩
abbrev F.GR_TIME_OFS_ps : FieldRef := ⟨R.GR_TIME_OFS, 31, 0⟩
abbrev F.GR_ASYM_ps : FieldRef := ⟨R.GR_ASYM, 15, 0⟩
abbrev F.GR_CMD_op : FieldRef := ⟨R.GR_CMD, 1, 0⟩
abbrev F.GR_CAL_LO_valid : FieldRef := ⟨R.GR_CAL_LO, 31, 0⟩
abbrev F.GR_CAL_HI_valid : FieldRef := ⟨R.GR_CAL_HI, 31, 0⟩
abbrev F.GR_VC0_MAX_flits : FieldRef := ⟨R.GR_VC0_MAX, 8, 0⟩
abbrev F.PCI_STATUS_width : FieldRef := ⟨R.PCI_STATUS, 10, 8⟩
abbrev F.PCI_STATUS_gen : FieldRef := ⟨R.PCI_STATUS, 7, 5⟩
abbrev F.PCI_STATUS_l1 : FieldRef := ⟨R.PCI_STATUS, 4, 4⟩
abbrev F.PCI_STATUS_up : FieldRef := ⟨R.PCI_STATUS, 3, 3⟩
abbrev F.PCI_STATUS_ring_fault : FieldRef := ⟨R.PCI_STATUS, 2, 2⟩
abbrev F.PCI_STATUS_wr_ignored : FieldRef := ⟨R.PCI_STATUS, 0, 0⟩
abbrev F.PCI_BLK_COMMIT_grp0 : FieldRef := ⟨R.PCI_BLK_COMMIT, 0, 0⟩
abbrev F.PCI_WIN_BASE_base : FieldRef := ⟨R.PCI_WIN_BASE, 11, 0⟩
abbrev F.PCI_LTR_host_tol_us : FieldRef := ⟨R.PCI_LTR, 31, 16⟩
abbrev F.PCI_LTR_send_us : FieldRef := ⟨R.PCI_LTR, 15, 0⟩
abbrev F.PCI_ERR_dropped_wr : FieldRef := ⟨R.PCI_ERR, 31, 16⟩
abbrev F.PCI_ERR_ur_reads : FieldRef := ⟨R.PCI_ERR, 15, 0⟩
abbrev F.PCI_RSEL_ring : FieldRef := ⟨R.PCI_RSEL, 7, 0⟩
abbrev F.PCI_RING_CFG_en : FieldRef := ⟨R.PCI_RING_CFG, 31, 31⟩
abbrev F.PCI_RING_CFG_dir : FieldRef := ⟨R.PCI_RING_CFG, 30, 30⟩
abbrev F.PCI_RING_CFG_func : FieldRef := ⟨R.PCI_RING_CFG, 29, 24⟩
abbrev F.PCI_RING_CFG_log_size : FieldRef := ⟨R.PCI_RING_CFG, 23, 20⟩
abbrev F.PCI_RING_CFG_queue : FieldRef := ⟨R.PCI_RING_CFG, 19, 8⟩
abbrev F.PCI_RING_BASE_LO_addr : FieldRef := ⟨R.PCI_RING_BASE_LO, 31, 0⟩
abbrev F.PCI_RING_BASE_HI_addr : FieldRef := ⟨R.PCI_RING_BASE_HI, 31, 0⟩
abbrev F.PCI_RING_IRQ_irq_en : FieldRef := ⟨R.PCI_RING_IRQ, 31, 31⟩
abbrev F.PCI_RING_IRQ_holdoff_us : FieldRef := ⟨R.PCI_RING_IRQ, 23, 16⟩
abbrev F.PCI_RING_IRQ_vec : FieldRef := ⟨R.PCI_RING_IRQ, 10, 0⟩
abbrev F.PCI_RING_IDX_prod : FieldRef := ⟨R.PCI_RING_IDX, 31, 16⟩
abbrev F.PCI_RING_IDX_cons : FieldRef := ⟨R.PCI_RING_IDX, 15, 0⟩
abbrev F.ETH_STATUS_time_lock : FieldRef := ⟨R.ETH_STATUS, 2, 2⟩
abbrev F.ETH_STATUS_link_down_any : FieldRef := ⟨R.ETH_STATUS, 1, 1⟩
abbrev F.ETH_STATUS_wr_ignored : FieldRef := ⟨R.ETH_STATUS, 0, 0⟩
abbrev F.ETH_BLK_COMMIT_grp0 : FieldRef := ⟨R.ETH_BLK_COMMIT, 0, 0⟩
abbrev F.ETH_SEL_mac : FieldRef := ⟨R.ETH_SEL, 6, 0⟩
abbrev F.ETH_MAC_CFG_en : FieldRef := ⟨R.ETH_MAC_CFG, 31, 31⟩
abbrev F.ETH_MAC_CFG_fec_en : FieldRef := ⟨R.ETH_MAC_CFG, 30, 30⟩
abbrev F.ETH_MAC_CFG_max_frame : FieldRef := ⟨R.ETH_MAC_CFG, 29, 16⟩
abbrev F.ETH_MAC_CFG_speed : FieldRef := ⟨R.ETH_MAC_CFG, 2, 0⟩
abbrev F.ETH_MAC_STAT_link_up : FieldRef := ⟨R.ETH_MAC_STAT, 31, 31⟩
abbrev F.ETH_MAC_STAT_rx_paused : FieldRef := ⟨R.ETH_MAC_STAT, 15, 8⟩
abbrev F.ETH_MAC_STAT_tx_xoff : FieldRef := ⟨R.ETH_MAC_STAT, 7, 0⟩
abbrev F.ETH_MAC_CNT_rx_bad : FieldRef := ⟨R.ETH_MAC_CNT, 31, 16⟩
abbrev F.ETH_MAC_CNT_tx_poisoned : FieldRef := ⟨R.ETH_MAC_CNT, 15, 0⟩
abbrev F.ETH_FEC_CNT_uncorr : FieldRef := ⟨R.ETH_FEC_CNT, 31, 16⟩
abbrev F.ETH_FEC_CNT_corrected : FieldRef := ⟨R.ETH_FEC_CNT, 15, 0⟩
abbrev F.ETH_PFC_en : FieldRef := ⟨R.ETH_PFC, 31, 31⟩
abbrev F.ETH_PFC_xoff_kib : FieldRef := ⟨R.ETH_PFC, 23, 16⟩
abbrev F.ETH_PFC_c0_pri : FieldRef := ⟨R.ETH_PFC, 8, 6⟩
abbrev F.ETH_PFC_c1_pri : FieldRef := ⟨R.ETH_PFC, 5, 3⟩
abbrev F.ETH_PFC_c2_pri : FieldRef := ⟨R.ETH_PFC, 2, 0⟩
abbrev F.ETH_TS_ADJ_rx_ps : FieldRef := ⟨R.ETH_TS_ADJ, 31, 16⟩
abbrev F.ETH_TS_ADJ_tx_ps : FieldRef := ⟨R.ETH_TS_ADJ, 15, 0⟩
abbrev F.ETH_TXTS_TAG_valid : FieldRef := ⟨R.ETH_TXTS_TAG, 31, 31⟩
abbrev F.ETH_TXTS_TAG_mac : FieldRef := ⟨R.ETH_TXTS_TAG, 22, 16⟩
abbrev F.ETH_TXTS_TAG_tag : FieldRef := ⟨R.ETH_TXTS_TAG, 15, 0⟩
abbrev F.ETH_TXTS_LO_time : FieldRef := ⟨R.ETH_TXTS_LO, 31, 0⟩
abbrev F.ETH_TXTS_HI_time : FieldRef := ⟨R.ETH_TXTS_HI, 31, 0⟩
abbrev F.ETH_TIME_CTRL_src : FieldRef := ⟨R.ETH_TIME_CTRL, 31, 30⟩
abbrev F.ETH_TIME_CTRL_slewed : FieldRef := ⟨R.ETH_TIME_CTRL, 29, 24⟩
abbrev F.ETH_TIME_CTRL_rate : FieldRef := ⟨R.ETH_TIME_CTRL, 23, 0⟩
abbrev F.ETH_TIME_LO_time : FieldRef := ⟨R.ETH_TIME_LO, 31, 0⟩
abbrev F.ETH_TIME_HI_time : FieldRef := ⟨R.ETH_TIME_HI, 31, 0⟩
abbrev F.ETH_TIME_STEP_ns : FieldRef := ⟨R.ETH_TIME_STEP, 31, 0⟩
abbrev F.CFG_STATUS_stage : FieldRef := ⟨R.CFG_STATUS, 31, 28⟩
abbrev F.CFG_STATUS_mode : FieldRef := ⟨R.CFG_STATUS, 27, 25⟩
abbrev F.CFG_STATUS_attempt : FieldRef := ⟨R.CFG_STATUS, 24, 23⟩
abbrev F.CFG_STATUS_chain_busy : FieldRef := ⟨R.CFG_STATUS, 22, 22⟩
abbrev F.CFG_STATUS_frdy : FieldRef := ⟨R.CFG_STATUS, 21, 21⟩
abbrev F.CFG_STATUS_done_pin : FieldRef := ⟨R.CFG_STATUS, 20, 20⟩
abbrev F.CFG_STATUS_settings_b : FieldRef := ⟨R.CFG_STATUS, 19, 19⟩
abbrev F.CFG_STATUS_settings_dflt : FieldRef := ⟨R.CFG_STATUS, 18, 18⟩
abbrev F.CFG_STATUS_wr_ignored : FieldRef := ⟨R.CFG_STATUS, 0, 0⟩
abbrev F.CFG_BOOT_TIME_us : FieldRef := ⟨R.CFG_BOOT_TIME, 31, 0⟩
abbrev F.CFG_LOAD_SRC_src : FieldRef := ⟨R.CFG_LOAD_SRC, 1, 0⟩
abbrev F.CFG_LOAD_ADDR_LO_addr : FieldRef := ⟨R.CFG_LOAD_ADDR_LO, 31, 0⟩
abbrev F.CFG_LOAD_ADDR_HI_addr : FieldRef := ⟨R.CFG_LOAD_ADDR_HI, 31, 0⟩
abbrev F.CFG_LOAD_LEN_bytes : FieldRef := ⟨R.CFG_LOAD_LEN, 31, 0⟩
abbrev F.CFG_LOAD_CMD_go : FieldRef := ⟨R.CFG_LOAD_CMD, 0, 0⟩
abbrev F.CFG_LOAD_STAT_busy : FieldRef := ⟨R.CFG_LOAD_STAT, 31, 31⟩
abbrev F.CFG_LOAD_STAT_ok : FieldRef := ⟨R.CFG_LOAD_STAT, 30, 30⟩
abbrev F.CFG_LOAD_STAT_fault : FieldRef := ⟨R.CFG_LOAD_STAT, 15, 0⟩
abbrev F.CFG_STREAM_DROP_bytes : FieldRef := ⟨R.CFG_STREAM_DROP, 31, 0⟩
abbrev F.CFG_BOOT_FAULT_first : FieldRef := ⟨R.CFG_BOOT_FAULT, 31, 16⟩
abbrev F.CFG_BOOT_FAULT_retry : FieldRef := ⟨R.CFG_BOOT_FAULT, 15, 0⟩
abbrev F.CFG_GOLDEN_FAULT_golden : FieldRef := ⟨R.CFG_GOLDEN_FAULT, 15, 0⟩
abbrev F.CI_STATUS_dead_any : FieldRef := ⟨R.CI_STATUS, 4, 4⟩
abbrev F.CI_STATUS_halt_any : FieldRef := ⟨R.CI_STATUS, 3, 3⟩
abbrev F.CI_STATUS_plane_bad_any : FieldRef := ⟨R.CI_STATUS, 2, 2⟩
abbrev F.CI_STATUS_corr_any : FieldRef := ⟨R.CI_STATUS, 1, 1⟩
abbrev F.CI_STATUS_wr_ignored : FieldRef := ⟨R.CI_STATUS, 0, 0⟩
abbrev F.CI_BLK_COMMIT_grp0 : FieldRef := ⟨R.CI_BLK_COMMIT, 0, 0⟩
abbrev F.CI_CTRL_lap_us : FieldRef := ⟨R.CI_CTRL, 31, 16⟩
abbrev F.CI_CTRL_report_halt : FieldRef := ⟨R.CI_CTRL, 1, 1⟩
abbrev F.CI_CTRL_en : FieldRef := ⟨R.CI_CTRL, 0, 0⟩
abbrev F.CI_SEL_sector : FieldRef := ⟨R.CI_SEL, 6, 0⟩
abbrev F.CI_SEC_STAT_state : FieldRef := ⟨R.CI_SEC_STAT, 31, 29⟩
abbrev F.CI_SEC_STAT_plane_bad : FieldRef := ⟨R.CI_SEC_STAT, 23, 16⟩
abbrev F.CI_SEC_STAT_laps : FieldRef := ⟨R.CI_SEC_STAT, 15, 0⟩
abbrev F.CI_SEC_CNT_plane_corr : FieldRef := ⟨R.CI_SEC_CNT, 31, 16⟩
abbrev F.CI_SEC_CNT_latch_corr : FieldRef := ⟨R.CI_SEC_CNT, 15, 0⟩
abbrev F.CI_LAST_where : FieldRef := ⟨R.CI_LAST, 31, 30⟩
abbrev F.CI_LAST_outcome : FieldRef := ⟨R.CI_LAST, 29, 28⟩
abbrev F.CI_LAST_frame : FieldRef := ⟨R.CI_LAST, 22, 0⟩
abbrev F.CI_LAP_laps : FieldRef := ⟨R.CI_LAP, 31, 24⟩
abbrev F.CI_LAP_lap_us : FieldRef := ⟨R.CI_LAP, 23, 0⟩
abbrev F.CI_VOTE_count : FieldRef := ⟨R.CI_VOTE, 31, 0⟩
abbrev F.CI_CMD_op : FieldRef := ⟨R.CI_CMD, 31, 30⟩
abbrev F.CI_CMD_sector : FieldRef := ⟨R.CI_CMD, 6, 0⟩
abbrev F.CI_POLICY_policy : FieldRef := ⟨R.CI_POLICY, 31, 0⟩
abbrev F.CLK_STATUS_loop_locked : FieldRef := ⟨R.CLK_STATUS, 31, 16⟩
abbrev F.CLK_STATUS_ref_lost : FieldRef := ⟨R.CLK_STATUS, 3, 3⟩
abbrev F.CLK_STATUS_trimmed : FieldRef := ⟨R.CLK_STATUS, 2, 2⟩
abbrev F.CLK_STATUS_seq_busy : FieldRef := ⟨R.CLK_STATUS, 1, 1⟩
abbrev F.CLK_STATUS_wr_ignored : FieldRef := ⟨R.CLK_STATUS, 0, 0⟩
abbrev F.CLK_BLK_COMMIT_grp1 : FieldRef := ⟨R.CLK_BLK_COMMIT, 1, 1⟩
abbrev F.CLK_BLK_COMMIT_grp0 : FieldRef := ⟨R.CLK_BLK_COMMIT, 0, 0⟩
abbrev F.CLK_REF_CFG_lane_ref : FieldRef := ⟨R.CLK_REF_CFG, 31, 30⟩
abbrev F.CLK_REF_CFG_dram_ref : FieldRef := ⟨R.CLK_REF_CFG, 29, 28⟩
abbrev F.CLK_REF_CFG_xb_ext : FieldRef := ⟨R.CLK_REF_CFG, 27, 27⟩
abbrev F.CLK_REF_CFG_xa_ext : FieldRef := ⟨R.CLK_REF_CFG, 26, 26⟩
abbrev F.CLK_REF_CFG_xb_khz : FieldRef := ⟨R.CLK_REF_CFG, 25, 13⟩
abbrev F.CLK_REF_CFG_xa_khz : FieldRef := ⟨R.CLK_REF_CFG, 12, 0⟩
abbrev F.CLK_TRIM_src : FieldRef := ⟨R.CLK_TRIM, 31, 30⟩
abbrev F.CLK_TRIM_bundle : FieldRef := ⟨R.CLK_TRIM, 29, 26⟩
abbrev F.CLK_TRIM_code : FieldRef := ⟨R.CLK_TRIM, 9, 0⟩
abbrev F.CLK_LOOP_CFG_ref : FieldRef := ⟨R.CLK_LOOP_CFG, 31, 30⟩
abbrev F.CLK_LOOP_CFG_alt : FieldRef := ⟨R.CLK_LOOP_CFG, 29, 28⟩
abbrev F.CLK_LOOP_CFG_mult : FieldRef := ⟨R.CLK_LOOP_CFG, 27, 20⟩
abbrev F.CLK_LOOP_CFG_frac : FieldRef := ⟨R.CLK_LOOP_CFG, 19, 8⟩
abbrev F.CLK_LOOP_CFG_spread : FieldRef := ⟨R.CLK_LOOP_CFG, 7, 4⟩
abbrev F.CLK_LOOP_CFG_spread_khz : FieldRef := ⟨R.CLK_LOOP_CFG, 3, 2⟩
abbrev F.CLK_LOOP_CFG_rdbl : FieldRef := ⟨R.CLK_LOOP_CFG, 1, 1⟩
abbrev F.CLK_OP_A_vid : FieldRef := ⟨R.CLK_OP_A, 23, 16⟩
abbrev F.CLK_OP_A_fabric_mhz : FieldRef := ⟨R.CLK_OP_A, 15, 0⟩
abbrev F.CLK_OP_B_engine_mhz : FieldRef := ⟨R.CLK_OP_B, 31, 16⟩
abbrev F.CLK_OP_B_mem_mhz : FieldRef := ⟨R.CLK_OP_B, 15, 0⟩
abbrev F.CLK_ISL_SEL_island : FieldRef := ⟨R.CLK_ISL_SEL, 5, 0⟩
abbrev F.CLK_ISL_OP_target : FieldRef := ⟨R.CLK_ISL_OP, 2, 0⟩
abbrev F.CLK_ISL_STAT_last_us : FieldRef := ⟨R.CLK_ISL_STAT, 31, 16⟩
abbrev F.CLK_ISL_STAT_locked : FieldRef := ⟨R.CLK_ISL_STAT, 6, 6⟩
abbrev F.CLK_ISL_STAT_phase : FieldRef := ⟨R.CLK_ISL_STAT, 5, 3⟩
abbrev F.CLK_ISL_STAT_op : FieldRef := ⟨R.CLK_ISL_STAT, 2, 0⟩
abbrev F.PM_STATUS_dev_state : FieldRef := ⟨R.PM_STATUS, 6, 4⟩
abbrev F.PM_STATUS_reg_fault : FieldRef := ⟨R.PM_STATUS, 1, 1⟩
abbrev F.PM_STATUS_wr_ignored : FieldRef := ⟨R.PM_STATUS, 0, 0⟩
abbrev F.PM_BLK_COMMIT_grp0 : FieldRef := ⟨R.PM_BLK_COMMIT, 0, 0⟩
abbrev F.PM_CTRL_idle_us : FieldRef := ⟨R.PM_CTRL, 15, 8⟩
abbrev F.PM_CTRL_isl_max : FieldRef := ⟨R.PM_CTRL, 5, 4⟩
abbrev F.PM_CTRL_dev_max : FieldRef := ⟨R.PM_CTRL, 1, 0⟩
abbrev F.PM_LAT_TOL_ns : FieldRef := ⟨R.PM_LAT_TOL, 31, 0⟩
abbrev F.PM_SLACK_ns : FieldRef := ⟨R.PM_SLACK, 31, 0⟩
abbrev F.PM_DEV_CMD_op : FieldRef := ⟨R.PM_DEV_CMD, 1, 0⟩
abbrev F.PM_POWER_dw : FieldRef := ⟨R.PM_POWER, 15, 0⟩
abbrev F.PM_ISL_SEL_island : FieldRef := ⟨R.PM_ISL_SEL, 5, 0⟩
abbrev F.PM_ISL_CTRL_max_state : FieldRef := ⟨R.PM_ISL_CTRL, 1, 0⟩
abbrev F.PM_ISL_STAT_last_exit_ns : FieldRef := ⟨R.PM_ISL_STAT, 31, 16⟩
abbrev F.PM_ISL_STAT_eligible : FieldRef := ⟨R.PM_ISL_STAT, 3, 3⟩
abbrev F.PM_ISL_STAT_guaranteed : FieldRef := ⟨R.PM_ISL_STAT, 2, 2⟩
abbrev F.PM_ISL_STAT_state : FieldRef := ⟨R.PM_ISL_STAT, 1, 0⟩
abbrev F.PM_WAKE_CNT_count : FieldRef := ⟨R.PM_WAKE_CNT, 31, 0⟩
abbrev F.PM_GUAR_ISL_LO_mask : FieldRef := ⟨R.PM_GUAR_ISL_LO, 31, 0⟩
abbrev F.PM_GUAR_ISL_HI_mask : FieldRef := ⟨R.PM_GUAR_ISL_HI, 15, 0⟩
abbrev F.PM_GUAR_BLK_LO_mask : FieldRef := ⟨R.PM_GUAR_BLK_LO, 31, 0⟩
abbrev F.PM_GUAR_BLK_HI_mask : FieldRef := ⟨R.PM_GUAR_BLK_HI, 3, 0⟩
abbrev F.TH_STATUS_shutdown_last : FieldRef := ⟨R.TH_STATUS, 5, 5⟩
abbrev F.TH_STATUS_rise_any : FieldRef := ⟨R.TH_STATUS, 4, 4⟩
abbrev F.TH_STATUS_suspect_any : FieldRef := ⟨R.TH_STATUS, 3, 3⟩
abbrev F.TH_STATUS_throttle_any : FieldRef := ⟨R.TH_STATUS, 2, 2⟩
abbrev F.TH_STATUS_warn_any : FieldRef := ⟨R.TH_STATUS, 1, 1⟩
abbrev F.TH_STATUS_wr_ignored : FieldRef := ⟨R.TH_STATUS, 0, 0⟩
abbrev F.TH_BLK_COMMIT_grp1 : FieldRef := ⟨R.TH_BLK_COMMIT, 1, 1⟩
abbrev F.TH_BLK_COMMIT_grp0 : FieldRef := ⟨R.TH_BLK_COMMIT, 0, 0⟩
abbrev F.TH_LIMITS_warn : FieldRef := ⟨R.TH_LIMITS, 31, 24⟩
abbrev F.TH_LIMITS_throttle : FieldRef := ⟨R.TH_LIMITS, 23, 16⟩
abbrev F.TH_LIMITS_crit_margin : FieldRef := ⟨R.TH_LIMITS, 15, 12⟩
abbrev F.TH_RISE_removal : FieldRef := ⟨R.TH_RISE, 31, 22⟩
abbrev F.TH_RISE_limit : FieldRef := ⟨R.TH_RISE, 15, 8⟩
abbrev F.TH_RISE_window_ms : FieldRef := ⟨R.TH_RISE, 7, 0⟩
abbrev F.TH_DISAGREE_deg : FieldRef := ⟨R.TH_DISAGREE, 7, 0⟩
abbrev F.TH_EST_CFG_ofs : FieldRef := ⟨R.TH_EST_CFG, 15, 8⟩
abbrev F.TH_EST_CFG_slope : FieldRef := ⟨R.TH_EST_CFG, 7, 0⟩
abbrev F.TH_SEL_island : FieldRef := ⟨R.TH_SEL, 13, 8⟩
abbrev F.TH_SEL_sensor : FieldRef := ⟨R.TH_SEL, 7, 0⟩
abbrev F.TH_SENSOR_failed : FieldRef := ⟨R.TH_SENSOR, 31, 31⟩
abbrev F.TH_SENSOR_suspect : FieldRef := ⟨R.TH_SENSOR, 30, 30⟩
abbrev F.TH_SENSOR_reading : FieldRef := ⟨R.TH_SENSOR, 11, 0⟩
abbrev F.TH_ISL_STAT_removal : FieldRef := ⟨R.TH_ISL_STAT, 31, 22⟩
abbrev F.TH_ISL_STAT_band : FieldRef := ⟨R.TH_ISL_STAT, 21, 19⟩
abbrev F.TH_ISL_STAT_est_used : FieldRef := ⟨R.TH_ISL_STAT, 18, 18⟩
abbrev F.TH_ISL_STAT_t_isl : FieldRef := ⟨R.TH_ISL_STAT, 11, 0⟩
abbrev F.TH_ISL_EST_activity : FieldRef := ⟨R.TH_ISL_EST, 25, 16⟩
abbrev F.TH_ISL_EST_est : FieldRef := ⟨R.TH_ISL_EST, 11, 0⟩
abbrev F.TH_SUSPECT_LO_suspect : FieldRef := ⟨R.TH_SUSPECT_LO, 31, 0⟩
abbrev F.TH_SUSPECT_HI_suspect : FieldRef := ⟨R.TH_SUSPECT_HI, 15, 0⟩
abbrev F.TH_CURVE_removal : FieldRef := ⟨R.TH_CURVE, 25, 16⟩
abbrev F.TH_CURVE_excess : FieldRef := ⟨R.TH_CURVE, 15, 0⟩
abbrev F.TH_BAND_A_refresh : FieldRef := ⟨R.TH_BAND_A, 23, 16⟩
abbrev F.TH_BAND_A_margin : FieldRef := ⟨R.TH_BAND_A, 15, 8⟩
abbrev F.TH_BAND_A_dly_ofs : FieldRef := ⟨R.TH_BAND_A, 7, 0⟩
abbrev F.TH_BAND_B_preset0 : FieldRef := ⟨R.TH_BAND_B, 7, 0⟩
abbrev F.TH_BAND_B_preset1 : FieldRef := ⟨R.TH_BAND_B, 15, 8⟩
abbrev F.TH_BAND_B_preset2 : FieldRef := ⟨R.TH_BAND_B, 23, 16⟩
abbrev F.TH_BAND_B_preset3 : FieldRef := ⟨R.TH_BAND_B, 31, 24⟩
abbrev F.TH_BAND_C_preset0 : FieldRef := ⟨R.TH_BAND_C, 7, 0⟩
abbrev F.TH_BAND_C_preset1 : FieldRef := ⟨R.TH_BAND_C, 15, 8⟩
abbrev F.TH_BAND_C_preset2 : FieldRef := ⟨R.TH_BAND_C, 23, 16⟩
abbrev F.TH_BAND_C_preset3 : FieldRef := ⟨R.TH_BAND_C, 31, 24⟩
abbrev F.MB_STATUS_warm_resets : FieldRef := ⟨R.MB_STATUS, 15, 12⟩
abbrev F.MB_STATUS_shed : FieldRef := ⟨R.MB_STATUS, 11, 10⟩
abbrev F.MB_STATUS_dead : FieldRef := ⟨R.MB_STATUS, 3, 3⟩
abbrev F.MB_STATUS_ring_err : FieldRef := ⟨R.MB_STATUS, 2, 2⟩
abbrev F.MB_STATUS_negotiated : FieldRef := ⟨R.MB_STATUS, 1, 1⟩
abbrev F.MB_STATUS_wr_ignored : FieldRef := ⟨R.MB_STATUS, 0, 0⟩
abbrev F.MB_VERSION_major : FieldRef := ⟨R.MB_VERSION, 15, 8⟩
abbrev F.MB_VERSION_minor : FieldRef := ⟨R.MB_VERSION, 7, 0⟩
abbrev F.MB_CMD_IDX_cons : FieldRef := ⟨R.MB_CMD_IDX, 31, 16⟩
abbrev F.MB_CMD_IDX_prod : FieldRef := ⟨R.MB_CMD_IDX, 15, 0⟩
abbrev F.MB_RSP_IDX_prod : FieldRef := ⟨R.MB_RSP_IDX, 31, 16⟩
abbrev F.MB_RSP_IDX_cons : FieldRef := ⟨R.MB_RSP_IDX, 15, 0⟩
abbrev F.MB_CTRL_reset_ring : FieldRef := ⟨R.MB_CTRL, 31, 31⟩
abbrev F.MB_CTRL_irq_en : FieldRef := ⟨R.MB_CTRL, 11, 11⟩
abbrev F.MB_CTRL_vec : FieldRef := ⟨R.MB_CTRL, 10, 0⟩
abbrev F.MB_LOAD_safety_us : FieldRef := ⟨R.MB_LOAD, 19, 10⟩
abbrev F.MB_LOAD_busy_us : FieldRef := ⟨R.MB_LOAD, 9, 0⟩
abbrev F.MB_SHED_CNT_busy : FieldRef := ⟨R.MB_SHED_CNT, 31, 16⟩
abbrev F.MB_SHED_CNT_skipped : FieldRef := ⟨R.MB_SHED_CNT, 15, 0⟩
abbrev F.MON_STATUS_i3c_dyn : FieldRef := ⟨R.MON_STATUS, 2, 2⟩
abbrev F.MON_STATUS_frame_err : FieldRef := ⟨R.MON_STATUS, 1, 1⟩
abbrev F.MON_STATUS_wr_ignored : FieldRef := ⟨R.MON_STATUS, 0, 0⟩
abbrev F.MON_BLK_COMMIT_grp0 : FieldRef := ⟨R.MON_BLK_COMMIT, 0, 0⟩
abbrev F.MON_CFG_i3c_static : FieldRef := ⟨R.MON_CFG, 30, 24⟩
abbrev F.MON_CFG_i3c_en : FieldRef := ⟨R.MON_CFG, 5, 5⟩
abbrev F.MON_CFG_uart_en : FieldRef := ⟨R.MON_CFG, 4, 4⟩
abbrev F.MON_CFG_baud : FieldRef := ⟨R.MON_CFG, 1, 0⟩
abbrev F.MON_CNT_ok : FieldRef := ⟨R.MON_CNT, 31, 16⟩
abbrev F.MON_CNT_bad : FieldRef := ⟨R.MON_CNT, 15, 0⟩
abbrev F.MON_H2M_IDX_cons : FieldRef := ⟨R.MON_H2M_IDX, 31, 16⟩
abbrev F.MON_H2M_IDX_prod : FieldRef := ⟨R.MON_H2M_IDX, 15, 0⟩
abbrev F.MON_M2H_IDX_prod : FieldRef := ⟨R.MON_M2H_IDX, 31, 16⟩
abbrev F.MON_M2H_IDX_cons : FieldRef := ⟨R.MON_M2H_IDX, 15, 0⟩
abbrev F.MON_BP_SEL_engine : FieldRef := ⟨R.MON_BP_SEL, 13, 0⟩
abbrev F.MON_BP_en : FieldRef := ⟨R.MON_BP, 31, 31⟩
abbrev F.MON_BP_addr : FieldRef := ⟨R.MON_BP, 9, 0⟩
abbrev F.BT_STATUS_busy : FieldRef := ⟨R.BT_STATUS, 1, 1⟩
abbrev F.BT_STATUS_wr_ignored : FieldRef := ⟨R.BT_STATUS, 0, 0⟩
abbrev F.BT_CTRL_go : FieldRef := ⟨R.BT_CTRL, 31, 31⟩
abbrev F.BT_CTRL_abort : FieldRef := ⟨R.BT_CTRL, 30, 30⟩
abbrev F.BT_CTRL_kind : FieldRef := ⟨R.BT_CTRL, 10, 8⟩
abbrev F.BT_CTRL_index : FieldRef := ⟨R.BT_CTRL, 6, 0⟩
abbrev F.BT_SCRATCH_column : FieldRef := ⟨R.BT_SCRATCH, 13, 8⟩
abbrev F.BT_SCRATCH_bank : FieldRef := ⟨R.BT_SCRATCH, 7, 0⟩
abbrev F.BT_RESULT_phase : FieldRef := ⟨R.BT_RESULT, 31, 29⟩
abbrev F.BT_RESULT_reason : FieldRef := ⟨R.BT_RESULT, 28, 26⟩
abbrev F.BT_RESULT_result : FieldRef := ⟨R.BT_RESULT, 1, 0⟩
abbrev F.BT_MISR_LO_misr : FieldRef := ⟨R.BT_MISR_LO, 31, 0⟩
abbrev F.BT_MISR_HI_misr : FieldRef := ⟨R.BT_MISR_HI, 31, 0⟩
abbrev F.BT_ANA_CTRL_go : FieldRef := ⟨R.BT_ANA_CTRL, 31, 31⟩
abbrev F.BT_ANA_CTRL_check : FieldRef := ⟨R.BT_ANA_CTRL, 10, 8⟩
abbrev F.BT_ANA_CTRL_item : FieldRef := ⟨R.BT_ANA_CTRL, 4, 0⟩
abbrev F.BT_ANA_RES_done : FieldRef := ⟨R.BT_ANA_RES, 31, 31⟩
abbrev F.BT_ANA_RES_fail : FieldRef := ⟨R.BT_ANA_RES, 30, 30⟩
abbrev F.BT_ANA_RES_worst_item : FieldRef := ⟨R.BT_ANA_RES, 23, 16⟩
abbrev F.BT_ANA_RES_worst : FieldRef := ⟨R.BT_ANA_RES, 15, 0⟩
abbrev F.SEC_STATUS_lc : FieldRef := ⟨R.SEC_STATUS, 7, 5⟩
abbrev F.SEC_STATUS_scan : FieldRef := ⟨R.SEC_STATUS, 4, 4⟩
abbrev F.SEC_STATUS_trng_ok : FieldRef := ⟨R.SEC_STATUS, 3, 3⟩
abbrev F.SEC_STATUS_wiping : FieldRef := ⟨R.SEC_STATUS, 2, 2⟩
abbrev F.SEC_STATUS_busy : FieldRef := ⟨R.SEC_STATUS, 1, 1⟩
abbrev F.SEC_STATUS_wr_ignored : FieldRef := ⟨R.SEC_STATUS, 0, 0⟩
abbrev F.SEC_LC_CMD_confirm : FieldRef := ⟨R.SEC_LC_CMD, 31, 16⟩
abbrev F.SEC_LC_CMD_target : FieldRef := ⟨R.SEC_LC_CMD, 2, 0⟩
abbrev F.SEC_TAMPER_CFG_reset : FieldRef := ⟨R.SEC_TAMPER_CFG, 8, 8⟩
abbrev F.SEC_TAMPER_CFG_erase : FieldRef := ⟨R.SEC_TAMPER_CFG, 7, 7⟩
abbrev F.SEC_TAMPER_CFG_pol : FieldRef := ⟨R.SEC_TAMPER_CFG, 6, 5⟩
abbrev F.SEC_TAMPER_CFG_en : FieldRef := ⟨R.SEC_TAMPER_CFG, 4, 0⟩
abbrev F.SEC_TAMPER_STAT_fired : FieldRef := ⟨R.SEC_TAMPER_STAT, 4, 0⟩
abbrev F.SEC_SLOT_in_use : FieldRef := ⟨R.SEC_SLOT, 2, 2⟩
abbrev F.SEC_SLOT_revoked : FieldRef := ⟨R.SEC_SLOT, 1, 1⟩
abbrev F.SEC_SLOT_programmed : FieldRef := ⟨R.SEC_SLOT, 0, 0⟩
abbrev F.SEC_CMD_op : FieldRef := ⟨R.SEC_CMD, 31, 28⟩
abbrev F.SEC_CMD_slot : FieldRef := ⟨R.SEC_CMD, 17, 16⟩
abbrev F.SEC_CMD_label : FieldRef := ⟨R.SEC_CMD, 15, 0⟩
abbrev F.SEC_CMD_ADDR_LO_addr : FieldRef := ⟨R.SEC_CMD_ADDR_LO, 31, 0⟩
abbrev F.SEC_CMD_ADDR_HI_addr : FieldRef := ⟨R.SEC_CMD_ADDR_HI, 15, 0⟩
abbrev F.SEC_CMD_STAT_busy : FieldRef := ⟨R.SEC_CMD_STAT, 31, 31⟩
abbrev F.SEC_CMD_STAT_status : FieldRef := ⟨R.SEC_CMD_STAT, 30, 27⟩
abbrev F.SEC_CMD_STAT_secrets : FieldRef := ⟨R.SEC_CMD_STAT, 5, 0⟩
abbrev F.FLT_STATUS_errn : FieldRef := ⟨R.FLT_STATUS, 2, 2⟩
abbrev F.FLT_STATUS_lost : FieldRef := ⟨R.FLT_STATUS, 1, 1⟩
abbrev F.FLT_STATUS_wr_ignored : FieldRef := ⟨R.FLT_STATUS, 0, 0⟩
abbrev F.FLT_BLK_COMMIT_grp0 : FieldRef := ⟨R.FLT_BLK_COMMIT, 0, 0⟩
abbrev F.FLT_CTRL_irq_en : FieldRef := ⟨R.FLT_CTRL, 27, 27⟩
abbrev F.FLT_CTRL_vec : FieldRef := ⟨R.FLT_CTRL, 26, 16⟩
abbrev F.FLT_CTRL_errn_sev : FieldRef := ⟨R.FLT_CTRL, 10, 8⟩
abbrev F.FLT_CTRL_msi_sev : FieldRef := ⟨R.FLT_CTRL, 6, 4⟩
abbrev F.FLT_CTRL_port_sev : FieldRef := ⟨R.FLT_CTRL, 2, 0⟩
abbrev F.FLT_HEAD_index : FieldRef := ⟨R.FLT_HEAD, 31, 0⟩
abbrev F.FLT_PEND_pend : FieldRef := ⟨R.FLT_PEND, 4, 0⟩
abbrev F.FLT_LOST_dropped : FieldRef := ⟨R.FLT_LOST, 31, 16⟩
abbrev F.FLT_LOST_port_drop : FieldRef := ⟨R.FLT_LOST, 15, 0⟩
abbrev F.FLT_PORT_MASK_sel : FieldRef := ⟨R.FLT_PORT_MASK, 31, 0⟩
abbrev F.FLT_FLASH_written : FieldRef := ⟨R.FLT_FLASH, 31, 16⟩
abbrev F.FLT_FLASH_held : FieldRef := ⟨R.FLT_FLASH, 6, 0⟩

/-- The DEV registers (01 R31). -/
def regsDEV : List RegDesc := [
  ⟨"DEV_ID", R.DEV_ID, 1, 4, .one, 0, [0x19608a5b], []⟩,
  ⟨"DEV_PARAM", R.DEV_PARAM, 1, 4, .one, 0, [0xb0432180], []⟩,
  ⟨"DEV_STATUS", R.DEV_STATUS, 1, 4, .one, 0, [0], [(0, 0, .w1c)]⟩,
  ⟨"DEV_BLK_COMMIT", R.DEV_BLK_COMMIT, 1, 4, .one, 0, [0], []⟩]

/-- The VX registers (02 R68). -/
def regsVX : List RegDesc := [
  ⟨"VX_STATUS", R.VX_STATUS, 1, 4, .one, 0, [0], [(0, 0, .w1c)]⟩,
  ⟨"VX_BLK_COMMIT", R.VX_BLK_COMMIT, 1, 4, .one, 0, [0], [(0, 0, .w1s)]⟩,
  ⟨"VX_CTRL", R.VX_CTRL, 1, 4, .one, 0, [0x42001], [(23, 16, .rws), (15, 12, .rws), (11, 4, .rws), (0, 0, .rws)]⟩,
  ⟨"VX_MAP_GEN", R.VX_MAP_GEN, 1, 4, .one, 0, [0], []⟩,
  ⟨"VX_HELD_LO", R.VX_HELD_LO, 1, 4, .one, 0, [0], []⟩,
  ⟨"VX_HELD_HI", R.VX_HELD_HI, 1, 4, .one, 0, [0], []⟩,
  ⟨"VX_SEL", R.VX_SEL, 1, 4, .one, 0, [0], [(5, 0, .rw)]⟩,
  ⟨"VX_ISL_STAT", R.VX_ISL_STAT, 1, 4, .island, 0, [0], []⟩,
  ⟨"VX_ISL_PAR", R.VX_ISL_PAR, 1, 4, .island, 0, [0], [(31, 0, .rc)]⟩,
  ⟨"VX_ISL_ROW", R.VX_ISL_ROW, 1, 4, .island, 0, [0], []⟩,
  ⟨"VX_TUNE_STAT", R.VX_TUNE_STAT, 1, 4, .island, 0, [0], []⟩]

/-- The FAB registers (03 R110). -/
def regsFAB : List RegDesc := [
  ⟨"FAB_STATUS", R.FAB_STATUS, 1, 4, .one, 0, [0], [(3, 3, .w1c), (0, 0, .w1c)]⟩,
  ⟨"FAB_BLK_COMMIT", R.FAB_BLK_COMMIT, 1, 4, .one, 0, [0], []⟩,
  ⟨"FAB_CAP_CTRL", R.FAB_CAP_CTRL, 1, 4, .one, 0, [0], [(2, 1, .rwh), (0, 0, .wo)]⟩,
  ⟨"FAB_CAP_MASK0", R.FAB_CAP_MASK0, 1, 4, .one, 0, [0], [(31, 0, .rwh)]⟩,
  ⟨"FAB_CAP_MASK1", R.FAB_CAP_MASK1, 1, 4, .one, 0, [0], [(31, 0, .rwh)]⟩,
  ⟨"FAB_CAP_MASK2", R.FAB_CAP_MASK2, 1, 4, .one, 0, [0], [(31, 0, .rwh)]⟩,
  ⟨"FAB_CAP_STAT", R.FAB_CAP_STAT, 1, 4, .one, 0, [0], []⟩,
  ⟨"FAB_CAP_TIME_LO", R.FAB_CAP_TIME_LO, 1, 4, .one, 0, [0], []⟩,
  ⟨"FAB_CAP_TIME_HI", R.FAB_CAP_TIME_HI, 1, 4, .one, 0, [0], []⟩,
  ⟨"FAB_CAP_SKEW0", R.FAB_CAP_SKEW0, 1, 4, .one, 0, [0xffffffff], []⟩,
  ⟨"FAB_CAP_SKEW1", R.FAB_CAP_SKEW1, 1, 4, .one, 0, [0xffffffff], []⟩,
  ⟨"FAB_CAP_SKEW2", R.FAB_CAP_SKEW2, 1, 4, .one, 0, [0xffffffff], []⟩,
  ⟨"FAB_ZC_COUNT", R.FAB_ZC_COUNT, 1, 4, .one, 0, [0], [(31, 0, .rc)]⟩,
  ⟨"FAB_ZC_LAST", R.FAB_ZC_LAST, 1, 4, .one, 0, [0], []⟩,
  ⟨"FAB_LAND_SEL", R.FAB_LAND_SEL, 1, 4, .one, 0, [0], [(5, 0, .rw)]⟩,
  ⟨"FAB_LAND_STAT", R.FAB_LAND_STAT, 1, 4, .island, 0, [0], [(31, 16, .rc), (15, 0, .rc)]⟩]

/-- The HSP registers (03 R111). -/
def regsHSP : List RegDesc := [
  ⟨"HSP_STATUS", R.HSP_STATUS, 1, 4, .one, 0, [0], [(0, 0, .w1c)]⟩,
  ⟨"HSP_BLK_COMMIT", R.HSP_BLK_COMMIT, 1, 4, .one, 0, [0], []⟩]

/-- The CTX registers (04 R137). -/
def regsCTX : List RegDesc := [
  ⟨"CTX_STATUS", R.CTX_STATUS, 1, 4, .one, 0, [0], [(0, 0, .w1c)]⟩,
  ⟨"CTX_BLK_COMMIT", R.CTX_BLK_COMMIT, 1, 4, .one, 0, [0], [(1, 1, .w1s), (0, 0, .w1s)]⟩,
  ⟨"CTX_CTRL", R.CTX_CTRL, 1, 4, .one, 1, [0], [(31, 24, .rws), (5, 4, .rws), (3, 3, .rws)]⟩,
  ⟨"CTX_TICK", R.CTX_TICK, 1, 4, .one, 1, [0], [(31, 0, .rws)]⟩,
  ⟨"CTX_CMD", R.CTX_CMD, 1, 4, .one, 0, [0], [(7, 4, .wo), (2, 0, .wo)]⟩,
  ⟨"CTX_START_LO", R.CTX_START_LO, 1, 4, .one, 0, [0], [(31, 0, .rw)]⟩,
  ⟨"CTX_START_HI", R.CTX_START_HI, 1, 4, .one, 0, [0], [(31, 0, .rw)]⟩,
  ⟨"CTX_SWITCH_CNT", R.CTX_SWITCH_CNT, 1, 4, .one, 0, [0], [(31, 0, .rc)]⟩,
  ⟨"CTX_LATE_CNT", R.CTX_LATE_CNT, 1, 4, .one, 0, [0], [(31, 0, .rc)]⟩,
  ⟨"CTX_LAST_LATE", R.CTX_LAST_LATE, 1, 4, .one, 0, [0], []⟩,
  ⟨"CTX_REQ_DROP", R.CTX_REQ_DROP, 1, 4, .one, 0, [0], [(31, 0, .rc)]⟩,
  ⟨"CTX_SCHED_STAT", R.CTX_SCHED_STAT, 1, 4, .one, 0, [0], []⟩,
  ⟨"CTX_PLANE_INFO", R.CTX_PLANE_INFO, 8, 4, .one, 0, [0], []⟩,
  ⟨"CTX_SCHED_NEXT", R.CTX_SCHED_NEXT, 64, 4, .one, 0, [0], [(31, 0, .rws)]⟩,
  ⟨"CTX_SCHED_ACT", R.CTX_SCHED_ACT, 64, 4, .one, 0, [0], []⟩]

/-- The MEM registers (05 R168). -/
def regsMEM : List RegDesc := [
  ⟨"MEM_STATUS", R.MEM_STATUS, 1, 4, .one, 0, [0], [(3, 3, .w1c), (1, 1, .w1c), (0, 0, .w1c)]⟩,
  ⟨"MEM_BLK_COMMIT", R.MEM_BLK_COMMIT, 1, 4, .one, 0, [0], [(1, 1, .w1s), (0, 0, .w1s)]⟩,
  ⟨"MEM_BG_CTRL", R.MEM_BG_CTRL, 1, 4, .one, 1, [0x10000], [(23, 0, .rws)]⟩,
  ⟨"MEM_ROW_BURST", R.MEM_ROW_BURST, 1, 4, .one, 0, [0x40], [(10, 0, .rws)]⟩,
  ⟨"MEM_COL_SEL", R.MEM_COL_SEL, 1, 4, .one, 0, [0], [(5, 0, .rw)]⟩,
  ⟨"MEM_COL_STAT", R.MEM_COL_STAT, 1, 4, .column, 0, [0], []⟩,
  ⟨"MEM_COL_STARVE", R.MEM_COL_STARVE, 1, 4, .column, 0, [0], [(31, 0, .rc)]⟩,
  ⟨"MEM_COL_ROWWAIT", R.MEM_COL_ROWWAIT, 1, 4, .column, 0, [0], [(31, 0, .rc)]⟩,
  ⟨"MEM_COL_ROWS", R.MEM_COL_ROWS, 1, 4, .column, 0, [0], [(31, 0, .rc)]⟩,
  ⟨"MEM_DP_COLLIDE", R.MEM_DP_COLLIDE, 1, 4, .column, 0, [0], [(15, 0, .rc)]⟩,
  ⟨"MEM_STARVE_LAST", R.MEM_STARVE_LAST, 1, 4, .one, 0, [0], []⟩,
  ⟨"MEM_PROT_LAST", R.MEM_PROT_LAST, 1, 4, .one, 0, [0], []⟩,
  ⟨"MEM_RC_SRC", R.MEM_RC_SRC, 1, 4, .column, 0, [0], [(16, 9, .rw), (8, 0, .rw)]⟩,
  ⟨"MEM_RC_DST", R.MEM_RC_DST, 1, 4, .column, 0, [0], [(16, 9, .rw), (8, 0, .rw)]⟩,
  ⟨"MEM_RC_CTRL", R.MEM_RC_CTRL, 1, 4, .column, 0, [0], [(31, 31, .wo), (9, 0, .rw)]⟩,
  ⟨"MEM_ROW_SHARE", R.MEM_ROW_SHARE, 48, 4, .one, 0, [0x55], [(11, 0, .rws)]⟩,
  ⟨"MEM_BANK_CFG", R.MEM_BANK_CFG, 256, 4, .column, 0, [0x2000], [(15, 14, .rwh), (13, 12, .rwh), (11, 9, .rwh)]⟩]

/-- The MI registers (06 R202). -/
def regsMI : List RegDesc := [
  ⟨"MI_STATUS", R.MI_STATUS, 1, 4, .one, 0, [0], [(1, 1, .w1c), (0, 0, .w1c)]⟩,
  ⟨"MI_BLK_COMMIT", R.MI_BLK_COMMIT, 1, 4, .one, 0, [0], [(0, 0, .w1s)]⟩,
  ⟨"MI_CTRL", R.MI_CTRL, 1, 4, .one, 0, [0x10000003], [(31, 16, .rws), (2, 2, .rws), (1, 1, .rws), (0, 0, .rws)]⟩,
  ⟨"MI_COL_SEL", R.MI_COL_SEL, 1, 4, .one, 0, [0], [(5, 0, .rw)]⟩,
  ⟨"MI_COL_ERR", R.MI_COL_ERR, 1, 4, .column, 0, [0], [(31, 16, .rc), (15, 0, .rc)]⟩,
  ⟨"MI_ERR_LAST", R.MI_ERR_LAST, 1, 4, .column, 0, [0], []⟩,
  ⟨"MI_REPAIR_STAT", R.MI_REPAIR_STAT, 1, 4, .column, 0, [0], []⟩,
  ⟨"MI_REMAP_CMD", R.MI_REMAP_CMD, 1, 4, .one, 0, [0], [(31, 31, .wo), (20, 13, .wo), (12, 0, .wo)]⟩,
  ⟨"MI_SCRUB_FIRST", R.MI_SCRUB_FIRST, 1, 4, .one, 0, [0], [(26, 0, .rw)]⟩,
  ⟨"MI_SCRUB_LAST", R.MI_SCRUB_LAST, 1, 4, .one, 0, [0], [(26, 0, .rw)]⟩,
  ⟨"MI_SCRUB_CTRL", R.MI_SCRUB_CTRL, 1, 4, .one, 0, [0], [(31, 31, .wo), (30, 30, .wo)]⟩,
  ⟨"MI_SCRUB_CHECKED", R.MI_SCRUB_CHECKED, 1, 4, .one, 0, [0], []⟩,
  ⟨"MI_SCRUB_CORR", R.MI_SCRUB_CORR, 1, 4, .one, 0, [0], []⟩,
  ⟨"MI_SCRUB_UNC", R.MI_SCRUB_UNC, 1, 4, .one, 0, [0], []⟩,
  ⟨"MI_SCRUB_FAIL_FIRST", R.MI_SCRUB_FAIL_FIRST, 1, 4, .one, 0, [0], []⟩,
  ⟨"MI_SCRUB_FAIL_LAST", R.MI_SCRUB_FAIL_LAST, 1, 4, .one, 0, [0], []⟩,
  ⟨"MI_LAP_STAT", R.MI_LAP_STAT, 1, 4, .one, 0, [0], []⟩,
  ⟨"MI_CODE", R.MI_CODE, 16, 4, .column, 0, [0], [(31, 0, .rwh)]⟩,
  ⟨"MI_RAW_ADDR", R.MI_RAW_ADDR, 1, 4, .one, 0, [0], [(20, 13, .rw), (12, 0, .rw)]⟩,
  ⟨"MI_RAW_D", R.MI_RAW_D, 4, 4, .one, 0, [0], [(31, 0, .rw)]⟩,
  ⟨"MI_RAW_CHK", R.MI_RAW_CHK, 1, 4, .one, 0, [0], [(15, 0, .rw)]⟩,
  ⟨"MI_RAW_CTRL", R.MI_RAW_CTRL, 1, 4, .one, 0, [0], [(31, 31, .wo), (30, 29, .rw)]⟩,
  ⟨"MI_MARCH_CTRL", R.MI_MARCH_CTRL, 1, 4, .one, 0, [0], [(31, 31, .wo), (28, 28, .rw), (27, 26, .rw), (23, 16, .rw), (15, 8, .rw)]⟩,
  ⟨"MI_MARCH_RES", R.MI_MARCH_RES, 1, 4, .one, 0, [0], []⟩,
  ⟨"MI_MARCH_ELEM", R.MI_MARCH_ELEM, 16, 4, .one, 0, [0x802, 0x10c, 0x109, 0x50c, 0x509, 0x800, 0xc00, 0xc00, 0xc00, 0xc00, 0xc00, 0xc00, 0xc00, 0xc00, 0xc00, 0xc00], [(11, 10, .rwh), (9, 8, .rwh), (7, 0, .rwh)]⟩]

/-- The ENG registers (07 R234). -/
def regsENG : List RegDesc := [
  ⟨"ENG_STATUS", R.ENG_STATUS, 1, 4, .one, 0, [0], [(1, 1, .w1c), (0, 0, .w1c)]⟩,
  ⟨"ENG_BLK_COMMIT", R.ENG_BLK_COMMIT, 1, 4, .one, 0, [0], []⟩,
  ⟨"ENG_SEL", R.ENG_SEL, 1, 4, .one, 0, [0], [(13, 0, .rw)]⟩,
  ⟨"ENG_STATE", R.ENG_STATE, 1, 4, .engine, 0, [1], []⟩,
  ⟨"ENG_CMD", R.ENG_CMD, 1, 4, .one, 0, [0], [(3, 0, .wo)]⟩,
  ⟨"ENG_MEM_ERR", R.ENG_MEM_ERR, 1, 4, .engine, 0, [0], [(31, 16, .rc), (15, 0, .rc)]⟩,
  ⟨"ENG_XFER_STAT", R.ENG_XFER_STAT, 1, 4, .engine, 0, [0], []⟩]

/-- The NOC registers (10 R305). -/
def regsNOC : List RegDesc := [
  ⟨"NOC_STATUS", R.NOC_STATUS, 1, 4, .one, 0, [0], [(4, 4, .w1c), (3, 3, .w1c), (2, 2, .w1c), (0, 0, .w1c)]⟩,
  ⟨"NOC_BLK_COMMIT", R.NOC_BLK_COMMIT, 1, 4, .one, 0, [0], [(2, 2, .w1s), (1, 1, .w1s), (0, 0, .w1s)]⟩,
  ⟨"NOC_CTRL", R.NOC_CTRL, 1, 4, .one, 1, [0x7d0], [(15, 0, .rws)]⟩,
  ⟨"NOC_GROVE", R.NOC_GROVE, 1, 4, .one, 0, [0], [(3, 0, .rwh)]⟩,
  ⟨"NOC_SEL", R.NOC_SEL, 1, 4, .one, 0, [0], [(5, 0, .rw)]⟩,
  ⟨"NOC_LINK_CFG", R.NOC_LINK_CFG, 1, 4, .router, 0, [0xaa], [(7, 6, .rwh), (5, 4, .rwh), (3, 2, .rwh), (1, 0, .rwh)]⟩,
  ⟨"NOC_WEIGHT0", R.NOC_WEIGHT0, 1, 4, .router, 0, [0], [(23, 18, .rws), (17, 12, .rws), (11, 6, .rws), (5, 0, .rws)]⟩,
  ⟨"NOC_WEIGHT1", R.NOC_WEIGHT1, 1, 4, .router, 0, [0x41041], [(23, 18, .rws), (17, 12, .rws), (11, 6, .rws), (5, 0, .rws)]⟩,
  ⟨"NOC_RTR_FLITS", R.NOC_RTR_FLITS, 1, 4, .router, 0, [0], [(31, 0, .rc)]⟩,
  ⟨"NOC_RTR_ERR", R.NOC_RTR_ERR, 1, 4, .router, 0, [0], [(31, 16, .rc), (15, 0, .rc)]⟩,
  ⟨"NOC_RTR_WAKE", R.NOC_RTR_WAKE, 1, 4, .router, 0, [0], [(31, 16, .rc), (15, 0, .rc)]⟩,
  ⟨"NOC_TIMEOUTS", R.NOC_TIMEOUTS, 1, 4, .one, 0, [0], [(31, 0, .rc)]⟩,
  ⟨"NOC_DISCARD", R.NOC_DISCARD, 1, 4, .one, 0, [0], [(31, 16, .rc), (15, 0, .rc)]⟩,
  ⟨"NOC_GROVE_ROUTE", R.NOC_GROVE_ROUTE, 16, 4, .one, 2, [0], [(5, 5, .rws), (4, 4, .rws), (3, 0, .rws)]⟩,
  ⟨"NOC_CAL", R.NOC_CAL, 64, 4, .router, 0, [0], [(3, 3, .rws), (7, 7, .rws), (11, 11, .rws), (15, 15, .rws), (19, 19, .rws), (23, 23, .rws), (27, 27, .rws), (31, 31, .rws), (2, 0, .rws), (6, 4, .rws), (10, 8, .rws), (14, 12, .rws), (18, 16, .rws), (22, 20, .rws), (26, 24, .rws), (30, 28, .rws)]⟩]

/-- The QM registers (11 R331 and 13 R365). -/
def regsQM : List RegDesc := [
  ⟨"QM_STATUS", R.QM_STATUS, 1, 4, .one, 0, [0], [(2, 2, .w1c), (1, 1, .w1c), (0, 0, .w1c)]⟩,
  ⟨"QM_BLK_COMMIT", R.QM_BLK_COMMIT, 1, 4, .one, 0, [0], [(1, 1, .w1s), (0, 0, .w1s)]⟩,
  ⟨"QM_CTRL", R.QM_CTRL, 1, 4, .one, 1, [0x64], [(15, 0, .rws)]⟩,
  ⟨"QM_QSEL", R.QM_QSEL, 1, 4, .one, 0, [0], [(11, 0, .rw)]⟩,
  ⟨"QM_Q_CFG0", R.QM_Q_CFG0, 1, 4, .queue, 0, [0], [(31, 31, .rw), (30, 30, .rwh), (29, 28, .rwh), (27, 23, .rwh), (22, 22, .rwh), (21, 8, .rwh), (7, 0, .rwh)]⟩,
  ⟨"QM_Q_CFG1", R.QM_Q_CFG1, 1, 4, .queue, 0, [0], [(28, 0, .rwh)]⟩,
  ⟨"QM_Q_CFG2", R.QM_Q_CFG2, 1, 4, .queue, 0, [0], [(21, 0, .rwh)]⟩,
  ⟨"QM_Q_CFG3", R.QM_Q_CFG3, 1, 4, .queue, 0, [0], [(17, 14, .rwh), (13, 0, .rwh)]⟩,
  ⟨"QM_Q_CFG4", R.QM_Q_CFG4, 1, 4, .queue, 0, [0], [(31, 31, .rw), (23, 0, .rw)]⟩,
  ⟨"QM_Q_CFG5", R.QM_Q_CFG5, 1, 4, .queue, 0, [0], [(22, 12, .rwh), (11, 8, .rwh), (7, 2, .rwh), (1, 0, .rwh)]⟩,
  ⟨"QM_Q_CMD", R.QM_Q_CMD, 1, 4, .one, 0, [0], [(1, 0, .wo)]⟩,
  ⟨"QM_Q_DEPTH", R.QM_Q_DEPTH, 1, 4, .queue, 0, [0x40000000], []⟩,
  ⟨"QM_Q_PKTS", R.QM_Q_PKTS, 1, 4, .queue, 0, [0], []⟩,
  ⟨"QM_Q_CNT", R.QM_Q_CNT, 1, 4, .queue, 0, [0], [(31, 0, .rc)]⟩,
  ⟨"QM_Q_BAD", R.QM_Q_BAD, 1, 4, .queue, 0, [0], [(31, 24, .rc), (23, 16, .rc), (15, 8, .rc), (7, 0, .rc)]⟩,
  ⟨"QM_PSEL", R.QM_PSEL, 1, 4, .one, 0, [0], [(6, 5, .rw), (4, 0, .rw)]⟩,
  ⟨"QM_PORT_CFG", R.QM_PORT_CFG, 1, 4, .port, 0, [0x810], [(31, 31, .rws), (30, 19, .rws), (18, 13, .rws), (12, 7, .rws), (6, 0, .rws)]⟩,
  ⟨"QM_FAR_BASE", R.QM_FAR_BASE, 1, 4, .slice, 0, [0], [(25, 0, .rwh)]⟩,
  ⟨"QM_FAR_LINK", R.QM_FAR_LINK, 1, 4, .slice, 0, [0], [(25, 0, .rwh)]⟩,
  ⟨"QM_FAR_CELLS", R.QM_FAR_CELLS, 1, 4, .slice, 0, [0], [(28, 0, .rwh)]⟩,
  ⟨"QM_FAR_FREE", R.QM_FAR_FREE, 1, 4, .slice, 0, [0], []⟩,
  ⟨"QM_PORT_CAL", R.QM_PORT_CAL, 32, 4, .port, 0, [0], [(15, 15, .rws), (31, 31, .rws), (9, 0, .rws), (25, 16, .rws)]⟩,
  ⟨"QM_LVL_PEND", R.QM_LVL_PEND, 128, 4, .one, 0, [0], [(31, 0, .w1c)]⟩,
  ⟨"QM_CT_RATE", R.QM_CT_RATE, 1, 4, .queue, 0, [0], [(23, 0, .rwh)]⟩,
  ⟨"QM_CT_BURST", R.QM_CT_BURST, 1, 4, .queue, 0, [0], [(23, 0, .rwh)]⟩,
  ⟨"QM_CT_PKT", R.QM_CT_PKT, 1, 4, .queue, 0, [0], [(30, 16, .rwh), (14, 0, .rwh)]⟩,
  ⟨"QM_CT_OP", R.QM_CT_OP, 1, 4, .queue, 0, [0], [(2, 0, .rwh)]⟩,
  ⟨"QM_CT_ISL_LO", R.QM_CT_ISL_LO, 1, 4, .queue, 0, [0], [(31, 0, .rwh)]⟩,
  ⟨"QM_CT_ISL_HI", R.QM_CT_ISL_HI, 1, 4, .queue, 0, [0], [(15, 0, .rwh)]⟩,
  ⟨"QM_CT_CMD", R.QM_CT_CMD, 1, 4, .one, 0, [0], [(1, 0, .wo)]⟩,
  ⟨"QM_CT_STAT", R.QM_CT_STAT, 1, 4, .queue, 0, [0], []⟩,
  ⟨"QM_Q_BOUND", R.QM_Q_BOUND, 1, 4, .queue, 0, [0], []⟩,
  ⟨"QM_Q_SLACK", R.QM_Q_SLACK, 1, 4, .queue, 0, [0], []⟩,
  ⟨"QM_PROMISE_STATUS", R.QM_PROMISE_STATUS, 1, 4, .queue, 0, [0], []⟩,
  ⟨"QM_Q_LATE", R.QM_Q_LATE, 1, 4, .queue, 0, [0], [(31, 16, .rc), (15, 0, .rc)]⟩,
  ⟨"QM_Q_WORST", R.QM_Q_WORST, 1, 4, .queue, 0, [0], [(31, 0, .rc)]⟩,
  ⟨"QM_PROMISE_SUM", R.QM_PROMISE_SUM, 1, 4, .one, 0, [0], []⟩]

/-- The FS registers (12 R350). -/
def regsFS : List RegDesc := [
  ⟨"FS_STATUS", R.FS_STATUS, 1, 4, .one, 0, [0], [(2, 2, .w1c), (1, 1, .w1c), (0, 0, .w1c)]⟩,
  ⟨"FS_BLK_COMMIT", R.FS_BLK_COMMIT, 1, 4, .one, 0, [0], [(1, 1, .w1s), (0, 0, .w1s)]⟩,
  ⟨"FS_CTRL", R.FS_CTRL, 1, 4, .one, 0, [0x101], [(8, 4, .rws), (0, 0, .rws)]⟩,
  ⟨"FS_SEED0", R.FS_SEED0, 1, 4, .one, 0, [0], [(31, 0, .rwh)]⟩,
  ⟨"FS_SEED1", R.FS_SEED1, 1, 4, .one, 0, [0], [(31, 0, .rwh)]⟩,
  ⟨"FS_OCC", R.FS_OCC, 1, 4, .one, 0, [0], []⟩,
  ⟨"FS_OPS", R.FS_OPS, 1, 4, .one, 0, [0], [(31, 0, .rc)]⟩,
  ⟨"FS_MISSES", R.FS_MISSES, 1, 4, .one, 0, [0], [(31, 0, .rc)]⟩,
  ⟨"FS_FULL", R.FS_FULL, 1, 4, .one, 0, [0], [(31, 16, .rc), (15, 0, .rc)]⟩,
  ⟨"FS_AGE_CTRL", R.FS_AGE_CTRL, 1, 4, .one, 0, [0], [(31, 31, .wo), (28, 28, .rw)]⟩,
  ⟨"FS_AGE_THRESH", R.FS_AGE_THRESH, 1, 4, .one, 0, [0], [(31, 0, .rw)]⟩,
  ⟨"FS_AGE_RES", R.FS_AGE_RES, 1, 4, .one, 0, [0], []⟩,
  ⟨"FS_KILL", R.FS_KILL, 1, 4, .one, 0, [0], [(31, 31, .wo), (20, 20, .wo), (19, 0, .wo)]⟩,
  ⟨"FS_PROFILE", R.FS_PROFILE, 8, 4, .one, 1, [0], [(27, 27, .rws), (26, 26, .rws), (25, 20, .rws), (19, 13, .rws), (12, 7, .rws), (6, 0, .rws)]⟩,
  ⟨"FS_PORT_PROF", R.FS_PORT_PROF, 12, 4, .one, 1, [0], [(2, 0, .rws), (5, 3, .rws), (8, 6, .rws), (11, 9, .rws), (14, 12, .rws), (17, 15, .rws), (20, 18, .rws), (23, 21, .rws)]⟩]

/-- The LP registers (14 R384). -/
def regsLP : List RegDesc := [
  ⟨"LP_STATUS", R.LP_STATUS, 1, 4, .one, 0, [0], [(6, 6, .w1c), (1, 1, .w1c), (0, 0, .w1c)]⟩,
  ⟨"LP_BLK_COMMIT", R.LP_BLK_COMMIT, 1, 4, .one, 0, [0], [(0, 0, .w1s)]⟩,
  ⟨"LP_CFG", R.LP_CFG, 1, 4, .one, 0, [8], [(9, 8, .rwh), (7, 6, .rwh), (5, 5, .rwh), (4, 0, .rwh)]⟩,
  ⟨"LP_REF", R.LP_REF, 1, 4, .one, 0, [0x240], [(9, 8, .rws), (7, 6, .rws), (5, 4, .rws), (3, 2, .rws), (1, 0, .rws)]⟩,
  ⟨"LP_PWR", R.LP_PWR, 1, 4, .one, 0, [0x1000c8], [(23, 16, .rws), (15, 0, .rws)]⟩,
  ⟨"LP_TEMP", R.LP_TEMP, 1, 4, .one, 0, [0], []⟩,
  ⟨"LP_ERR", R.LP_ERR, 1, 4, .one, 0, [0], [(31, 16, .rc), (15, 0, .rc)]⟩,
  ⟨"LP_ERR_LAST", R.LP_ERR_LAST, 1, 4, .one, 0, [0], []⟩,
  ⟨"LP_ERR_LANE", R.LP_ERR_LANE, 1, 4, .one, 0, [0x1f], []⟩,
  ⟨"LP_CMD", R.LP_CMD, 1, 4, .one, 0, [0], [(1, 0, .wo)]⟩]

/-- The MEE registers (15 R408). -/
def regsMEE : List RegDesc := [
  ⟨"MEE_STATUS", R.MEE_STATUS, 1, 4, .one, 0, [0], [(2, 2, .w1c), (0, 0, .w1c)]⟩,
  ⟨"MEE_BLK_COMMIT", R.MEE_BLK_COMMIT, 1, 4, .one, 0, [0], [(0, 0, .w1s)]⟩,
  ⟨"MEE_CTRL", R.MEE_CTRL, 1, 4, .one, 0, [0x78], [(6, 0, .rws)]⟩,
  ⟨"MEE_CTR_BASE", R.MEE_CTR_BASE, 1, 4, .one, 0, [0], [(16, 0, .rwh)]⟩,
  ⟨"MEE_TREE_BASE", R.MEE_TREE_BASE, 1, 4, .one, 0, [0], [(16, 0, .rwh)]⟩,
  ⟨"MEE_REG_SEL", R.MEE_REG_SEL, 1, 4, .one, 0, [0], [(4, 0, .rw)]⟩,
  ⟨"MEE_REG_BASE", R.MEE_REG_BASE, 1, 4, .region, 0, [0], [(16, 0, .rwh)]⟩,
  ⟨"MEE_REG_LIMIT", R.MEE_REG_LIMIT, 1, 4, .region, 0, [0], [(16, 0, .rwh)]⟩,
  ⟨"MEE_REG_CFG", R.MEE_REG_CFG, 1, 4, .region, 0, [0], [(31, 31, .rw), (29, 29, .rwh), (28, 27, .rwh), (26, 26, .rwh), (5, 0, .rwh)]⟩,
  ⟨"MEE_REG_RIGHTS", R.MEE_REG_RIGHTS, 1, 4, .region, 0, [0], [(12, 12, .rws), (1, 0, .rws), (3, 2, .rws), (5, 4, .rws), (7, 6, .rws), (9, 8, .rws), (11, 10, .rws)]⟩,
  ⟨"MEE_KEY_CMD", R.MEE_KEY_CMD, 1, 4, .one, 0, [0], [(31, 30, .wo), (29, 24, .wo), (16, 16, .wo), (15, 0, .wo)]⟩,
  ⟨"MEE_KEY_STAT", R.MEE_KEY_STAT, 1, 4, .one, 0, [0], []⟩,
  ⟨"MEE_CMD", R.MEE_CMD, 1, 4, .one, 0, [0], [(31, 30, .wo), (10, 6, .wo), (5, 0, .wo)]⟩,
  ⟨"MEE_WALK_STAT", R.MEE_WALK_STAT, 1, 4, .one, 0, [0], []⟩,
  ⟨"MEE_ERR", R.MEE_ERR, 1, 4, .one, 0, [0], [(31, 16, .rc), (15, 0, .rc)]⟩,
  ⟨"MEE_FAIL_LAST", R.MEE_FAIL_LAST, 1, 4, .one, 0, [0], []⟩]

/-- The LN registers (16 R433). -/
def regsLN : List RegDesc := [
  ⟨"LN_STATUS", R.LN_STATUS, 1, 4, .one, 0, [0], [(2, 2, .w1c), (0, 0, .w1c)]⟩,
  ⟨"LN_BLK_COMMIT", R.LN_BLK_COMMIT, 1, 4, .one, 0, [0], []⟩,
  ⟨"LN_CTRL", R.LN_CTRL, 1, 4, .one, 0, [0xff0000], [(31, 31, .wo), (23, 16, .rwh), (10, 8, .rwh), (7, 7, .rwh), (6, 4, .rwh), (3, 3, .rwh), (0, 0, .rw)]⟩,
  ⟨"LN_STATE", R.LN_STATE, 1, 4, .one, 0, [0], []⟩,
  ⟨"LN_LANE_SEL", R.LN_LANE_SEL, 1, 4, .one, 0, [0], [(2, 0, .rw)]⟩,
  ⟨"LN_PRBS_CTRL", R.LN_PRBS_CTRL, 1, 4, .one, 0, [0], [(31, 24, .rwh), (23, 16, .rwh), (3, 0, .rwh)]⟩,
  ⟨"LN_PRBS_STAT", R.LN_PRBS_STAT, 1, 4, .lane, 0, [0], [(30, 0, .rc)]⟩,
  ⟨"LN_INJ", R.LN_INJ, 1, 4, .one, 0, [0], [(31, 31, .wo), (29, 28, .rw), (21, 16, .rw), (13, 8, .rw), (7, 0, .rw)]⟩]

/-- The GR registers (16 R435). -/
def regsGR : List RegDesc := [
  ⟨"GR_STATUS", R.GR_STATUS, 1, 4, .one, 0, [0], [(2, 2, .w1c), (1, 1, .w1c), (0, 0, .w1c)]⟩,
  ⟨"GR_BLK_COMMIT", R.GR_BLK_COMMIT, 1, 4, .one, 0, [0], [(0, 0, .w1s)]⟩,
  ⟨"GR_SEL", R.GR_SEL, 1, 4, .one, 0, [0], [(3, 0, .rw)]⟩,
  ⟨"GR_CTRL", R.GR_CTRL, 1, 4, .bundle, 0, [0x26f], [(13, 12, .rwh), (11, 8, .rwh), (6, 4, .rwh), (3, 0, .rwh)]⟩,
  ⟨"GR_LINK", R.GR_LINK, 1, 4, .bundle, 0, [0], []⟩,
  ⟨"GR_PEER_CAP_LO", R.GR_PEER_CAP_LO, 1, 4, .bundle, 0, [0], []⟩,
  ⟨"GR_PEER_CAP_HI", R.GR_PEER_CAP_HI, 1, 4, .bundle, 0, [0], []⟩,
  ⟨"GR_LAT", R.GR_LAT, 1, 4, .bundle, 0, [0], []⟩,
  ⟨"GR_HOP_BOUND", R.GR_HOP_BOUND, 1, 4, .bundle, 0, [0], []⟩,
  ⟨"GR_REPLAY", R.GR_REPLAY, 1, 4, .bundle, 0, [0], [(31, 16, .rc), (15, 0, .rc)]⟩,
  ⟨"GR_FEC", R.GR_FEC, 1, 4, .bundle, 0, [0], [(31, 16, .rc), (15, 0, .rc)]⟩,
  ⟨"GR_TIME_OFS", R.GR_TIME_OFS, 1, 4, .bundle, 0, [0], []⟩,
  ⟨"GR_ASYM", R.GR_ASYM, 1, 4, .bundle, 0, [0], [(15, 0, .rw)]⟩,
  ⟨"GR_CMD", R.GR_CMD, 1, 4, .one, 0, [0], [(1, 0, .wo)]⟩,
  ⟨"GR_CAL_LO", R.GR_CAL_LO, 1, 4, .bundle, 0, [0], [(31, 0, .rws)]⟩,
  ⟨"GR_CAL_HI", R.GR_CAL_HI, 1, 4, .bundle, 0, [0], [(31, 0, .rws)]⟩,
  ⟨"GR_VC0_MAX", R.GR_VC0_MAX, 1, 4, .bundle, 0, [1], [(8, 0, .rws)]⟩]

/-- The PCI registers (17 R456). -/
def regsPCI : List RegDesc := [
  ⟨"PCI_STATUS", R.PCI_STATUS, 1, 4, .one, 0, [0], [(2, 2, .w1c), (0, 0, .w1c)]⟩,
  ⟨"PCI_BLK_COMMIT", R.PCI_BLK_COMMIT, 1, 4, .one, 0, [0], [(0, 0, .w1s)]⟩,
  ⟨"PCI_WIN_BASE", R.PCI_WIN_BASE, 1, 4, .one, 0, [0], [(11, 0, .rws)]⟩,
  ⟨"PCI_LTR", R.PCI_LTR, 1, 4, .one, 0, [0xffff0000], [(15, 0, .rw)]⟩,
  ⟨"PCI_ERR", R.PCI_ERR, 1, 4, .one, 0, [0], [(31, 16, .rc), (15, 0, .rc)]⟩,
  ⟨"PCI_RSEL", R.PCI_RSEL, 1, 4, .one, 0, [0], [(7, 0, .rw)]⟩,
  ⟨"PCI_RING_CFG", R.PCI_RING_CFG, 1, 4, .ring, 0, [0], [(31, 31, .rw), (30, 30, .rwh), (29, 24, .rwh), (23, 20, .rwh), (19, 8, .rwh)]⟩,
  ⟨"PCI_RING_BASE_LO", R.PCI_RING_BASE_LO, 1, 4, .ring, 0, [0], [(31, 0, .rwh)]⟩,
  ⟨"PCI_RING_BASE_HI", R.PCI_RING_BASE_HI, 1, 4, .ring, 0, [0], [(31, 0, .rwh)]⟩,
  ⟨"PCI_RING_IRQ", R.PCI_RING_IRQ, 1, 4, .ring, 0, [0], [(31, 31, .rw), (23, 16, .rw), (10, 0, .rwh)]⟩,
  ⟨"PCI_RING_IDX", R.PCI_RING_IDX, 1, 4, .ring, 0, [0], []⟩]

/-- The ETH registers (17 R457). -/
def regsETH : List RegDesc := [
  ⟨"ETH_STATUS", R.ETH_STATUS, 1, 4, .one, 0, [0], [(1, 1, .w1c), (0, 0, .w1c)]⟩,
  ⟨"ETH_BLK_COMMIT", R.ETH_BLK_COMMIT, 1, 4, .one, 0, [0], [(0, 0, .w1s)]⟩,
  ⟨"ETH_SEL", R.ETH_SEL, 1, 4, .one, 0, [0], [(6, 0, .rw)]⟩,
  ⟨"ETH_MAC_CFG", R.ETH_MAC_CFG, 1, 4, .mac, 0, [0x5ee0000], [(31, 31, .rw), (30, 30, .rwh), (29, 16, .rwh), (2, 0, .rwh)]⟩,
  ⟨"ETH_MAC_STAT", R.ETH_MAC_STAT, 1, 4, .mac, 0, [0], []⟩,
  ⟨"ETH_MAC_CNT", R.ETH_MAC_CNT, 1, 4, .mac, 0, [0], [(31, 16, .rc), (15, 0, .rc)]⟩,
  ⟨"ETH_FEC_CNT", R.ETH_FEC_CNT, 1, 4, .mac, 0, [0], [(31, 16, .rc), (15, 0, .rc)]⟩,
  ⟨"ETH_PFC", R.ETH_PFC, 1, 4, .mac, 0, [0x2001a0], [(31, 31, .rws), (23, 16, .rws), (8, 6, .rws), (5, 3, .rws), (2, 0, .rws)]⟩,
  ⟨"ETH_TS_ADJ", R.ETH_TS_ADJ, 1, 4, .mac, 0, [0], [(31, 16, .rw), (15, 0, .rw)]⟩,
  ⟨"ETH_TXTS_TAG", R.ETH_TXTS_TAG, 1, 4, .one, 0, [0], [(31, 31, .rc), (22, 16, .rc), (15, 0, .rc)]⟩,
  ⟨"ETH_TXTS_LO", R.ETH_TXTS_LO, 1, 4, .one, 0, [0], []⟩,
  ⟨"ETH_TXTS_HI", R.ETH_TXTS_HI, 1, 4, .one, 0, [0], []⟩,
  ⟨"ETH_TIME_CTRL", R.ETH_TIME_CTRL, 1, 4, .one, 0, [0], [(31, 30, .rw), (23, 0, .rw)]⟩,
  ⟨"ETH_TIME_LO", R.ETH_TIME_LO, 1, 4, .one, 0, [0], [(31, 0, .rw)]⟩,
  ⟨"ETH_TIME_HI", R.ETH_TIME_HI, 1, 4, .one, 0, [0], [(31, 0, .rw)]⟩,
  ⟨"ETH_TIME_STEP", R.ETH_TIME_STEP, 1, 4, .one, 0, [0], [(31, 0, .wo)]⟩]

/-- The CFG registers (19 R505). -/
def regsCFG : List RegDesc := [
  ⟨"CFG_STATUS", R.CFG_STATUS, 1, 4, .one, 0, [0], [(0, 0, .w1c)]⟩,
  ⟨"CFG_BLK_COMMIT", R.CFG_BLK_COMMIT, 1, 4, .one, 0, [0], []⟩,
  ⟨"CFG_BOOT_TIME", R.CFG_BOOT_TIME, 1, 4, .one, 0, [0], []⟩,
  ⟨"CFG_LOAD_SRC", R.CFG_LOAD_SRC, 1, 4, .one, 0, [0], [(1, 0, .rwh)]⟩,
  ⟨"CFG_LOAD_ADDR_LO", R.CFG_LOAD_ADDR_LO, 1, 4, .one, 0, [0], [(31, 0, .rwh)]⟩,
  ⟨"CFG_LOAD_ADDR_HI", R.CFG_LOAD_ADDR_HI, 1, 4, .one, 0, [0], [(31, 0, .rwh)]⟩,
  ⟨"CFG_LOAD_LEN", R.CFG_LOAD_LEN, 1, 4, .one, 0, [0], [(31, 0, .rwh)]⟩,
  ⟨"CFG_LOAD_CMD", R.CFG_LOAD_CMD, 1, 4, .one, 0, [0], [(0, 0, .wo)]⟩,
  ⟨"CFG_LOAD_STAT", R.CFG_LOAD_STAT, 1, 4, .one, 0, [0], []⟩,
  ⟨"CFG_STREAM_DROP", R.CFG_STREAM_DROP, 1, 4, .one, 0, [0], [(31, 0, .rc)]⟩,
  ⟨"CFG_BOOT_FAULT", R.CFG_BOOT_FAULT, 1, 4, .one, 0, [0], []⟩,
  ⟨"CFG_GOLDEN_FAULT", R.CFG_GOLDEN_FAULT, 1, 4, .one, 0, [0], []⟩]

/-- The CI registers (20 R522). -/
def regsCI : List RegDesc := [
  ⟨"CI_STATUS", R.CI_STATUS, 1, 4, .one, 0, [0], [(2, 2, .w1c), (1, 1, .w1c), (0, 0, .w1c)]⟩,
  ⟨"CI_BLK_COMMIT", R.CI_BLK_COMMIT, 1, 4, .one, 0, [0], [(0, 0, .w1s)]⟩,
  ⟨"CI_CTRL", R.CI_CTRL, 1, 4, .one, 0, [0x7d00001], [(31, 16, .rws), (1, 1, .rws), (0, 0, .rws)]⟩,
  ⟨"CI_SEL", R.CI_SEL, 1, 4, .one, 0, [0], [(6, 0, .rw)]⟩,
  ⟨"CI_SEC_STAT", R.CI_SEC_STAT, 1, 4, .sector, 0, [0], []⟩,
  ⟨"CI_SEC_CNT", R.CI_SEC_CNT, 1, 4, .sector, 0, [0], [(31, 16, .rc), (15, 0, .rc)]⟩,
  ⟨"CI_LAST", R.CI_LAST, 1, 4, .one, 0, [0], []⟩,
  ⟨"CI_LAP", R.CI_LAP, 1, 4, .one, 0, [0], []⟩,
  ⟨"CI_VOTE", R.CI_VOTE, 1, 4, .one, 0, [0], [(31, 0, .rc)]⟩,
  ⟨"CI_CMD", R.CI_CMD, 1, 4, .one, 0, [0], [(31, 30, .wo), (6, 0, .wo)]⟩,
  ⟨"CI_POLICY", R.CI_POLICY, 6, 4, .one, 0, [0], [(31, 0, .rws)]⟩]

/-- The CLK registers (21 R538). -/
def regsCLK : List RegDesc := [
  ⟨"CLK_STATUS", R.CLK_STATUS, 1, 4, .one, 0, [0], [(3, 3, .w1c), (0, 0, .w1c)]⟩,
  ⟨"CLK_BLK_COMMIT", R.CLK_BLK_COMMIT, 1, 4, .one, 0, [0], [(1, 1, .w1s), (0, 0, .w1s)]⟩,
  ⟨"CLK_REF_CFG", R.CLK_REF_CFG, 1, 4, .one, 0, [0xfa07d0], [(31, 30, .rwh), (29, 28, .rwh), (27, 27, .rwh), (26, 26, .rwh), (25, 13, .rwh), (12, 0, .rwh)]⟩,
  ⟨"CLK_TRIM", R.CLK_TRIM, 1, 4, .one, 0, [0], [(31, 30, .rw), (29, 26, .rw)]⟩,
  ⟨"CLK_LOOP_CFG", R.CLK_LOOP_CFG, 12, 4, .one, 1, [0], [(31, 30, .rws), (29, 28, .rws), (27, 20, .rws), (19, 8, .rws), (7, 4, .rws), (3, 2, .rws), (1, 1, .rws)]⟩,
  ⟨"CLK_OP_A", R.CLK_OP_A, 8, 4, .one, 0, [0x6e00fa, 0x78015e, 0x8201c2, 0x8c0226, 0x96028a, 0xa002d5, 0xaa0320, 0xb40384], [(23, 16, .rws), (15, 0, .rws)]⟩,
  ⟨"CLK_OP_B", R.CLK_OP_B, 8, 4, .one, 0, [0x15e01f4, 0x1f40258, 0x27102bc, 0x2ee0320, 0x3840384, 0x3e803e8, 0x46503e8, 0x4e203e8], [(31, 16, .rws), (15, 0, .rws)]⟩,
  ⟨"CLK_ISL_SEL", R.CLK_ISL_SEL, 1, 4, .one, 0, [0], [(5, 0, .rw)]⟩,
  ⟨"CLK_ISL_OP", R.CLK_ISL_OP, 1, 4, .island, 0, [7], [(2, 0, .rw)]⟩,
  ⟨"CLK_ISL_STAT", R.CLK_ISL_STAT, 1, 4, .island, 0, [7], []⟩]

/-- The PM registers (22 R563). -/
def regsPM : List RegDesc := [
  ⟨"PM_STATUS", R.PM_STATUS, 1, 4, .one, 0, [0], [(1, 1, .w1c), (0, 0, .w1c)]⟩,
  ⟨"PM_BLK_COMMIT", R.PM_BLK_COMMIT, 1, 4, .one, 0, [0], [(0, 0, .w1s)]⟩,
  ⟨"PM_CTRL", R.PM_CTRL, 1, 4, .one, 0, [0xa30], [(15, 8, .rws), (5, 4, .rws), (1, 0, .rws)]⟩,
  ⟨"PM_LAT_TOL", R.PM_LAT_TOL, 1, 4, .one, 0, [0xffffffff], [(31, 0, .rw)]⟩,
  ⟨"PM_SLACK", R.PM_SLACK, 1, 4, .one, 0, [0xffffffff], []⟩,
  ⟨"PM_DEV_CMD", R.PM_DEV_CMD, 1, 4, .one, 0, [0], [(1, 0, .wo)]⟩,
  ⟨"PM_POWER", R.PM_POWER, 1, 4, .one, 0, [0], []⟩,
  ⟨"PM_ISL_SEL", R.PM_ISL_SEL, 1, 4, .one, 0, [0], [(5, 0, .rw)]⟩,
  ⟨"PM_ISL_CTRL", R.PM_ISL_CTRL, 1, 4, .island, 0, [3], [(1, 0, .rw)]⟩,
  ⟨"PM_ISL_STAT", R.PM_ISL_STAT, 1, 4, .island, 0, [0], []⟩,
  ⟨"PM_WAKE_CNT", R.PM_WAKE_CNT, 1, 4, .island, 0, [0], [(31, 0, .rc)]⟩,
  ⟨"PM_GUAR_ISL_LO", R.PM_GUAR_ISL_LO, 1, 4, .one, 0, [0], [(31, 0, .rwh)]⟩,
  ⟨"PM_GUAR_ISL_HI", R.PM_GUAR_ISL_HI, 1, 4, .one, 0, [0], [(15, 0, .rwh)]⟩,
  ⟨"PM_GUAR_BLK_LO", R.PM_GUAR_BLK_LO, 1, 4, .one, 0, [0], [(31, 0, .rwh)]⟩,
  ⟨"PM_GUAR_BLK_HI", R.PM_GUAR_BLK_HI, 1, 4, .one, 0, [0], [(3, 0, .rwh)]⟩]

/-- The TH registers (22 R564). -/
def regsTH : List RegDesc := [
  ⟨"TH_STATUS", R.TH_STATUS, 1, 4, .one, 0, [0], [(5, 5, .w1c), (4, 4, .w1c), (1, 1, .w1c), (0, 0, .w1c)]⟩,
  ⟨"TH_BLK_COMMIT", R.TH_BLK_COMMIT, 1, 4, .one, 0, [0], [(1, 1, .w1s), (0, 0, .w1s)]⟩,
  ⟨"TH_LIMITS", R.TH_LIMITS, 1, 4, .one, 0, [0x5f645000], [(31, 24, .rws), (23, 16, .rws), (15, 12, .rws)]⟩,
  ⟨"TH_RISE", R.TH_RISE, 1, 4, .one, 0, [0x3e800805], [(31, 22, .rws), (15, 8, .rws), (7, 0, .rws)]⟩,
  ⟨"TH_DISAGREE", R.TH_DISAGREE, 1, 4, .one, 1, [0x18], [(7, 0, .rws)]⟩,
  ⟨"TH_EST_CFG", R.TH_EST_CFG, 1, 4, .one, 1, [0x30], [(15, 8, .rws), (7, 0, .rws)]⟩,
  ⟨"TH_SEL", R.TH_SEL, 1, 4, .one, 0, [0], [(13, 8, .rw), (7, 0, .rw)]⟩,
  ⟨"TH_SENSOR", R.TH_SENSOR, 1, 4, .sensor, 0, [0], []⟩,
  ⟨"TH_ISL_STAT", R.TH_ISL_STAT, 1, 4, .island, 0, [0], []⟩,
  ⟨"TH_ISL_EST", R.TH_ISL_EST, 1, 4, .island, 0, [0], []⟩,
  ⟨"TH_SUSPECT_LO", R.TH_SUSPECT_LO, 1, 4, .one, 0, [0], [(31, 0, .w1c)]⟩,
  ⟨"TH_SUSPECT_HI", R.TH_SUSPECT_HI, 1, 4, .one, 0, [0], [(15, 0, .w1c)]⟩,
  ⟨"TH_CURVE", R.TH_CURVE, 16, 4, .one, 0, [0, 0x3f0003, 0x7e0006, 0xbd0009, 0xfc000c, 0x13b000f, 0x17a0012, 0x1b90015, 0x1f80018, 0x237001b, 0x276001e, 0x2b50021, 0x2f40024, 0x3330027, 0x372002a, 0x3b1002d], [(25, 16, .rws), (15, 0, .rws)]⟩,
  ⟨"TH_BAND_A", R.TH_BAND_A, 5, 16, .one, 0, [0xfe, 0xff, 0, 0x10101, 0x20202], [(23, 16, .rws), (15, 8, .rws), (7, 0, .rws)]⟩,
  ⟨"TH_BAND_B", R.TH_BAND_B, 5, 16, .one, 0, [0, 0, 0, 0x1010101, 0x2020202], [(7, 0, .rws), (15, 8, .rws), (23, 16, .rws), (31, 24, .rws)]⟩,
  ⟨"TH_BAND_C", R.TH_BAND_C, 5, 16, .one, 0, [0, 0, 0, 0x1010101, 0x2020202], [(7, 0, .rws), (15, 8, .rws), (23, 16, .rws), (31, 24, .rws)]⟩]

/-- The MB registers (23 R591). -/
def regsMB : List RegDesc := [
  ⟨"MB_STATUS", R.MB_STATUS, 1, 4, .one, 0, [0], [(0, 0, .w1c)]⟩,
  ⟨"MB_BLK_COMMIT", R.MB_BLK_COMMIT, 1, 4, .one, 0, [0], []⟩,
  ⟨"MB_VERSION", R.MB_VERSION, 1, 4, .one, 0, [0], []⟩,
  ⟨"MB_CMD_IDX", R.MB_CMD_IDX, 1, 4, .one, 0, [0], [(15, 0, .rw)]⟩,
  ⟨"MB_RSP_IDX", R.MB_RSP_IDX, 1, 4, .one, 0, [0], [(15, 0, .rw)]⟩,
  ⟨"MB_CTRL", R.MB_CTRL, 1, 4, .one, 0, [0], [(31, 31, .wo), (11, 11, .rw), (10, 0, .rw)]⟩,
  ⟨"MB_LOAD", R.MB_LOAD, 1, 4, .one, 0, [0], []⟩,
  ⟨"MB_SHED_CNT", R.MB_SHED_CNT, 1, 4, .one, 0, [0], [(31, 16, .rc), (15, 0, .rc)]⟩]

/-- The MON registers (23 R592). -/
def regsMON : List RegDesc := [
  ⟨"MON_STATUS", R.MON_STATUS, 1, 4, .one, 0, [0], [(1, 1, .w1c), (0, 0, .w1c)]⟩,
  ⟨"MON_BLK_COMMIT", R.MON_BLK_COMMIT, 1, 4, .one, 0, [0], [(0, 0, .w1s)]⟩,
  ⟨"MON_CFG", R.MON_CFG, 1, 4, .one, 0, [0x2c000030], [(30, 24, .rws), (5, 5, .rws), (4, 4, .rws), (1, 0, .rws)]⟩,
  ⟨"MON_CNT", R.MON_CNT, 1, 4, .one, 0, [0], [(31, 16, .rc), (15, 0, .rc)]⟩,
  ⟨"MON_H2M_IDX", R.MON_H2M_IDX, 1, 4, .one, 0, [0], [(15, 0, .rw)]⟩,
  ⟨"MON_M2H_IDX", R.MON_M2H_IDX, 1, 4, .one, 0, [0], [(15, 0, .rw)]⟩,
  ⟨"MON_BP_SEL", R.MON_BP_SEL, 1, 4, .one, 0, [0], [(13, 0, .rw)]⟩,
  ⟨"MON_BP", R.MON_BP, 4, 4, .engine, 0, [0], [(31, 31, .rw), (9, 0, .rw)]⟩]

/-- The BT registers (24 R614). -/
def regsBT : List RegDesc := [
  ⟨"BT_STATUS", R.BT_STATUS, 1, 4, .one, 0, [0], [(0, 0, .w1c)]⟩,
  ⟨"BT_BLK_COMMIT", R.BT_BLK_COMMIT, 1, 4, .one, 0, [0], []⟩,
  ⟨"BT_CTRL", R.BT_CTRL, 1, 4, .one, 0, [0], [(31, 31, .wo), (30, 30, .wo), (10, 8, .rw), (6, 0, .rw)]⟩,
  ⟨"BT_SCRATCH", R.BT_SCRATCH, 1, 4, .one, 0, [0], [(13, 8, .rwh), (7, 0, .rwh)]⟩,
  ⟨"BT_RESULT", R.BT_RESULT, 1, 4, .one, 0, [0], []⟩,
  ⟨"BT_MISR_LO", R.BT_MISR_LO, 1, 4, .one, 0, [0], []⟩,
  ⟨"BT_MISR_HI", R.BT_MISR_HI, 1, 4, .one, 0, [0], []⟩,
  ⟨"BT_ANA_CTRL", R.BT_ANA_CTRL, 1, 4, .one, 0, [0], [(31, 31, .wo), (10, 8, .rw), (4, 0, .rw)]⟩,
  ⟨"BT_ANA_RES", R.BT_ANA_RES, 1, 4, .one, 0, [0], []⟩]

/-- The SEC registers (24 R615). -/
def regsSEC : List RegDesc := [
  ⟨"SEC_STATUS", R.SEC_STATUS, 1, 4, .one, 0, [0], [(0, 0, .w1c)]⟩,
  ⟨"SEC_BLK_COMMIT", R.SEC_BLK_COMMIT, 1, 4, .one, 0, [0], []⟩,
  ⟨"SEC_LC_CMD", R.SEC_LC_CMD, 1, 4, .one, 0, [0], [(31, 16, .wo), (2, 0, .wo)]⟩,
  ⟨"SEC_TAMPER_CFG", R.SEC_TAMPER_CFG, 1, 4, .one, 0, [0x1f], [(8, 8, .rwl), (7, 7, .rwl), (6, 5, .rwl), (4, 0, .rwl)]⟩,
  ⟨"SEC_TAMPER_STAT", R.SEC_TAMPER_STAT, 1, 4, .one, 0, [0], [(4, 0, .w1c)]⟩,
  ⟨"SEC_SLOT", R.SEC_SLOT, 4, 4, .one, 0, [0], []⟩,
  ⟨"SEC_CMD", R.SEC_CMD, 1, 4, .one, 0, [0], [(31, 28, .wo), (17, 16, .wo), (15, 0, .wo)]⟩,
  ⟨"SEC_CMD_ADDR_LO", R.SEC_CMD_ADDR_LO, 1, 4, .one, 0, [0], [(31, 0, .rw)]⟩,
  ⟨"SEC_CMD_ADDR_HI", R.SEC_CMD_ADDR_HI, 1, 4, .one, 0, [0], [(15, 0, .rw)]⟩,
  ⟨"SEC_CMD_STAT", R.SEC_CMD_STAT, 1, 4, .one, 0, [0], []⟩]

/-- The FLT registers (25 R630). -/
def regsFLT : List RegDesc := [
  ⟨"FLT_STATUS", R.FLT_STATUS, 1, 4, .one, 0, [0], [(1, 1, .w1c), (0, 0, .w1c)]⟩,
  ⟨"FLT_BLK_COMMIT", R.FLT_BLK_COMMIT, 1, 4, .one, 0, [0], [(0, 0, .w1s)]⟩,
  ⟨"FLT_CTRL", R.FLT_CTRL, 1, 4, .one, 0, [0x322], [(27, 27, .rws), (26, 16, .rws), (10, 8, .rws), (6, 4, .rws), (2, 0, .rws)]⟩,
  ⟨"FLT_HEAD", R.FLT_HEAD, 1, 4, .one, 0, [0], []⟩,
  ⟨"FLT_PEND", R.FLT_PEND, 1, 4, .one, 0, [0], [(4, 0, .w1c)]⟩,
  ⟨"FLT_LOST", R.FLT_LOST, 1, 4, .one, 0, [0], [(31, 16, .rc), (15, 0, .rc)]⟩,
  ⟨"FLT_PORT_MASK", R.FLT_PORT_MASK, 3, 4, .one, 0, [0], [(31, 0, .rw)]⟩,
  ⟨"FLT_FLASH", R.FLT_FLASH, 1, 4, .one, 0, [0], []⟩]

/-- The registers of the block that takes the given 1 MiB of the CSR space (25 R629). -/
def blockRegs : Nat → List RegDesc
  | 0 => regsDEV
  | 1 => regsCLK
  | 2 => regsPM
  | 3 => regsTH
  | 4 => regsCFG
  | 5 => regsCI
  | 6 => regsCTX
  | 7 => regsFAB
  | 8 => regsVX
  | 9 => regsMEM
  | 10 => regsMI
  | 11 => regsENG
  | 12 => regsNOC
  | 13 => regsQM
  | 14 => regsFS
  | 15 => regsLP
  | 16 => regsMEE
  | 17 => regsLN
  | 18 => regsGR
  | 19 => regsETH
  | 20 => regsPCI
  | 21 => regsMB
  | 22 => regsMON
  | 23 => regsBT
  | 24 => regsSEC
  | 25 => regsFLT
  | 26 => regsHSP
  | _ => []

end Sys2Proof.Machine
end

