-- ==== Sys2Proof/Machine/SMap.lean ====
section
/-! DEFINITION. Sparse data by number: a list of (key, value) pairs with rising keys that lists no
entry equal to what an unlisted key reads as, so that equal contents are equal data. -/

namespace Sys2Proof.Machine

/-- Values by key; an unlisted key reads as a default that the reader names. -/
abbrev SMap (α : Type) := List (Nat × α)

/-- The value at key `k`; `d` where `k` is not listed. -/
def SMap.get {α : Type} (d : α) : SMap α → Nat → α
  | [], _ => d
  | (j, a) :: m, k => if j = k then a else SMap.get d m k

/-- `m` without key `k`. -/
def SMap.erase {α : Type} : SMap α → Nat → SMap α
  | [], _ => []
  | (j, a) :: m, k => if j = k then SMap.erase m k else (j, a) :: SMap.erase m k

/-- `m` with `v` listed at `k`, keys kept rising. -/
def SMap.insert {α : Type} : SMap α → Nat → α → SMap α
  | [], k, v => [(k, v)]
  | (j, a) :: m, k, v =>
    if k < j then (k, v) :: (j, a) :: m
    else if k = j then (k, v) :: m
    else (j, a) :: SMap.insert m k v

/-- `m` with the value `v` at key `k`; a value equal to the default `d` removes the entry. -/
def SMap.set {α : Type} [DecidableEq α] (d : α) (m : SMap α) (k : Nat) (v : α) : SMap α :=
  if v = d then m.erase k else m.insert k v

/-- `m` with the value at `k` replaced by `f` of it. -/
def SMap.upd {α : Type} [DecidableEq α] (d : α) (m : SMap α) (k : Nat) (f : α → α) : SMap α :=
  m.set d k (f (m.get d k))

/-- The canonical form: keys rising, no entry equal to the default. -/
def SMap.wf {α : Type} [DecidableEq α] (d : α) : SMap α → Bool
  | [] => true
  | [(_, a)] => decide (a ≠ d)
  | (j, a) :: (k, b) :: m => decide (a ≠ d) && decide (j < k) && SMap.wf d ((k, b) :: m)

/-- Keys rising: the canonical form of a map whose default depends on the key. -/
def SMap.rising {α : Type} (m : SMap α) : Prop := (m.map (·.1)).Pairwise (· < ·)

/-- `m` without the entries whose key satisfies `p` (those keys read as the default again). -/
def SMap.clear {α : Type} (m : SMap α) (p : Nat → Bool) : SMap α :=
  m.filter fun e => !p e.1

/-- `m` with `f` applied to every listed value. -/
def SMap.vals {α : Type} [DecidableEq α] (d : α) (m : SMap α) (f : α → α) : SMap α :=
  (m.map fun e => (e.1, f e.2)).filter fun e => decide (e.2 ≠ d)

/-- A set of numbers held as the map of its members. -/
abbrev NSet := SMap Bool

/-- Membership in a number set. -/
def NSet.has (m : NSet) (k : Nat) : Bool := SMap.get false m k

/-- `k` put in or taken out. -/
def NSet.put (m : NSet) (k : Nat) (b : Bool) : NSet := SMap.set false m k b

/-- The members, rising. -/
def NSet.members (m : NSet) : List Nat := m.map (·.1)

end Sys2Proof.Machine
end

