-- ==== Sys2Proof/Machine/State.lean ====
section
/-! DEFINITION. The state of the block: everything the manual gives the Zabriuz, as plain data.
Registers hold their values in `csr`; what a register does not show stands in the parts below. -/

namespace Sys2Proof.Machine

/-! ## Faults and outputs -/

/-- A fault as a block raises it (25 R618, R619): code, severity, source and location items. -/
structure FaultEntry where
  code : Nat
  sev : Nat
  src : Nat
  loc : List Nat
deriving DecidableEq, Repr

/-- An entry of the fault record (25 R618); the reserved bytes and the CRC are computed on reading. -/
structure RecEntry where
  time : Nat
  index : Nat
  fault : FaultEntry
deriving DecidableEq, Repr

/-- The fault collector (25 R617 to R626). -/
structure FltSt where
  /-- groups raised since the last offer: the groups of the current base-layer cycle (R620) -/
  raised : List (List FaultEntry) := []
  /-- the 64-entry input queue (R620) -/
  queue : List FaultEntry := []
  /-- FLT_RECORD_LOST is still to be recorded (R620) -/
  lostDue : Bool := false
  /-- the SRAM record by slot (R621) -/
  record : SMap (Option RecEntry) := []
  /-- the flash log, oldest first, at most 64 (R622) -/
  flashLog : List RecEntry := []
  /-- entries still to be written to the flash log, oldest first (R622) -/
  toFlash : List RecEntry := []
  /-- fabric fault ports: the queued entries of each sector, at most 16 (R626) -/
  ports : SMap (List RecEntry) := []
  /-- the entry each sector's port shows until the next fabric edge (R626) -/
  shown : SMap (Option RecEntry) := []
deriving DecidableEq, Repr

/-- What the device gives to the world outside the block: packets, messages, answers. -/
inductive OutMsg where
  /-- an MSI-X message: function, vector (17 R441) -/
  | msix (fn vec : Nat)
  /-- an answer to an access: destination, status, data -/
  | answer (dst status : Nat) (data : List Byte)
  /-- an Ethernet frame on a MAC (17 R451) -/
  | frame (mac : Nat) (data : List Byte)
  /-- a pause frame on a MAC for a priority: stop or go (17 R452) -/
  | pause (mac pri : Nat) (stop : Bool)
  /-- bytes written to host memory: address, data (17 R446) -/
  | hostWrite (addr : Nat) (data : List Byte)
  /-- a completion to the host: its tag, 0 success, 1 Unsupported Request, 3 poisoned, data (17 R439) -/
  | hostRead (tag status : Nat) (data : List Byte)
  /-- a wire flit of 88 bytes sent on a Graft bundle (16 R421) -/
  | graft (bundle : Nat) (wire : List Byte)
  /-- a monitor response frame on a transport (23 R581) -/
  | monitor (transport : Nat) (data : List Byte)
  /-- an LTR message (17 R442) -/
  | ltr (value : Nat)
  /-- a serial word sent on a hard serial port (03 R99) -/
  | serial (port word : Nat)
  /-- a packet sent into the network or to an endpoint of it (10) -/
  | noc (p : NocPacket)
  /-- a poisoned beat delivered: whether on a trunk, and the column or island (02 R38) -/
  | beat (trunk : Bool) (unit : Nat)
  /-- bytes forwarded to the next device of a chain (19 R502) -/
  | chain (data : List Byte)
  /-- a follower's resend request: CFG_RDY low for 50 µs, then high (19 R503) -/
  | resend
  /-- one pulse on a line to the fabric: the engine and its sig_out line -/
  | pulse (unit line : Nat)
deriving DecidableEq, Repr

/-- Device time (17 R454, 00 R643): nanoseconds and a fraction, and what disciplines it. -/
structure TimeSt where
  /-- device time in ns -/
  ns : Nat := 0
  /-- the 32-bit fraction of a ns -/
  frac : Nat := 0
  /-- ns of slew still to be taken up, signed (16 R431, 17 R455) -/
  slew : Int := 0
  /-- held low word of a time write (17 R455) -/
  heldLo : Nat := 0
  /-- high word latched by a read of the low word (17 R455) -/
  latchedHi : Nat := 0
deriving DecidableEq, Repr

/-! ## Layers and vertical connections (02) -/

/-- What a spare wire of a bundle does. -/
inductive Spare where
  | free
  | wire (w : Nat)
  | parity
  | localising
  | failed
deriving DecidableEq, Repr

/-- A localisation in progress (02 R44): its spare, its step 1 to 8, the kept set [lo, lo+size) and
the windows repeated (R45). -/
structure LocRun where
  spare : Nat
  step : Nat
  lo : Nat
  size : Nat
  repeated : Nat
deriving DecidableEq, Repr

/-- A vertical bundle (02 R39 to R49). -/
structure Bundle where
  /-- wires recorded dead -/
  dead : List Nat := []
  spares : List Spare := [.free, .free, .free, .free]
  /-- a mismatch has been recorded since the last localisation ended (R41) -/
  recorded : Bool := false
  /-- fabric cycles of the mismatches that count toward loc_threshold (R43) -/
  stamps : List Nat := []
  loc : Option LocRun := none
deriving DecidableEq, Repr

/-- A row port of a bank (02 R55, R56): repaired groups with the bit steered, the error history
(bit, row, memory cycle), and whether the port is dead. -/
structure RowPort where
  steered : List (Nat × Nat) := []
  history : List (Nat × Nat × Nat) := []
  dead : Bool := false
deriving DecidableEq, Repr

/-- A restage path of a sector (02 R57, R58, R62). -/
structure RestagePath where
  steered : List (Nat × Nat) := []
  dead : Bool := false
  /-- a path test runs after a parity mismatch -/
  testing : Bool := false
  /-- a re-tune of the path is wanted -/
  retune : Bool := false
deriving DecidableEq, Repr

/-- A delay line (02 R59 to R61): its tap 0 to 63, the centre found at start-up, and the centre it moves to. -/
structure DelayLine where
  pos : Nat := 32
  centre : Nat := 32
  target : Nat := 32
deriving DecidableEq, Repr

/-- What a defect-map entry is about (02 R63). -/
inductive MapKind where
  | bundle | rowPort | restagePath
deriving DecidableEq, Repr

/-- An entry of the vertical defect map (02 R63, 23 R579): `unit` is island, bank or sector; `spare` is the
spare steered to, or none for dead. -/
structure MapEntry where
  kind : MapKind
  unit : Nat
  tile : Nat
  wire : Nat
  spare : Option Nat
  time : Nat
deriving DecidableEq, Repr

/-- The VX block. Bundles are keyed island * 1024 + tile, row ports by global bank, paths by sector,
delay lines island * 65536 + line. -/
structure VxSt where
  bundles : SMap Bundle := []
  rowPorts : SMap RowPort := []
  paths : SMap RestagePath := []
  lines : SMap DelayLine := []
  /-- re-tune in progress: start time in ns, by island (R60) -/
  retune : SMap (Option Nat) := []
  /-- next tile of each island's background tester (R42) -/
  bgTile : SMap Nat := []
  /-- VX_MAP_GEN at the moment each held island was held (R52) -/
  heldGen : SMap Nat := []
  /-- fabric edges delivered to each island -/
  cycles : SMap Nat := []
  /-- the defect map in flash and the flash writes in progress (R63) -/
  map : List MapEntry := []
  mapWrites : List MapEntry := []
  /-- single-bit riser and trunk errors corrected (R38), by column and by 64 + island -/
  beatsCorrected : SMap Nat := []
deriving DecidableEq, Repr

/-! ## Fabric (03) and contexts (04) -/

/-- Fabric frames of a context by frame number 0 to 6143 (03 R80); unlisted frames are 0. -/
abbrev Frames := SMap RowBits

/-- A row command in progress (03 R91, R92): STORE or LOAD, the row, and for a STORE the row to write. `fresh` until
the edge that ends the command's cycle, which is when a STORE takes the buffer and row_busy rises. -/
structure RowCmd where
  store : Bool
  row : Nat
  data : RowBits
  fresh : Bool
deriving DecidableEq, Repr

/-- An upper-path burst in progress (03 R96): its command's fields, the groups to write or those read so far, and the
number of fabric edges since its cycle 0. -/
structure Burst where
  write : Bool
  group : Nat
  count : Nat
  mask : Nat
  data : List (BitVec 256)
  got : List (BitVec 256) := []
  cycle : Nat := 0
deriving DecidableEq, Repr

/-- A landing tile (03 R90 to R96): row_done, row_refused and land_err are 1 until the next fabric edge. -/
structure Landing where
  buffer : RowBits := 0
  cmd : Option RowCmd := none
  done : Bool := false
  refused : Bool := false
  err : Bool := false
  errMask : Nat := 0
  /-- addresses of the four word ports at the last edge, and their read data (R93) -/
  portAddr : List Nat := []
  portData : List Half := []
  /-- writes made at the last edge, which a LOAD landing at that edge discards (R94) -/
  lastWrites : Nat := 0
  burst : Option Burst := none
  landErr : Bool := false
deriving DecidableEq, Repr

/-- A hard serial port (03 R98, R99): its settings words by select, and its two FIFOs of at most 64 words. -/
structure SerialPort where
  settings : List Nat := [0, 0]
  tx : List (Half × Bool) := []
  rx : List Half := []
deriving DecidableEq, Repr

/-- The capture store's contents for one sector: whether the capture selected it, its live plane, its flip-flops. -/
structure CapSector where
  sel : Bool := false
  plane : Nat := 0
  bits : NSet := []
deriving DecidableEq, Repr

/-- osc_slow_tick and osc_fast_count of an island as its two synchroniser stages hold them (R97); the second is shown. -/
structure OscSync where
  slow1 : Bool := false
  fast1 : Nat := 0
  slow : Bool := false
  fast : Nat := 0
deriving DecidableEq, Repr

/-- The FAB and HSP blocks and the fabric's own state. Flip-flop QA of cell c of tile t is bit
128 t + 2 c of its sector, QB the bit above. Landing tiles are keyed by global bank; edge FIFOs
(sector * 4 + edge) * 8 + channel at the receiving sector. -/
structure FabSt where
  live : SMap Frames := []
  staged : SMap Frames := []
  ff : SMap NSet := []
  landing : SMap Landing := []
  edges : SMap (List Half) := []
  serial : SMap SerialPort := []
  /-- the 4 MiB user area of embedded flash by 16-bit word; erased words read 0xFFFF (R100) -/
  flash : SMap Half := []
  /-- the flash user port's receive FIFO -/
  flashRx : List Half := []
  shadow : SMap CapSector := []
  store : SMap CapSector := []
  /-- the oscillator inputs on their way to an island's sectors (R97) -/
  osc : SMap OscSync := []
deriving DecidableEq, Repr

/-- A late switch (04 R122, R123): its plane, the fabric edge its trigger named, and whether the
schedule asked for it. -/
structure LateSwitch where
  plane : Nat
  edge : Nat
  sched : Bool
deriving DecidableEq, Repr

/-- What the CTX block holds for a sector beside its registers (04 R114 to R131). -/
structure CtxSec where
  /-- a restage asked for and not yet accepted (R116) -/
  request : Option Nat := none
  late : Option LateSwitch := none
  /-- the active table is checked (R129) -/
  checked : Bool := false
  /-- fabric edges left in the entry's dwell (R127) -/
  dwell : Nat := 0
  evtLatched : Bool := false
  /-- the entry whose switch is asked for and has not taken effect (R127) -/
  want : Option Nat := none
  /-- SCHED_START has armed the table and its time is not reached (R129) -/
  armed : Bool := false
  /-- a checked next table waits to take effect (R131) -/
  nextWaits : Bool := false
  /-- ctx_switched: 1 in the first cycle after a switch edge (R124) -/
  switched : Bool := false
  /-- a plane is live; until the first is, the live latches are all zero (18 R470) -/
  live : Bool := false
deriving DecidableEq, Repr

/-- The resident planes, keyed sector * 8 + plane (04 R113), and the sectors' context state. -/
structure CtxSt where
  planes : SMap Frames := []
  secs : SMap CtxSec := []
deriving DecidableEq, Repr

/-! ## The memory layer (05, 06) -/

/-- A request to a bank that waits: its master, what it asks, the memory cycle it arrived in, whether it has starved,
and where its answer goes (a request number of the network, or none). -/
structure MemReq where
  master : MemMaster
  op : MemOp
  born : Nat
  starved : Bool := false
  job : Option Nat := none
  /-- which word of its network access it is -/
  pos : Nat := 0
deriving DecidableEq, Repr

/-- A network access in word operations (10): who gets the answer, how it answers, the words gathered, how many are
still open, whether a bad word was met. -/
structure MemJob where
  dst : Nat
  read : Bool
  first : Nat
  bytes : Nat
  data : SMap BankData
  left : Nat
  bad : Bool := false
  refused : Bool := false
  posted : Bool
  host : Bool
deriving DecidableEq, Repr

/-- A merge-buffer entry (06 R181). -/
structure MergeEntry where
  bank : Nat
  word : Nat
  data : BankData
  mask : Nat
  born : Nat
deriving DecidableEq, Repr

/-- A repair-queue entry: a corrected word to write back (06 R177). -/
structure RepairEntry where
  bank : Nat
  word : Nat
  data : BankData
deriving DecidableEq, Repr

/-- A row move that waits for a token (05 R159). -/
structure RowWait where
  bank : Nat
  landing : Bool
  since : Nat
deriving DecidableEq, Repr

/-- A scrub pass in progress (06 R190): the next and last word offsets, and whether it is being aborted. -/
structure ScrubPass where
  next : Nat
  last : Nat
deriving DecidableEq, Repr

/-- A march test in progress (06 R199). -/
structure MarchRun where
  column : Nat
  first : Nat
  last : Nat
  preserve : Bool
  /-- words that fail by the march table itself on sound memory -/
  tableFails : List (Nat × Nat)
deriving DecidableEq, Repr

/-- A row copy (05 R162): source and destination bank of the column and first rows, as they stood at go, and the rows to
copy. -/
structure RowCopy where
  srcBank : Nat := 0
  srcRow : Nat := 0
  dstBank : Nat := 0
  dstRow : Nat := 0
  rows : Nat := 0
deriving DecidableEq, Repr

/-- The memory layer. Words are keyed bank * 8192 + word, spare words column * 64 + entry. -/
structure MemSt where
  words : SMap BankBits := []
  spares : SMap BankBits := []
  /-- the remap table of each column: entry n redirects the n-th word of the list, bank * 8192 + word (06 R194) -/
  remap : SMap (List Nat) := []
  /-- remap entries still to be written to flash, and those in flash (06 R196) -/
  remapWrites : List (Nat × Nat) := []
  remapFlash : List (Nat × Nat) := []
  /-- remaps asked for and not done: bank * 8192 + word (06 R195) -/
  remapAsked : List Nat := []
  /-- banks being filled after a change of code (06 R186) -/
  filling : NSet := []
  /-- background requests of each bank, and requests that wait for its fill, oldest first (05 R155, 06 R186) -/
  queue : SMap (List MemReq) := []
  fillWait : SMap (List MemReq) := []
  jobs : SMap (Option MemJob) := []
  merge : SMap (List MergeEntry) := []
  repair : SMap (List RepairEntry) := []
  /-- row tokens spent of each island's bucket, in 1/4096 row, and the time of the count (05 R159) -/
  spent : SMap (Nat × Nat) := []
  rowWait : SMap (List RowWait) := []
  /-- landing commands granted a token -/
  granted : NSet := []
  /-- the row copy of each column (05 R162) -/
  copies : SMap RowCopy := []
  /-- lap scrubber: next word of each bank, lap start, words corrected at their last visit (06 R188, R195) -/
  lapNext : SMap Nat := []
  lapStart : Nat := 0
  lapCorrected : NSet := []
  pass : Option ScrubPass := none
  march : Option MarchRun := none
  /-- next row of each column's transparent test (06 R200) -/
  testRow : SMap Nat := []
  /-- a raw access waits for a fill: op (06 R186, R197) -/
  rawWaits : Option Nat := none
  /-- secure region, by 16-byte word (05 R165) -/
  secure : SMap BankBits := []
deriving DecidableEq, Repr

/-! ## Signal engines (07 to 09) -/

/-- An engine's mover (07 R228 to R231). -/
structure Mover where
  busy : Bool := false
  /-- error of the last transfer: 0 none, 1 bad source word, 2 refused -/
  err : Nat := 0
  /-- engine words completed -/
  done : Nat := 0
  toBank : Bool := false
  sample : Bool := false
  eaddr : Nat := 0
  bword : Nat := 0
  /-- engine words still to move -/
  left : Nat := 0
  bank : Nat := 0
  portB : Bool := false
deriving DecidableEq, Repr

/-- A signal engine. -/
structure Engine where
  /-- registers by number (07 R204); ctl resets to 3, the others to 0 -/
  regs : SMap Nat := []
  /-- accumulator written in E2 by the last instruction, and the value E1 still reads (08 R241, 09 R264) -/
  lagAcc : Option (Nat × Nat) := none
  /-- st as E1 still reads it through MOV, STD and OUT -/
  lagSt : Option Nat := none
  /-- p, s or m written in E1 by the last instruction and not yet seen by address generation: 0 to 7 p, 8 to 15 s, 16 to 23 m;
  and the value -/
  pend : Option (Nat × Nat) := none
  halted : Bool := true
  /-- last halt cause (07 R234) -/
  cause : Nat := 0
  /-- an IN, OUT or SIG is stalled in E1 (07 R225) -/
  stalled : Bool := false
  waiting : Bool := false
  stepping : Bool := false
  /-- no instruction has been issued since RESUME or STEP (23 R588) -/
  fresh : Bool := false
  /-- a command halt waits for a boundary (09 R278) -/
  cmdHalt : Bool := false
  /-- delay slots still to execute, and where execution goes after them (08 R246) -/
  delay : Nat := 0
  target : Nat := 0
  /-- executions left of a repeated instruction (08 R251) -/
  rep : Nat := 0
  /-- instructions of the open locked sequence executed so far (08 R258) -/
  lock : Option Nat := none
  handler : Bool := false
  timerPend : Bool := false
  mboxPend : Bool := false
  /-- evt_in as last sampled -/
  evt : Nat := 0
  /-- 30-bit data words and 39-bit program words with their check bits (07 R207) -/
  dmem : SMap Nat := []
  pmem : SMap Nat := []
  /-- the data word whose rewrite is pending (07 R209) -/
  rewrite : Option Nat := none
  /-- port FIFOs: in0, in1, out0, out1, oldest first, at most 16 words each (07 R223) -/
  in0 : List Nat := []
  in1 : List Nat := []
  out0 : List Nat := []
  out1 : List Nat := []
  /-- pulses queued on each sig_out line (08 R255) -/
  sig : SMap Nat := []
  /-- sig_out in this fabric cycle (07 R223) -/
  sigOut : Nat := 0
  mover : Mover := {}
deriving DecidableEq, Repr

/-! ## Stream ports (11 R322) -/

/-- The packet a sector's stream port has open (11 R322): what was sampled with sop, the payload flits injected, the
words gathered for the next segment, and what the last of them carried. -/
structure SpOpen where
  queue : Nat
  dev : Nat
  vc : Nat
  len : Nat
  meta32 : Nat
  ack : Bool
  flits : Nat
  /-- the segment with sop has been injected -/
  begun : Bool := false
  words : List (BitVec 512) := []
  eop : Bool := false
  abort : Bool := false
  lastBytes : Nat := 0
deriving DecidableEq, Repr

/-- A word delivered to a stream port (11 R322): data, sop, eop, poison, and what goes with sop: queue, length, class,
meta. -/
structure SpWord where
  data : BitVec 512
  sop : Bool
  eop : Bool
  poison : Bool
  queue : Nat
  len : Nat
  cls : Nat
  meta32 : Nat
deriving DecidableEq, Repr

/-- A sector's stream port: its open packet, segments gathered and not injected, the delivered words not yet taken by
the fabric (at most 256 flits), and the answers not yet presented (queue, code). -/
structure SpSec where
  tx : Option SpOpen := none
  rx : List SpWord := []
  answers : List (Nat × Nat) := []
deriving DecidableEq, Repr

/-! ## Packet network (10) -/

/-- A request of an endpoint that has no response yet (10 R299): 0 READ, 1 WRITE, 2 FLOW_REQ; the flits its response
takes; when it was issued; whether its packet has reached the target. -/
structure NocReq where
  kind : Nat
  space : Nat
  born : Nat
  arrived : Bool
deriving DecidableEq, Repr

/-- A packet whose head waits in its last router for a sleeping domain (10 R302). -/
structure NocHeld where
  router : Nat
  since : Nat
  exit : Nat
  pkt : NocPacket
deriving DecidableEq, Repr

/-- The network. Outstanding requests are keyed (node * 4 + port) * 256 + tag; a tag ended by a timeout stays in `dead`
while its response can still come. -/
structure NocSt where
  reqs : SMap (Option NocReq) := []
  dead : NSet := []
  held : List NocHeld := []
deriving DecidableEq, Repr

/-! ## Hardware queues (11) -/

/-- A packet that has started on a queue and neither committed nor rewound (11 R316). `start` is its first queue word in
the near ring; `cells` the far cells taken, in order; `tail` the bytes of a queue word or cell not yet written. -/
structure OpenPkt where
  prod : Producer
  vc : Nat
  start : Nat
  pktLen : Nat
  reserved : Nat
  bytes : Nat
  meta32 : Nat
  ack : Bool
  tag : Nat
  arrival : Nat
  last : Nat
  cells : List Nat
  tail : List Byte
  /-- all written; the acknowledgement of its last far cell is awaited (11 R319) -/
  closing : Bool
  /-- the bound of the queue when the packet was admitted, and when its last byte came (13 R355, R358) -/
  bound : Nat
  bound0 : Nat
deriving DecidableEq, Repr

/-- A committed packet: its end descriptor (11 R312), its far cells, and what the promise judges it by (13 R358, R364). -/
structure QPkt where
  len : Nat
  meta32 : Nat
  arrival : Nat
  cls : Nat
  far : Bool
  loc : Nat
  cells : List Nat
  bound : Nat
  bound0 : Nat
deriving DecidableEq, Repr

/-- A queue beside its registers. `write` is the ring's write point; `waiting` the starts of packet that wait for the
open packet (11 R316); `dropping` the producers whose packet's further segments are discarded (11 R317, R318). -/
structure QueueSt where
  opened : Option OpenPkt := none
  pkts : List QPkt := []
  write : Nat := 0
  waiting : List (NocHead × Segment) := []
  dropping : List Producer := []
  deficit : Nat := 0
  /-- stopped by an uncorrectable descriptor until FLUSH (11 R312) -/
  descStop : Bool := false
deriving DecidableEq, Repr

/-- The egress scheduler of a port (11 R327 to R329). -/
structure EgressSt where
  /-- queues with outstanding entitlements, oldest first -/
  entitled : List Nat := []
  /-- the queue whose packet is being sent -/
  busy : Option Nat := none
  /-- the queue of a class-1 or class-2 packet chosen and not started -/
  chosen : Option Nat := none
  /-- the class being visited, 1 or 2, and whether its weight has been added on this visit -/
  cls : Nat := 1
  added : Bool := false
  /-- the queue at which each class's round stands, and whether its quantum has been added on this visit -/
  at1 : Nat := 0
  at2 : Nat := 0
  qAdded : Bool := false
  def1 : Nat := 0
  def2 : Nat := 0
  /-- virtual channels for which the port was last shown to hold no credit, as a mask -/
  dry : Nat := 0
deriving DecidableEq, Repr

/-- The queue manager. Queues by number, egress ports by slice * 32 + port, parity of near queue words by
slice * 2^22 + word (11 R310), far cells by slice: the first never used, and those freed, oldest first (11 R311). -/
structure QmSt where
  queues : SMap QueueSt := []
  ports : SMap EgressSt := []
  parity : SMap Nat := []
  nextCell : SMap Nat := []
  freed : SMap (List Nat) := []
deriving DecidableEq, Repr

/-! ## Flow context store (12) -/

/-- A fabric lookup port (12 R348): requests outstanding in their order, by tag, with the response of those that have one,
and responses not yet taken, oldest first: head and entry. -/
structure FlPort where
  waiting : List (Nat × Option (Nat × List Byte)) := []
  rsp : List (Nat × List Byte) := []
deriving DecidableEq, Repr

/-- The flow store. Words are keyed entry * 8 + k, stash words 2^23 + slot * 8 + k, under code S (12 R333, R335). -/
structure FlowSt where
  words : SMap BankBits := []
  /-- the relocator: the stash slot it works on, swaps made for it, and the way of the next swap (12 R337) -/
  slot : Nat := 0
  kicks : Nat := 0
  way : Nat := 0
  /-- the age scan: the next bucket, 2^18 for the stash (12 R346) -/
  scan : Option Nat := none
  fabric : SMap FlPort := []
deriving DecidableEq, Repr

/-! ## Guaranteed delivery (13) -/

/-- What the promise keeps for a queue beside its registers. -/
structure PrmSt where
  /-- bucket content in 1/8000 byte: it gains `rate` of them each ns (R356) -/
  bucket : Nat := 0
  bucketAt : Nat := 0
  /-- an event cause is present until this time (R362) -/
  eventUntil : Nat := 0
  /-- the consumer cause (R362) -/
  consumer : Bool := false
  /-- the queue's descriptor is uncorrectable (11 R312) -/
  descBad : Bool := false
  /-- when susp last rose or a cause was last present (R363, R364) -/
  lastCause : Nat := 0
  /-- when susp last fell (R363) -/
  fellAt : Nat := 0
  /-- near words or far cells reserved by the contract (R354) -/
  reserved : Nat := 0
deriving DecidableEq, Repr

/-! ## LPDDR6 channels (14) and the encryption engine (15) -/

/-- The sixteen channels beside their registers. Lines are keyed channel * 2^28 + line, 576 bits as they stand on the
wires: 512 data bits, then 64 metadata bits (14 R369). -/
structure LpSt where
  lines : SMap (BitVec 576) := []
  /-- lines read corrected and still to be rewritten (14 R373) -/
  rewrites : NSet := []
  /-- when each channel's memory was last refreshed (14 R380) -/
  lastRef : SMap Nat := []
  /-- the refresh multiplier code that applies from the next refresh (14 R376) -/
  wantMult : SMap Nat := []
  /-- training: the step 1 to 6 in progress and whether it has failed once (14 R378) -/
  step : SMap Nat := []
  retried : NSet := []
  /-- position of the tracking delay line of each channel, from its trained place (14 R379) -/
  track : SMap Int := []
  /-- band, plus 1, in which LP_REFRESH_HOT was last recorded (14 R377) -/
  hotBand : SMap Nat := []
deriving DecidableEq, Repr

/-- A write that waits for the re-encryption of its page (15 R396): class, address, bytes, where its answer goes. -/
structure MeeWrite where
  cls : Nat
  addr : Nat
  data : List Byte
  dst : Nat
deriving DecidableEq, Repr

/-- A re-encryption walk (15 R396, R397): its page, whether it is eager, and the minors of the lines already written
under M + 1, by line of the page. -/
structure MeeWalk where
  page : Nat
  eager : Bool
  moved : SMap Nat
deriving DecidableEq, Repr

/-- A REKEY, INIT or FLUSH in progress: 1, 2 or 3 (15 R406). -/
structure MeeOp where
  op : Nat
  region : Nat
  key : Nat
deriving DecidableEq, Repr

/-- The encryption engine beside its registers (15). -/
structure MeeSt where
  /-- active key slots, and the key each holds -/
  active : NSet := []
  keys : SMap Nat := []
  treeKey : Nat := 0
  /-- the counter cache: counter blocks and tree nodes by DRAM-window line, with the dirty mark (15 R395) -/
  cache : SMap (Option (Nat × Bool)) := []
  badPages : List Nat := []
  waiting : List (Nat × Bool) := []
  walks : List MeeWalk := []
  writes : List MeeWrite := []
  walk : Option MeeOp := none
  /-- the start-up epoch kept in embedded flash (15 R404) -/
  epoch : Nat := 0
deriving DecidableEq, Repr

/-! ## Serial lanes and the Graft link (16) -/

/-- A lane bundle beside its registers. -/
structure LnSt where
  /-- state of each lane on its own, in Ethernet mode (R413) -/
  lanes : SMap Nat := []
  /-- failed attempts of the bring-up in progress (R413) -/
  attempts : Nat := 0
  /-- the temperature band of the bundle (22 R554) -/
  band : Nat := 0
  /-- the interval exponent of an injection at a rate, while it runs, and its lanes (R419) -/
  injecting : Option (Nat × Nat) := none
  /-- bits inverted so far by single and burst injections, by lane (R419) -/
  injected : SMap Nat := []
  /-- the equaliser preset loaded at the start of adaptation (R412) -/
  preset : Nat := 0
deriving DecidableEq, Repr

/-- A data flit of the replay buffer: sequence number, flit, times sent (R426). -/
structure GrSent where
  seq : Nat
  data : BitVec 512
  side : BitVec 64
  sends : Nat
deriving DecidableEq, Repr

/-- The Graft link of a bundle beside its registers. -/
structure GrSt where
  /-- next sequence number to send, and the replay buffer, oldest first, at most 256 (R426) -/
  nextSeq : Nat := 0
  replay : List GrSent := []
  /-- credits held for each virtual channel (R423, R427) -/
  credits : SMap Nat := []
  /-- flits that wait at the port, oldest first (10 R303) -/
  waiting : List (BitVec 512 × BitVec 64) := []
  /-- VC3 is next of VC1 and VC3 (R427) -/
  turn3 : Bool := false
  /-- last good sequence number received, and whether a replay has been asked for since (R426) -/
  ack : Nat := 511
  nak : Bool := false
  /-- credits to return for each virtual channel (R422) -/
  owed : SMap Nat := []
  /-- received flits of each virtual channel that wait for the end of their packet -/
  partials : SMap (List (BitVec 512 × BitVec 64)) := []
  /-- the partner's capability word, and whether ours has been acknowledged (R423) -/
  peer : Option Nat := none
  /-- the rate lanes are brought up at (R423) -/
  rate : Nat := 1
  /-- the calendar and vc0_max of R434 stand in registers; the last 16 time offsets in ps, newest first (R431) -/
  offsets : List Int := []
  lastTime : Nat := 0
  /-- the link has been active since en rose, so the next bring-up is a retrain (R423, R428) -/
  wasActive : Bool := false
deriving DecidableEq, Repr

/-! ## PCIe host port and Ethernet ports (17) -/

/-- An entry of the transmit timestamp FIFO (R453). -/
structure TxStamp where
  mac : Nat
  tag : Nat
  time : Nat
deriving DecidableEq, Repr

/-- The Ethernet ports beside their registers. -/
structure EthSt where
  /-- bytes held in each MAC's receive buffer, by MAC * 8 + priority (R452) -/
  held : SMap Nat := []
  /-- transmit timestamps, oldest first, at most 64 (R453) -/
  stamps : List TxStamp := []
  /-- the last offsets of TIME_PPS in ns, newest first, and the time of the last edge (R454) -/
  ppsOffsets : List Int := []
  ppsLast : Nat := 0
deriving DecidableEq, Repr

/-- A packet that waits for buffers of its to-host ring (R446). -/
structure HostPkt where
  queue : Nat
  data : List Byte
  meta32 : Nat
  arrival : Nat
  cls : Nat
  poison : Bool
deriving DecidableEq, Repr

/-- A from-host descriptor in progress: its number, meta and flags (R444). -/
structure RingDesc where
  idx : Nat
  meta32 : Nat
  flags : Nat
deriving DecidableEq, Repr

/-- A host read whose responses are awaited: the host's tag, the network tags in address order, and what came (R439). -/
structure HostRead where
  hostTag : Nat
  tags : List Nat
  got : SMap (List Byte)
  status : Nat
deriving DecidableEq, Repr

/-- A host ring beside its registers. -/
structure RingSt where
  /-- packets that wait for buffers, oldest first (to host) -/
  waiting : List HostPkt := []
  /-- bytes of the first waiting packet already delivered -/
  sent : Nat := 0
  /-- from host: descriptors of the packet being fetched, with what the host wrote in them; bytes not yet sent; whether
  its sop segment has been sent; the slice's answer, if it came early (R447) -/
  cur : List RingDesc := []
  tail : List Byte := []
  begun : Bool := false
  early : Option Nat := none
  /-- packets wholly sent whose answer is awaited, oldest first -/
  sentPkts : List (List RingDesc) := []
  /-- descriptors fetched so far, modulo 2^16 -/
  fetch : Nat := 0
  /-- when the vector was last sent, and whether one is held back (R446) -/
  lastIrq : Option Nat := none
  irqHeld : Bool := false
deriving DecidableEq, Repr

/-- The PCIe host port beside its registers. -/
structure PciSt where
  rings : SMap RingSt := []
  /-- host reads in progress (R439) -/
  reads : List HostRead := []
  /-- unmasked and pending MSI-X vectors, by function * 2048 + vector (R441) -/
  unmasked : NSet := []
  pend : NSet := []
  /-- virtual functions enabled -/
  vfs : Nat := 0
  /-- the LTR capability: enabled, max snoop and no-snoop latency in ns (R442) -/
  ltrOn : Bool := false
  snoop : Nat := 0
  noSnoop : Nat := 0
deriving DecidableEq, Repr

/-! ## Images, start-up and loading (18, 19) -/

/-- A load in progress (18 R461 to R482). Fabric frames are keyed (sector * 8 + plane) * 6144 + frame. -/
structure LoadSt where
  /-- the image is being read -/
  active : Bool := false
  /-- a partial load of CFG_LOAD_CMD, not an attempt of the start-up -/
  running : Bool := false
  /-- where it is read: 0 image stream window, 1 device address, 2 xSPI, 3 embedded flash user area, 4 chain -/
  src : Nat := 0
  addr : Nat := 0
  /-- bytes the source holds, where that is known -/
  avail : Option Nat := none
  /-- the stored bytes read so far, header first -/
  image : List Byte := []
  /-- records processed -/
  count : Nat := 0
  /-- records held until the image is accepted, oldest first, with their offsets (R470, R477) -/
  kept : List (Nat × List Byte) := []
  /-- bytes of the records held in the staging buffer of a partial load (R477) -/
  held : Nat := 0
  /-- signatures of the fabric frames written, plus 1, and those supplied, plus 1 (R472) -/
  written : SMap Nat := []
  supplied : SMap Nat := []
  /-- the region of a partial image: sector, plane mask (R478) -/
  region : Option (List (Nat × Nat)) := none
  /-- planes that the load has written, by sector * 8 + plane -/
  planes : NSet := []
  /-- engines whose program the image carries -/
  programs : NSet := []
  /-- when its first byte came (R498) -/
  first : Option Nat := none
deriving DecidableEq, Repr

/-- Forwarding of a CHAIN (19 R502, R503): the body, whether it is being sent, whether it has been sent whole and when,
whether it has been sent again. -/
structure ChainSt where
  body : List Byte := []
  sending : Bool := false
  done : Nat := 0
  sentAt : Option Nat := none
  resent : Bool := false
deriving DecidableEq, Repr

/-- The steps of a sector-start table on a running sector (18 R481): live and staged plane, whether the schedule starts,
and how many steps are behind it. -/
structure SectorStart where
  live : Nat
  staged : Option Nat
  start : Bool
  step : Nat := 0
deriving DecidableEq, Repr

/-- Start-up and loading beside their registers. -/
structure StuSt where
  /-- the device is held in reset, before POR release (R484) -/
  hold : Bool := false
  /-- the level a follower drives on CFG_RDY (R503) -/
  rdy : Bool := false
  /-- RELEASE_STATE has run: clocks run, blocks are not stopped (R492) -/
  released : Bool := false
  /-- ENABLE_WRITES has run (R492) -/
  writesEnabled : Bool := false
  /-- RELEASE_IO has run (R492) -/
  ioReleased : Bool := false
  /-- the factory record as FACTORY_WRITE has written it; none: as manufactured (R486) -/
  factory : Option (List Byte) := none
  /-- the two copies of the settings record in embedded flash (R488) -/
  setA : Option (List Byte) := none
  setB : Option (List Byte) := none
  /-- the settings copy in force; none: the defaults (R488) -/
  settings : Option (List Byte) := none
  /-- bytes of the image stream window that wait to be read (R496) -/
  stream : List Byte := []
  load : LoadSt := {}
  /-- SLEW_SEL as sampled at POR release (26 R638) -/
  slew : Bool := false
  /-- the start-up has stopped after stage 1, in the life-cycle state END (24 R604) -/
  ended : Bool := false
  /-- the steps left of the start-up sequence: op and delay in µs (R492) -/
  seq : List (Nat × Nat) := []
  chain : ChainSt := {}
  /-- engines whose program the image in force carries -/
  programs : NSet := []
  /-- sectors whose schedule a sector-start table starts (R481, R492) -/
  starts : NSet := []
  /-- sector-start tables of a partial load that still act (R481) -/
  starting : SMap (Option SectorStart) := []
  /-- DRAM regions to be filled before release (06 R187) -/
  fills : NSet := []
deriving DecidableEq, Repr

/-! ## Configuration scanners (20) -/

/-- A sector's scanner beside its registers (20 R507 to R520). Frames are keyed plane * 6144 + frame. -/
structure CiSec where
  /-- laps completed since start-up -/
  lap : Nat := 0
  /-- the lap of its last stall (R520) -/
  stalled : Option Nat := none
  /-- its scan list has failed its check (R519) -/
  listBad : Bool := false
  /-- frames reported under policy 1 and not matching since: laps seen, by place * 65536 + frame key (R512, R514) -/
  reported : SMap Nat := []
  /-- live frames repaired in consecutive laps: the last such lap * 4 + how many (R514) -/
  repaired : SMap Nat := []
  /-- the repair in progress: whether of the live latches, plane, frame (R513) -/
  repair : Option (Bool × Nat × Nat) := none
  /-- the reload in progress: the plane it rewrites (R515) -/
  reload : Option Nat := none
deriving DecidableEq, Repr

/-- The scanners. Scan signatures are keyed (sector * 8 + plane) * 6144 + frame; an unlisted one is that of a frame of
zeros (R507). -/
structure CiSt where
  secs : SMap CiSec := []
  sigs : SMap Nat := []
  /-- signatures found uncorrectable (R519) -/
  sigBad : NSet := []
  /-- a commit of group 0 in progress: its seven words, and the sectors that have taken it (R521) -/
  commit : Option (List Nat) := none
  taken : NSet := []
  /-- sectors that have completed a lap in this device lap, and when it began (R511) -/
  lapped : NSet := []
  lapStart : Nat := 0
deriving DecidableEq, Repr

/-! ## Clocks (21) -/

/-- A transition of an island's sequencer (21 R533): the point it goes to and the one it leaves, whether the voltage
rises first, whether the generator has switched branch, and when it began. -/
structure ClkMove where
  goal : Nat
  former : Nat
  up : Bool
  switched : Bool
  start : Nat
deriving DecidableEq, Repr

/-- The clocks beside their registers (21). -/
structure ClkSt where
  /-- transitions in progress, by island -/
  moves : SMap (Option ClkMove) := []
  /-- islands whose target has been written during a transition (R534) -/
  waiting : NSet := []
  /-- windows in a row for which the trim reference has been absent (R525) -/
  trimMiss : Nat := 0
  /-- references flagged: 0 XTAL_A, 1 XTAL_B (R536) -/
  lost : NSet := []
  /-- loops relocked to their alternate reference (R536) -/
  onAlt : NSet := []
  /-- loops in holdover (R536) -/
  holdover : NSet := []
deriving DecidableEq, Repr

/-! ## Power states and thermal control (22) -/

/-- The power controller beside its registers (22 R543 to R550). -/
structure PmSt where
  /-- when each island last became eligible, plus 1; 0: it is not eligible (R544, R545) -/
  since : SMap Nat := []
  /-- islands whose entry into a sleep state is not complete (R543) -/
  entering : NSet := []
  /-- islands asked to wake while entering -/
  wakeAsked : NSet := []
  /-- wakes in progress, by island: when it began -/
  waking : SMap (Option Nat) := []
  /-- the state each island last woke from -/
  wokeFrom : SMap Nat := []
  /-- pm_woke: islands in their first fabric cycle after a wake (R544) -/
  woke : NSet := []
  /-- the device: entering a state, asked to wake meanwhile, waking since, the state it last woke from (R546) -/
  devEntering : Bool := false
  devAsked : Bool := false
  devWaking : Option Nat := none
  devFrom : Nat := 0
  /-- queues whose contract waits for guaranteed domains to wake, oldest first (R550) -/
  commits : List Nat := []
  /-- the device is in D4 (R547) -/
  off : Bool := false
deriving DecidableEq, Repr

/-- Thermal control beside its registers (22 R551 to R562). Temperatures are in quarters of a degree. -/
structure ThSt where
  /-- readings of each sensor, newest first (R559) -/
  history : SMap (List Int) := []
  /-- when the estimate began to exceed the sensor at every sample, plus 1, by island (R562) -/
  disSince : SMap Nat := []
  /-- islands recorded at warn, and islands recorded as throttled (R556 to R558) -/
  warned : NSet := []
  throttled : NSet := []
  /-- what read 115 degrees or more at the last sample: islands, and 48 + base-layer sensors (R560) -/
  hot : NSet := []
  /-- the last stop was a shutdown; kept in the always-on domain (R560) -/
  shutdown : Bool := false
deriving DecidableEq, Repr

/-! ## Management complex (23) -/

/-- A monitor request taken from a transport, 0 UART, 1 I3C, 2 mailbox channel (23 R580, R581). -/
structure MonReq where
  transport : Nat
  seq : Nat
  cmd : Nat
  payload : List Byte
deriving DecidableEq, Repr

/-- The last answered request of a transport and its response (23 R582). -/
structure MonCache where
  seq : Nat
  cmd : Nat
  response : List Byte
deriving DecidableEq, Repr

/-- The management complex beside its registers (23 R566 to R592). -/
structure MgtSt where
  /-- the complex is in reset (R572) -/
  warm : Bool := false
  /-- device times of the warm resets of this start-up, newest first (R573) -/
  warmTimes : List Nat := []
  /-- frames that ended clean in a row (R570) -/
  cleanFrames : Nat := 0
  /-- when the heartbeat was last kicked (R571) -/
  kicked : Nat := 0
  /-- the mailbox command that was executing when the warm reset began: its opcode and tag (R573) -/
  executing : Option (Nat × Nat) := none
  /-- bytes of the rings and of the monitor channel in BAR2, by offset; they read 0 until written (R574) -/
  bar2 : SMap Byte := []
  /-- monitor requests accepted and not yet answered, oldest first (R580) -/
  requests : List MonReq := []
  /-- when the ENG_CTRL at the front wrote its command, while its response waits (R587) -/
  ctrlSince : Option Nat := none
  /-- last answered request, by transport (R582) -/
  cache : SMap (Option MonCache) := []
  /-- monitor minor in force, none before HELLO (R583) -/
  monMinor : Option Nat := none
  /-- the 4,096-byte buffer in which the monitor stages settings (R584) -/
  setBuf : SMap Byte := []
  /-- response bytes that wait for room in the monitor channel (R580) -/
  m2h : List Byte := []
  /-- the dynamic address of the I3C target (R580) -/
  i3cAddr : Option Nat := none
deriving DecidableEq, Repr

/-! ## Self-test and security (24) -/

/-- What follows a wipe in progress (24 R598, R603, R605, R607): nothing, a life-cycle burn, the BIST run that asked for
it, the scan state, a start-up. -/
inductive AfterWipe where
  | nothing
  | burn (target : Nat)
  | bist
  | scan
  | startUp
deriving DecidableEq, Repr

/-- A wipe in progress: its source (0 tamper, 1 life cycle, 2 BIST, 3 pin control, 4 command) and what follows. -/
structure WipeRun where
  source : Nat
  after : List AfterWipe
deriving DecidableEq, Repr

/-- The BT and SEC blocks beside their registers. Fuses, secrets and epochs survive start-ups. -/
structure SecSt where
  /-- highest life-cycle fuse burned (24 R604) -/
  lc : Nat := 0
  /-- fuse key slots: the hash of each, and its programmed and revoked fuses (24 R609) -/
  slotHash : SMap Nat := []
  slotProg : NSet := []
  slotRev : NSet := []
  /-- key store: secrets by label, and slots whose kill fuse is burned (24 R610) -/
  secrets : SMap (Option Nat) := []
  killed : Nat := 0
  wipe : Option WipeRun := none
  /-- a life-cycle fuse burn in progress: its target (24 R605) -/
  burn : Option Nat := none
  /-- the TAP's instruction (24 R602), and whether pin control has been taken since the last TAP reset -/
  tap : Nat := 1
  /-- the BIST run in progress: kind, index (24 R595) -/
  run : Option (Nat × Nat) := none
  /-- the analogue check in progress: check, item (24 R600) -/
  ana : Option (Nat × Nat) := none
  /-- a tamper event latched in D4 (24 R607) -/
  latched : Nat := 0
deriving DecidableEq, Repr

/-! ## The whole machine -/

/-- Why a command ends in a fault. No meaning of this model raises it: every command of the table has an effect the
manual states, or is turned away by the manual's own refusal (safe). -/
inductive Fault where
  /-- raised by nothing; safe -/
  | none
deriving DecidableEq, Repr

/-- Why a command is refused by the model. -/
inductive Refusal where
  /-- raised by an arm of exec whose command has no meaning yet: safe, the model stops where the hardware goes on -/
  | notModelled (mnemonic : String)
deriving DecidableEq, Repr

/-- The machine. -/
structure State where
  /-- value in force of each register, by copy * 2^28 + CSR offset; an unlisted register holds its reset value (00 R6) -/
  csr : SMap Word := []
  /-- staged values of registers with RWS fields, where they were written since the last commit (00 R8, R11) -/
  staged : SMap Word := []
  /-- registers whose RWL fields have been written since the reset of their block (00 R15) -/
  locked : NSet := []
  /-- intervals in which a "first in each" event last came, by event (00 R643) -/
  firsts : SMap Nat := []
  time : TimeSt := {}
  flt : FltSt := {}
  /-- what the block has given to the outside, newest first -/
  out : List OutMsg := []
  vx : VxSt := {}
  fab : FabSt := {}
  ctx : CtxSt := {}
  mem : MemSt := {}
  /-- signal engines, by number -/
  eng : SMap Engine := []
  /-- semaphores that are set, by sector * 64 + number (08 R259) -/
  sems : NSet := []
  noc : NocSt := {}
  qm : QmSt := {}
  flow : FlowSt := {}
  lp : LpSt := {}
  mee : MeeSt := {}
  /-- lane bundles and Graft links, by bundle (16) -/
  ln : SMap LnSt := []
  gr : SMap GrSt := []
  eth : EthSt := {}
  pci : PciSt := {}
  mgt : MgtSt := {}
  secu : SecSt := {}
  stu : StuSt := {}
  ci : CiSt := {}
  clk : ClkSt := {}
  pm : PmSt := {}
  th : ThSt := {}
  /-- the promise, by queue (13) -/
  prm : SMap PrmSt := []
  /-- stream ports, by sector (11 R322) -/
  sp : SMap SpSec := []
  /-- the model's own: how many free values have been taken -/
  freeIdx : Nat := 0
  /-- commands that wait, first in first out -/
  pending : List Instr := []
deriving DecidableEq, Repr

/-- What a command answers. -/
abbrev Result := Host.Outcome State Fault Refusal

/-- The machine right after reset: every register at its reset value, every memory and queue empty, nothing pending. -/
def State.reset : State := {}

end Sys2Proof.Machine
end

