-- ==== Sys2Proof/Machine/Ops.lean ====
section
/-! DEFINITION. The named operations every block is written over: register access by field, fault raising,
first-in-each-interval, outputs, free values. -/

namespace Sys2Proof.Machine

/-! ## Where a CSR offset lies (25 R629) -/

/-- The block number of a CSR offset: the 1 MiB it lies in. -/
def blockOf (off : Nat) : Nat := off / 0x100000

/-- Bytes of one window of a block with windows: CTX 0x1000, LP and LN 0x1_0000; otherwise the whole 1 MiB. -/
def windowSize (block : Nat) : Nat :=
  if block = 6 then 0x1000 else if block = 15 ∨ block = 17 then 0x10000 else 0x100000

/-- How many windows a block has. -/
def windowCount (block : Nat) : Nat :=
  if block = 6 then 96 else if block = 15 then 16 else if block = 17 then 12 else 1

/-- The window of a block that an offset lies in. -/
def windowOf (off : Nat) : Nat := off % 0x100000 / windowSize (blockOf off)

/-- The first offset of the window of `off`: what names a block, or one copy of a block with windows. -/
def windowBase (off : Nat) : Nat := off - off % windowSize (blockOf off)

/-- The same place in the block's first window. -/
def unwindow (off : Nat) : Nat := blockOf off * 0x100000 + off % 0x100000 % windowSize (blockOf off)

/-- The register at an offset and its number in its run; none for an offset that holds no register (00 R9). -/
def findReg (off : Nat) : Option (RegDesc × Nat) :=
  if windowCount (blockOf off) ≤ windowOf off then none
  else
    let o := unwindow off
    ((blockRegs (blockOf off)).find? fun d =>
      decide (d.off ≤ o) && decide ((o - d.off) / d.stride < d.count) && decide ((o - d.off) % d.stride = 0)).map
      fun d => (d, (o - d.off) / d.stride)

/-- Reset weights of the packet-network inputs of router (x, y) (10 R298). -/
def routerWeights (router : Nat) : Nat :=
  let x := router % 8
  let y := router / 8
  8 * (7 - y) * 2 ^ 18 + (7 - x) * 2 ^ 12 + 8 * y * 2 ^ 6 + x

/-- The value a register holds after reset. -/
def regReset (off inst : Nat) : Word :=
  match findReg off with
  | none => 0
  | some (d, n) =>
    if d.off = R.NOC_WEIGHT0 then BitVec.ofNat 32 (routerWeights inst)
    else BitVec.ofNat 32 ((d.resets[n]?).getD (d.resets.headD 0))

/-! ## Register access by the hardware -/

/-- The key of copy `inst` of the register at `off`. -/
def regKey (off inst : Nat) : Nat := inst * 2 ^ 28 + off

/-- The value in force of a register. -/
def State.reg (s : State) (off : Nat) (inst : Nat := 0) : Word :=
  SMap.get (regReset off inst) s.csr (regKey off inst)

/-- A register given a value in force. -/
def State.setReg (s : State) (off : Nat) (v : Word) (inst : Nat := 0) : State :=
  { s with csr := SMap.set (regReset off inst) s.csr (regKey off inst) v }

/-- The field of register number `n` of a run of registers 4 bytes apart. -/
def FieldRef.nth (f : FieldRef) (n : Nat) : FieldRef := { f with reg := f.reg + 4 * n }

/-- The field in sector `k`'s window of CTX. -/
def FieldRef.ctx (f : FieldRef) (k : Nat) : FieldRef := { f with reg := f.reg + 0x1000 * k }

/-- The field in window `k` of LP or LN. -/
def FieldRef.win (f : FieldRef) (k : Nat) : FieldRef := { f with reg := f.reg + 0x10000 * k }

/-- A field's value in force. -/
def State.fld (s : State) (f : FieldRef) (inst : Nat := 0) : Nat :=
  bits (s.reg f.reg inst).toNat f.hi f.lo

/-- Whether a one-bit field is 1. -/
def State.flag (s : State) (f : FieldRef) (inst : Nat := 0) : Bool := s.fld f inst = 1

/-- A field given a value in force. -/
def State.setFld (s : State) (f : FieldRef) (v : Nat) (inst : Nat := 0) : State :=
  s.setReg f.reg (BitVec.ofNat 32 (putBits (s.reg f.reg inst).toNat f.hi f.lo v)) inst

/-- A one-bit field set to a truth value. -/
def State.setFlag (s : State) (f : FieldRef) (b : Bool) (inst : Nat := 0) : State := s.setFld f b.toNat inst

/-- A counting field increased, saturating. -/
def State.count (s : State) (f : FieldRef) (n : Nat := 1) (inst : Nat := 0) : State :=
  s.setFld f (satAdd (f.hi + 1 - f.lo) (s.fld f inst) n) inst

/-- A counting field increased, wrapping. -/
def State.countWrap (s : State) (f : FieldRef) (n : Nat := 1) (inst : Nat := 0) : State :=
  s.setFld f (s.fld f inst + n) inst

/-- A 64-bit value written to a LO and HI pair of registers. -/
def State.setPair (s : State) (lo hi : Nat) (v : Nat) (inst : Nat := 0) : State :=
  (s.setReg lo (BitVec.ofNat 32 v) inst).setReg hi (BitVec.ofNat 32 (v / 2 ^ 32)) inst

/-- The 64-bit value of a LO and HI pair of registers. -/
def State.pair (s : State) (lo hi : Nat) (inst : Nat := 0) : Nat :=
  (s.reg lo inst).toNat + 2 ^ 32 * (s.reg hi inst).toNat

/-! ## Faults (25 R618 to R620) -/

/-- A group of faults raised by one rule, entered in ascending code and location when it is offered (25 R620). -/
def State.raiseGroup (s : State) (g : List FaultEntry) : State :=
  match g with
  | [] => s
  | _ => { s with flt := { s.flt with raised := s.flt.raised ++ [g] } }

/-- A fault entry with the severity of its table; `src` as 25 R618 codes it. -/
def FaultCode.entry (f : FaultCode) (loc : List Nat := []) (src : Nat := 0) : FaultEntry :=
  { code := f.code, sev := f.sev, src := src, loc := loc }

/-- One fault raised: a group of one. -/
def State.raise (s : State) (f : FaultCode) (loc : List Nat := []) (src : Nat := 0) : State :=
  s.raiseGroup [f.entry loc src]

/-- One fault raised with another severity of its table (22 R565). -/
def State.raiseSev (s : State) (f : FaultCode) (sev : Nat) (loc : List Nat := []) (src : Nat := 0) : State :=
  s.raiseGroup [{ code := f.code, sev := sev, src := src, loc := loc }]

/-- Faults raised since `old` given a source other than block hardware (25 R618): 1 Heartwood, 2 the configuration
controller during a load, 3 a monitor request. -/
def State.srcSince (s old : State) (src : Nat) : State :=
  let n := old.flt.raised.length
  let mark := fun (e : FaultEntry) => if e.src = 0 then { e with src := src } else e
  let new := (s.flt.raised.drop n).map fun (g : List FaultEntry) => g.map mark
  { s with flt := { s.flt with raised := s.flt.raised.take n ++ new } }

/-- An item of 32 bits as two location items, low half first (25 R619). -/
def loc32 (v : Nat) : List Nat := [v % 65536, v / 65536 % 65536]

/-- A device address as three location items (25 R619). -/
def loc48 (v : Nat) : List Nat := [v % 65536, v / 65536 % 65536, v / 2 ^ 32 % 65536]

/-- A word, entry index or slot: one location item if it fits in 16 bits, otherwise two (25 R619). -/
def locWord (v : Nat) : List Nat := if v < 65536 then [v] else loc32 v

/-! ## Intervals (00 R643) -/

/-- The number of the millisecond of device time. -/
def State.ms (s : State) : Nat := s.time.ns / 10 ^ 6

/-- The number of the second of device time. -/
def State.second (s : State) : Nat := s.time.ns / 10 ^ 9

/-- The key of a first-in-interval event: a fault code and a unit. -/
def firstKey (f : FaultCode) (unit : Nat) : Nat := f.code * 2 ^ 32 + unit

/-- A fault recorded only for its first event of `unit` in interval number `now` (00 R643). -/
def State.raiseFirst (s : State) (f : FaultCode) (unit now : Nat) (loc : List Nat := []) (src : Nat := 0) : State :=
  if SMap.get 0 s.firsts (firstKey f unit) = now + 1 then s
  else { (s.raise f loc src) with firsts := SMap.set 0 s.firsts (firstKey f unit) (now + 1) }

/-! ## Outputs and free values -/

/-- Something given to the outside. -/
def State.emit (s : State) (m : OutMsg) : State := { s with out := m :: s.out }

/-- An answer to an access: destination, status, data. -/
def State.answer (s : State) (dst status : Nat) (data : List Byte := []) : State := s.emit (.answer dst status data)

/-- One more free value is taken: the state that has taken it. The value itself is an opaque constant of Config
applied to `s.freeIdx`. -/
def State.takeFree (s : State) : State := { s with freeIdx := s.freeIdx + 1 }

/-! ## The device's shape (01 R19 to R26) -/

/-- The island of a sector (01 R23). -/
def islandOf (sector : Nat) : Nat := sector % 48

/-- The other sector of the same island. -/
def partner (sector : Nat) : Nat := if sector < 48 then sector + 48 else sector - 48

/-- Whether a tile of a lower sector is a landing tile (01 R25); a tile is numbered row * 32 + column. -/
def isLandingTile (tile : Nat) : Bool := tile % 32 % 4 = 0

/-- The global number of the bank under the landing position of a tile of an island (01 R25). -/
def bankUnder (island tile : Nat) : Nat := island * 256 + tile / 32 * 8 + tile % 32 / 4

/-- The neighbour of a sector across its edge 0 N, 1 E, 2 S, 3 W, if there is one (01 R22). North is towards
the higher row y. -/
def neighbour (sector edge : Nat) : Option Nat :=
  let layer := sector / 48
  let q := sector % 48 / 12
  let i := sector % 12
  let x := q % 2 * 3 + i % 3
  let y := q / 2 * 4 + i / 3
  let at' := fun (x y : Nat) => layer * 48 + (y / 4 * 2 + x / 3) * 12 + y % 4 * 3 + x % 3
  match edge with
  | 0 => if y < 7 then some (at' x (y + 1)) else none
  | 1 => if x < 5 then some (at' (x + 1) y) else none
  | 2 => if 0 < y then some (at' x (y - 1)) else none
  | _ => if 0 < x then some (at' (x - 1) y) else none

/-- Whether an island is held (02 R50): its bit of VX_HELD_LO or VX_HELD_HI. -/
def State.held (s : State) (island : Nat) : Bool :=
  if island < 32 then bit (s.reg R.VX_HELD_LO).toNat island else bit (s.reg R.VX_HELD_HI).toNat (island - 32)

/-- An island's held bit written. -/
def State.setHeld (s : State) (island : Nat) (b : Bool) : State :=
  if island < 32 then s.setReg R.VX_HELD_LO (BitVec.ofNat 32 (putBit (s.reg R.VX_HELD_LO).toNat island b))
  else s.setReg R.VX_HELD_HI (BitVec.ofNat 32 (putBit (s.reg R.VX_HELD_HI).toNat (island - 32) b))

/-- Whether the device has been released (19 R492): the RELEASE_STATE step has run. -/
def State.released (s : State) : Bool := s.stu.released

/-- Whether an island's fabric and engine clocks run (03 R73, 21 R530, 22 R543): the device is released, the island is not
held, awake, and its generator has not lost lock. -/
def State.clocked (s : State) (island : Nat) : Bool :=
  s.released && !s.held island && decide (bits (s.reg R.PM_ISL_STAT island).toNat 1 0 = 0)
    && decide (bits (s.reg R.CLK_ISL_STAT island).toNat 5 3 ≠ 4)

/-- Fabric edges delivered to an island so far. -/
def State.fabCycle (s : State) (island : Nat) : Nat := SMap.get 0 s.vx.cycles island

/-- A bundle. -/
def State.bundle (s : State) (island tile : Nat) : Bundle := SMap.get {} s.vx.bundles (island * 1024 + tile)

/-- A bundle replaced. -/
def State.setBundle (s : State) (island tile : Nat) (b : Bundle) : State :=
  { s with vx := { s.vx with bundles := SMap.set {} s.vx.bundles (island * 1024 + tile) b } }

/-- What the CTX block holds for a sector. -/
def State.sec (s : State) (sector : Nat) : CtxSec := SMap.get {} s.ctx.secs sector

/-- That part replaced. -/
def State.setSec (s : State) (sector : Nat) (c : CtxSec) : State :=
  { s with ctx := { s.ctx with secs := SMap.set {} s.ctx.secs sector c } }

/-- The frames of a resident plane. -/
def State.plane (s : State) (sector plane : Nat) : Frames := SMap.get [] s.ctx.planes (sector * 8 + plane)

/-- The frames of a resident plane replaced. -/
def State.setPlane (s : State) (sector plane : Nat) (f : Frames) : State :=
  { s with ctx := { s.ctx with planes := SMap.set [] s.ctx.planes (sector * 8 + plane) f } }

/-- The live latches of a sector. -/
def State.liveOf (s : State) (sector : Nat) : Frames := SMap.get [] s.fab.live sector

/-- The staged latches of a sector. -/
def State.stagedOf (s : State) (sector : Nat) : Frames := SMap.get [] s.fab.staged sector

/-- The live latches of a sector replaced. -/
def State.setLive (s : State) (sector : Nat) (f : Frames) : State :=
  { s with fab := { s.fab with live := SMap.set [] s.fab.live sector f } }

/-- The staged latches of a sector replaced. -/
def State.setStaged (s : State) (sector : Nat) (f : Frames) : State :=
  { s with fab := { s.fab with staged := SMap.set [] s.fab.staged sector f } }

/-- A landing tile's row landing buffer and ports, by global bank. -/
def State.land (s : State) (bank : Nat) : Landing := SMap.get {} s.fab.landing bank

/-- That landing tile replaced. -/
def State.setLand (s : State) (bank : Nat) (l : Landing) : State :=
  { s with fab := { s.fab with landing := SMap.set {} s.fab.landing bank l } }

end Sys2Proof.Machine
end

