-- ==== Sys2Proof/Machine/Promise.lean ====
section
/-! DEFINITION. Guaranteed delivery: the causes that suspend a queue's promise, and the rise and fall of susp
(13 R362, R363). Every meaning that can bring or clear a cause ends in `State.prmRefresh`. -/

namespace Sys2Proof.Machine

/-- The Graft bundle whose port is local port `port` of network node `node` (10 R285). -/
def graftBundleAt (node port : Nat) : Option Nat :=
  match node, port with
  | 57, 2 => some 10 | 57, 3 => some 11 | 59, 2 => some 8 | 59, 3 => some 9
  | 61, p => if p < 4 then some p else none
  | 63, p => if p < 4 then some (4 + p) else none
  | _, _ => none

/-- The network node and local port of a Graft bundle (10 R285). -/
def graftNode (bundle : Nat) : Nat × Nat :=
  if bundle < 4 then (61, bundle) else if bundle < 8 then (63, bundle - 4)
  else if bundle < 10 then (59, bundle - 6) else (57, bundle - 8)

/-- What the promise keeps for a queue. -/
def State.prmOf (s : State) (q : Nat) : PrmSt := SMap.get {} s.prm q

/-- That part replaced. -/
def State.setPrm (s : State) (q : Nat) (p : PrmSt) : State := { s with prm := SMap.set {} s.prm q p }

/-- The queues with a committed contract, rising: QM_CT_STAT.committed. -/
def State.committed (s : State) : List Nat :=
  s.csr.filterMap fun e =>
    if e.1 % 2 ^ 28 = R.QM_CT_STAT ∧ bit e.2.toNat 31 then some (e.1 / 2 ^ 28) else none

/-- The set of islands on a queue's path, as a 48-bit mask (13 R352). -/
def State.ctIslands (s : State) (q : Nat) : Nat :=
  (s.reg R.QM_CT_ISL_LO q).toNat + 2 ^ 32 * ((s.reg R.QM_CT_ISL_HI q).toNat % 65536)

/-- The islands on a queue's path. -/
def State.ctIslandList (s : State) (q : Nat) : List Nat := onesOf 48 (s.ctIslands q)

/-- The MAC that serves egress port `port` of a slice, for a MAC port (11 R308). -/
def macOfPort (slice port : Nat) : Nat := slice * 24 + port

/-- The Graft bundle on a queue's route, if its egress leaves through one (13 R362, 10 R303). -/
def State.graftOnRoute (s : State) (q : Nat) : Option Nat :=
  if s.fld F.QM_Q_CFG0_egress q < 24 then none
  else if s.fld F.QM_Q_CFG5_dst_dev q ≠ s.fld F.NOC_GROVE_devnum then
    let f := (F.NOC_GROVE_ROUTE_bundle).nth (s.fld F.QM_Q_CFG5_dst_dev q)
    if s.fld f < 12 then some (s.fld f) else none
  else graftBundleAt (s.fld F.QM_Q_CFG5_dst_node q) (s.fld F.QM_Q_CFG5_dst_port q)

/-- Throttling, or a generator that has lost lock, removes cycles from an island in isl (13 R362, 21 R530, 22 R557). -/
def State.causeThrottle (s : State) (q : Nat) : Bool :=
  (s.ctIslandList q).any fun k =>
    decide (s.fld F.TH_ISL_STAT_removal k ≠ 0) || decide (s.fld F.CLK_ISL_STAT_phase k = 4)

/-- A fault on the queue's path (13 R362): a held island, a failed bundle behind its egress MAC, for a far queue a
failed LPDDR6 channel, an uncorrectable descriptor, or an event within one bound. -/
def State.causeFault (s : State) (q : Nat) : Bool :=
  (s.ctIslandList q).any s.held
  || (decide (s.fld F.QM_Q_CFG0_egress q < 24) &&
      decide (s.fld (F.LN_STATE_state.win (macOfPort (q / 1024) (s.fld F.QM_Q_CFG0_egress q) / 8)) = 8))
  || (s.flag F.QM_Q_CFG0_far q && (List.range 16).any fun c => decide (s.fld (F.LP_STATUS_state.win c) = 6))
  || (s.prmOf q).descBad
  || decide (s.time.ns < (s.prmOf q).eventUntil)

/-- The egress MAC's link is down, a Graft link on the route retrains or is down, or the PCIe link of a host ring is
not in L0 (13 R362, 16 R428). -/
def State.causeRetrain (s : State) (q : Nat) : Bool :=
  if s.fld F.QM_Q_CFG0_egress q < 24 then
    !s.flag F.ETH_MAC_STAT_link_up (macOfPort (q / 1024) (s.fld F.QM_Q_CFG0_egress q))
  else
    (match s.graftOnRoute q with
      | some b => decide (s.fld F.GR_LINK_state b ≠ 5)
      | none => false)
    || (decide (s.fld F.QM_Q_CFG5_dst_dev q = s.fld F.NOC_GROVE_devnum)
        && decide (s.fld F.QM_Q_CFG5_dst_node q = 57) && decide (s.fld F.QM_Q_CFG5_dst_port q = 0)
        && (!s.flag F.PCI_STATUS_up || s.flag F.PCI_STATUS_l1))

/-- An island in isl runs below min_op (13 R362). -/
def State.causeOpLow (s : State) (q : Nat) : Bool :=
  (s.ctIslandList q).any fun k => decide (s.fld F.CLK_ISL_STAT_op k < s.fld F.QM_CT_OP_min_op q)

/-- The cause bits [5:1] of a queue's QM_PROMISE_STATUS as the machine stands. -/
def State.causes (s : State) (q : Nat) : Nat :=
  (s.causeThrottle q).toNat * 2 + (s.causeFault q).toNat * 4 + (s.causeRetrain q).toNat * 8
    + (s.causeOpLow q).toNat * 16 + (s.prmOf q).consumer.toNat * 32

/-- One committed queue's status brought up to date: the causes shown, and a rise of susp recorded (13 R363). -/
def State.prmRefreshOne (s : State) (q : Nat) : State :=
  let c := s.causes q
  let susp := s.flag F.QM_PROMISE_STATUS_susp q
  let s1 := s.setReg R.QM_PROMISE_STATUS (BitVec.ofNat 32 (c + (susp || decide (c ≠ 0)).toNat)) q
  let s2 := if c ≠ 0 then s1.setPrm q { s1.prmOf q with lastCause := s.time.ns } else s1
  if c ≠ 0 ∧ susp = false then
    (s2.setFld F.QM_PROMISE_SUM_suspended (s2.fld F.QM_PROMISE_SUM_suspended + 1)).raise Flt.PRM_SUSPENDED [q]
  else s2

/-- Every committed queue's status brought up to date. -/
def State.prmRefresh (s : State) : State := s.committed.foldl State.prmRefreshOne s

/-- An event cause of a queue: present for one QM_Q_BOUND from now (13 R362). -/
def State.prmEvent (s : State) (q : Nat) : State :=
  if s.flag F.QM_CT_STAT_committed q then
    (s.setPrm q { s.prmOf q with
      eventUntil := s.time.ns + (s.reg R.QM_Q_BOUND q).toNat }).prmRefreshOne q
  else s

end Sys2Proof.Machine
end

