-- ==== Sys2Proof/Machine/Noc.lean ====
section
/-! DEFINITION. The packet network (10): routes, heads on their way, virtual channels, sleeping and held
destinations, outstanding requests. What a packet does at its target stands in Access.lean. -/

namespace Sys2Proof.Machine

/-! ## Routes (10 R284, R291) -/

/-- The routers after `from` on the dimension-ordered route to `to`, each router with the output its head takes there:
0 N, 1 E, 2 S, 3 W, 4 to 7 local ports. -/
def nocHops (dst port : Nat) : Nat → Nat → List (Nat × Nat)
  | 0, r => [(r, 4 + port)]
  | fuel + 1, r =>
    if r % 8 < dst % 8 then (r, 1) :: nocHops dst port fuel (r + 1)
    else if dst % 8 < r % 8 then (r, 3) :: nocHops dst port fuel (r - 1)
    else if r / 8 < dst / 8 then (r, 0) :: nocHops dst port fuel (r + 8)
    else if dst / 8 < r / 8 then (r, 2) :: nocHops dst port fuel (r - 8)
    else [(r, 4 + port)]

/-- The route from a node to a local port of a node: at most 14 links. -/
def nocRoute (src dst port : Nat) : List (Nat × Nat) := nocHops dst port 14 src

/-- The number of links of a route. -/
def nocLinks (src dst : Nat) : Nat := (nocRoute src dst 0).length - 1

/-- The input by which a route enters the next router after an output: 0 N, 1 E, 2 S, 3 W (R295). -/
def inputAfter (out : Nat) : Nat := if out = 0 then 2 else if out = 1 then 3 else if out = 2 then 0 else 1

/-- Channels code of an output of a router (R293): a local port always has 4; 3 is treated as 0. -/
def State.linkCfg (s : State) (router out : Nat) : Nat :=
  let v := if out = 0 then s.fld F.NOC_LINK_CFG_n router else if out = 1 then s.fld F.NOC_LINK_CFG_e router
    else if out = 2 then s.fld F.NOC_LINK_CFG_s router else if out = 3 then s.fld F.NOC_LINK_CFG_w router else 2
  if v = 3 then 0 else v

/-- An entry of a router output's calendar in force (R295): the input that owns the slot, if valid. -/
def State.nocCal (s : State) (router out slot : Nat) : Option Nat :=
  let v := (s.reg (R.NOC_CAL + 0x20 * out + 4 * (slot / 8)) router).toNat
  if bit v (4 * (slot % 8) + 3) then some (bits v (4 * (slot % 8) + 2) (4 * (slot % 8))) else none

/-! ## A packet on its way (R290, R293) -/

/-- What a packet is after one router: none where the router discards it. -/
def State.nocHop (s : State) (h : NocHead) (router out : Nat) : Option NocHead × State :=
  if h.badHead = some router then
    (none, ((s.count F.NOC_RTR_ERR_head_crc 1 router).setFlag F.NOC_STATUS_crc_any true).raise Flt.NOC_HEAD_CRC [router])
  else
    let s1 := s.count F.NOC_RTR_FLITS_count h.flits router
    let (h2, s2) :=
      if h.badFlit = some router then
        ({ h with poison := true },
          ((s1.count F.NOC_RTR_ERR_data_parity 1 router).setFlag F.NOC_STATUS_crc_any true).raiseFirst
            Flt.NOC_DATA_PARITY router s1.ms [router])
      else (h, s1)
    if h2.vc = 0 ∧ s.linkCfg router out = 0 then
      (some { h2 with vc := 1 }, (s2.setFlag F.NOC_STATUS_vc0_demoted true).raise Flt.NOC_VC0_DEMOTED [router])
    else (some h2, s2)

/-- A packet along a route. -/
def State.nocAlong (s : State) (h : NocHead) : List (Nat × Nat) → Option NocHead × State
  | [] => (some h, s)
  | (r, o) :: l =>
    match s.nocHop h r o with
    | (none, s1) => (none, s1)
    | (some h1, s1) => s1.nocAlong h1 l

/-- A packet from where it enters this device to its destination: none where it is discarded on the way. -/
def State.nocTravel (s : State) (h : NocHead) : Option NocHead × State :=
  s.nocAlong h (nocRoute h.entry h.dstNode h.dstPort)

/-! ## Destinations that do not answer (02 R50, 10 R301, R302) -/

/-- The island behind a local port, if there is one: ports 0 to 2 of nodes 0 to 47 (R285). -/
def islandBehind (node : Nat) : Option Nat := if node < 48 then some node else none

/-- Whether the packets for a port are sunk: its island is held (02 R50). The bank column keeps running (02 R51). -/
def State.sinks (s : State) (node port : Nat) : Bool := decide (node < 48) && decide (port < 2) && s.held node

/-- Whether the domain behind a port is asleep (R302): the island, or the device below D0. -/
def State.asleep (s : State) (node : Nat) : Bool :=
  (decide (node < 48) && decide (s.fld F.PM_ISL_STAT_state node ≠ 0) && !s.held node) || decide (s.fld F.PM_STATUS_dev_state ≠ 0)

/-- Exit latencies of the island states in ns (22 R543). -/
def islandExit (s : Nat) : Nat := match s with | 0 => 0 | 1 => 20 | 2 => 2000 | _ => 50000

/-- Exit latencies of the device states D0 to D3 in ns (22 R546). -/
def deviceExit (s : Nat) : Nat := match s with | 0 => 0 | 1 => 2000 | 2 => 150000 | _ => 5000000

/-- The exit latency of the domain behind a node from the state it is in. -/
def State.exitNs (s : State) (node : Nat) : Nat :=
  max (if node < 48 then islandExit (s.fld F.PM_ISL_STAT_state node) else 0) (deviceExit (s.fld F.PM_STATUS_dev_state))

/-- A head stops before a sleeping domain: one wake request however many packets wait (R302). -/
def State.holdHead (s : State) (p : NocPacket) : State :=
  let first := !(s.noc.held.any fun w => decide (w.router = p.head.dstNode))
  let s1 := { s with noc := { s.noc with held := s.noc.held ++ [({ router := p.head.dstNode, since := s.time.ns, exit := s.exitNs p.head.dstNode, pkt := p } : NocHeld)] } }
  let s2 := s1.setFlag F.NOC_STATUS_wake_pend true
  if first then s2.count F.NOC_RTR_WAKE_wakes 1 p.head.dstNode else s2

/-- A posted packet sunk. -/
def State.sinkPosted (s : State) : State := s.count F.NOC_DISCARD_held_discard

/-! ## Answers (R289) -/

/-- Where the answer to a request goes: the endpoint and the tag. -/
def answerKey (node port tag : Nat) : Nat := 0x10000 + (node * 4 + port) * 256 + tag % 256

/-- The producer that a head names. -/
def producerOf (h : NocHead) : Producer := { dev := h.srcDev, node := h.srcNode, port := h.srcPort }

/-- Where an answer to a producer goes: its endpoint and the segment's tag; another device's above its number. -/
def State.producerKey (s : State) (p : Producer) (tag : Nat) : Nat :=
  (if p.dev = s.fld F.NOC_GROVE_devnum then 0 else (p.dev + 1) * 2 ^ 24) + answerKey p.node p.port tag

/-- The answer key of a packet. -/
def State.headKey (s : State) (h : NocHead) : Nat := s.producerKey (producerOf h) h.tag

/-! ## Outstanding requests (R299, R300) -/

/-- The response buffer of an endpoint in flits, and its tags. -/
def endpointSpace (node port : Nat) : Nat × Nat :=
  if node < 48 then (128, 256)
  else if node < 56 then (64, 64)
  else if node % 2 = 0 then (512, 256)
  else if node = 57 then (if port = 1 then (64, 64) else (1024, 256))
  else if node = 59 then (if port < 2 then (64, 64) else (1024, 256))
  else (1024, 256)

/-- The key of an outstanding request. -/
def reqKey (node port tag : Nat) : Nat := (node * 4 + port) * 256 + tag

/-- The outstanding requests of an endpoint. -/
def State.reqsOf (s : State) (node port : Nat) : List NocReq :=
  s.noc.reqs.filterMap fun e => if e.1 / 256 = node * 4 + port then e.2 else none

/-- Whether an endpoint can issue a request whose response takes `space` flits with a tag (R299). -/
def State.canIssue (s : State) (node port tag space : Nat) : Bool :=
  decide (tag < (endpointSpace node port).2)
  && decide (SMap.get none s.noc.reqs (reqKey node port tag) = none)
  && !s.noc.dead.has (reqKey node port tag)
  && decide (((s.reqsOf node port).map NocReq.space).sum + space ≤ (endpointSpace node port).1)

/-- A request is issued: its space and tag are taken. -/
def State.issue (s : State) (node port tag kind space : Nat) (arrived : Bool) : State :=
  let r : NocReq := { kind := kind, space := space, born := s.time.ns, arrived := arrived }
  { s with noc := { s.noc with reqs := SMap.set none s.noc.reqs (reqKey node port tag) (some r) } }

/-- A request's packet comes to the network: one that its endpoint has issued, or one that it issues now; none where the
endpoint has no space or tag for it. -/
def State.issued (s : State) (node port tag kind space : Nat) : Option State :=
  match SMap.get none s.noc.reqs (reqKey node port tag) with
  | some r => if r.kind = kind ∧ !r.arrived then some (s.issue node port tag kind space true) else none
  | none => if s.canIssue node port tag space then some (s.issue node port tag kind space true) else none

/-- A request is ended and its space and tag are free. -/
def State.release (s : State) (node port tag : Nat) : State :=
  { s with noc := { s.noc with reqs := SMap.set none s.noc.reqs (reqKey node port tag) none } }

/-- A response reaches its requester (R289, R300): its request ends, or the response is late and discarded. The second
component says whether the requester takes it. -/
def State.response (s : State) (node port tag : Nat) : Bool × State :=
  if SMap.get none s.noc.reqs (reqKey node port tag) ≠ none then (true, s.release node port tag)
  else
    let s1 := s.count F.NOC_DISCARD_late_resp
    (false, { s1 with noc := { s1.noc with dead := s1.noc.dead.put (reqKey node port tag) false } })

/-- RESP_TIMEOUT (R300): the request ends with status 2 at its source. -/
def State.respTimeout (s : State) (node port tag : Nat) : State :=
  match SMap.get none s.noc.reqs (reqKey node port tag) with
  | none => s
  | some r =>
    if s.time.ns < r.born + max 1 (s.fld F.NOC_CTRL_resp_timeout_us) * 1000 then s
    else
      let s1 := s.release node port tag
      let s2 := { s1 with noc := { s1.noc with dead := s1.noc.dead.put (reqKey node port tag) true } }
      (((s2.count F.NOC_TIMEOUTS_count).setFlag F.NOC_STATUS_timeout_any true).raiseFirst Flt.NOC_RESP_TIMEOUT 0 s2.ms
        [node, port]).answer (answerKey node port tag) 2

/-! ## Other devices (R303) -/

/-- The Graft bundle that a packet for another device takes (R303): none where it is unroutable. -/
def State.groveBundle (s : State) (dev : Nat) : Option Nat :=
  let b := s.fld (F.NOC_GROVE_ROUTE_bundle.nth dev)
  if s.flag (F.NOC_GROVE_ROUTE_valid.nth dev) ∧ b < 12 ∧ s.flag (F.LN_CTRL_mode.win b) ∧ s.fld F.GR_LINK_state b ≠ 7 then some b
  else none

/-- Whether a bundle's link carries VC0 (16 R425, 10 R303): version 2, VC0 at both ends, and the route's vc0 bit. -/
def State.groveVc0 (s : State) (dev bundle : Nat) : Bool :=
  s.flag (F.NOC_GROVE_ROUTE_vc0.nth dev) && decide (s.fld F.GR_LINK_ver bundle = 2) && bit (s.fld F.GR_LINK_vcs bundle) 0

end Sys2Proof.Machine
end

