-- ==== Sys2Proof/Machine/Flows.lean ====
section
/-! DEFINITION. The flow context store (12): entries, hashing, the operations, relocation, ageing. An entry is named by
its index; stash slot n is named 2^20 + n. -/

namespace Sys2Proof.Machine

/-! ## Entries (R333, R335) -/

/-- The index of the first stash slot. -/
def stashBase : Nat := 2 ^ 20

/-- A stored word of the flow store decoded: its data, and whether it is bad. -/
def flowDecode (w : BankBits) : Nat × Bool := if w = 0 then (0, false) else ((decodeS w).data.toNat, (decodeS w).bad)

/-- An entry as it reads: its 1,024 bits, and whether a word of it is bad. -/
def State.flowEntry (s : State) (i : Nat) : Nat × Bool :=
  let ws := (List.range 8).map fun k => flowDecode (SMap.get 0 s.flow.words (i * 8 + k))
  (ungroups 128 (ws.map (·.1)), ws.any (·.2))

/-- An entry written. -/
def State.setFlowEntry (s : State) (i v : Nat) : State :=
  let f := fun (m : SMap BankBits) (k : Nat) => SMap.set 0 m (i * 8 + k) (encodeS (BitVec.ofNat 128 (v / 2 ^ (128 * k))))
  { s with flow := { s.flow with words := (List.range 8).foldl f s.flow.words } }

/-- Stored bits of the flow store that an upset has inverted: word and bit. -/
def State.flowUpset (s : State) (flips : List (Nat × Nat)) : State :=
  let f := fun (m : SMap BankBits) (x : Nat × Nat) =>
    SMap.set 0 m x.1 (SMap.get 0 m x.1 ^^^ BitVec.ofNat 144 (2 ^ (x.2 % 144)))
  { s with flow := { s.flow with words := flips.foldl f s.flow.words } }

/-- Fields of an entry. -/
def entryKey (v : Nat) : Nat := v % 2 ^ 320
def entryKeyLen (v : Nat) : Nat := bits v 325 320
def entryFlags (v : Nat) : Nat := bits v 335 328
def entryQueue (v : Nat) : Nat := bits v 347 336
def entrySeen (v : Nat) : Nat := bits v 447 384

/-- The field that an ADD or CAS works on (R340): its highest and lowest bit in the entry. -/
def flowTarget (t : Nat) : Nat × Nat :=
  if t = 0 then (527, 480) else if t = 1 then (575, 528) else if t = 2 then (383, 352)
  else (576 + 64 * (t - 3) + 63, 576 + 64 * (t - 3))

/-- A new entry (R333, R340). -/
def newEntry (key keyLen queue eflags state now : Nat) (user : List Byte) : Nat :=
  key % 2 ^ 320 + keyLen * 2 ^ 320 + eflags % 256 * 2 ^ 328 + queue % 4096 * 2 ^ 336 + state % 2 ^ 32 * 2 ^ 352
    + now % 2 ^ 64 * 2 ^ 384 + now / 2 ^ 20 % 2 ^ 32 * 2 ^ 448 + leNat (slice user 0 56) * 2 ^ 576

/-! ## Buckets (R334, R336) -/

/-- The two candidate buckets of a key (R334). -/
def State.flowBuckets (s : State) (key keyLen : Nat) : Nat × Nat :=
  let l := BitVec.ofNat 8 keyLen :: leBytes 40 key
  let b0 := crc32cInit (s.reg R.FS_SEED0).toNat l % 2 ^ 18
  let b1 := crc32cInit (s.reg R.FS_SEED1).toNat l % 2 ^ 18
  (b0, if b0 = b1 then b0 ^^^ 0x20000 else b1)

/-- The four ways of a bucket. -/
def bucketWays (b : Nat) : List Nat := (List.range 4).map fun w => 4 * b + w

/-- The stash slots. -/
def stashSlots : List Nat := (List.range 64).map fun n => stashBase + n

/-- The free places of a list, in order. -/
def State.flowFree (s : State) (l : List Nat) : List Nat := l.filter fun i => decide (entryKeyLen (s.flowEntry i).1 = 0)

/-- The free way of the candidate buckets that a key takes (R336 step 1). -/
def State.flowWay (s : State) (b : Nat × Nat) : Option Nat :=
  let f0 := s.flowFree (bucketWays b.1)
  let f1 := s.flowFree (bucketWays b.2)
  if f0.length < f1.length then f1.head? else f0.head?

/-- Where a new key goes (R336). -/
def State.flowPlace (s : State) (b : Nat × Nat) : Option Nat :=
  match s.flowWay b with
  | some i => some i
  | none => (s.flowFree stashSlots).head?

/-- Everything an operation on a key reads. -/
def flowReads (b : Nat × Nat) : List Nat := bucketWays b.1 ++ bucketWays b.2 ++ stashSlots

/-- Where a key stands. -/
def State.flowFind (s : State) (b : Nat × Nat) (key keyLen : Nat) : Option Nat :=
  (flowReads b).find? fun i => decide (entryKeyLen (s.flowEntry i).1 = keyLen) && decide (entryKey (s.flowEntry i).1 = key)

/-! ## Responses (R341) -/

/-- What an operation gives: status, result, the place found or made and its entry, the old target value. -/
structure FlowResult where
  status : Nat
  result : Nat
  place : Option Nat := none
  entry : Nat := 0
  old : Nat := 0
deriving DecidableEq, Repr

/-- The head data of a FLOW_RESP. -/
def FlowResult.headData (r : FlowResult) : Nat :=
  let at' := match r.place with
    | none => 0
    | some i => if i < stashBase then i * 2 ^ 16 else (i - stashBase) * 2 ^ 16 + 2 ^ 36
  let q := if r.place.isSome then entryQueue r.entry * 2 ^ 48 + entryFlags r.entry * 2 ^ 128 else 0
  r.status + r.result * 2 ^ 8 + at' + q + r.old % 2 ^ 64 * 2 ^ 64

/-- The bytes of a FLOW_RESP: head data, then the entry when it is returned. -/
def FlowResult.bytes (r : FlowResult) (ret : Bool) : List Byte :=
  leBytes 64 r.headData ++ (if ret && r.place.isSome then leBytes 128 r.entry else [])

/-! ## Operations (R339, R340, R345) -/

/-- An operation is completed and counted. -/
def State.flowCount (s : State) (r : FlowResult) : State :=
  let s1 := s.count F.FS_OPS_count
  if r.result = 1 then s1.count F.FS_MISSES_count else if r.result = 4 then s1.count F.FS_FULL_full else s1

/-- A malformed request or unknown source (R338, R339). -/
def State.flowBadReq (s : State) : FlowResult × State := (⟨1, 8, none, 0, 0⟩, s.raise Flt.FS_BAD_REQ)

/-- Whether a request is malformed (R339). -/
def flowMalformed (fop : Nat) (q : FlowReq) : Bool :=
  decide (q.keyLen = 0) || decide (40 < q.keyLen) || decide (4 < fop) || q.reservedOp || q.long
    || (decide (3 ≤ fop) && decide (10 ≤ q.target))

/-- An operation that meets a bad read (R345). -/
def State.flowUncorr (s : State) (fop : Nat) (learn : Bool) (place : Nat) : FlowResult × State :=
  let n := if place < stashBase then place else place - stashBase
  (⟨3, if fop = 1 ∨ (fop = 0 ∧ learn) then 4 else 1, none, 0, 0⟩,
    ((s.setFlag F.FS_STATUS_uncorr_any true).count F.FS_FULL_uncorr).raise Flt.FS_ENTRY_UNCORR (locWord n))

/-- A key that has no place (R336 step 3). -/
def State.flowFull (s : State) : FlowResult × State :=
  (⟨0, 4, none, 0, 0⟩, (s.setFlag F.FS_STATUS_full_any true).raiseFirst Flt.FS_INSERT_FULL 0 s.ms)

/-- A new key inserted: result INSERTED or LEARNED, or FULL. -/
def State.flowInsert (s : State) (b : Nat × Nat) (q : FlowReq) (result : Nat) : FlowResult × State :=
  match s.flowPlace b with
  | none => s.flowFull
  | some i =>
    let v := newEntry q.key.toNat q.keyLen q.queue q.eflags (q.opa % 2 ^ 32) s.time.ns (q.user.getD [])
    (⟨0, result, some i, v, 0⟩, s.setFlowEntry i v)

/-- The entry after opt.count and opt.touch on a hit (R340). -/
def flowHit (v : Nat) (q : FlowReq) (now : Nat) : Nat :=
  let v1 := if q.count then putBits (putBits v 527 480 (bits v 527 480 + 1)) 575 528 (bits v 575 528 + q.countBytes) else v
  if q.touch then putBit (putBits v1 447 384 now) 334 false else v1

/-- An operation on a key whose reads are good. -/
def State.flowAct (s : State) (fop : Nat) (q : FlowReq) : FlowResult × State :=
  let b := s.flowBuckets q.key.toNat q.keyLen
  match s.flowFind b q.key.toNat q.keyLen with
  | none =>
    if fop = 1 then s.flowInsert b q 2
    else if fop = 0 ∧ q.learn then s.flowInsert b q 7
    else (⟨0, 1, none, 0, 0⟩, s)
  | some i =>
    let v := (s.flowEntry i).1
    if fop = 0 then
      let v1 := flowHit v q s.time.ns
      (⟨0, 0, some i, v1, 0⟩, s.setFlowEntry i v1)
    else if fop = 1 then (⟨0, 3, some i, v, 0⟩, s)
    else if fop = 2 then (⟨0, 5, some i, v, 0⟩, s.setFlowEntry i 0)
    else
      let t := flowTarget q.target
      let old := bits v t.1 t.2
      if fop = 3 then
        let v1 := putBits v t.1 t.2 (old + q.opa)
        (⟨0, 0, some i, v1, old⟩, s.setFlowEntry i v1)
      else if old = q.opa % 2 ^ (t.1 + 1 - t.2) then
        let v1 := putBits v t.1 t.2 q.opb
        (⟨0, 0, some i, v1, old⟩, s.setFlowEntry i v1)
      else (⟨0, 6, some i, v, old⟩, s)

/-- An operation of the store (R340, R345), counted. -/
def State.flowOp (s : State) (fop : Nat) (q : FlowReq) : FlowResult × State :=
  let r :=
    if flowMalformed fop q then s.flowBadReq
    else
      match (flowReads (s.flowBuckets q.key.toNat q.keyLen)).find? fun i => (s.flowEntry i).2 with
      | some i => s.flowUncorr fop q.learn i
      | none => s.flowAct fop q
  (r.1, r.2.flowCount r.1)

/-! ## Requesters (R338) -/

/-- Whether a source may send FLOW_REQ packets. -/
def State.flowSource (s : State) (h : NocHead) : Bool :=
  decide (h.srcDev = s.fld F.NOC_GROVE_devnum) &&
    ((decide (h.srcNode < 48) && decide (h.srcNode % 3 = 0) && decide (h.srcPort = 2))
      || (decide (56 ≤ h.srcNode) && decide (h.srcNode < 64) && decide (h.srcNode % 2 = 0))
      || (decide (h.srcNode = 57) && decide (h.srcPort = 1)))

/-- A FLOW_REQ at the store: it is worked and answered. -/
def State.flowArrive (s : State) (h : NocHead) (fop : Nat) (q : FlowReq) : State :=
  let r := if s.flowSource h then s.flowOp fop q else s.flowBadReq
  r.2.answer (s.headKey h) r.1.status (r.1.bytes q.ret)

/-! ## Fabric lookup ports (R348) -/

/-- A fabric lookup port. -/
def State.flPort (s : State) (j : Nat) : FlPort := SMap.get {} s.flow.fabric j

/-- A fabric lookup port replaced. -/
def State.setFlPort (s : State) (j : Nat) (p : FlPort) : State :=
  { s with flow := { s.flow with fabric := SMap.set {} s.flow.fabric j p } }

/-- The fabric lookup port that requests of an endpoint come from. -/
def lookupPort (node port : Nat) : Option Nat := if node < 48 ∧ port = 2 ∧ node % 3 = 0 then some (node / 3) else none

/-- A request of an endpoint joins its lookup port's requests; none where 32 are outstanding. -/
def State.flJoin (s : State) (node port tag : Nat) : Option State :=
  match lookupPort node port with
  | none => some s
  | some j =>
    let p := s.flPort j
    if 32 ≤ p.waiting.length then none else some (s.setFlPort j { p with waiting := p.waiting ++ [(tag, none)] })

/-- The oldest request with a tag and no response gets its response. -/
def flMark (tag : Nat) (r : Nat × List Byte) : List (Nat × Option (Nat × List Byte)) → List (Nat × Option (Nat × List Byte))
  | [] => []
  | w :: l => if w.1 = tag ∧ w.2 = none then (tag, some r) :: l else w :: flMark tag r l

/-- A response at a lookup port, or a timeout's in its place: responses are presented in the order of their requests. -/
def State.flAnswered (s : State) (node port tag headData : Nat) (entry : List Byte) : State :=
  match lookupPort node port with
  | none => s
  | some j =>
    let p := s.flPort j
    let l := flMark tag (headData, entry) p.waiting
    let ready := l.takeWhile fun (w : Nat × Option (Nat × List Byte)) => w.2.isSome
    s.setFlPort j { waiting := l.drop ready.length, rsp := p.rsp ++ ready.map fun w => w.2.getD (0, []) }

/-- A FLOW_REQ issued by its requester (10 R299), on its way to the store. -/
def State.flowRequest (s : State) (h : NocHead) (fop : Nat) (q : FlowReq) (flips : List (Nat × Nat)) : State :=
  match ((s.flowUpset flips).issued h.srcNode h.srcPort h.tag 2 (if q.ret then 3 else 1)).bind
      fun (t : State) => t.flJoin h.srcNode h.srcPort h.tag with
  | none => s
  | some s1 =>
    match s1.nocTravel h with
    | (none, s2) => s2
    | (some h1, s2) =>
      if s2.asleep 59 then s2.holdHead ⟨h1, .flow fop q⟩ else s2.flowArrive h1 fop q

/-- A FLOW_RESP at its requester: its request ends, and a fabric port presents it. -/
def State.flowResp (s : State) (node port tag headData : Nat) (entry : List Byte) : State :=
  match s.response node port tag with
  | (false, s1) => s1
  | (true, s1) => s1.flAnswered node port tag headData entry

/-! ## Relocation (R337) -/

/-- The occupied stash slot at or after a slot, if any. -/
def State.stashNext (s : State) (slot : Nat) : Option Nat :=
  ((List.range 64).map fun n => (slot + n) % 64).find? fun n => decide (entryKeyLen (s.flowEntry (stashBase + n)).1 ≠ 0)

/-- The relocator's place. -/
def State.setReloc (s : State) (slot kicks way : Nat) : State :=
  { s with flow := { s.flow with slot := slot % 64, kicks := kicks, way := way % 4 } }

/-- One move or swap of the relocator. -/
def State.relocate (s : State) : State :=
  if !s.flag F.FS_CTRL_reloc_en then s
  else
    match s.stashNext s.flow.slot with
    | none => s
    | some n =>
      let kicks := if n = s.flow.slot then s.flow.kicks else 0
      let i := stashBase + n
      let v := (s.flowEntry i).1
      let b := s.flowBuckets (entryKey v) (entryKeyLen v)
      let j := 4 * b.1 + s.flow.way
      if (s.flowEntry i).2 ∨ (bucketWays b.1 ++ bucketWays b.2).any (fun x => (s.flowEntry x).2) then s.setReloc (n + 1) 0 s.flow.way
      else
        match s.flowWay b with
        | some w => ((s.setFlowEntry w v).setFlowEntry i 0).setReloc (n + 1) 0 s.flow.way
        | none =>
          if max 1 (s.fld F.FS_CTRL_max_kicks) ≤ kicks then s.setReloc (n + 1) 0 s.flow.way
          else
            let e := (s.flowEntry j).1
            ((s.setFlowEntry j v).setFlowEntry i e).setReloc n (kicks + 1) (s.flow.way + 1)

/-! ## Ageing (R346) -/

/-- An age scan is asked for. -/
def State.ageStart (s : State) (action : Nat) : State :=
  let s0 := s.setFld F.FS_AGE_CTRL_action action
  if s.flow.scan.isSome then s0.raise Flt.FS_AGE_REFUSED
  else
    ({ (((s0.setFlag F.FS_AGE_CTRL_busy true).setFlag F.FS_AGE_CTRL_done false).setFld F.FS_AGE_RES_aged 0) with
      flow := { s0.flow with scan := some 0 } })

/-- One entry visited by the scan. -/
def State.ageEntry (s : State) (i : Nat) : State :=
  let v := (s.flowEntry i).1
  if (s.flowEntry i).2 ∨ entryKeyLen v = 0 ∨ bit (entryFlags v) 7
      ∨ s.time.ns - entrySeen v < s.fld F.FS_AGE_THRESH_age * 2 ^ 20 then s
  else
    (s.setFlowEntry i (if s.flag F.FS_AGE_CTRL_action then 0 else putBit v 334 true)).count F.FS_AGE_RES_aged

/-- The scan visits its next bucket, or the stash. -/
def State.ageVisit (s : State) : State :=
  match s.flow.scan with
  | none => s
  | some b =>
    if 2 ^ 18 < b then s
    else
      let s1 := (if b = 2 ^ 18 then stashSlots else bucketWays b).foldl State.ageEntry s
      { s1 with flow := { s1.flow with scan := some (b + 1) } }

/-- The scan ends once it has visited the stash. -/
def State.ageDone (s : State) : State :=
  if s.flow.scan = some (2 ^ 18 + 1) then
    ({ s with flow := { s.flow with scan := none } }).setFlag F.FS_AGE_CTRL_busy false |>.setFlag F.FS_AGE_CTRL_done true
  else s

/-! ## What the registers show -/

/-- Entries in use: of the buckets, or of the stash. -/
def State.flowUsed (s : State) (stash : Bool) : Nat :=
  (s.flow.words.filter fun e => decide (e.1 % 8 = 2) && (decide (stashBase ≤ e.1 / 8) == stash)
    && decide (bits (flowDecode e.2).1 69 64 ≠ 0)).length

/-- Whether the store counts as stopped (R349): it holds no entry, and no operation is in progress. -/
def State.flowStopped (s : State) : Bool := decide (s.flowUsed false = 0) && decide (s.flowUsed true = 0) && s.flow.scan.isNone

/-! ## Commands -/

/-- LOOKUP (R340). -/
def execFlowLookup (head : NocHead) (req : FlowReq) (flips : List (Nat × Nat)) (s : State) : Result :=
  .next (s.flowRequest head 0 req flips)

/-- INSERT (R340). -/
def execFlowInsert (head : NocHead) (req : FlowReq) (flips : List (Nat × Nat)) (s : State) : Result :=
  .next (s.flowRequest head 1 req flips)

/-- DELETE (R340). -/
def execFlowDelete (head : NocHead) (req : FlowReq) (flips : List (Nat × Nat)) (s : State) : Result :=
  .next (s.flowRequest head 2 req flips)

/-- ADD (R340). -/
def execFlowAdd (head : NocHead) (req : FlowReq) (flips : List (Nat × Nat)) (s : State) : Result :=
  .next (s.flowRequest head 3 req flips)

/-- CAS (R340). -/
def execFlowCas (head : NocHead) (req : FlowReq) (flips : List (Nat × Nat)) (s : State) : Result :=
  .next (s.flowRequest head 4 req flips)

/-- FLOW_RESP (R341). -/
def execFlowResp (node port tag headData : Nat) (entry : List Byte) (s : State) : Result :=
  .next (s.flowResp node port tag headData entry)

/-- RELOCATE (R337). -/
def execRelocate (s : State) : Result := .next s.relocate

/-- AGE_SCAN_START (R346). -/
def execAgeScanStart (action : Nat) (s : State) : Result := .next (s.ageStart action)

/-- AGE_SCAN_VISIT (R346). -/
def execAgeScanVisit (s : State) : Result := .next s.ageVisit

/-- AGE_SCAN_DONE (R346). -/
def execAgeScanDone (s : State) : Result := .next s.ageDone

/-- FS_KILL (R345): an all-zero entry is written. -/
def execFsKill (stash : Bool) (index : Nat) (s : State) : Result :=
  .next (s.setFlowEntry (if stash then stashBase + index % 64 else index % 2 ^ 20) 0)

end Sys2Proof.Machine
end

