-- ==== Sys2Proof/Machine/Packet.lean ====
section
/-! DEFINITION. Packets as flits (10 R287 to R289, 11 R315, 12 R339): 512 data bits and a 64-bit sideband each. -/

namespace Sys2Proof.Machine

/-- A flit: data and sideband (10 R287). -/
abbrev Flit := BitVec 512 × BitVec 64

/-- The 8 parity bits of a flit or queue word: bit i is the even parity of 64-bit lane i (10 R288, 11 R310). -/
def laneParity (d : Nat) : Nat := maskOf ((List.range 8).filter fun i => parity 64 (d / 2 ^ (64 * i)))

/-- The head CRC over sideband bits [63:8] and the data (10 R287). -/
def headCrc (side data : Nat) : Nat := crc8 (beBytes 7 (side / 256) ++ beBytes 64 data)

/-- Bytes packed into 64-byte units, unused bytes 0 (10 R289). -/
def packUnits : Nat → List Byte → List (BitVec 512)
  | 0, _ => []
  | n + 1, l => if l = [] then [] else BitVec.ofNat 512 (leNat (slice l 0 64)) :: packUnits n (l.drop 64)

/-- Bytes as data flits. -/
def dataUnits (l : List Byte) : List (BitVec 512) := packUnits (ceilDiv l.length 64) l

/-- The descriptor of a STREAM segment as head data (11 R315). -/
def segmentHead (g : Segment) : Nat :=
  g.queue % 4096 + g.sop.toNat * 2 ^ 12 + g.eop.toNat * 2 ^ 13 + g.abort.toNat * 2 ^ 14 + g.ack.toNat * 2 ^ 15
    + g.pktLen % 2 ^ 15 * 2 ^ 16 + g.lastBytes % 64 * 2 ^ 32 + g.meta32 % 2 ^ 32 * 2 ^ 64 + g.arrival % 2 ^ 32 * 2 ^ 96

/-- A segment read from head data and payload. -/
def segmentOf (v : Nat) (payload : List (BitVec 512)) : Segment :=
  { queue := v % 4096, sop := bit v 12, eop := bit v 13, abort := bit v 14, ack := bit v 15, pktLen := bits v 30 16,
    lastBytes := bits v 37 32, meta32 := bits v 95 64, arrival := bits v 127 96, payload := payload }

/-- The head data of a FLOW_REQ (12 R339). -/
def flowHead (fop : Nat) (q : FlowReq) : Nat :=
  q.key.toNat + q.keyLen % 64 * 2 ^ 320 + fop % 16 * 2 ^ 328 + q.ret.toNat * 2 ^ 336 + q.count.toNat * 2 ^ 337
    + q.touch.toNat * 2 ^ 338 + q.learn.toNat * 2 ^ 339 + q.target % 16 * 2 ^ 340 + q.countBytes % 65536 * 2 ^ 344
    + q.queue % 4096 * 2 ^ 360 + q.eflags % 256 * 2 ^ 372 + q.opa % 2 ^ 64 * 2 ^ 384 + q.opb % 2 ^ 64 * 2 ^ 448

/-- A FLOW_REQ read from head data and the user flit; and its operation. -/
def flowOf (v : Nat) (more : List (BitVec 512)) : Nat × FlowReq :=
  (bits v 331 328,
    { key := BitVec.ofNat 320 v, keyLen := bits v 325 320, ret := bit v 336, count := bit v 337, touch := bit v 338,
      learn := bit v 339, target := bits v 343 340, countBytes := bits v 359 344, queue := bits v 371 360,
      eflags := bits v 379 372, opa := bits v 447 384, opb := bits v 511 448,
      user := more.head?.map fun u => leBytes 56 u.toNat, long := decide (1 < more.length), reservedOp := false })

/-- The op code, the head data and the further flits of a packet (10 R289). -/
def opFlits : NocOp → Nat × Nat × List (BitVec 512)
  | .read a n => (0, a % 2 ^ 52 + (n - 1) % 4096 * 2 ^ 64, [])
  | .write a d p => (if p then 2 else 1, a % 2 ^ 52 + (d.length - 1) % 4096 * 2 ^ 64, dataUnits d)
  | .stream g => (5, segmentHead g, g.payload)
  | .flow f q => (6, flowHead f q, (q.user.map fun u => BitVec.ofNat 512 (leNat (slice u 0 56))).toList)
  | .resp op st d => (op, if op = 7 then leNat (slice d 0 64) else st % 256, dataUnits (if op = 7 then d.drop 64 else d))

/-- The header of a packet without kind, length and CRC (10 R287). -/
def headSide (h : NocHead) (op : Nat) : Nat :=
  h.vc % 4 * 2 ^ 60 + h.dstNode % 64 * 2 ^ 54 + h.dstPort % 4 * 2 ^ 52 + h.dstDev % 16 * 2 ^ 48 + h.srcNode % 64 * 2 ^ 42
    + h.srcPort % 4 * 2 ^ 40 + h.srcDev % 16 * 2 ^ 36 + op % 16 * 2 ^ 32 + h.tag % 256 * 2 ^ 24 + h.poison.toNat * 2 ^ 23
    + h.cls % 4 * 2 ^ 21

/-- The body and tail flits of a packet (10 R288). -/
def bodyFlits (vc : Nat) (poison : Bool) : List (BitVec 512) → List Flit
  | [] => []
  | d :: l =>
    (d, BitVec.ofNat 64 ((if l = [] then 2 else 0) * 2 ^ 62 + vc % 4 * 2 ^ 60 + poison.toNat * 2 ^ 23 + laneParity d.toNat))
      :: bodyFlits vc poison l

/-- The flits of a packet. -/
def packetFlits (p : NocPacket) : List Flit :=
  let o := opFlits p.op
  let side := (if o.2.2 = [] then 3 else 1) * 2 ^ 62 + headSide p.head o.1 + o.2.2.length % 512 * 2 ^ 12
  (BitVec.ofNat 512 o.2.1, BitVec.ofNat 64 (side + headCrc side o.2.1)) :: bodyFlits p.head.vc p.head.poison o.2.2

/-- The data bytes of further flits: `n` of them. -/
def flitBytes (l : List (BitVec 512)) (n : Nat) : List Byte := (l.flatMap fun d => leBytes 64 d.toNat).take n

/-- A packet read from its flits, as it enters this device at node `entry`: none for a reserved op or no head. A flit
with poison or bad parity makes the packet poisoned from the entry on (10 R290). -/
def packetOf (entry : Nat) : List Flit → Option NocPacket
  | [] => none
  | (d, sb) :: body =>
    let v := sb.toNat
    let h : NocHead :=
      { srcDev := bits v 39 36, srcNode := bits v 47 42, srcPort := bits v 41 40, entry := entry, dstDev := bits v 51 48,
        dstNode := bits v 59 54, dstPort := bits v 53 52, vc := bits v 61 60, tag := bits v 31 24, poison := bit v 23 || body.any (fun f => bit f.2.toNat 23), cls := bits v 22 21, flits := body.length + 1,
        badHead := if v % 256 = headCrc (v - v % 256) d.toNat then none else some entry,
        badFlit := if body.all fun f => decide (f.2.toNat % 256 = laneParity f.1.toNat) then none else some entry }
    let x := d.toNat
    let more := body.map (·.1)
    let op := bits v 35 32
    if op = 0 then some ⟨h, .read (x % 2 ^ 52) (bits x 75 64 + 1)⟩
    else if op = 1 ∨ op = 2 then some ⟨h, .write (x % 2 ^ 52) (flitBytes more (bits x 75 64 + 1)) (decide (op = 2))⟩
    else if op = 3 ∨ op = 4 then some ⟨h, .resp op (x % 256) (flitBytes more (64 * more.length))⟩
    else if op = 5 then some ⟨h, .stream (segmentOf x more)⟩
    else if op = 6 then some ⟨h, .flow (flowOf x more).1 (flowOf x more).2⟩
    else if op = 7 then some ⟨h, .resp 7 (x % 256) (leBytes 64 x ++ flitBytes more (64 * more.length))⟩
    else none

end Sys2Proof.Machine
end

