-- ==== Sys2Proof/Machine/Rs.lean ====
section
/-! DEFINITION. The Reed-Solomon code RS(88,80) of a Graft wire flit (16 R421): GF(2^8) with field polynomial 0x11D,
generator roots alpha^0 to alpha^7. Byte 0 of the flit is the coefficient of the highest power. -/

namespace Sys2Proof.Machine

/-- Twice an element. -/
def gf8Double (a : Nat) : Nat := if 128 ≤ a then (2 * a % 256) ^^^ 0x1D else 2 * a

/-- The product of two elements, by the low `n` bits of the second. -/
def gf8MulN : Nat → Nat → Nat → Nat
  | 0, _, _ => 0
  | n + 1, a, b => (if b % 2 = 1 then a else 0) ^^^ gf8MulN n (gf8Double a) (b / 2)

/-- The product of two elements. -/
def gf8Mul (a b : Nat) : Nat := gf8MulN 8 a b

/-- A power of an element. -/
def gf8Pow (a : Nat) : Nat → Nat
  | 0 => 1
  | n + 1 => gf8Mul a (gf8Pow a n)

/-- The inverse of an element. -/
def gf8Inv (a : Nat) : Nat := gf8Pow a 254

/-- alpha^n. -/
def gf8Alpha (n : Nat) : Nat := gf8Pow 2 (n % 255)

/-- A polynomial's value, coefficients from the highest power. -/
def gf8Eval (x : Nat) (l : List Nat) : Nat := l.foldl (fun r c => gf8Mul r x ^^^ c) 0

/-- A polynomial's value, coefficients from the constant term. -/
def gf8EvalLow (x : Nat) (l : List Nat) : Nat := gf8Eval x l.reverse

/-- The generator polynomial, without its leading 1, from the highest power. -/
def rsGen : List Nat :=
  ((List.range 8).foldl (fun g i =>
    (List.range (g.length + 1)).map fun k => (g.getD k 0) ^^^ (if k = 0 then 0 else gf8Mul (gf8Alpha i) (g.getD (k - 1) 0))) [1]).drop 1

/-- The eight check bytes of 80 data bytes. -/
def rsCheck (l : List Nat) : List Nat :=
  l.foldl (fun r d =>
    let f := d ^^^ r.headD 0
    ((r.drop 1 ++ [0]).zip rsGen).map fun (e : Nat × Nat) => e.1 ^^^ gf8Mul f e.2) (List.replicate 8 0)

/-- The syndromes of a received flit. -/
def rsSyndromes (l : List Nat) : List Nat := (List.range 8).map fun i => gf8Eval (gf8Alpha i) l

/-- Sum of two polynomials, coefficients from the constant term. -/
def polyAdd : List Nat → List Nat → List Nat
  | [], b => b
  | a, [] => a
  | x :: a, y :: b => (x ^^^ y) :: polyAdd a b

/-- The state of the Berlekamp-Massey iteration. -/
structure RsBm where
  c : List Nat
  b : List Nat
  len : Nat
  shift : Nat
  last : Nat

/-- One step of the iteration at syndrome number n. -/
def rsBmStep (syn : List Nat) (t : RsBm) (n : Nat) : RsBm :=
  let d := (List.range (t.len + 1)).foldl (fun a i => a ^^^ gf8Mul (t.c.getD i 0) (syn.getD (n - i) 0)) 0
  if d = 0 then { t with shift := t.shift + 1 }
  else
    let k := gf8Mul d (gf8Inv t.last)
    let c := polyAdd t.c (List.replicate t.shift 0 ++ t.b.map (gf8Mul k))
    if 2 * t.len ≤ n then { c := c, b := t.c, len := n + 1 - t.len, shift := 1, last := d }
    else { t with c := c, shift := t.shift + 1 }

/-- The error locator: its coefficients and the number of errors. -/
def rsLocator (syn : List Nat) : List Nat × Nat :=
  let t := (List.range 8).foldl (rsBmStep syn) { c := [1], b := [1], len := 0, shift := 1, last := 1 }
  (t.c, t.len)

/-- The value of the error at locator X. -/
def rsValue (syn loc : List Nat) (x : Nat) : Nat :=
  let xi := gf8Inv x
  let omega := (List.range 8).map fun k => (List.range (k + 1)).foldl (fun a i => a ^^^ gf8Mul (loc.getD i 0) (syn.getD (k - i) 0)) 0
  let odd := (List.range 5).foldl (fun a k =>
    a ^^^ gf8Mul (loc.getD (2 * k + 1) 0) (gf8Pow xi (2 * k))) 0
  gf8Mul x (gf8Mul (gf8EvalLow xi omega) (gf8Inv odd))

/-- A received flit decoded: the corrected bytes and how many were corrected; none where decoding fails. Up to 4 byte
errors are corrected. -/
def rsDecode (l : List Nat) : Option (List Nat × Nat) :=
  let syn := rsSyndromes l
  if syn.all fun x => decide (x = 0) then some (l, 0)
  else
    let p := rsLocator syn
    let at' := (List.range 88).filter fun j => decide (gf8EvalLow (gf8Inv (gf8Alpha (87 - j))) p.1 = 0)
    if 4 < p.2 ∨ at'.length ≠ p.2 then none
    else
      let r := at'.foldl (fun a j => a.set j (a.getD j 0 ^^^ rsValue syn p.1 (gf8Alpha (87 - j)))) l
      if (rsSyndromes r).all fun x => decide (x = 0) then some (r, p.2) else none

end Sys2Proof.Machine
end

