-- ==== Sys2Proof/Machine/GraftSend.lean ====
section
/-! DEFINITION. The sending side of a Graft link (16 R421, R422, R426, R427): wire flits, the replay buffer, credits,
and the choice of the next flit. -/

namespace Sys2Proof.Machine

/-- A Graft link beside its registers. -/
def State.grOf (s : State) (b : Nat) : GrSt := SMap.get {} s.gr b

/-- That part replaced. -/
def State.setGr (s : State) (b : Nat) (g : GrSt) : State := { s with gr := SMap.set {} s.gr b g }

/-- GR_LINK.state of a bundle. -/
def State.grState (s : State) (b : Nat) : Nat := s.fld F.GR_LINK_state b

/-- Whether a bundle's link carries traffic. -/
def State.grActive (s : State) (b : Nat) : Bool := decide (s.grState b = 5)

/-- The 88 bytes of a wire flit (R421, R422). -/
def wireFlit (kind seq ack : Nat) (nak : Bool) (cvc credits : Nat) (data : BitVec 512) (side : BitVec 64) : List Byte :=
  let ctl := kind * 2 ^ 30 + seq % 512 * 2 ^ 21 + ack % 512 * 2 ^ 12 + nak.toNat * 2 ^ 11 + cvc % 4 * 2 ^ 9 + credits % 64 * 2 ^ 3
  let l := leBytes 64 data.toNat ++ leBytes 8 side.toNat ++ leBytes 4 ctl
  let m := l ++ leBytes 4 (crc32c l)
  m ++ (rsCheck (m.map BitVec.toNat)).map (BitVec.ofNat 8)

/-- The channel whose credits the next flit returns: the lowest with credits owed. -/
def owedVc (g : GrSt) : Nat := ((List.range 4).find? fun v => decide (SMap.get 0 g.owed v ≠ 0)).getD 0

/-- A flit given to the lanes, carrying ack, nak and a credit return. -/
def State.grEmit (s : State) (b kind seq : Nat) (data : BitVec 512) (side : BitVec 64) : State :=
  let g := s.grOf b
  let v := owedVc g
  let n := min 63 (SMap.get 0 g.owed v)
  (s.setGr b { g with owed := SMap.set 0 g.owed v (SMap.get 0 g.owed v - n) }).emit
    (.graft b (wireFlit kind seq g.ack g.nak v n data side))

/-- The virtual channel of a flit, and the channel whose credits it uses where VC3 is absent (R427, 10 R293). -/
def flitVc (side : BitVec 64) : Nat := bits side.toNat 61 60

/-- The channel whose credits and buffers a flit uses on a link. -/
def State.grVc (s : State) (b vc : Nat) : Nat := if vc = 3 ∧ !bit (s.fld F.GR_LINK_vcs b) 3 then 1 else vc

/-- slot_cycles of a rate: 7, 4, 2 and 2 network cycles at rates 1, 3, 5 and 6 (R427). -/
def slotCycles (rate : Nat) : Nat := if rate = 1 then 7 else if rate = 3 then 4 else 2

/-- Whether the slot of the link calendar in force now is valid (R427). -/
def State.grSlotValid (s : State) (b : Nat) : Bool :=
  bit (s.pair R.GR_CAL_LO R.GR_CAL_HI b) (s.time.ns * 2 / slotCycles (s.fld F.GR_LINK_rate b) % 64)

/-- The order in which channels are looked at for the next flit (R427). -/
def State.grOrder (s : State) (b : Nat) : List Nat :=
  let tail := if (s.grOf b).turn3 then [3, 1] else [1, 3]
  if s.grSlotValid b then [0, 2] ++ tail else [2, 0] ++ tail

/-- The place in the port's queue of the flit to send next: the oldest of the first channel in order that has a flit and
a credit. -/
def State.grPick (s : State) (b : Nat) : Option Nat :=
  let g := s.grOf b
  (s.grOrder b).findSome? fun v =>
    if SMap.get 0 g.credits (s.grVc b v) = 0 then none else g.waiting.findIdx? fun f => decide (flitVc f.2 = v)

/-- One data flit sent, if one may be: fewer than 256 unacknowledged, a credit held (R426, R427). -/
def State.grSendOne (s : State) (b : Nat) : State :=
  let g := s.grOf b
  if !s.grActive b ∨ 256 ≤ g.replay.length then s
  else
    match s.grPick b with
    | none => s
    | some i =>
      match g.waiting[i]? with
      | none => s
      | some f =>
        let v := flitVc f.2
        let c := s.grVc b v
        let sent : GrSent := { seq := g.nextSeq, data := f.1, side := f.2, sends := 1 }
        (s.setGr b { g with
          nextSeq := (g.nextSeq + 1) % 512
          replay := g.replay ++ [sent]
          credits := SMap.set 0 g.credits c (SMap.get 0 g.credits c - 1)
          waiting := g.waiting.eraseIdx i
          turn3 := if v = 1 then true else if v = 3 then false else g.turn3 }).grEmit b 1 g.nextSeq f.1 f.2

/-- Data flits sent as long as they may be. -/
def State.grSend (s : State) (b : Nat) : Nat → State
  | 0 => s
  | n + 1 => (s.grSendOne b).grSend b n

/-- A packet at a Graft port: its flits wait there and are sent as they may be (10 R303). -/
def State.graftSend (s : State) (b : Nat) (p : NocPacket) : State :=
  let g := s.grOf b
  let fl := packetFlits p
  (s.setGr b { g with waiting := g.waiting ++ fl }).grSend b fl.length

/-- A packet for another device (10 R303): to its Graft port, as VC1 where the way has no VC0; none where it has no
route. -/
def State.groveSend (s : State) (p : NocPacket) : Option State :=
  match s.groveBundle p.head.dstDev with
  | none => none
  | some b =>
    if p.head.vc = 0 ∧ !s.groveVc0 p.head.dstDev b then
      let s1 := (s.setFlag F.NOC_STATUS_vc0_demoted true).raise Flt.NOC_VC0_DEMOTED [(graftNode b).1]
      some (s1.graftSend b ⟨{ p.head with vc := 1 }, p.op⟩)
    else some (s.graftSend b p)

end Sys2Proof.Machine
end

