-- ==== Sys2Proof/Machine/LoadBase.lean ====
section
/-! DEFINITION. How a load begins and takes its bytes from the window (19 R496, R504), and the indices of the mailbox rings
(23 R576), and the settings record's fields (19 R488). -/

namespace Sys2Proof.Machine

/-- A field of the settings in force: its default with no valid copy, and where it lies outside its range. -/
def State.setting (s : State) (start len dflt : Nat) (ok : Nat → Bool) : Nat :=
  match s.stu.settings with
  | none => dflt
  | some b => if ok (fieldAt b start len) then fieldAt b start len else dflt

/-- The bundle through which an image comes in MODE 011. -/
def State.stGraftBundle (s : State) : Nat := s.setting 23 1 0 fun v => decide (v < 12)

/-- Whether a bundle's pins are in use: from RELEASE_IO on (19 R492), and in MODE 011 those of the settings' bundle during
the load (19 R496). -/
def State.bundleOpen (s : State) (b : Nat) : Bool :=
  s.stu.ioReleased || (decide (s.fld F.CFG_STATUS_mode = 3) && decide (s.fld F.CFG_STATUS_stage = 3) && decide (b = s.stGraftBundle))

/-- CFG_LOAD_STAT written: busy, ok, fault. -/
def State.loadStat (s : State) (busy ok : Bool) (fault : Nat) : State :=
  s.setReg R.CFG_LOAD_STAT (BitVec.ofNat 32 (busy.toNat * 2 ^ 31 + ok.toNat * 2 ^ 30 + fault))

/-- A write of go to CFG_LOAD_CMD (19 R504): refused while a load is busy, before DONE, and in the safe state. -/
def State.partialGo (s : State) : State :=
  if s.flag F.CFG_LOAD_STAT_busy ∨ s.stu.load.active ∨ !s.flag F.DEV_STATUS_done ∨ s.flag F.DEV_STATUS_safe_state then
    s.raise Flt.STU_LOAD_REFUSED
  else
    let l : LoadSt := { active := true, running := true, src := s.fld F.CFG_LOAD_SRC_src
                        addr := s.pair R.CFG_LOAD_ADDR_LO R.CFG_LOAD_ADDR_HI, avail := some (s.reg R.CFG_LOAD_LEN).toNat }
    ({ s with stu := { s.stu with load := l, stream := [] } }).loadStat true false 0

/-- Bytes written to the image stream window (19 R496): appended to the stream of a load that awaits one, otherwise
discarded and counted. -/
def State.streamWrite (s : State) (data : List Byte) : State :=
  if s.stu.load.active ∧ s.stu.load.src = 0 ∧ data.length % 4 = 0 then
    let l := s.stu.load
    ({ s with stu := { s.stu with stream := s.stu.stream ++ data
                                  load := { l with first := if l.first.isNone then some s.time.ns else l.first } } }).setFlag
      F.CFG_LOAD_STAT_busy true
  else s.count F.CFG_STREAM_DROP_bytes data.length

/-- MB_CMD_IDX.prod written by the host (23 R576). -/
def State.mbPost (s : State) (prod : Nat) : State :=
  let s1 := s.setFld F.MB_CMD_IDX_prod prod
  if 256 < (prod % 65536 + 65536 - s.fld F.MB_CMD_IDX_cons) % 65536 then
    (s1.setFlag F.MB_STATUS_ring_err true).raise Flt.MB_RING_ERROR
  else s1

/-- The four indices of the rings at 0, and ring_err clear (23 R576). -/
def State.mbReset (s : State) : State :=
  ((s.setReg R.MB_CMD_IDX 0).setReg R.MB_RSP_IDX 0).setFlag F.MB_STATUS_ring_err false

end Sys2Proof.Machine
end

