-- ==== Sys2Proof/Machine/Time.lean ====
section
/-! DEFINITION. Device time and what disciplines it (17 R454, R455; 16 R431). -/

namespace Sys2Proof.Machine

/-- ETH_TIME_CTRL.rate in ppb, clamped to one million either way. -/
def State.timeRate (s : State) : Int := clampInt (-1000000) 1000000 (signed 24 (s.fld F.ETH_TIME_CTRL_rate))

/-- One nominal nanosecond of device time: it advances at the nominal rate corrected by `rate` ppb. -/
def State.timeTick (s : State) : State :=
  let t := ((s.time.frac : Int) + 2 ^ 32 + (2 ^ 32 : Int) * s.timeRate / 10 ^ 9).toNat
  { s with time := { s.time with ns := (s.time.ns + t / 2 ^ 32) % 2 ^ 64, frac := t % 2 ^ 32 } }

/-- A whole number of ns added to device time. -/
def State.timeAdd (s : State) (d : Int) : State := { s with time := { s.time with ns := ((s.time.ns : Int) + d).toNat % 2 ^ 64 } }

/-- A number of ns to be slewed out. -/
def State.timeSlew (s : State) (d : Int) : State := { s with time := { s.time with slew := s.time.slew + d } }

/-- A step of device time from any source: a slew, counted, while a class-0 contract is committed (R455). -/
def State.timeStep (s : State) (d : Int) : State :=
  if s.committed = [] then s.timeAdd d else (s.timeSlew d).countWrap F.ETH_TIME_CTRL_slewed

/-- An offset to be taken out: above 1 microsecond it steps, below it is slewed (16 R431). What is still to be slewed from
earlier offsets is replaced. -/
def State.timeCorrect (s : State) (d : Int) : State :=
  if d.natAbs > 1000 then s.timeStep d else { s with time := { s.time with slew := d } }

/-- TIME_SLEW_STEP (R455): 1 ns of a slew, every 10 us. -/
def execTimeSlewStep (s : State) : Result :=
  .next (if s.time.slew = 0 then s else if 0 < s.time.slew then (s.timeAdd 1).timeSlew (-1) else (s.timeAdd (-1)).timeSlew 1)

/-- ETH_TIME_LO_WRITE (R455): held for the next write of HI. -/
def execEthTimeLoWrite (value : Word) (s : State) : Result := .next { s with time := { s.time with heldLo := value.toNat } }

/-- ETH_TIME_HI_WRITE (R455): time is set to the new HI and the held LO, or slewed to it. -/
def execEthTimeHiWrite (value : Word) (s : State) : Result :=
  .next (s.timeStep ((value.toNat * 2 ^ 32 + s.time.heldLo : Nat) - (s.time.ns : Int)))

/-- ETH_TIME_LO_READ (R455): HI is latched; the value answered is LO. -/
def execEthTimeLoRead (s : State) : Result :=
  .next (({ s with time := { s.time with latchedHi := s.time.ns / 2 ^ 32 % 2 ^ 32 } }).answer 0 0 (leBytes 4 s.time.ns))

/-- ETH_TIME_STEP (R455). -/
def execEthTimeStep (value : Word) (s : State) : Result := .next (s.timeStep (signed 32 value.toNat))

/-- The offset of a PPS edge: time modulo one second, folded into half a second either way (R454). -/
def ppsOffset (ns : Nat) : Int := if ns % 10 ^ 9 ≤ 5 * 10 ^ 8 then (ns % 10 ^ 9 : Nat) else (ns % 10 ^ 9 : Nat) - 10 ^ 9

/-- TIME_PPS_EDGE (R454). -/
def execTimePpsEdge (s : State) : Result :=
  if s.fld F.ETH_TIME_CTRL_src ≠ 2 then .next s
  else
    let o := ppsOffset s.time.ns
    let l := (o :: s.eth.ppsOffsets).take 4
    let s1 := s.timeCorrect (-o)
    let s2 := { s1 with eth := { s1.eth with ppsOffsets := l, ppsLast := s1.time.ns } }
    .next (s2.setFlag F.ETH_STATUS_time_lock (decide (l.length = 4) && l.all fun x => decide (x.natAbs ≤ 10)))

/-- PPS_LOST (R454): with no edge for 1.1 s, time runs free. -/
def execPpsLost (s : State) : Result :=
  if s.fld F.ETH_TIME_CTRL_src ≠ 2 ∨ s.time.ns < s.eth.ppsLast + 1100000000 then .next s
  else
    let s1 := { s with time := { s.time with slew := 0 }, eth := { s.eth with ppsOffsets := [] } }
    .next ((s1.setFlag F.ETH_STATUS_time_lock false).raise Flt.ETH_PPS_LOST)

end Sys2Proof.Machine
end

