-- ==== Sys2Proof/Machine/Lanes.lean ====
section
/-! DEFINITION. Lane bundles: bring-up, test features (16 R410 to R420). -/

namespace Sys2Proof.Machine

/-- A bundle beside its registers. -/
def State.lnOf (s : State) (b : Nat) : LnSt := SMap.get {} s.ln b

/-- That part replaced. -/
def State.setLn (s : State) (b : Nat) (x : LnSt) : State := { s with ln := SMap.set {} s.ln b x }

/-- Whether a bundle runs in Graft mode. -/
def State.lnGraft (s : State) (b : Nat) : Bool := s.flag (F.LN_CTRL_mode.win b)

/-- The lanes in use: lane_en in Ethernet mode, all eight in Graft mode. -/
def State.lnLanes (s : State) (b : Nat) : Nat := if s.lnGraft b then 255 else s.fld (F.LN_CTRL_lane_en.win b)

/-- The state of a bundle. -/
def State.lnState (s : State) (b : Nat) : Nat := s.fld (F.LN_STATE_state.win b)

/-- The state of a bundle written; leaving UP is remembered, and what the promise sees is brought up to date. -/
def State.setLnState (s : State) (b v : Nat) : State :=
  let s1 := if s.lnState b = 7 ∧ v ≠ 7 then s.setFlag (F.LN_STATUS_down_any.win b) true else s
  s1.setFld (F.LN_STATE_state.win b) v

/-- Whether a rate is allowed for Ethernet (R411). -/
def ethernetRate (rate : Nat) : Bool := decide (rate ≠ 6)

/-- The Graft rate a figure is lowered to: 1, 3, 5 or 6; 0 for none (R424). -/
def graftRate (r : Nat) : Nat := if 6 ≤ r then 6 else if r = 5 then 5 else if 3 ≤ r then 3 else if 1 ≤ r then 1 else 0

/-- The state of a lane on its own (R413). -/
def State.laneState (s : State) (b i : Nat) : Nat := SMap.get 0 (s.lnOf b).lanes i

/-- A lane's state written, the bundle showing that of its slowest enabled lane. -/
def State.setLane (s : State) (b i v : Nat) : State :=
  let s1 := s.setLn b { s.lnOf b with lanes := SMap.set 0 (s.lnOf b).lanes i v }
  let en := onesOf 8 (s1.lnLanes b)
  let up := maskOf (en.filter fun j => decide (s1.laneState b j = 7))
  let low := (en.map fun j => s1.laneState b j).foldl min 7
  let s2 := (s1.setFld (F.LN_STATE_lane_up.win b) up).setLnState b low
  s2.setFlag (F.LN_STATUS_up.win b) (decide (up = s1.lnLanes b) && decide (low = 7))

/-- Every lane in a state. -/
def State.setLanes (s : State) (b v : Nat) : State :=
  (onesOf 8 (s.lnLanes b)).foldl (fun (t : State) i => t.setLane b i v) (s.setLn b { s.lnOf b with lanes := [] })

/-! ## Bring-up (R413) -/

/-- A bundle back in RESET (state 0): lanes down, polarity and order forgotten. -/
def State.lnReset (s : State) (b : Nat) : State :=
  let s1 := (s.setLnState b 0).setLn b { s.lnOf b with lanes := [] }
  (((s1.setFld (F.LN_STATE_lane_up.win b) 0).setFld (F.LN_STATE_rx_inv.win b) 0).setFlag (F.LN_STATE_reversed.win b) false).setFlag
    (F.LN_STATUS_up.win b) false

/-- Bring-up starts from RESET. In Graft mode the device writes the rate in force: 1 at a first bring-up. -/
def State.lnStart (s : State) (b : Nat) : State :=
  let s1 := (s.lnReset b).setLn b { (s.lnReset b).lnOf b with attempts := 0 }
  if s.lnGraft b then
    let g := s1.grOf b
    let rate := if g.wasActive then g.rate else 1
    let s2 := (s1.setGr b { g with rate := rate }).setFld (F.LN_CTRL_rate.win b) rate
    if s.grState b = 6 then s2 else s2.setFld F.GR_LINK_state 1 b
  else s1

/-- A Graft link goes down: what waits at its port and in its replay buffer is discarded (R428). -/
def State.graftDown (s : State) (b : Nat) : State :=
  let s1 := s.setGr b { s.grOf b with waiting := [], replay := [] }
  (((s1.setFld F.GR_LINK_state 7 b).setFlag F.GR_STATUS_down_any true).raise Flt.GR_LINK_DOWN [b]).prmRefresh

/-- An attempt ends (R413): after three the bundle enters FAILED. -/
def State.lnAttemptEnds (s : State) (b reason : Nat) : State :=
  let n := (s.lnOf b).attempts + 1
  let s1 := (s.setFld (F.LN_STATE_fail.win b) reason).count (F.LN_STATE_tries.win b)
  let s2 := (s1.lnReset b).setLn b { (s1.lnReset b).lnOf b with attempts := n }
  if n < 3 then s2.prmRefresh
  else
    let s3 := (s2.setLnState b 8).raise Flt.LN_BRINGUP_FAIL [b]
    (if s.grState b = 6 then s3.graftDown b else s3).prmRefresh

/-- The failure code of a stage: no code is given for POLARITY, whose figure is a free value. -/
def State.stageFail (s : State) (state : Nat) : Nat × State :=
  if state = 1 then (1, s) else if state = 2 then (2, s) else if state = 4 then (3, s) else if state = 5 then (4, s)
  else if state = 6 then (5, s) else (Config.freeNat s.freeIdx % 16, s.takeFree)

/-- The lane order is neither straight nor reversed (R416). -/
def State.lnOrderFail (s : State) (b : Nat) : State :=
  let s1 := ((s.setFld (F.LN_STATE_fail.win b) 3).count (F.LN_STATE_tries.win b)).setLnState b 8
  let s2 := s1.raise Flt.LN_LANE_ORDER [b]
  (if s.grState b = 6 then s2.graftDown b else s2).prmRefresh

/-- The equaliser preset of a rate in the bundle's band (R412, 22 R555). -/
def State.lnPreset (s : State) (b : Nat) : Nat :=
  let r := s.fld (F.LN_CTRL_rate.win b)
  let reg := (if r < 4 then R.TH_BAND_B else R.TH_BAND_C) + 16 * (s.lnOf b).band
  bits (s.reg reg).toNat (8 * (r % 4) + 7) (8 * (r % 4))

/-- Adaptive equalisation starts from the preset of the band in force (R412). -/
def State.lnEq (s : State) (b : Nat) : State := (s.setLn b { s.lnOf b with preset := s.lnPreset b }).setLnState b 5

/-- The capability word that a bundle's link layer sends (R424). -/
def State.graftCapWord (s : State) (b : Nat) : Nat :=
  let vm := s.fld F.GR_CTRL_ver_max b
  let ver := if vm = 0 then 1 else min 2 vm
  let vcs := s.fld F.GR_CTRL_vc_mask b ||| 6
  0x9608 + 3 * 2 ^ 16 + s.fld F.NOC_GROVE_devnum * 2 ^ 33 + vcs * 2 ^ 37 + 8 * 2 ^ 41
    + graftRate (s.fld F.GR_CTRL_rate_max b) * 2 ^ 45 + 2 ^ 48 + ver * 2 ^ 52 + 0x47 * 2 ^ 56

/-- The lanes of a Graft bundle are up. -/
def State.graftUp (s : State) (b : Nat) : State :=
  let s1 := (s.setFlag (F.LN_STATUS_up.win b) true).setFld (F.LN_STATE_lane_up.win b) 255
  let s2 := s1.setFld F.GR_LINK_rate (s.grOf b).rate b
  let s3 := if s.grState b = 3 then s2.setFld F.GR_LINK_state 4 b else s2.setFld F.GR_LINK_state 2 b
  s3.grEmit b 2 0 (BitVec.ofNat 512 (s3.graftCapWord b)) 0

/-- A bring-up stage completes. `lane` is the lane that passes in Ethernet mode; `inverted`, `numbers` and `skew` are what
training shows in Graft mode: lanes received inverted, lane numbers read, deskew in UI. -/
def State.lnStage (s : State) (b lane inverted : Nat) (numbers : List Nat) (skew : Nat) : State :=
  let st := s.lnState b
  if !s.flag (F.LN_CTRL_en.win b) ∨ 8 ≤ st ∨ !s.bundleOpen b then s
  else if st = 0 then s.setLnState b 1
  else if s.lnGraft b then
    if st = 3 then ((s.setFld (F.LN_STATE_rx_inv.win b) inverted).setLnState b 4)
    else if st = 4 then
      let straight := decide (numbers = List.range 8) || decide (s.fld (F.LN_CTRL_lb.win b) = 1)
      if straight then s.lnEq b
      else if numbers = (List.range 8).reverse then (s.setFlag (F.LN_STATE_reversed.win b) true).lnEq b
      else s.lnOrderFail b
    else if st = 6 then
      if 48 < skew then s.lnAttemptEnds b 5 else (s.setLnState b 7).graftUp b
    else if st = 7 then s
    else s.setLnState b (st + 1)
  else if st = 1 then
    if ethernetRate (s.fld (F.LN_CTRL_rate.win b)) then s.setLanes b 2 else s.lnAttemptEnds b 1
  else
    let v := s.laneState b lane
    if v < 2 ∨ 7 ≤ v ∨ !bit (s.lnLanes b) lane then s
    else
      let s1 := if v = 3 then s.setFld (F.LN_STATE_rx_inv.win b) (putBit (s.fld (F.LN_STATE_rx_inv.win b)) lane (bit inverted lane)) else s
      let s2 := if v = 4 then s1.setLn b { s1.lnOf b with preset := s1.lnPreset b } else s1
      s2.setLane b lane (v + 1)

/-! ## Retraining (R428) -/

/-- A Graft link retrains: its packets wait, its lanes start from RESET at the rate in force. -/
def State.graftRetrain (s : State) (b : Nat) : State :=
  let s1 := (s.setFld F.GR_LINK_state 6 b).count F.GR_LINK_retrains 1 b
  let s2 := (s1.setFlag F.GR_STATUS_retrain_any true).raise Flt.GR_RETRAIN [b]
  (s2.lnStart b).prmRefresh

/-- A lane that is up loses lock (R413, R428). -/
def State.lockLost (s : State) (b lane : Nat) : State :=
  if s.lnGraft b then
    (if s.grState b = 5 ∨ s.grState b = 2 ∨ s.grState b = 4 then (s.setFld (F.LN_STATE_fail.win b) 6).graftRetrain b else s)
  else if s.laneState b lane ≠ 7 then s
  else (((s.setFld (F.LN_STATE_fail.win b) 6).setLane b lane 2).setFlag (F.LN_STATUS_down_any.win b) true).raise Flt.LN_LOCK_LOST [b]

/-- LN_CTRL.en falls: transmitters quiet, the Graft link off and forgotten. -/
def State.lnDisable (s : State) (b : Nat) : State :=
  let s1 := ((s.lnReset b).setFld (F.LN_STATE_tries.win b) 0).setLn b { (s.lnReset b).lnOf b with attempts := 0 }
  ((s1.setGr b {}).setReg R.GR_LINK 0 b).prmRefresh

/-! ## Test features (R418, R419) -/

/-- A checker locks or loses lock; `errors` are the bit errors counted since the last such event. -/
def State.checker (s : State) (b lane : Nat) (lock : Bool) (errors : Nat) : State :=
  if !s.flag (F.LN_CTRL_test.win b) ∨ !bit (s.fld (F.LN_PRBS_CTRL_chk_en.win b)) lane then s
  else
    let s1 := if s.flag (F.LN_PRBS_STAT_lock.win b) lane then s.count (F.LN_PRBS_STAT_errors.win b) errors lane else s
    s1.setFlag (F.LN_PRBS_STAT_lock.win b) lock lane

/-- Bits inverted on each selected lane. -/
def State.invert (s : State) (b n : Nat) : State :=
  let x := s.lnOf b
  let f := fun (m : SMap Nat) (i : Nat) => SMap.set 0 m i (SMap.get 0 m i + n)
  s.setLn b { x with injected := (onesOf 8 (s.fld (F.LN_INJ_lanes.win b))).foldl f x.injected }

/-- LN_INJ written with go: the fields are in the register, and the mode starts (R419). A mode other than rate ends an
injection at a rate. -/
def State.inject (s : State) (b mode : Nat) : State :=
  let s1 := (s.setFld (F.LN_INJ_mode.win b) mode)
  let stop := s1.setLn b { s1.lnOf b with injecting := none }
  if mode = 1 then stop.invert b 1
  else if mode = 2 then stop.invert b (max 1 (s.fld (F.LN_INJ_burst_len.win b)))
  else if mode = 3 then
    s1.setLn b { s1.lnOf b with injecting := some (min 40 (max 10 (s.fld (F.LN_INJ_rate_exp.win b))), s.fld (F.LN_INJ_lanes.win b)) }
  else stop

/-- The fields of LN_INJ taken from a written value. -/
def State.injectFields (s : State) (b : Nat) (value : Nat) : State :=
  s.setReg (R.LN_INJ + 0x10000 * b) (BitVec.ofNat 32 (value &&& 0x303F3FFF))

/-! ## Commands -/

/-- BRINGUP_START (R413): en is 1. -/
def execBringupStart (bundle : Nat) (s : State) : Result :=
  .next (if s.flag (F.LN_CTRL_en.win bundle) then (s.lnStart bundle).prmRefresh else s)

/-- BRINGUP_STAGE_DONE (R413). -/
def execBringupStageDone (bundle lane inverted : Nat) (numbers : List Nat) (skew : Nat) (s : State) : Result :=
  .next ((s.lnStage bundle lane inverted numbers skew).prmRefresh)

/-- BRINGUP_STAGE_TIMEOUT (R413). -/
def execBringupStageTimeout (bundle : Nat) (s : State) : Result :=
  let st := s.lnState bundle
  .next (if !s.flag (F.LN_CTRL_en.win bundle) ∨ 7 ≤ st ∨ !s.bundleOpen bundle then s
    else
      let r := s.stageFail st
      r.2.lnAttemptEnds bundle r.1)

/-- LANE_LOCK_LOST (R413). -/
def execLaneLockLost (bundle lane : Nat) (s : State) : Result := .next (s.lockLost bundle lane)

/-- PRBS_CHECKER_LOCK (R418). -/
def execPrbsCheckerLock (bundle lane : Nat) (lock : Bool) (errors : Nat) (s : State) : Result :=
  .next (s.checker bundle lane lock errors)

/-- INJECT_SINGLE (R419). -/
def execInjectSingle (bundle : Nat) (value : Word) (s : State) : Result := .next ((s.injectFields bundle value.toNat).inject bundle 1)

/-- INJECT_BURST (R419). -/
def execInjectBurst (bundle : Nat) (value : Word) (s : State) : Result := .next ((s.injectFields bundle value.toNat).inject bundle 2)

/-- INJECT_RATE (R419). -/
def execInjectRate (bundle : Nat) (value : Word) (s : State) : Result := .next ((s.injectFields bundle value.toNat).inject bundle 3)

/-- INJECT_OFF (R419). -/
def execInjectOff (bundle : Nat) (value : Word) (s : State) : Result := .next ((s.injectFields bundle value.toNat).inject bundle 0)

end Sys2Proof.Machine
end

