-- ==== Sys2Proof/Machine/Msix.lean ====
section
/-! DEFINITION. MSI-X vectors (17 R441). -/

namespace Sys2Proof.Machine

/-- An MSI-X vector is asked for: sent, or pending while it is masked. Functions: 0 the PF, 1 to 32 the VFs. -/
def State.msix (s : State) (fn vec : Nat) : State :=
  let k := fn * 2048 + vec % 2048
  if s.pci.unmasked.has k then s.emit (.msix fn (vec % 2048))
  else { s with pci := { s.pci with pend := s.pci.pend.put k true } }

/-- MSIX_UNMASK (17 R441): the vector is unmasked, and sent once if it was pending. -/
def execMsixUnmask (fn vec : Nat) (s : State) : Result :=
  let k := fn * 2048 + vec % 2048
  let s1 := { s with pci := { s.pci with unmasked := s.pci.unmasked.put k true, pend := s.pci.pend.put k false } }
  .next (if s.pci.pend.has k then s1.emit (.msix fn (vec % 2048)) else s1)

end Sys2Proof.Machine
end

