-- ==== Sys2Proof/Machine/Faults.lean ====
section
/-! DEFINITION. The fault collector (25 R617 to R626): the input queue, the record, the flash log, and the signals. -/

namespace Sys2Proof.Machine

/-! ## Order of entry (R620) -/

/-- A location as one number, item 0 lowest. -/
def locNum (l : List Nat) : Nat := ungroups 16 l

/-- Whether a fault comes before another: lower code, then lower location. -/
def faultBefore (a b : FaultEntry) : Bool :=
  decide (a.code < b.code) || (decide (a.code = b.code) && decide (locNum a.loc ≤ locNum b.loc))

/-- A fault put in its place. -/
def faultInsert (a : FaultEntry) : List FaultEntry → List FaultEntry
  | [] => [a]
  | b :: l => if faultBefore a b then a :: b :: l else b :: faultInsert a l

/-- The faults of a group in ascending code, then ascending location. -/
def faultSort (g : List FaultEntry) : List FaultEntry := g.foldr faultInsert []

/-- Whether a sorted group is offered before another. -/
def groupBefore (a b : List FaultEntry) : Bool :=
  match a, b with
  | x :: _, y :: _ => faultBefore x y
  | _, _ => true

/-- A group put in its place. -/
def groupInsert (a : List FaultEntry) : List (List FaultEntry) → List (List FaultEntry)
  | [] => [a]
  | b :: l => if groupBefore a b then a :: b :: l else b :: groupInsert a l

/-- The groups of a cycle in the order in which they are offered. -/
def groupSort (gs : List (List FaultEntry)) : List (List FaultEntry) := (gs.map faultSort).foldr groupInsert []

/-- What enters a queue with `room` places: the groups before the first that does not fit; and how many faults are
dropped. -/
def groupsEnter : Nat → List (List FaultEntry) → List FaultEntry × Nat
  | _, [] => ([], 0)
  | room, g :: l =>
    if g.length ≤ room then
      let r := groupsEnter (room - g.length) l
      (g ++ r.1, r.2)
    else ([], ((g :: l).map List.length).sum)

/-- The places of the input queue. -/
def queueSize : Nat := 64

/-- FLT_RECORD_LOST enters as soon as the queue has room (R620). -/
def State.lostNote (s : State) : State :=
  if s.flt.lostDue && decide (s.flt.queue.length < queueSize) then
    { s with flt := { s.flt with lostDue := false, queue := s.flt.queue ++ [Flt.FLT_RECORD_LOST.entry] } }
  else s

/-- FAULT_GROUP_OFFER (R620): the groups of one cycle. -/
def State.faultOffer (s : State) : State :=
  let s0 := s.lostNote
  let r := groupsEnter (queueSize - s0.flt.queue.length) (groupSort s0.flt.raised)
  let s1 := { s0 with flt := { s0.flt with
    raised := [], queue := s0.flt.queue ++ r.1, lostDue := s0.flt.lostDue || decide (r.2 ≠ 0) } }
  if r.2 = 0 then s1 else (s1.count F.FLT_LOST_dropped r.2).setFlag F.FLT_STATUS_lost true

/-! ## ERR_N (R624) -/

/-- The forced causes of ERR_N: the safe state, a dead complex, END, a shutdown. -/
def State.errForced (s : State) : Bool :=
  s.flag F.DEV_STATUS_safe_state || s.flag F.MB_STATUS_dead || decide (s.secu.lc = 4) || s.th.shutdown

/-- Whether ERR_N is asserted. -/
def State.errN (s : State) : Bool :=
  s.errForced || decide (0 < s.fld F.FLT_PEND_pend / 2 ^ min 4 (s.fld F.FLT_CTRL_errn_sev))

/-! ## Taking a fault (R618, R621, R625, R626) -/

/-- The 32 bytes of an entry. -/
def entryBytes (r : RecEntry) : List Byte :=
  let b := leBytes 8 r.time ++ leBytes 4 r.index ++ leBytes 2 r.fault.code ++ leBytes 1 r.fault.sev ++ leBytes 1 r.fault.src
    ++ leBytes 8 (locNum (r.fault.loc.take 4)) ++ leBytes 4 0
  b ++ leBytes 4 (crc32c b)

/-- An entry offered to a sector's fabric fault port, which queues 16. -/
def State.portOffer (r : RecEntry) (s : State) (k : Nat) : State :=
  let q := SMap.get [] s.flt.ports k
  if q.length < 16 then { s with flt := { s.flt with ports := SMap.set [] s.flt.ports k (q ++ [r]) } }
  else (s.count F.FLT_LOST_port_drop).setFlag F.FLT_STATUS_lost true

/-- Whether an entry is written to the flash log (R622): fatal, or SEC_LC_CHANGED. -/
def flashLogged (f : FaultEntry) : Bool := decide (3 ≤ f.sev) || decide (f.code = Flt.SEC_LC_CHANGED.code)

/-- An entry recorded and signalled. -/
def State.record (s : State) (f : FaultEntry) : State :=
  let i := (s.reg R.FLT_HEAD).toNat
  let r : RecEntry := { time := s.time.ns, index := i, fault := f }
  let s1 := { s with flt := { s.flt with
    record := SMap.set none s.flt.record (i % 1024) (some r)
    toFlash := if flashLogged f then s.flt.toFlash ++ [r] else s.flt.toFlash } }
  let s2 := (s1.setReg R.FLT_HEAD (BitVec.ofNat 32 (i + 1))).setFld F.FLT_PEND_pend (s.fld F.FLT_PEND_pend ||| 2 ^ f.sev)
  let s3 := if s2.flag F.FLT_CTRL_irq_en && decide (s2.fld F.FLT_CTRL_msi_sev ≤ f.sev) then s2.msix 0 (s2.fld F.FLT_CTRL_vec) else s2
  if s3.fld F.FLT_CTRL_port_sev ≤ f.sev then
    ((List.range 96).filter fun k => bit (s3.reg (R.FLT_PORT_MASK + 4 * (k / 32))).toNat (k % 32)).foldl (State.portOffer r) s3
  else s3

/-- FAULT_TAKE (R620): one queued fault. -/
def State.faultTake (s : State) : State :=
  match s.flt.queue with
  | [] => s.lostNote
  | f :: l => (({ s with flt := { s.flt with queue := l } }).record f).lostNote

/-! ## The flash log and the ports (R622, R626) -/

/-- FLASH_LOG_WRITE (R622): the oldest entry due, while Heartwood runs. -/
def State.flashWrite (s : State) : State :=
  match s.flt.toFlash with
  | [] => s
  | r :: l =>
    if s.mgt.warm || s.flag F.MB_STATUS_dead then s
    else
      let log := s.flt.flashLog ++ [r]
      let s1 := { s with flt := { s.flt with toFlash := l, flashLog := log.drop (log.length - 64) } }
      (s1.count F.FLT_FLASH_written).setFld F.FLT_FLASH_held (min 64 log.length)

/-- Every entry due is written: before D4 and before a commanded start-up (R622). -/
def State.flashAll (s : State) : State := s.flt.toFlash.foldl (fun (t : State) _ => t.flashWrite) s

/-- Every fault raised or queued is recorded, and every entry due reaches the flash log: before D4 and before a commanded
start-up (R622). -/
def State.faultsDrain (s : State) : State :=
  let s1 := s.faultOffer
  (s1.flt.queue.foldl (fun (t : State) _ => t.faultTake) s1).flashAll

/-- FAULT_PORT_DELIVER (R626): the oldest entry stands on the sector's port for one fabric cycle. -/
def State.portDeliver (s : State) (k : Nat) : State :=
  match SMap.get [] s.flt.ports k with
  | [] => s
  | r :: l =>
    if s.held (islandOf k) then s
    else { s with flt := { s.flt with ports := SMap.set [] s.flt.ports k l, shown := SMap.set none s.flt.shown k (some r) } }

/-- Entries from an index of the record (R623): whole ones, at most `n`; index 0xFFFF_FFFF gives the flash log. -/
def State.faultsFrom (s : State) (index n : Nat) : List RecEntry :=
  if index = 2 ^ 32 - 1 then s.flt.flashLog.take n
  else
    let head := (s.reg R.FLT_HEAD).toNat
    let start := max index (head - 1024)
    ((List.range (min n (head - start))).map fun i => SMap.get none s.flt.record ((start + i) % 1024)).reduceOption

/-- The record window (R623): a word of the slots' bytes. -/
def State.recordWord (s : State) (off : Nat) : Word :=
  match SMap.get none s.flt.record (off / 32 % 1024) with
  | some r => BitVec.ofNat 32 (fieldAt (entryBytes r) (off % 32 / 4 * 4) 4)
  | none => 0

/-! ## Commands -/

/-- FAULT_GROUP_OFFER (25 R620). -/
def execFaultGroupOffer (s : State) : Result := .next s.faultOffer

/-- FAULT_TAKE (25 R620). -/
def execFaultTake (s : State) : Result := .next s.faultTake

/-- FLASH_LOG_WRITE (25 R622). -/
def execFlashLogWrite (s : State) : Result := .next s.flashWrite

/-- FAULT_PORT_DELIVER (25 R626). -/
def execFaultPortDeliver (sector : Nat) (s : State) : Result := .next (s.portDeliver sector)

/-- FLT_PEND_CLEAR (25 R624): firmware acknowledges entries. -/
def execFltPendClear (value : Nat) (s : State) : Result :=
  .next (s.setFld F.FLT_PEND_pend (s.fld F.FLT_PEND_pend - (s.fld F.FLT_PEND_pend &&& value)))

end Sys2Proof.Machine
end

