-- ==== Sys2Proof/Machine/FabCfg.lean ====
section
/-! DEFINITION. How a context's frames are read: tiles, cells, clusters, selects, Z wires, attachments
(03 R71, R75, R80, R83, R101), and the checks a plane must pass (02 R39, R53; 03 R86, R104; 04 R117). -/

namespace Sys2Proof.Machine

/-- Frame `f` of a context. -/
def frame (fr : Frames) (f : Nat) : RowBits := SMap.get 0 fr f

/-- The 12,288 configuration bits of a tile (03 R80). -/
def tileBits (fr : Frames) (tile : Nat) : Nat :=
  ungroups 2048 ((List.range 6).map fun i => (frame fr (6 * tile + i)).toNat)

/-- A tile's bits written back into the frames. -/
def putTile (fr : Frames) (tile v : Nat) : Frames :=
  (List.range 6).foldl (fun m i => SMap.set 0 m (6 * tile + i) (BitVec.ofNat 2048 (v / 2 ^ (2048 * i)))) fr

/-- The tiles of a context that hold any 1 bit, rising. -/
def tilesOf (fr : Frames) : List Nat := (fr.map fun e => e.1 / 6).dedup

/-! ## Fields of a tile's bits -/

/-- The 96 bits of tile cell `c` (03 R71). -/
def cellBits (t c : Nat) : Nat := bits t (96 * c + 95) (96 * c)

/-- The mem_mode of cluster `k` (03 R75). -/
def memMode (t k : Nat) : Nat := bits t (6144 + 32 * k + 1) (6144 + 32 * k)

/-- The sr_sync bit of cluster `k` (03 R75). -/
def srSync (t k : Nat) : Bool := bit t (6144 + 32 * k + 2)

/-- The 6-bit select of multiplexer `m` of the tile, 0 to 867 (03 R83). -/
def muxSel (t m : Nat) : Nat :=
  if m < 548 then bits t (6272 + 6 * m + 5) (6272 + 6 * m)
  else bits t (9560 + 6 * (m - 548) + 5) (9560 + 6 * (m - 548))

/-- The multiplexer of input `i` (0 to 5 for I1 to I6, 6 BP0, 7 BP1) of cell `c`. -/
def inputMux (c i : Nat) : Nat := 8 * c + i

/-- The multiplexer of control input `i` (0 CE, 1 SR, 2 WE, 3 to 8 WA0 to WA5) of cluster `k`. -/
def ctrlMux (k i : Nat) : Nat := 512 + 9 * k + i

/-- z_drv of wire `z` at this end (03 R80). -/
def zDrv (t z : Nat) : Bool := bit t (11480 + 7 * z)

/-- z_src of wire `z` at this end. -/
def zSrc (t z : Nat) : Nat := bits t (11480 + 7 * z + 6) (11480 + 7 * z + 1)

/-- land_en of the tile. -/
def landEn (t : Nat) : Bool := bit t 11928

/-- own_a of a lower-sector landing tile (05 R149). -/
def ownA (t : Nat) : Nat := bits t 11944 11936

/-- own_b of a lower-sector landing tile (05 R149). -/
def ownB (t : Nat) : Nat := bits t 11953 11945

/-- The att field (03 R101). -/
def attOf (t : Nat) : Nat := bits t 11961 11954

/-- The Z wire that select value `v` of multiplexer `m` selects: only 60 to 63 do (03 R83). -/
def zOfSel (m v : Nat) : Option Nat := if 60 ≤ v ∧ v < 64 then some ((m + 16 * (v - 60)) % 64) else none

/-- Whether a tile's bits use Z wire `z` (02 R39): they drive it, select it, or set land_en. -/
def tileUsesWire (t z : Nat) : Bool :=
  landEn t || zDrv t z || (List.range 868).any fun m => decide (zOfSel m (muxSel t m) = some z)

/-- Whether a context uses Z wire `z` at a tile (02 R39). -/
def usesWire (fr : Frames) (tile z : Nat) : Bool := tileUsesWire (tileBits fr tile) z

/-- Whether a live context of either sector of the island uses the wire (02 R39). -/
def State.wireLive (s : State) (island tile z : Nat) : Bool :=
  usesWire (s.liveOf island) tile z || usesWire (s.liveOf (island + 48)) tile z

/-! ## What a plane may not use (02 R53, R54, R56, R58) -/

/-- A wire that is recorded dead in one of the island's bundles and used by the context, with its tile. -/
def State.deadWireUsed (s : State) (sector : Nat) (fr : Frames) : Option (Nat × Nat) :=
  ((tilesOf fr).flatMap fun t =>
    ((s.bundle (islandOf sector) t).dead.filter fun z => usesWire fr t z).map fun z => (t, z)).head?

/-- Whether a bank is dual-port: banks 0 to 7 of each column (05 R146). -/
def isDualPort (bank : Nat) : Bool := decide (bank % 256 < 8)

/-- The owner_class of a bank (05 R148). -/
def State.ownerClass (s : State) (bank : Nat) : Nat :=
  s.fld (F.MEM_BANK_CFG_owner_class.nth (bank % 256)) (bank / 256)

/-- Whether a landing tile's bits name a fabric or engine owner of its bank (05 R149). -/
def ownsBank (bank t : Nat) : Bool := decide (ownA t ≠ 0) || (isDualPort bank && decide (ownB t ≠ 0))

/-- A bank with a dead row port that the context gives to a fabric or engine owner (02 R56); owners stand in
lower-sector landing tiles. -/
def State.deadBankOwned (s : State) (sector : Nat) (fr : Frames) : Option Nat :=
  if sector < 48 then
    ((tilesOf fr).filter fun t => isLandingTile t && ownsBank (bankUnder sector t) (tileBits fr t)
      && (SMap.get {} s.vx.rowPorts (bankUnder sector t)).dead).head?
  else none

/-- Whether a context uses a dead resource of its sector (02 R53, R56, R58). -/
def State.usesDead (s : State) (sector : Nat) (fr : Frames) : Bool :=
  (s.deadWireUsed sector fr).isSome || (s.deadBankOwned sector fr).isSome

/-! ## Checks at restage and load (03 R86, R104) -/

/-- A failure of the Z-wire check: the fault, the tile and the wire (127 for land_en). -/
abbrev ZFail := FaultCode × Nat × Nat

/-- One tile of the Z-wire check of a context against a context of the partner sector (03 R86). -/
def zCheckTile (fr other : Frames) (tile : Nat) : List ZFail :=
  let a := tileBits fr tile
  let b := tileBits other tile
  ((List.range 64).filter fun z => zDrv a z && zDrv b z).map (fun z => (Flt.FAB_DOUBLE_DRIVER, tile, z))
    ++ (if landEn a ≠ landEn b then [(Flt.FAB_LANDING_MISMATCH, tile, 127)] else [])

/-- land_en set at a tile that is no landing position (03 R86): the same tiles in both sectors of an island. -/
def landCheck (fr : Frames) : List ZFail :=
  ((tilesOf fr).filter fun t => landEn (tileBits fr t) && !isLandingTile t).map
    fun t => (Flt.FAB_LANDING_MISMATCH, t, 127)

/-- The Z-wire check of a context against one context of the partner (03 R86). -/
def zCheck (fr other : Frames) : List ZFail :=
  ((tilesOf fr ++ tilesOf other).dedup.flatMap (zCheckTile fr other)) ++ landCheck fr

/-- The sectors whose hard serial or flash port attaches there (03 R98): sector and port, port 10 the flash port. -/
def serialSectors : List (Nat × Nat) :=
  [(0, 0), (12, 1), (24, 2), (36, 3), (1, 4), (13, 5), (25, 6), (37, 7), (2, 8), (14, 9), (3, 10)]

/-- Whether an att value is allowed at a tile of a sector (03 R102, R104); `t` are the tile's bits. -/
def attAllowed (sector tile t : Nat) : Bool :=
  let a := attOf t
  if a = 0 then true
  else if a ≤ 0x22 then true
  else if a ≤ 0x26 then decide (sector < 48) && decide (sector % 3 = 0)
  else if a ≤ 0x2C then true
  else if a = 0x2D then serialSectors.any fun p => decide (p.1 = sector)
  else if a = 0xFF then isLandingTile tile && (decide (sector < 48) || landEn t)
  else false

/-- The first tile at which a plane fails its attachment check (03 R104). -/
def attachFail (sector : Nat) (fr : Frames) : Option Nat :=
  let ts := tilesOf fr
  let atts := ts.map fun t => (t, attOf (tileBits fr t))
  ((ts.filter fun t => !attAllowed sector t (tileBits fr t)) ++
    (atts.filter fun p => decide (p.2 ≠ 0 ∧ p.2 ≠ 0xFF) &&
      atts.any fun q => decide (q.2 = p.2) && decide (q.1 < p.1)).map (·.1)).head?

/-- Whether a value of own_a or own_b is allowed (05 R149). -/
def ownerAllowed (portB : Bool) (v : Nat) : Bool :=
  decide (v = 0) || (!portB && decide (v = 1)) || (decide (0x100 ≤ v) && decide (v < 0x200))

/-- The first landing tile at which a lower-sector plane fails its owner check (05 R150). -/
def State.ownerFail (s : State) (sector : Nat) (fr : Frames) : Option Nat :=
  if sector < 48 then
    ((tilesOf fr).filter fun t =>
      let v := tileBits fr t
      let bank := bankUnder sector t
      let dual := isDualPort bank
      isLandingTile t &&
        (!ownerAllowed false (ownA v) || (dual && !ownerAllowed true (ownB v))
          || (ownsBank bank v && decide (s.ownerClass bank ≠ 0))
          || (dual && decide (ownA v = ownB v) && decide (ownA v ≠ 0))
          || (ownsBank bank v && (SMap.get {} s.vx.rowPorts bank).dead))).head?
  else none

/-! ## Memory clusters (03 R76, 04 R117) -/

/-- The frames 0 to 2 of a tile that hold truth-table bits of a memory cluster: cluster k's cells take tile bits
1,536 k to 1,536 k + 1,535. -/
def memFramesOfTile (t : Nat) : List Nat :=
  let m := fun k => decide (memMode t k ≠ 0)
  (if m 0 || m 1 then [0] else []) ++ (if m 1 || m 2 then [1] else []) ++ (if m 2 || m 3 then [2] else [])

/-- mem_frames of a context (04 R117). -/
def memFrames (fr : Frames) : Nat := ((tilesOf fr).map fun t => (memFramesOfTile (tileBits fr t)).length).sum

/-- The mask of the truth-table bits of the memory clusters of a tile. -/
def memTableMask (t : Nat) : Nat :=
  ((List.range 64).filter fun c => decide (memMode t (c / 16) ≠ 0)).foldl
    (fun a c => a ||| ((2 ^ 64 - 1) * 2 ^ (96 * c))) 0

/-- The write-back of a staged context into its resident plane (04 R117): only the truth-table bits of its memory
clusters move. -/
def writeBack (plane staged : Frames) : Frames :=
  (tilesOf staged).foldl (fun p t =>
    let v := tileBits staged t
    let mask := memTableMask v
    if mask = 0 then p else
      let old := tileBits p t
      putTile p t (old - (old &&& mask) + (v &&& mask))) plane

end Sys2Proof.Machine
end

