-- ==== Sys2Proof/Machine/Contexts.lean ====
section
/-! DEFINITION. Configuration contexts and schedules (04): restage, write-back, switch, schedule tables; and the
restage-path test (02 R57, R58). -/

namespace Sys2Proof.Machine

/-! ## Registers of a sector -/

/-- Whether ctx_busy is 1 (04 R124): a write-back, restage or late switch is in progress. -/
def State.ctxBusy (s : State) (k : Nat) : Bool :=
  s.flag (F.CTX_STATUS_wb_busy.ctx k) || s.flag (F.CTX_STATUS_restaging.ctx k) || s.flag (F.CTX_STATUS_late_pend.ctx k)

/-- The live plane of a sector. -/
def State.livePlane (s : State) (k : Nat) : Nat :=
  if (s.sec k).live then s.fld (F.CTX_STATUS_live_plane.ctx k) else 8

/-- Whether a plane is loaded (04 R113). -/
def State.planeLoaded (s : State) (k p : Nat) : Bool := s.flag ((F.CTX_PLANE_INFO_loaded.nth p).ctx k)

/-- Whether the staged latches are valid and hold plane `p` (04 R114). -/
def State.stagedValid (s : State) (k p : Nat) : Bool :=
  !s.flag (F.CTX_STATUS_restaging.ctx k) && decide (s.fld (F.CTX_STATUS_staged_state.ctx k) = 1)
    && decide (s.fld (F.CTX_STATUS_staged_plane.ctx k) = p)

/-- Whether the staged latches are unusable and hold plane `p` (04 R114). -/
def State.stagedUnusable (s : State) (k p : Nat) : Bool :=
  !s.flag (F.CTX_STATUS_restaging.ctx k) && decide (s.fld (F.CTX_STATUS_staged_state.ctx k) = 2)
    && decide (s.fld (F.CTX_STATUS_staged_plane.ctx k) = p)

/-- Whether a restage of a plane into the sector would be refused (02 R53, R56, R58). -/
def State.restageRefused (s : State) (k p : Nat) : Bool :=
  (SMap.get {} s.vx.paths k).dead || s.usesDead k (s.plane k p)

/-- Entry `i` of the active table (04 R126). -/
def State.actEntry (s : State) (k i : Nat) : Nat := (s.reg (R.CTX_SCHED_ACT + 4 * i + 0x1000 * k)).toNat

/-- Fields of a schedule entry (04 R126). -/
def entryPlane (e : Nat) : Nat := bits e 2 0
def entryDwell (e : Nat) : Nat := bits e 22 3
def entryLoop (e : Nat) : Bool := bit e 23
def entryStop (e : Nat) : Bool := bit e 24
def entryWait (e : Nat) : Bool := bit e 25

/-! ## The defect map (02 R63) -/

/-- A change of the vertical defect map: its flash write starts. -/
def State.mapChange (s : State) (e : MapEntry) : State :=
  { s with vx := { s.vx with mapWrites := s.vx.mapWrites ++ [{ e with time := s.time.ns }] } }

/-! ## Switching (04 R121 to R123) -/

/-- The exchange of live and staged latches at one edge (04 R121). -/
def State.ctxExchange (s : State) (k : Nat) : State :=
  let live := s.liveOf k
  let staged := s.stagedOf k
  let lp := s.livePlane k
  let sp := s.fld (F.CTX_STATUS_staged_plane.ctx k)
  let s1 := (s.setLive k staged).setStaged k live
  let s2 := ((s1.setFld (F.CTX_STATUS_live_plane.ctx k) sp).setFld (F.CTX_STATUS_staged_plane.ctx k) lp).setFld
    (F.CTX_STATUS_staged_state.ctx k) (s.sec k).live.toNat
  (s2.count (F.CTX_SWITCH_CNT_count.ctx k)).setSec k { s2.sec k with switched := true, live := true }

/-- The outcome of a switch request. -/
inductive SwitchResult where
  | done | late | refused
deriving DecidableEq, Repr

/-- A pending late switch noted (04 R123). -/
def State.setLate (s : State) (k : Nat) (l : Option LateSwitch) : State :=
  (s.setSec k { s.sec k with late := l }).setFlag (F.CTX_STATUS_late_pend.ctx k) l.isSome

/-- A switch asked for by a trigger that names fabric edge `edge` (04 R122). -/
def State.switchTo (s : State) (k p edge : Nat) (sched : Bool) : SwitchResult × State :=
  let refuse := fun (s : State) => (SwitchResult.refused, s.raise Flt.CTX_SWITCH_REFUSED [k])
  if p = s.livePlane k then (.done, s)
  else if !s.planeLoaded k p then refuse s
  else if s.stagedUnusable k p then refuse s
  else if s.stagedValid k p then (.done, s.ctxExchange k)
  else if s.flag (F.CTX_STATUS_restaging.ctx k) && decide (s.fld (F.CTX_STATUS_restage_plane.ctx k) = p) then
    (.late, s.setLate k (some ⟨p, edge, sched⟩))
  else if s.restageRefused k p then
    refuse (if (SMap.get {} s.vx.paths k).dead then s else s.raise Flt.VX_RESTAGE_REFUSED)
  else
    let s1 := s.setLate k (some ⟨p, edge, sched⟩)
    (.late, s1.setSec k { s1.sec k with request := some p })

/-! ## The schedule (04 R126 to R131) -/

/-- The next table, written and checked, becomes the active one (04 R131). -/
def State.takeTable (s : State) (k : Nat) : State :=
  let next := fun (i : Nat) =>
    SMap.get (s.reg (R.CTX_SCHED_NEXT + 4 * i + 0x1000 * k)) s.staged (regKey (R.CTX_SCHED_NEXT + 4 * i + 0x1000 * k) 0)
  let s1 := (List.range 64).foldl (fun (t : State) i =>
    ((t.setReg (R.CTX_SCHED_ACT + 4 * i + 0x1000 * k) (next i)).setReg (R.CTX_SCHED_NEXT + 4 * i + 0x1000 * k) (next i))) s
  let mine := fun (key : Nat) =>
    decide (R.CTX_SCHED_NEXT + 0x1000 * k ≤ key) && decide (key < R.CTX_SCHED_NEXT + 0x1000 * k + 256)
  let s2 := { s1 with staged := SMap.clear s1.staged mine }
  (s2.setSec k { s2.sec k with nextWaits := false, checked := true }).setFlag (F.CTX_BLK_COMMIT_grp0.ctx k) false

/-- The schedule stops where it stands. -/
def State.schedHalt (s : State) (k : Nat) : State :=
  ((s.setSec k { s.sec k with armed := false, want := none, evtLatched := false, dwell := 0 }).setFlag
    (F.CTX_STATUS_sched_run.ctx k) false).setFlag (F.CTX_STATUS_sched_wait.ctx k) false

/-- The entry after entry `j` in the active table, if the lap goes on. -/
def State.entryAfter (s : State) (k j : Nat) : Option Nat :=
  let e := s.actEntry k j
  if entryStop e then none else if entryLoop e then some 0 else if j < 63 then some (j + 1) else none

/-- During an entry the controller stages the plane of the next one if it would be found unstaged (04 R127 step 4). -/
def State.stageNext (s : State) (k j : Nat) : State :=
  match s.entryAfter k j with
  | none => s
  | some n =>
    let p := entryPlane (s.actEntry k n)
    if p = s.livePlane k || s.stagedValid k p || s.stagedUnusable k p
      || (s.flag (F.CTX_STATUS_restaging.ctx k) && decide (s.fld (F.CTX_STATUS_restage_plane.ctx k) = p)) then s
    else s.setSec k { s.sec k with request := some p }

/-- An entry is entered, its plane being live (04 R127). -/
def State.enterEntry (s : State) (k j : Nat) : State :=
  let s1 := (s.setFld (F.CTX_STATUS_cur_entry.ctx k) j).setFlag (F.CTX_STATUS_sched_wait.ctx k) false
  (s1.setSec k { s1.sec k with want := none, evtLatched := false, dwell := entryDwell (s1.actEntry k j) }).stageNext k j

/-- The schedule goes to entry `j`, whose trigger names fabric edge `edge` (04 R127 step 1). -/
def State.goEntry (s : State) (k j edge : Nat) : State :=
  let s0 := s.setSec k { s.sec k with want := some j, evtLatched := false }
  match s0.switchTo k (entryPlane (s0.actEntry k j)) edge true with
  | (.done, s1) => s1.enterEntry k j
  | (.late, s1) => s1
  | (.refused, s1) => (s1.schedHalt k).setFld (F.CTX_STATUS_cur_entry.ctx k) j

/-- The current entry is left (04 R127 step 3, R131): on to the next entry, the next lap, the new table, or a stop. -/
def State.leaveEntry (s : State) (k : Nat) : State :=
  let j := s.fld (F.CTX_STATUS_cur_entry.ctx k)
  let e := s.actEntry k j
  let edge := s.fabCycle (islandOf k)
  if entryStop e then
    let s1 := s.countWrap (F.CTX_SCHED_STAT_laps.ctx k)
    if (s1.sec k).nextWaits then (s1.takeTable k).goEntry k 0 edge else s1.schedHalt k
  else if entryLoop e then
    let s1 := s.countWrap (F.CTX_SCHED_STAT_laps.ctx k)
    if (s1.sec k).nextWaits then (s1.takeTable k).goEntry k 0 edge else s1.goEntry k 0 edge
  else if j < 63 then s.goEntry k (j + 1) edge
  else s.schedHalt k

/-- A schedule event arrives for a sector (04 R128). -/
def State.schedEvent (s : State) (k : Nat) : State :=
  if !s.flag (F.CTX_STATUS_sched_run.ctx k) then s
  else
    let e := s.actEntry k (s.fld (F.CTX_STATUS_cur_entry.ctx k))
    let c := s.sec k
    if s.flag (F.CTX_STATUS_sched_wait.ctx k) then s.leaveEntry k
    else if entryWait e && !c.evtLatched && c.want.isNone then s.setSec k { c with evtLatched := true }
    else s.count (F.CTX_SCHED_STAT_missed_evt.ctx k)

/-- The event source in force, 3 treated as 1 (04 R128). -/
def State.evtSrc (s : State) (k : Nat) : Nat :=
  if s.fld (F.CTX_CTRL_evt_src.ctx k) = 3 then 1 else s.fld (F.CTX_CTRL_evt_src.ctx k)

/-- A late switch takes effect, at the third fabric edge after its restage (04 R123). -/
def State.lateEffect (s : State) (k : Nat) (l : LateSwitch) : State :=
  let s1 := (s.setLate k none).ctxExchange k
  let late := s1.fabCycle (islandOf k) + 3 - l.edge
  let s2 := (s1.count (F.CTX_LATE_CNT_count.ctx k)).setFld (F.CTX_LAST_LATE_cycles.ctx k) late
  if l.sched then
    let s3 := s2.raise Flt.CTX_LATE_SWITCH [k]
    match (s3.sec k).want with
    | some j => s3.enterEntry k j
    | none => s3
  else s2

/-- A late switch is refused (04 R122, R135): its schedule, if it had one, stops at the entry that named the plane. -/
def State.lateRefused (s : State) (k : Nat) (l : LateSwitch) : State :=
  let want := (s.sec k).want
  let s1 := (s.setLate k none).raise Flt.CTX_SWITCH_REFUSED [k]
  if l.sched then
    match want with
    | some j => (s1.schedHalt k).setFld (F.CTX_STATUS_cur_entry.ctx k) j
    | none => s1.schedHalt k
  else s1

/-- A sector's restage path. -/
def State.path (s : State) (k : Nat) : RestagePath := SMap.get {} s.vx.paths k

/-- A sector's restage path replaced. -/
def State.setPath (s : State) (k : Nat) (p : RestagePath) : State :=
  { s with vx := { s.vx with paths := SMap.set {} s.vx.paths k p } }

/-- What a hold does to a sector's contexts (04 R135, R131). -/
def State.ctxHold (s : State) (k : Nat) : State :=
  let busy := s.flag (F.CTX_STATUS_restaging.ctx k)
  let s1 := (s.schedHalt k).setLate k none
  let s2 := s1.setSec k { s1.sec k with request := none }
  let s3 := if busy then
      (((s2.setFlag (F.CTX_STATUS_restaging.ctx k) false).setFlag (F.CTX_STATUS_wb_busy.ctx k) false).setFld
        (F.CTX_STATUS_staged_state.ctx k) 0).setStaged k []
    else s2
  let s4 := s3.setPath k { s3.path k with testing := false }
  if (s4.sec k).nextWaits then s4.takeTable k else s4

/-! ## The check of the next table (04 R130) -/

/-- The next table's entry `i` as it stands staged. -/
def State.nextEntry (s : State) (k i : Nat) : Nat :=
  (SMap.get (s.reg (R.CTX_SCHED_NEXT + 4 * i + 0x1000 * k)) s.staged
    (regKey (R.CTX_SCHED_NEXT + 4 * i + 0x1000 * k) 0)).toNat

/-- One pass of the check over the lap, from entry `i` with the live and staged planes; `n` entries remain.
Answers the failing entry and reason, or the planes at the end of the lap. -/
def schedPass (entry : Nat → Nat) (loaded : Nat → Bool) (wb : Nat) (second : Bool) :
    Nat → Nat → Nat → Option Nat → Except (Nat × Nat) (Nat × Option Nat)
  | 0, i, _, _ => .error (i - 1, 4)
  | n + 1, i, live, staged =>
    let e := entry i
    if entryDwell e = 0 then .error (i, 1)
    else if !loaded (entryPlane e) then .error (i, 3)
    else if entryStop e then .ok (live, staged)
    else
      let j := if entryLoop e then 0 else i + 1
      if j = 64 then .error (i, 4)
      else
        let p := entryPlane (entry j)
        let wbNeed := match staged with
          | some q => bit wb q
          | none => false
        let need := if wbNeed then 1400 else 1100
        let restage := decide (p ≠ live) && decide (staged ≠ some p)
        if restage && second && decide (entryDwell e < need) then .error (i, 2)
        else
          let live' := if p ≠ live then p else live
          let staged' := if p ≠ live then some live else staged
          if entryLoop e then .ok (live', staged') else schedPass entry loaded wb second n (i + 1) live' staged'

/-- Whether the lap of a table ends in stop: the first entry with loop or stop has stop set (04 R126, R127). -/
def lapStops (entry : Nat → Nat) : Bool :=
  match (List.range 64).find? fun i => entryLoop (entry i) || entryStop (entry i) with
  | some i => entryStop (entry i)
  | none => false

/-- The check of a schedule table (04 R130): none if it passes, else the failing entry and reason. -/
def schedCheck (entry : Nat → Nat) (loaded : Nat → Bool) (wb : Nat) : Option (Nat × Nat) :=
  let start := (entryPlane (entry 0), (none : Option Nat))
  if lapStops entry then
    match schedPass entry loaded wb true 64 0 start.1 start.2 with
    | .error e => some e
    | .ok _ => none
  else
    match schedPass entry loaded wb false 64 0 start.1 start.2 with
    | .error e => some e
    | .ok (l, st) =>
      match schedPass entry loaded wb true 64 0 l st with
      | .error e => some e
      | .ok _ => none

/-- The check at a commit of CTX group 0 (04 R130). -/
def State.schedCommit (s : State) (k : Nat) : State :=
  match schedCheck (s.nextEntry k) (s.planeLoaded k) (s.fld (F.CTX_CTRL_wb_mask.ctx k)) with
  | some (i, r) =>
    (((s.setFlag (F.CTX_BLK_COMMIT_grp0.ctx k) false).setFld (F.CTX_SCHED_STAT_fail_entry.ctx k) i).setFld
      (F.CTX_SCHED_STAT_fail_reason.ctx k) r).raise Flt.CTX_SCHED_INVALID [k]
  | none =>
    let s1 := s.setFlag (F.CTX_BLK_COMMIT_grp0.ctx k) true
    s1.setSec k { s1.sec k with nextWaits := true }

/-! ## Restage (04 R116, R117; 03 R86, R87, R104; 05 R150) -/

/-- The partner's contexts that a plane staged into sector `k` is compared with (03 R86). -/
def State.partnerContexts (s : State) (k : Nat) : List Frames :=
  let q := partner k
  [s.liveOf q] ++
    (if s.flag (F.CTX_STATUS_restaging.ctx q) then [s.plane q (s.fld (F.CTX_STATUS_restage_plane.ctx q))]
     else if s.fld (F.CTX_STATUS_staged_state.ctx q) = 1 then [s.stagedOf q] else [])

/-- The faults of the checks a plane meets when it is staged: the Z-wire check, the attachment check, the owner check
and, for a wire that died meanwhile, the dead-resource check. -/
def State.stageFaults (s : State) (k p : Nat) (fr : Frames) : List FaultEntry :=
  let plane := k * 8 + p
  let z := (s.partnerContexts k).flatMap (zCheck fr)
  let firstOf := fun (f : FaultCode) => (z.filter fun x => decide (x.1 = f)).head?
  ((firstOf Flt.FAB_DOUBLE_DRIVER).toList ++ (firstOf Flt.FAB_LANDING_MISMATCH).toList).map
      (fun x => x.1.entry [plane, islandOf k, x.2.1, x.2.2])
    ++ (attachFail k fr).toList.map (fun t => Flt.FAB_ATTACH_INVALID.entry [plane, t])
    ++ (s.ownerFail k fr).toList.map (fun t => Flt.MEM_OWNER_CONFLICT.entry [k, t, bankUnder k t])
    ++ (if s.usesDead k fr then [Flt.VX_RESTAGE_REFUSED.entry] else [])

/-- A restage request reaches a configuration-clock edge (04 R116, R117, R115; refused under 02 R53, R58). -/
def State.restageAccept (s : State) (k : Nat) : State :=
  let c := s.sec k
  match c.request with
  | none => s
  | some p =>
    if s.flag (F.CTX_STATUS_restaging.ctx k) || s.held (islandOf k) then s
    else
      let s0 := s.setSec k { c with request := none }
      if p = s.livePlane k || !s.planeLoaded k p then s0
      else if s.restageRefused k p then
        let s1 := if (SMap.get {} s.vx.paths k).dead then s0 else s0.raise Flt.VX_RESTAGE_REFUSED
        match c.late with
        | some l => if l.plane = p then s1.lateRefused k l else s1
        | none => s1
      else
        let sp := s.fld (F.CTX_STATUS_staged_plane.ctx k)
        let wb := s.stagedValid k sp && bit (s.fld (F.CTX_CTRL_wb_mask.ctx k)) sp
        let s1 := ((s0.setFld (F.CTX_STATUS_staged_state.ctx k) 0).setFlag (F.CTX_STATUS_restaging.ctx k) true).setFld
          (F.CTX_STATUS_restage_plane.ctx k) p
        if wb then s1.setFlag (F.CTX_STATUS_wb_busy.ctx k) true else s1.setStaged k []

/-- The write-back of the displaced context ends and the restage begins (04 R117). -/
def State.writeBackDone (s : State) (k : Nat) : State :=
  if s.flag (F.CTX_STATUS_wb_busy.ctx k) then
    let sp := s.fld (F.CTX_STATUS_staged_plane.ctx k)
    (((s.setPlane k sp (writeBack (s.plane k sp) (s.stagedOf k))).setFlag (F.CTX_STATUS_wb_busy.ctx k) false).setStaged k [])
  else s

/-- After a restage: the late switch that waited for it, or the further restage it still needs, or nothing. -/
def State.afterRestage (s : State) (k p : Nat) (usable : Bool) : State :=
  match (s.sec k).late with
  | none => s
  | some l =>
    if l.plane = p then (if usable then s.lateEffect k l else s.lateRefused k l)
    else s.setSec k { s.sec k with request := some l.plane }

/-- A restage ends (04 R116): the staged latches take the plane, after its checks; or a parity mismatch aborts it and
starts the path test (02 R57). -/
def State.restageDone (s : State) (k : Nat) (badWire : Option Nat) : State :=
  if !s.flag (F.CTX_STATUS_restaging.ctx k) || s.flag (F.CTX_STATUS_wb_busy.ctx k)
      || (SMap.get {} s.vx.paths k).testing then s
  else
    match badWire with
    | some _ => s.setPath k { s.path k with testing := true }
    | none =>
      let p := s.fld (F.CTX_STATUS_restage_plane.ctx k)
      let fr := s.plane k p
      let faults := s.stageFaults k p fr
      let s1 := (((s.setStaged k fr).setFlag (F.CTX_STATUS_restaging.ctx k) false).setFld
        (F.CTX_STATUS_staged_plane.ctx k) p).setFld (F.CTX_STATUS_staged_state.ctx k) (if faults = [] then 1 else 2)
      (s1.raiseGroup faults).afterRestage k p (decide (faults = []))

/-- The path test ends (02 R57, R58): `wire` is the failing bit it found, of 12,288. -/
def State.pathTestDone (s : State) (k wire : Nat) : State :=
  let path := s.path k
  if !path.testing then s
  else if path.steered.any fun g => decide (g.1 = wire / 128) then
    let s1 := s.setPath k { path with testing := false, dead := true }
    let s2 := (s1.raise Flt.VX_RESTAGE_PATH_DEAD).mapChange
      { kind := .restagePath, unit := k, tile := 0, wire := wire, spare := none, time := 0 }
    let s3 := ((s2.setFlag (F.CTX_STATUS_restaging.ctx k) false).setFld (F.CTX_STATUS_staged_state.ctx k) 0).setStaged k []
    match (s3.sec k).late with
    | some l => s3.lateRefused k l
    | none => s3
  else
    let s1 := s.setPath k { path with testing := false, steered := path.steered ++ [(wire / 128, wire)] }
    (s1.raise Flt.VX_WIRE_REPAIRED).mapChange
      { kind := .restagePath, unit := k, tile := 0, wire := wire, spare := some (wire / 128), time := 0 }

/-! ## Commands -/

/-- CTX_STROBE (04 R124): accepted only with fab_en, no schedule running and ctx_busy 0; else counted. -/
def execCtxStrobe (sector plane : Nat) (s : State) : Result :=
  if s.held (islandOf sector) then .next s
  else if s.flag (F.CTX_CTRL_fab_en.ctx sector) && !s.flag (F.CTX_STATUS_sched_run.ctx sector) && !s.ctxBusy sector then
    .next (s.switchTo sector plane (s.fabCycle (islandOf sector) + 1) false).2
  else .next (s.count (F.CTX_REQ_DROP_count.ctx sector))

/-- A CTX_CMD refused (04 R125). -/
def State.ctxRefuse (s : State) (k : Nat) : State := s.raise Flt.CTX_CMD_REFUSED [k]

/-- CTX_CMD op 1 (04 R125). -/
def State.ctxSwitchCmd (s : State) (k plane : Nat) : State :=
  if s.flag (F.CTX_STATUS_sched_run.ctx k) || s.ctxBusy k then s.ctxRefuse k
  else (s.switchTo k plane (s.fabCycle (islandOf k)) false).2

/-- CTX_CMD op 2 (04 R125). -/
def State.ctxStageCmd (s : State) (k plane : Nat) : State :=
  if s.flag (F.CTX_STATUS_sched_run.ctx k) || s.ctxBusy k || decide (plane = s.livePlane k) || !s.planeLoaded k plane then
    s.ctxRefuse k
  else s.setSec k { s.sec k with request := some plane }

/-- CTX_CMD op 3 (04 R125, R129): the active table is armed; its first plane is staged if need be. -/
def State.schedStartCmd (s : State) (k : Nat) : State :=
  if s.flag (F.CTX_STATUS_sched_run.ctx k) || !(s.sec k).checked then s.ctxRefuse k
  else
    let s1 := ((((s.setFlag (F.CTX_STATUS_sched_run.ctx k) true).setFlag (F.CTX_STATUS_sched_wait.ctx k) false).setFld
      (F.CTX_STATUS_cur_entry.ctx k) 0).setFld (F.CTX_SCHED_STAT_laps.ctx k) 0).setFld (F.CTX_SCHED_STAT_missed_evt.ctx k) 0
    let s2 := s1.setSec k { s1.sec k with armed := true, want := some 0, evtLatched := false, dwell := 0 }
    let p := entryPlane (s2.actEntry k 0)
    if p = s2.livePlane k || s2.stagedValid k p || s2.stagedUnusable k p || !s2.planeLoaded k p then s2
    else s2.setSec k { s2.sec k with request := some p }

/-- The steps of a sector-start table on a running sector (18 R481), each once ctx_busy is 0: STAGE and SWITCH of the live
plane, STAGE of the staged plane, the start of the schedule. -/
def State.startProceed (s : State) (k : Nat) : State :=
  match SMap.get none s.stu.starting k with
  | none => s
  | some x =>
    let busy := fun (t : State) => t.ctxBusy k || (t.sec k).request.isSome
    let put := fun (t : State) (y : Option SectorStart) =>
      { t with stu := { t.stu with starting := SMap.set none t.stu.starting k y } }
    if busy s || s.held (islandOf k) then s
    else
      let s1 := if x.step = 0 ∧ x.live ≠ s.livePlane k then (s.switchTo k x.live (s.fabCycle (islandOf k)) false).2 else s
      if busy s1 then put s1 (some { x with step := 1 })
      else
        let s2 := match x.staged with
          | some p =>
            if x.step ≤ 1 ∧ p ≠ s1.livePlane k ∧ !s1.stagedValid k p ∧ s1.planeLoaded k p then
              s1.setSec k { s1.sec k with request := some p }
            else s1
          | none => s1
        if busy s2 then put s2 (some { x with step := 2 })
        else put (if x.start && (s2.sec k).checked then s2.schedStartCmd k else s2) none

/-- The wb_mask bits that may not take effect forced to 0 (04 R118). -/
def State.wbLimit (s : State) (k : Nat) : State :=
  let m := s.fld (F.CTX_CTRL_wb_mask.ctx k)
  let big := (onesOf 8 m).filter fun p => decide (1536 < s.fld ((F.CTX_PLANE_INFO_mem_frames.nth p).ctx k))
  if big = [] then s
  else (s.setFld (F.CTX_CTRL_wb_mask.ctx k) (m - maskOf big)).raise Flt.CTX_WB_LIMIT

/-- CTX_CMD op 4 (04 R125, R129): the schedule halts; a pending late switch is abandoned. -/
def State.schedStopCmd (s : State) (k : Nat) : State := (s.schedHalt k).setLate k none

/-- CTX_CMD op 5 (04 R125, R128). -/
def State.ctxEventCmd (s : State) (k : Nat) : State := if s.evtSrc k = 1 then s.schedEvent k else s

/-- RESTAGE_ACCEPT (04 R116). -/
def execRestageAccept (sector : Nat) (s : State) : Result := .next ((s.restageAccept sector).startProceed sector)

/-- WRITE_BACK_DONE (04 R117). -/
def execWriteBackDone (sector : Nat) (s : State) : Result := .next (s.writeBackDone sector)

/-- RESTAGE_DONE (04 R116; 02 R57; 03 R86, R104). -/
def execRestageDone (sector : Nat) (badWire : Option Nat) (s : State) : Result := .next ((s.restageDone sector badWire).startProceed sector)

/-- RESTAGE_PATH_TEST_DONE (02 R57, R58). -/
def execRestagePathTestDone (sector wire : Nat) (s : State) : Result := .next ((s.pathTestDone sector wire).startProceed sector)

/-- SWITCH (04 R125, R122). -/
def execSwitch (sector plane : Nat) (s : State) : Result := .next (s.ctxSwitchCmd sector plane)

/-- STAGE (04 R125). -/
def execStage (sector plane : Nat) (s : State) : Result := .next (s.ctxStageCmd sector plane)

/-- SCHED_START (04 R129). -/
def execSchedStart (sector : Nat) (s : State) : Result := .next (s.schedStartCmd sector)

/-- SCHED_STOP (04 R129). -/
def execSchedStop (sector : Nat) (s : State) : Result := .next (s.schedStopCmd sector)

/-- EVENT (04 R128). -/
def execEvent (sector : Nat) (s : State) : Result := .next (s.ctxEventCmd sector)

/-- CTX_CMD_INVALID (04 R125): op 0 or 6 to 15. -/
def execCtxCmdInvalid (sector op : Nat) (s : State) : Result :=
  .next (if op = 0 ∨ 6 ≤ op then s.ctxRefuse sector else s)

/-- A write of CTX_CMD (04 R125). -/
def State.ctxCmdWrite (s : State) (k v : Nat) : State :=
  match bits v 7 4 with
  | 1 => s.ctxSwitchCmd k (bits v 2 0)
  | 2 => s.ctxStageCmd k (bits v 2 0)
  | 3 => s.schedStartCmd k
  | 4 => s.schedStopCmd k
  | 5 => s.ctxEventCmd k
  | _ => s.ctxRefuse k

/-- SCHED_START_TIME (04 R129): device time reaches the start time, or it was 0 or passed. -/
def execSchedStartTime (sector : Nat) (s : State) : Result :=
  if (s.sec sector).armed && !s.held (islandOf sector) then
    .next ((s.setSec sector { s.sec sector with armed := false }).goEntry sector 0 (s.fabCycle (islandOf sector)))
  else .next s

/-- SCHED_DWELL_END (04 R127): the edges left in the dwell have been delivered; the entry is left, or waits. -/
def execSchedDwellEnd (sector : Nat) (s : State) : Result :=
  let k := sector
  if !s.flag (F.CTX_STATUS_sched_run.ctx k) || s.flag (F.CTX_STATUS_sched_wait.ctx k) || (s.sec k).want.isSome
      || s.held (islandOf k) then .next s
  else
    let left := (s.sec k).dwell
    let s1 := { s with vx := { s.vx with cycles := SMap.upd 0 s.vx.cycles (islandOf k) (· + left) } }
    let s2 := s1.setSec k { s1.sec k with dwell := 0 }
    let e := s2.actEntry k (s2.fld (F.CTX_STATUS_cur_entry.ctx k))
    if entryWait e && !(s2.sec k).evtLatched then .next (s2.setFlag (F.CTX_STATUS_sched_wait.ctx k) true)
    else .next (s2.leaveEntry k)

/-- SCHED_EVT_IN (04 R128): a 1 on ctx_sched_evt, heard with evt_src 0. -/
def execSchedEvtIn (sector : Nat) (s : State) : Result :=
  if s.evtSrc sector = 0 && !s.held (islandOf sector) then .next (s.schedEvent sector) else .next s

/-- CTX_TICK (04 R128): device time at a multiple of period_ns, heard with evt_src 2; a period of 0 gives no tick. -/
def execCtxTick (sector : Nat) (s : State) : Result :=
  if s.evtSrc sector = 2 && decide (s.fld (F.CTX_TICK_period_ns.ctx sector) ≠ 0) && !s.held (islandOf sector) then
    .next (s.schedEvent sector)
  else .next s

/-- SCHED_TABLE_TAKE (04 R131): a checked next table takes effect with the schedule not running; while it runs, the
table is taken at the lap's end or the stop entry, inside SCHED_DWELL_END. -/
def execSchedTableTake (sector : Nat) (s : State) : Result :=
  if (s.sec sector).nextWaits && !s.flag (F.CTX_STATUS_sched_run.ctx sector) then .next (s.takeTable sector) else .next s

end Sys2Proof.Machine
end

