-- ==== Sys2Proof/Machine/Stack.lean ====
section
/-! DEFINITION. Layers, vertical connections and their repair (02): riser and trunk beats, bundles and their
localisation, the background tester, holding and releasing an island, row ports, delay lines, the defect map. -/

namespace Sys2Proof.Machine

/-! ## Holding an island (02 R50 to R52) -/

/-- What a hold does to a bundle: a localisation in progress is abandoned and mismatch counting starts again (02 R44). -/
def bundleAbandon (b : Bundle) : Bundle :=
  { b with
    spares := b.spares.map fun x => if x = .localising then .free else x
    stamps := []
    loc := none
    recorded := if b.loc.isSome then false else b.recorded }

/-- Every bundle of an island abandons its localisation. -/
def State.abandonLocs (s : State) (island : Nat) : State :=
  let f := fun (e : Nat × Bundle) => if e.1 / 1024 = island then (e.1, bundleAbandon e.2) else e
  { s with vx := { s.vx with bundles := (s.vx.bundles.map f).filter fun e => decide (e.2 ≠ {}) } }

/-- A sector's stream port. -/
def State.spOf (s : State) (sector : Nat) : SpSec := SMap.get {} s.sp sector

/-- A sector's stream port replaced. -/
def State.setSp (s : State) (sector : Nat) (p : SpSec) : State := { s with sp := SMap.set {} s.sp sector p }

/-- The head of a segment that a sector's stream port sends (11 R322): to the slice of the queue, local port queue mod 4,
on sp_tx_vc, 2 used as 1. -/
def State.spHead (s : State) (sector : Nat) (t : SpOpen) (flits : Nat) (poison : Bool) : NocHead :=
  { srcDev := s.fld F.NOC_GROVE_devnum, srcNode := islandOf sector, srcPort := sector / 48, entry := islandOf sector,
    dstDev := t.dev, dstNode := 56 + 2 * (t.queue / 1024), dstPort := t.queue % 4, vc := if t.vc = 2 then 1 else t.vc,
    tag := 0, poison := poison, cls := if t.vc = 0 then 0 else 1, flits := flits, badHead := none, badFlit := none }

/-- A packet in flight from a sector's stream port is ended with a poison tag (02 R50 step 2). -/
def State.spPoison (s : State) (sector : Nat) : State :=
  match (s.spOf sector).tx with
  | none => s
  | some t =>
    (s.setSp sector { s.spOf sector with tx := none }).emit (.noc
      { head := s.spHead sector t (1 + t.words.length) true
        op := .stream { queue := t.queue, sop := !t.begun, eop := true, abort := false, ack := t.ack, pktLen := t.len,
                        lastBytes := t.lastBytes, meta32 := t.meta32, arrival := 0, payload := t.words } })

/-- A BIST run of an engine group of a held island ends with result 3 and no restore (24 R599): what its test has left in
the engines is not stated. -/
def State.bistHeld (s : State) (island : Nat) : State :=
  match s.secu.run with
  | some (0, k) =>
    if islandOf k ≠ island then s
    else
      let words := fun (base n width : Nat) => ((List.range n).map fun i => (i, Config.freeNat (base + i) % 2 ^ width)).filter
        fun e => decide (e.2 ≠ 0)
      let junk := fun (t : State) (j : Nat) =>
        let e := 128 * k + j
        let g := SMap.get ({} : Engine) t.eng e
        let g1 := { g with dmem := words t.freeIdx 4096 30, pmem := words (t.freeIdx + 4096) 1024 39 }
        { t with eng := SMap.set {} t.eng e g1, freeIdx := t.freeIdx + 5120 }
      let s1 := (List.range 128).foldl junk { s with secu := { s.secu with run := none } }
      ((((s1.setFld F.BT_RESULT_phase 0).setFld F.BT_RESULT_result 3).setFlag F.BT_STATUS_busy false).raise Flt.BT_ABORTED)
  | _ => s

/-- The island is held (02 R50 steps 1 to 3 and 5): its clocks stop, its schedules stop, localisations are abandoned,
its open packets end poisoned, and the promise of every queue whose path it is on is suspended. -/
def State.holdIsland (s : State) (island : Nat) : State :=
  if s.held island then s
  else
    let s0 := { s with vx := { s.vx with heldGen := SMap.set 0 s.vx.heldGen island (s.fld F.VX_MAP_GEN_gen) } }
    let s1 := (s0.setHeld island true).abandonLocs island
    let s2 := (s1.ctxHold island).ctxHold (island + 48)
    (((s2.spPoison island).spPoison (island + 48)).prmRefresh).bistHeld island

/-! ## Dead and repaired wires (02 R44, R48, R50, R53) -/

/-- A staged context that uses a wire that has become dead is marked unusable (02 R53). -/
def State.stagedCheckWire (s : State) (sector tile z : Nat) : State :=
  if s.fld (F.CTX_STATUS_staged_state.ctx sector) = 1 && usesWire (s.stagedOf sector) tile z then
    s.setFld (F.CTX_STATUS_staged_state.ctx sector) 2
  else s

/-- A Z wire is recorded dead (02 R48, R50): it leaves the parity, both staged latches are checked, the map changes. -/
def State.wireDead (s : State) (island tile z : Nat) : State :=
  let b := s.bundle island tile
  if z ∈ b.dead then s
  else
    let s1 := s.setBundle island tile { b with dead := b.dead ++ [z] }
    let s2 := (s1.stagedCheckWire island tile z).stagedCheckWire (island + 48) tile z
    s2.mapChange { kind := .bundle, unit := island, tile := tile, wire := z, spare := none, time := 0 }

/-- The lowest free spare of a bundle. -/
def freeSpare (b : Bundle) : Option Nat := (List.range 4).find? fun i => decide (b.spares[i]? = some .free)

/-- A wire is steered to spare `i` (02 R44 step 9): a spare that carried it before has failed. -/
def State.wireSteer (s : State) (island tile z i : Nat) : State :=
  let b := s.bundle island tile
  let old := b.spares.map fun x => if x = .wire z then Spare.failed else x
  let s1 := s.setBundle island tile { b with spares := old.set i (.wire z) }
  (s1.raise Flt.VX_WIRE_REPAIRED).mapChange
    { kind := .bundle, unit := island, tile := tile, wire := z, spare := some i, time := 0 }

/-- A localisation of the bundle ends: counting toward loc_threshold starts again, and the next mismatch is recorded
(02 R41). -/
def State.locEnd (s : State) (island tile : Nat) : State :=
  let b := s.bundle island tile
  s.setBundle island tile { b with loc := none, stamps := [], recorded := false }

/-- An idle wire has failed (02 R43, R48): steered if a spare is free, else recorded dead. -/
def State.idleFails (s : State) (island tile z : Nat) : State :=
  let b := s.bundle island tile
  if z ∈ b.dead then s
  else
    match freeSpare b with
    | some i => s.wireSteer island tile z i
    | none => (s.wireDead island tile z).raise Flt.VX_WIRE_DEAD

/-- A failed wire of a bundle with no free spare is used by a live context: it is recorded dead and the island is held
(02 R50). -/
def State.liveWireFails (s : State) (island tile z : Nat) : State :=
  ((s.wireDead island tile z).raise Flt.VX_SPARES_EXHAUSTED [island, tile, z]).holdIsland island

/-! ## Parity and localisation (02 R40 to R45) -/

/-- loc_threshold, 0 treated as 1 (02 R68). -/
def State.locThreshold (s : State) : Nat := max 1 (s.fld F.VX_CTRL_loc_threshold)

/-- PARITY_MISMATCH (02 R41, R43, R49, R50). `idleFailing` are the idle wires the tester would find failing if it had to
check them, `wire` the wire that has really failed. -/
def State.parityMismatch (s : State) (island tile : Nat) (idleFailing : List Nat) (wire : Nat) : State :=
  if s.held island then s
  else
    let s0 := s.count F.VX_ISL_PAR_count 1 island
    let b0 := s0.bundle island tile
    let s1 := if b0.recorded then s0
      else (s0.setBundle island tile { b0 with recorded := true }).raise Flt.VX_PARITY [island, tile]
    let b1 := s1.bundle island tile
    if b1.loc.isSome then s1
    else
      let now := s1.fabCycle island
      let stamps := (b1.stamps ++ [now]).filter fun c => decide (now - c < 65536)
      let s2 := s1.setBundle island tile { b1 with stamps := stamps }
      if stamps.length < s2.locThreshold then s2
      else
        match freeSpare b1 with
        | some i =>
          s2.setBundle island tile { b1 with
            stamps := stamps, spares := b1.spares.set i .localising, loc := some ⟨i, 1, 0, 64, 0⟩ }
        | none =>
          let idle := idleFailing.filter fun z => !s2.wireLive island tile z && decide (z ∉ b1.dead)
          if idle ≠ [] then idle.foldl (fun (t : State) z => t.idleFails island tile z) s2
          else s2.liveWireFails island tile wire

/-- LOC_WINDOW_END (02 R44, R45): whether the spare and the parity wire showed a mismatch in the window; in step 8 the
spare's mismatch confirms the wire's fault. -/
def State.locWindowEnd (s : State) (island tile : Nat) (spareMis parityMis : Bool) : State :=
  let b := s.bundle island tile
  if s.held island then s
  else
    match b.loc with
    | none => s
    | some l =>
      let put := fun (x : LocRun) => s.setBundle island tile { b with loc := some x }
      if !spareMis && !parityMis then
        if l.repeated = 16 then
          ((s.setBundle island tile { b with spares := b.spares.set l.spare .free }).locEnd island tile).raise
            Flt.VX_LOC_INCONCLUSIVE
        else put { l with repeated := l.repeated + 1 }
      else if l.step = 1 then
        if spareMis then put { l with step := 2 }
        else (s.setBundle island tile { b with spares := b.spares.set l.spare .parity }).locEnd island tile
      else if l.step < 8 then
        let half := l.size / 2
        put { l with step := l.step + 1, size := half, lo := if spareMis then l.lo else l.lo + half }
      else
        (s.wireSteer island tile l.lo l.spare).locEnd island tile

/-! ## Row ports (02 R55, R56) -/

/-- A bank's row port. -/
def State.rowPort (s : State) (bank : Nat) : RowPort := SMap.get {} s.vx.rowPorts bank

/-- A bank's row port replaced. -/
def State.setRowPort (s : State) (bank : Nat) (p : RowPort) : State :=
  { s with vx := { s.vx with rowPorts := SMap.set {} s.vx.rowPorts bank p } }

/-- Memory cycles of a column so far, at its present memory clock (00 R643: cycles of a clock are counted from release). -/
def State.memCycle (s : State) (column : Nat) : Nat :=
  s.time.ns * s.fld (F.CLK_OP_B_mem_mhz.nth (s.fld F.CLK_ISL_STAT_op column)) / 1000

/-- A bit of a row port, 0 to 2,303, fails (02 R55, R56): steered to its group's spare, or the port is dead. -/
def State.rowBitFails (s : State) (bank bitPos : Nat) : State :=
  let p := s.rowPort bank
  if p.dead then s
  else if p.steered.any fun g => decide (g.1 = bitPos / 72) then
    ((s.setRowPort bank { p with dead := true }).raise Flt.VX_ROW_SPARES_EXHAUSTED [bank]).mapChange
      { kind := .rowPort, unit := bank, tile := 0, wire := bitPos, spare := none, time := 0 }
  else
    ((s.setRowPort bank { p with steered := p.steered ++ [(bitPos / 72, bitPos)] }).raise Flt.VX_WIRE_REPAIRED [bank]).mapChange
      { kind := .rowPort, unit := bank, tile := 0, wire := bitPos, spare := some (bitPos / 72), time := 0 }

/-- An error at a physical bit position on a row move is reported (02 R55): 4 different rows of one bank within 2^20
memory cycles are a bond fault. -/
def State.rowBitError (s : State) (bank row bitPos : Nat) : State :=
  let p := s.rowPort bank
  if p.dead then s
  else
    let now := s.memCycle (bank / 256)
    let recent := p.history.filter fun h => decide (now - h.2.2 < 2 ^ 20) && decide (h.1 ≠ bitPos ∨ h.2.1 ≠ row)
    let history := recent ++ [(bitPos, row, now)]
    if 4 ≤ (history.filter fun h => decide (h.1 = bitPos)).length then
      (s.setRowPort bank { p with history := history.filter fun h => decide (h.1 ≠ bitPos) }).rowBitFails bank bitPos
    else s.setRowPort bank { p with history := history }

/-! ## The background tester (02 R42, R43, R48, R55) -/

/-- A wire found failing by the tester: an idle wire as 02 R43, R48; a wire that a live context has come to use, with no
spare free, holds the island (02 R49, R50). -/
def State.testedWireFails (s : State) (island tile z : Nat) : State :=
  if z ∈ (s.bundle island tile).dead then s
  else if s.wireLive island tile z && (freeSpare (s.bundle island tile)).isNone then s.liveWireFails island tile z
  else s.idleFails island tile z

/-- A free spare found failing is no longer free. -/
def State.spareFails (s : State) (island tile i : Nat) : State :=
  let b := s.bundle island tile
  if b.spares[i]? = some .free then s.setBundle island tile { b with spares := b.spares.set i .failed } else s

/-- BGTEST_VISIT_END (02 R42): the visit of a bundle ends with the idle wires and free spares that failed, and the bits
of a row port of the column that the tester found failing. -/
def State.bgtestVisit (s : State) (island tile : Nat) (wires spares : List Nat) (bank : Nat) (rowBits : List Nat) : State :=
  if s.held island || !s.flag F.VX_CTRL_bgtest_en then s
  else
    let s1 := spares.foldl (fun (t : State) i => t.spareFails island tile i) s
    let s2 := wires.foldl (fun (t : State) z => t.testedWireFails island tile z) s1
    let s3 := rowBits.foldl (fun (t : State) b => t.rowBitFails bank b) s2
    { s3 with vx := { s3.vx with bgTile := SMap.set 0 s3.vx.bgTile island ((tile + 1) % 1024) } }

/-! ## Delay lines (02 R59 to R62) -/

/-- The delay offset of a temperature band, signed (02 R60, 22 R564). -/
def State.bandOffset (s : State) (band : Nat) : Int :=
  signed 8 (bits (s.reg (R.TH_BAND_A + 16 * band)).toNat 7 0)

/-- A re-tune of an island starts for a new band; one in progress goes on towards it (02 R60, R61). -/
def State.startRetune (s : State) (island band : Nat) : State :=
  let s1 := (s.setFld F.VX_TUNE_STAT_band band island).setFlag F.VX_TUNE_STAT_margin_low false island
  let start := match SMap.get none s.vx.retune island with
    | some t => t
    | none => s.time.ns
  let s2 := { s1 with vx := { s1.vx with retune := SMap.set none s1.vx.retune island (some start) } }
  (s2.setPath island { s2.path island with retune := true }).setPath (island + 48)
    { s2.path (island + 48) with retune := true }

/-- RETUNE_STEP (02 R60, R61): a line moves by at most one tap toward its target: the band's offset from its centre,
or the centre of the passing window measured on a spare or an idle wire. `last`: every line of the island is there. -/
def State.retuneStep (s : State) (island line : Nat) (window : Option (Nat × Nat)) (last : Bool) : State :=
  match SMap.get none s.vx.retune island with
  | none => s
  | some start =>
    if s.held island then s
    else
      let d := SMap.get {} s.vx.lines (island * 65536 + line)
      let base := (clampInt 0 63 ((d.centre : Int) + s.bandOffset (s.fld F.VX_TUNE_STAT_band island))).toNat
      let target := match window with
        | some (lo, hi) => (lo + hi) / 2
        | none => base
      let pos := if d.pos < target then d.pos + 1 else if target < d.pos then d.pos - 1 else d.pos
      let s1 := { s with vx := { s.vx with lines := SMap.set {} s.vx.lines (island * 65536 + line) { d with pos := pos, target := target } } }
      let narrow := match window with
        | some (lo, hi) => decide (hi + 1 - lo < 8)
        | none => false
      let s2 := if narrow then (s1.raise Flt.VX_TUNE_MARGIN).setFlag F.VX_TUNE_STAT_margin_low true island else s1
      if last then
        ({ s2 with vx := { s2.vx with retune := SMap.set none s2.vx.retune island none } }).setFld
          F.VX_TUNE_STAT_retune_us (min 65535 ((s2.time.ns - start) / 1000)) island
      else s2

/-! ## Riser and trunk beats (02 R38) -/

/-- RISER_BEAT_ERROR (02 R38): a single-bit error is corrected and counted; an uncorrectable beat is delivered poisoned
or, on a control line, discarded, and recorded; an uncorrectable trunk beat holds the island. -/
def State.beatError (s : State) (trunk : Bool) (unit : Nat) (double control : Bool) : State :=
  if !double then
    let key := if trunk then 64 + unit else unit
    { s with vx := { s.vx with beatsCorrected := SMap.upd 0 s.vx.beatsCorrected key (· + 1) } }
  else
    let s1 := s.raise Flt.VX_RISER_FAULT [unit]
    let s2 := if trunk && control then s1 else s1.emit (.beat trunk unit)
    if trunk then s2.holdIsland unit else s2

/-! ## Commands -/

/-- RISER_BEAT_ERROR (02 R38). -/
def execRiserBeatError (trunk : Bool) (unit : Nat) (double control : Bool) (s : State) : Result :=
  .next (s.beatError trunk unit double control)

/-- PARITY_MISMATCH (02 R41). -/
def execParityMismatch (island tile : Nat) (idleFailing : List Nat) (wire : Nat) (s : State) : Result :=
  .next (s.parityMismatch island tile idleFailing wire)

/-- BGTEST_VISIT_END (02 R42). -/
def execBgtestVisitEnd (island tile : Nat) (wires spares : List Nat) (bank : Nat) (rowBits : List Nat) (s : State) : Result :=
  .next (s.bgtestVisit island tile wires spares bank rowBits)

/-- LOC_WINDOW_END (02 R44, R45). -/
def execLocWindowEnd (island tile : Nat) (spareMismatch parityMismatch : Bool) (s : State) : Result :=
  .next (s.locWindowEnd island tile spareMismatch parityMismatch)

/-- RETUNE_STEP (02 R60). -/
def execRetuneStep (island line : Nat) (window : Option (Nat × Nat)) (last : Bool) (s : State) : Result :=
  .next (s.retuneStep island line window last)

/-- RESTAGE_PATH_RETUNE_DONE (02 R62): a re-tune completes only on a path with no restage pending. -/
def execRestagePathRetuneDone (sector : Nat) (s : State) : Result :=
  if s.flag (F.CTX_STATUS_restaging.ctx sector) || (s.sec sector).request.isSome then .next s
  else .next (s.setPath sector { s.path sector with retune := false })

/-- MAP_WRITE_DONE (02 R63, R65): the oldest flash write completes and the generation rises, or the map is full and the
change is not persisted. None completes during a warm reset (23 R572). -/
def execMapWriteDone (s : State) : Result :=
  match s.vx.mapWrites with
  | [] => .next s
  | e :: rest =>
    if s.mgt.warm then .next s else
    let s1 := { s with vx := { s.vx with mapWrites := rest } }
    if 8192 ≤ s.vx.map.length then .next (s1.raise Flt.VX_MAP_FULL)
    else .next (({ s1 with vx := { s1.vx with map := s1.vx.map ++ [e] } }).countWrap F.VX_MAP_GEN_gen)

end Sys2Proof.Machine
end

