-- ==== Sys2Proof/Machine/Reset.lean ====
section
/-! DEFINITION. The start-up's reset (19 R484): what it keeps, what every block takes, and how it begins. -/

namespace Sys2Proof.Machine

/-- The fuses as registers show them (24 R615): life-cycle state, fuse key slots, secrets held. -/
def State.fuseView (s : State) : State :=
  let s1 := s.setFld F.SEC_STATUS_lc s.secu.lc
  let s2 := (List.range 4).foldl (fun (t : State) n =>
    (t.setFlag (F.SEC_SLOT_programmed.nth n) (NSet.has s.secu.slotProg n)).setFlag (F.SEC_SLOT_revoked.nth n)
      (NSet.has s.secu.slotRev n)) s1
  s2.setFld F.SEC_CMD_STAT_secrets s.secu.secrets.length

/-- The device after POR release, before stage 0 ends: every block at its reset values; the defect map with its generation,
the remap table, embedded flash, the fuses and the always-on domain are kept. -/
def State.afterReset (s : State) : State :=
  let kept : State :=
    { out := s.out, pending := s.pending, freeIdx := s.freeIdx
      vx := { map := s.vx.map }, mem := { remapFlash := s.mem.remapFlash }, fab := { flash := s.fab.flash }
      flt := { flashLog := s.flt.flashLog }, mee := { epoch := s.mee.epoch }
      secu := { lc := s.secu.lc, slotHash := s.secu.slotHash, slotProg := s.secu.slotProg, slotRev := s.secu.slotRev,
                secrets := s.secu.secrets, killed := s.secu.killed, latched := s.secu.latched }
      stu := { factory := s.stu.factory, setA := s.stu.setA, setB := s.stu.setB } }
  let s1 := kept.setReg R.VX_MAP_GEN (s.reg R.VX_MAP_GEN)
  let s2 := (s1.setFld F.FLT_FLASH_held s.flt.flashLog.length).setFlag F.TH_STATUS_shutdown_last s.th.shutdown
  s2.fuseView

/-- Every defect-map and remap flash write in progress completes (02 R63, 19 R484). -/
def State.flashWrites (s : State) : State :=
  let room := 8192 - s.vx.map.length
  let done := s.vx.mapWrites.take room
  let s1 := { s with vx := { s.vx with map := s.vx.map ++ done, mapWrites := [] }
                     mem := { s.mem with remapFlash := s.mem.remapFlash ++ s.mem.remapWrites, remapWrites := [] } }
  s1.countWrap F.VX_MAP_GEN_gen done.length

/-- A start-up begins (19 R484): the device holds itself in reset. At power-on a flash write in progress is lost; before
a commanded one the flash log is brought up to date (25 R622). -/
def State.startUp (s : State) (power commanded : Bool) : State :=
  let s1 := if commanded then s.faultsDrain else s
  let s2 := if power then { s1 with vx := { s1.vx with mapWrites := [] }, mem := { s1.mem with remapWrites := [] } }
    else s1.flashWrites
  ({ s2 with stu := { s2.stu with hold := true, released := false, writesEnabled := false, ioReleased := false } }).setFlag
    F.DEV_STATUS_done false |>.setFlag F.CFG_STATUS_done_pin false

/-! ## Commands -/

/-- POWER_ON (19 R484). -/
def execPowerOn (s : State) : Result := .next (s.startUp true false)

/-- RESET_N_LOW (19 R484). -/
def execResetNLow (s : State) : Result := .next (s.startUp false false)

end Sys2Proof.Machine
end

