-- ==== Sys2Proof/Machine/Staged.lean ====
section
/-! DEFINITION. Staged values and commits (00 R8, R11 to R13): what a commit of a group moves into force. -/

namespace Sys2Proof.Machine

/-- The bits of a register that have one of some access types. -/
def accMask (d : RegDesc) (want : Acc → Bool) : Nat :=
  (d.fields.filter fun f => want f.2.2).foldl (fun a f => a ||| ((2 ^ (f.1 + 1) - 1) ^^^ (2 ^ f.2.1 - 1))) 0

/-- The bits of a register's RWS fields. -/
def rwsMask (d : RegDesc) : Nat := accMask d fun a => decide (a = .rws)

/-- A register's staged value: what its RWS fields would hold after a commit; the value in force where none was staged. -/
def State.stagedAt (s : State) (off : Nat) (inst : Nat := 0) : Nat :=
  (SMap.get (s.reg off inst) s.staged (regKey off inst)).toNat

/-- A register's staged value written. -/
def State.setStagedAt (s : State) (off v : Nat) (inst : Nat := 0) : State :=
  { s with staged := SMap.set (s.reg off inst) s.staged (regKey off inst) (BitVec.ofNat 32 v) }

/-- A field's staged value. -/
def State.stagedFld (s : State) (f : FieldRef) (inst : Nat := 0) : Nat := bits (s.stagedAt f.reg inst) f.hi f.lo

/-- Whether a key of the staged values belongs to a commit group of a window of a block: `base` is the window's first
offset. -/
def inGroup (base group key : Nat) : Bool :=
  let off := key % 2 ^ 28
  decide (windowBase off = base) &&
    match findReg off with
    | some (d, _) => decide (d.group = group)
    | none => false

/-- A commit of a group takes effect: every staged RWS field of it moves into force (00 R11). -/
def State.commitGroup (s : State) (base group : Nat) : State :=
  let mine := s.staged.filter fun e => inGroup base group e.1
  let s1 := mine.foldl (fun (t : State) e =>
    let off := e.1 % 2 ^ 28
    let inst := e.1 / 2 ^ 28
    match findReg off with
    | some (d, _) =>
      let m := rwsMask d
      let old := (t.reg off inst).toNat
      t.setReg off (BitVec.ofNat 32 (old - (old &&& m) + (e.2.toNat &&& m))) inst
    | none => t) s
  { s1 with staged := SMap.clear s1.staged (inGroup base group) }

/-- The offset of the BLK_COMMIT register of the window at `base`. -/
def commitOff (base : Nat) : Nat := if base = 0 then R.DEV_BLK_COMMIT else base + 4

/-- The bit of a group in that register. -/
def commitBit (base group : Nat) : FieldRef := ⟨commitOff base, group, group⟩

/-- A commit takes effect and its bit returns to 0. -/
def State.commitEnds (s : State) (base group : Nat) : State :=
  (s.commitGroup base group).setFlag (commitBit base group) false

/-- A commit waits for its safe point: its bit reads 1. -/
def State.commitWaits (s : State) (base group : Nat) : State := s.setFlag (commitBit base group) true

/-- Whether a commit of a group is pending. -/
def State.commitPends (s : State) (base group : Nat) : Bool := s.flag (commitBit base group)

end Sys2Proof.Machine
end

