-- ==== Sys2Proof/Machine/Attempt.lean ====
section
/-! DEFINITION. Settings (19 R486 to R490), the attempts of a start-up with retry, golden image and safe state
(19 R498 to R501), and how a load ends in failure (18 R480). -/

namespace Sys2Proof.Machine

/-! ## The settings record (R488) -/

def State.stMarch (s : State) : Bool := bit (s.setting 12 1 0 fun _ => true) 0
def State.stMarchBgnd (s : State) : Nat := bits (s.setting 12 1 0 fun _ => true) 2 1
def State.stGoldenSrc (s : State) : Nat := s.setting 16 1 0xFF fun v => decide (v ≤ 1)
def State.stXspiMode (s : State) : Nat := s.setting 18 1 0 fun v => decide (v ≤ 1)
def State.stPrimary (s : State) : Nat := s.setting 24 4 0 fun _ => true
def State.stGolden (s : State) : Nat := s.setting 28 4 0 fun _ => true
def State.stEfl (s : State) : Nat := s.setting 32 4 0 fun _ => true
def State.stTimeoutMs (s : State) : Nat := s.setting 36 2 2000 fun _ => true
def State.stGraftWaitMs (s : State) : Nat := s.setting 38 2 200 fun _ => true

/-- The march words of the settings, none where all are zero (R488). -/
def State.stMarchWords (s : State) : Option (List Nat) :=
  let l := (List.range 16).map fun i => s.setting (1088 + 4 * i) 4 0 fun _ => true
  if l.all fun w => decide (w = 0) then none else some l

/-- Whether a settings copy is valid (R488): magic and CRC. -/
def settingsValid (c : Option (List Byte)) : Bool :=
  match c with
  | none => false
  | some b => decide (b.length = 4096) && decide (fieldAt b 0 4 = 0x52535A43) && decide (fieldAt b 4092 4 = crc32c (b.take 4092))

/-- The sequence number of a copy. -/
def settingsSeq (c : Option (List Byte)) : Nat := fieldAt (c.getD []) 8 4

/-- The copy in force (R488): none, or whether it is copy B. -/
def State.settingsChoice (s : State) : Option Bool :=
  match settingsValid s.stu.setA, settingsValid s.stu.setB with
  | true, true => some (decide (settingsSeq s.stu.setA < settingsSeq s.stu.setB))
  | true, false => some false
  | false, true => some true
  | false, false => none

/-! ## The factory record (R486, R487) -/

/-- The registers with fields whose reset is S. -/
def sRegisters : List Nat :=
  [R.MI_CTRL, R.NOC_GROVE, R.FS_SEED0, R.FS_SEED1, R.MEE_CTR_BASE, R.MEE_TREE_BASE, R.CI_CTRL, R.CLK_REF_CFG, R.TH_LIMITS,
    R.TH_RISE, R.TH_DISAGREE, R.TH_EST_CFG, R.MON_CFG, R.SEC_TAMPER_CFG]
  ++ (List.range 16).map (fun c => R.LP_CFG + 0x10000 * c) ++ (List.range 6).map (fun m => R.CI_POLICY + 4 * m)
  ++ (List.range 12).map (fun n => R.CLK_LOOP_CFG + 4 * n)

/-- The defaults of the factory record: offset, factory default, mask. As manufactured, the defaults are those the manual
names. -/
def State.factoryEntries (s : State) : List (Nat × Nat × Nat) :=
  match s.stu.factory with
  | none => sRegisters.map fun off => (off, (regReset off 0).toNat, Config.factoryMask off % 2 ^ 32)
  | some b =>
    ((List.range 112).map fun i =>
      (fieldAt b (1280 + 16 * i) 4, fieldAt b (1280 + 16 * i + 4) 4, fieldAt b (1280 + 16 * i + 8) 4)).filter
      fun e => decide (e.1 ≠ 0xFFFFFFFF)

/-- Whether the factory record passes its check (R487). -/
def State.factoryOk (s : State) : Bool :=
  match s.stu.factory with
  | none => true
  | some b => decide (b.length = 4096) && decide (fieldAt b 0 4 = 0x52465A43) && decide (fieldAt b 8 4 = 0x19608A5B)
      && decide (fieldAt b 4092 4 = crc32c (b.take 4092))

/-- The public bytes of the factory record (R486). -/
def State.factoryPublic (s : State) : List Byte :=
  match s.stu.factory with
  | some b => slice b 0 256
  | none =>
    (List.range 256).map fun i =>
      if i < 4 then (0x52465A43 / 2 ^ (8 * i) : Nat) else if i = 6 ∨ i = 7 ∨ i = 14 ∨ i = 15 ∨ 32 ≤ i then (0 : Byte)
      else if 8 ≤ i ∧ i < 12 then (0x19608A5B / 2 ^ (8 * (i - 8)) : Nat) else Config.factoryByte i

/-! ## S fields (R489) -/

/-- The regs entries of the settings in force: offset and value. -/
def State.settingRegs (s : State) : List (Nat × Nat) :=
  match s.stu.settings with
  | none => []
  | some b => ((List.range 128).map fun i => (fieldAt b (64 + 8 * i) 4, fieldAt b (64 + 8 * i + 4) 4)).filter
      fun e => decide (e.1 ≠ 0xFFFFFFFF)

/-- Every S field takes its value (R489). -/
def State.applySettings (s : State) : State :=
  let regs := s.settingRegs
  s.factoryEntries.foldl (fun (t : State) e =>
    let v := match regs.find? fun r => decide (r.1 = e.1) with
      | some r => mix e.2.1 r.2 e.2.2
      | none => e.2.1
    match findReg e.1 with
    | some (d, _) =>
      let m := accMask d fun a => decide (a ≠ .ro)
      t.setReg e.1 (BitVec.ofNat 32 (mix (t.reg e.1).toNat v m))
    | none => t) s

/-- The settings that the factory record does not allow, by offset (R489). -/
def State.settingLimits (s : State) : List Nat :=
  let f := s.factoryEntries
  (s.settingRegs.filter fun r =>
    match f.find? fun e => decide (e.1 = r.1) with
    | some e => decide (mix e.2.1 r.2 e.2.2 ≠ r.2)
    | none => true).map fun r => r.1

/-! ## Between attempts (R500) -/

/-- Whether a register keeps its value from one attempt to the next: the CFG block, the defect map's generation, the state
of training, of the loops' locks and of the host link, the place of the fault record, a wipe and the scan state in force. -/
def keptOff (off : Nat) : Bool :=
  decide (blockOf off = 4) || decide (off = R.VX_MAP_GEN) || decide (unwindow off = R.LP_STATUS) || decide (off = R.CLK_STATUS)
    || decide (off = R.CLK_TRIM) || decide (off = R.PCI_STATUS) || decide (off = R.FLT_HEAD) || decide (off = R.FLT_FLASH)
    || decide (off = R.SEC_STATUS)

/-- The failed attempt undone (R500): every block but CFG at its reset values, no plane loaded, engine memories and the
memory layer zero; training, delay lines, the defect map and the settings in force kept. -/
def State.undo (s : State) : State :=
  let paths := SMap.vals {} s.vx.paths fun p => { p with testing := false }
  let base : State :=
    { csr := s.csr.filter fun e => keptOff (e.1 % 2 ^ 28), time := s.time, firsts := s.firsts
      flt := { s.flt with ports := [], shown := [] }, out := s.out
      vx := { bundles := SMap.vals {} s.vx.bundles bundleAbandon, rowPorts := s.vx.rowPorts, paths := paths, lines := s.vx.lines,
              map := s.vx.map, mapWrites := s.vx.mapWrites }
      fab := { flash := s.fab.flash, osc := s.fab.osc }
      mem := { remap := s.mem.remap, remapFlash := s.mem.remapFlash, remapWrites := s.mem.remapWrites, lapStart := s.time.ns }
      lp := s.lp, mee := { epoch := s.mee.epoch, treeKey := s.mee.treeKey }
      pci := { unmasked := s.pci.unmasked, vfs := s.pci.vfs, ltrOn := s.pci.ltrOn, snoop := s.pci.snoop, noSnoop := s.pci.noSnoop }
      mgt := s.mgt, secu := { s.secu with run := none, ana := none }, stu := { s.stu with load := {}, stream := [], chain := {}, programs := [], starts := [], starting := [], fills := [] }
      clk := { s.clk with moves := [], waiting := [] }, th := s.th, freeIdx := s.freeIdx, pending := s.pending }
  base.applySettings.fuseView.setFlag F.MEM_STATUS_secure_wipe s.secu.wipe.isSome

/-! ## Attempts (R485, R495, R497, R499) -/

/-- The load of the present attempt: its source and address, and what the embedded flash holds from there. -/
def State.attemptLoad (s : State) : LoadSt :=
  let efl := fun (a : Nat) => ({ active := true, src := 3, addr := a, avail := some (0x400000 - a) } : LoadSt)
  if s.fld F.CFG_STATUS_attempt = 2 then
    (if s.stGoldenSrc = 1 then efl s.stGolden else { active := true, src := 2, addr := s.stGolden })
  else
    match s.fld F.CFG_STATUS_mode with
    | 0 => { active := true, src := 2, addr := s.stPrimary }
    | 1 => { active := true, src := 4 }
    | 4 => efl s.stEfl
    | _ => { active := true, src := 0 }

/-- Stage 3 begins: the image of the present attempt is awaited. A source that the device reads by itself is read at once;
a follower raises CFG_RDY (R503); in MODE 011 the bundle is brought up in Graft mode (R496). -/
def State.beginLoad (s : State) : State :=
  let l := s.attemptLoad
  let s1 := ({ s with stu := { s.stu with load := l, stream := [] } }).setFld F.CFG_STATUS_stage 3
  let s2 := s1.setFlag F.CFG_LOAD_STAT_busy (decide (l.src = 2) || decide (l.src = 3))
  if l.src = 4 then { s2 with stu := { s2.stu with rdy := true } }
  else if l.src = 0 ∧ s.fld F.CFG_STATUS_mode = 3 then
    let b := s.stGraftBundle
    ((s2.setFlag (F.LN_CTRL_mode.win b) true).setFlag (F.LN_CTRL_en.win b) true).lnStart b
  else s2

/-- The safe state (R501). -/
def State.safeState (s : State) : State :=
  let s1 := ((s.setFld F.CFG_STATUS_stage 7).setFlag F.CFG_STATUS_done_pin false).setFlag F.CFG_LOAD_STAT_busy false
  let s2 := (s1.setFlag F.DEV_STATUS_done false).setFlag F.DEV_STATUS_safe_state true
  ({ s2 with stu := { s2.stu with load := {}, stream := [], seq := [], rdy := false } }).raise Flt.STU_SAFE_STATE

/-- A load failure of the start-up with its fault code (R499): the retry, the golden image, or the safe state. -/
def State.attemptFail (s : State) (code : Nat) : State :=
  let again := fun (t : State) (n : Nat) => (t.undo.setFld F.CFG_STATUS_attempt n).beginLoad
  match s.fld F.CFG_STATUS_attempt with
  | 0 =>
    let s1 := (s.setFld F.CFG_BOOT_FAULT_first code).raise Flt.STU_RETRY
    again (if s.fld F.CFG_STATUS_mode = 1 then s1.emit .resend else s1) 1
  | 1 =>
    let s1 := s.setFld F.CFG_BOOT_FAULT_retry code
    if s.stGoldenSrc = 0xFF then s1.undo.safeState else again (s1.raise Flt.STU_GOLDEN) 2
  | _ => ((s.setFld F.CFG_GOLDEN_FAULT_golden code).undo).safeState

/-! ## A load that fails -/

/-- The declared planes of a partial image marked not loaded (18 R479, R480). -/
def State.regionUnload (s : State) : State :=
  (s.stu.load.region.getD []).foldl (fun (t : State) e =>
    (onesOf 8 e.2).foldl (fun (u : State) p => u.setFlag ((F.CTX_PLANE_INFO_loaded.nth p).ctx e.1) false) t) s

/-- Bytes of the window that no load will read, counted as discarded (19 R496). -/
def State.streamLeft (s : State) : State :=
  if s.stu.stream = [] then s
  else ({ s with stu := { s.stu with stream := [] } }).count F.CFG_STREAM_DROP_bytes s.stu.stream.length

/-- A load ends in failure with a fault already recorded, of the code given: a partial load leaves only the effects of
18 R480; a load of the start-up is a load failure. -/
def State.loadEnds (s : State) (code : Nat) : State :=
  let s0 := s.streamLeft
  if s0.stu.load.running then
    let s1 := s0.regionUnload
    ({ s1 with stu := { s1.stu with load := {} } }).loadStat false false code
  else s0.attemptFail code

/-- A load fails with a fault (18 R483, 19 R498). -/
def State.loadFail (s : State) (f : FaultCode) (loc : List Nat := []) : State := (s.raise f loc).loadEnds f.code

end Sys2Proof.Machine
end

