-- ==== Sys2Proof/Machine/Clocks.lean ====
section
/-! DEFINITION. Clocks, islands and operating points (21). -/

namespace Sys2Proof.Machine

/-! ## The trim engine (21 R525) -/

/-- The nearest whole number to a / b, halves away from zero. -/
def roundInt (a : Int) (b : Nat) : Int := if a < 0 then -(roundDiv a.natAbs b : Int) else roundDiv a.natAbs b

/-- TRIM_WINDOW_END (21 R525): `err` is how much the fast oscillator ran slow over the window, in parts per million; one
step of the code is 100 of them. A reference absent for two windows in a row is lost. -/
def State.trimEnd (s : State) (err : Int) (absent : Bool) : State :=
  if s.fld F.CLK_TRIM_src = 0 then s
  else if absent then
    let n := s.clk.trimMiss + 1
    let s1 := { s with clk := { s.clk with trimMiss := n } }
    if n = 2 then (s1.setFlag F.CLK_STATUS_trimmed false).raise Flt.CLK_TRIM_LOST else s1
  else
    let code := clampInt (-512) 511 (signed 10 (s.fld F.CLK_TRIM_code) + clampInt (-16) 16 (roundInt err 100))
    let s1 := { s with clk := { s.clk with trimMiss := 0 } }
    (s1.setFld F.CLK_TRIM_code (unsigned 10 code)).setFlag F.CLK_STATUS_trimmed (decide (err.natAbs ≤ 1000))

/-! ## Sequencers (21 R533, R534) -/

/-- The vid of an operating point in force. -/
def State.opVid (s : State) (op : Nat) : Nat := s.fld (F.CLK_OP_A_vid.nth op)

/-- The transition of an island's sequencer. -/
def State.clkMove (s : State) (island : Nat) : Option ClkMove := SMap.get none s.clk.moves island

/-- Whether some sequencer is in transition. -/
def State.seqBusy (s : State) : Bool := (List.range 48).any fun k => (s.clkMove k).isSome

/-- The phase a sequencer shows: 1 voltage rising, 2 branch locking, 3 voltage falling; 4 while the clocks are stopped by
an unlocked generator (21 R538). -/
def movePhase : Option ClkMove → Nat
  | none => 0
  | some m => if m.up then 1 else if m.switched then 3 else 2

/-- A sequencer's transition replaced, with its phase and seq_busy. -/
def State.setMove (s : State) (island : Nat) (m : Option ClkMove) : State :=
  let s1 := { s with clk := { s.clk with moves := SMap.set none s.clk.moves island m } }
  let s2 := if s1.fld F.CLK_ISL_STAT_phase island = 4 then s1 else s1.setFld F.CLK_ISL_STAT_phase (movePhase m) island
  s2.setFlag F.CLK_STATUS_seq_busy s2.seqBusy

/-- A transition starts: the voltage rises first if the new point's is not lower than `oldVid`. -/
def State.moveStart (s : State) (island goal oldVid : Nat) : State :=
  s.setMove island (some { goal := goal, former := s.fld F.CLK_ISL_STAT_op island, up := decide (oldVid ≤ s.opVid goal),
                           switched := false, start := s.time.ns })

/-- Whether a BIST run of an engine group of the island is in progress (24 R599). -/
def State.bistOn (s : State) (island : Nat) : Bool :=
  match s.secu.run with
  | some (0, k) => decide (islandOf k = island)
  | _ => false

/-- An island with a waiting target takes it (21 R534), unless a BIST run of its engines is in progress (24 R599). -/
def State.takeTarget (s : State) (island : Nat) : State :=
  if NSet.has s.clk.waiting island && (s.clkMove island).isNone && !s.bistOn island then
    let s1 := { s with clk := { s.clk with waiting := NSet.put s.clk.waiting island false } }
    let t := s1.fld F.CLK_ISL_OP_target island
    let op := s1.fld F.CLK_ISL_STAT_op island
    if t = op then s1 else s1.moveStart island t (s1.opVid op)
  else s

/-- OP_TARGET_WRITE (21 R533, R534). -/
def State.targetWrite (s : State) (island target : Nat) : State :=
  let s1 := s.setFld F.CLK_ISL_OP_target target island
  ({ s1 with clk := { s1.clk with waiting := NSet.put s1.clk.waiting island true } }).takeTarget island

/-! ## The operating-point table (21 R531, R532) -/

/-- Limits of the four fields: A [23:16] vid, A [15:0] fabric, B [31:16] engine, B [15:0] memory (21 R532). -/
def opFieldBad (a b : Nat) : Bool :=
  decide (bits a 23 16 < 110) || decide (180 < bits a 23 16) || decide (a % 65536 < 100) || decide (900 < a % 65536)
    || decide (b / 65536 < 100) || decide (1250 < b / 65536) || decide (b % 65536 < 250) || decide (1000 < b % 65536)

/-- Whether a field decreases from one entry to the next. -/
def opFalls (x y : Nat × Nat) : Bool :=
  decide (bits y.1 23 16 < bits x.1 23 16) || decide (y.1 % 65536 < x.1 % 65536)
    || decide (y.2 / 65536 < x.2 / 65536) || decide (y.2 % 65536 < x.2 % 65536)

/-- Whether a table of eight entries fails its check (21 R532). -/
def opTableBad (t : List (Nat × Nat)) : Bool :=
  (t.any fun e => opFieldBad e.1 e.2) || ((t.zip (t.drop 1)).any fun p => opFalls p.1 p.2)

/-- The table as staged. -/
def State.opStaged (s : State) : List (Nat × Nat) :=
  (List.range 8).map fun n => (s.stagedAt (R.CLK_OP_A + 4 * n), s.stagedAt (R.CLK_OP_B + 4 * n))

/-- The table in force. -/
def State.opTable (s : State) : List (Nat × Nat) :=
  (List.range 8).map fun n => ((s.reg (R.CLK_OP_A + 4 * n)).toNat, (s.reg (R.CLK_OP_B + 4 * n)).toNat)

/-- The base of CLK. -/
def clkBase : Nat := 0x100000

/-- Group 0 takes effect (21 R534, R537): every island whose point in force has a changed entry moves to it. -/
def State.opCommit (s : State) : State :=
  let old := s.opTable
  let s1 := s.commitEnds clkBase 0
  let new := s1.opTable
  (List.range 48).foldl (fun (t : State) k =>
    let op := t.fld F.CLK_ISL_STAT_op k
    if old[op]? = new[op]? then t else t.moveStart k op (bits (old.getD op (0, 0)).1 23 16)) s1

/-- A commit of group 0 is requested: its check runs, and it takes effect once no sequencer is in transition. -/
def State.opCommitAsk (s : State) : State :=
  if opTableBad s.opStaged then s.raise Flt.CLK_TABLE_INVALID
  else if s.seqBusy then s.commitWaits clkBase 0
  else s.opCommit

/-- Whether a change of a loop's configuration is more than its spread (21 R537): ref, mult, frac or rdbl. -/
def loopMoves (old new : Nat) : Bool :=
  decide (bits old 31 30 ≠ bits new 31 30) || decide (bits old 27 8 ≠ bits new 27 8) || decide (bit old 1 ≠ bit new 1)

/-- A commit of group 1 is requested (21 R537): refused whole if it would move the frequency of a loop in use. -/
def State.loopCommitAsk (s : State) : State :=
  if s.stu.released && (List.range 12).any (fun n =>
      loopMoves (s.reg (R.CLK_LOOP_CFG + 4 * n)).toNat (s.stagedAt (R.CLK_LOOP_CFG + 4 * n))) then
    s.raise Flt.CLK_LOOP_IN_USE
  else s.commitWaits clkBase 1

/-! ## The end of a transition -/

/-- What follows a transition: a pending commit takes effect first if no sequencer is in transition, then waiting targets
are taken (21 R534, R537). -/
def State.afterMove (s : State) (island : Nat) : State :=
  if s.commitPends clkBase 0 && !s.seqBusy then
    (List.range 48).foldl State.takeTarget s.opCommit
  else s.takeTarget island

/-- BRANCH_SWITCH (21 R533): the generator switches to the new point's frequencies. -/
def State.branchSwitch (s : State) (island : Nat) : State :=
  match s.clkMove island with
  | none => s
  | some m =>
    if m.switched then s
    else ((s.setMove island (some { m with switched := true })).setFld F.CLK_ISL_STAT_op m.goal island).prmRefresh

/-- OP_TRANSITION_END (21 R533, R534). -/
def State.moveEnd (s : State) (island : Nat) : State :=
  match s.clkMove island with
  | none => s
  | some m =>
    if !m.switched then s
    else ((s.setMove island none).setFld F.CLK_ISL_STAT_last_us (min 65535 ((s.time.ns - m.start) / 1000)) island).afterMove
      island

/-- OP_TIMEOUT (21 R533): the island returns to its former point. -/
def State.moveTimeout (s : State) (island : Nat) : State :=
  match s.clkMove island with
  | none => s
  | some m =>
    ((((s.setMove island none).setFld F.CLK_ISL_STAT_op m.former island).raise Flt.CLK_OP_TIMEOUT).prmRefresh).afterMove island

/-! ## Locks and monitors (21 R527, R530, R535, R536) -/

/-- LOOP_LOCK (21 R527, R530, R536): a system loop or an island generator locks. -/
def State.loopLock (s : State) (island : Bool) (n : Nat) : State :=
  if island then
    if s.fld F.CLK_ISL_STAT_phase n = 4 then
      ((s.setFlag F.CLK_ISL_STAT_locked true n).setFld F.CLK_ISL_STAT_phase (movePhase (s.clkMove n)) n).prmRefresh
    else s.setFlag F.CLK_ISL_STAT_locked true n
  else
    let s1 := { s with clk := { s.clk with holdover := NSet.put s.clk.holdover n false } }
    s1.setFld F.CLK_STATUS_loop_locked (putBit (s1.fld F.CLK_STATUS_loop_locked) n true)

/-- GENERATOR_UNLOCK (21 R530): the island's clocks stop until its generator relocks. -/
def State.genUnlock (s : State) (island : Nat) : State :=
  (((s.setFlag F.CLK_ISL_STAT_locked false island).setFld F.CLK_ISL_STAT_phase 4 island).raise Flt.CLK_ISL_UNLOCK [island]).prmRefresh

/-- A reference as CLK_LOOP_CFG codes it: 0 XTAL_A, 1 XTAL_B, 2 the fast oscillator, 3 as 0. -/
def refCode (v : Nat) : Nat := if v = 3 then 0 else v

/-- The reference a loop runs from: its own, or its alternate once it has moved to it. -/
def State.loopRef (s : State) (n : Nat) : Nat :=
  if NSet.has s.clk.onAlt n then s.fld (F.CLK_LOOP_CFG_alt.nth n) else refCode (s.fld (F.CLK_LOOP_CFG_ref.nth n))

/-- A loop loses its reference (21 R536): it relocks to the alternate if one is named, or stays in holdover. -/
def State.loopLoses (s : State) (ref n : Nat) : State :=
  if s.loopRef n ≠ ref then s
  else
    let s1 := s.setFld F.CLK_STATUS_loop_locked (putBit (s.fld F.CLK_STATUS_loop_locked) n false)
    let alt := s1.fld (F.CLK_LOOP_CFG_alt.nth n)
    if alt ≠ 3 && alt ≠ ref && !NSet.has s1.clk.onAlt n then
      { s1 with clk := { s1.clk with onAlt := NSet.put s1.clk.onAlt n true } }
    else { s1 with clk := { s1.clk with holdover := NSet.put s1.clk.holdover n true } }

/-- A clock is flagged (21 R535, R536): 0 XTAL_A, 1 XTAL_B, 2 + n system loop n, 14 + k the generator of island k. -/
def State.clockFlagged (s : State) (clock : Nat) : State :=
  if clock < 2 then
    if NSet.has s.clk.lost clock then s
    else
      let s1 := { s with clk := { s.clk with lost := NSet.put s.clk.lost clock true } }
      let s2 := (List.range 12).foldl (fun (t : State) n => t.loopLoses clock n) s1
      (s2.setFlag F.CLK_STATUS_ref_lost true).raise Flt.CLK_REF_LOST
  else if clock < 14 then s.raise Flt.CLK_LOOP_FAULT [clock - 2]
  else s.genUnlock (clock - 14)

/-- A clock is in order again: a flagged reference has returned (21 R536). -/
def State.clockGood (s : State) (clock : Nat) : State :=
  if clock < 2 then { s with clk := { s.clk with lost := NSet.put s.clk.lost clock false } } else s

/-- The deviation, in parts per million, above which a frequency monitor flags a clock (21 R535). -/
def State.freqLimit (s : State) (clock : Nat) : Nat :=
  if 2 ≤ clock then 5000 else if s.flag F.CLK_STATUS_trimmed then 10000 else 80000

/-! ## Commands -/

/-- TRIM_WINDOW_END (21 R525). -/
def execTrimWindowEnd (err : Int) (absent : Bool) (s : State) : Result := .next (s.trimEnd err absent)

/-- LOOP_LOCK (21 R527). -/
def execLoopLock (island : Bool) (n : Nat) (s : State) : Result := .next (s.loopLock island n)

/-- OP_TARGET_WRITE (21 R533). -/
def execOpTargetWrite (island target : Nat) (s : State) : Result := .next (s.targetWrite island target)

/-- BRANCH_SWITCH (21 R533). -/
def execBranchSwitch (island : Nat) (s : State) : Result := .next (s.branchSwitch island)

/-- OP_TRANSITION_END (21 R533). -/
def execOpTransitionEnd (island : Nat) (s : State) : Result := .next (s.moveEnd island)

/-- OP_TIMEOUT (21 R533). -/
def execOpTimeout (island : Nat) (s : State) : Result := .next (s.moveTimeout island)

/-- GENERATOR_UNLOCK (21 R530). -/
def execGeneratorUnlock (island : Nat) (s : State) : Result := .next (s.genUnlock island)

/-- MISSING_CLOCK (21 R535). -/
def execMissingClock (clock : Nat) (s : State) : Result := .next (s.clockFlagged clock)

/-- FREQ_MONITOR_WINDOW (21 R535): `ppm` is how far the count lies from the value expected. -/
def execFreqMonitorWindow (clock ppm : Nat) (s : State) : Result :=
  .next (if s.freqLimit clock < ppm then s.clockFlagged clock else s.clockGood clock)

end Sys2Proof.Machine
end

