-- ==== Sys2Proof/Machine/Mac.lean ====
section
/-! DEFINITION. What a MAC does to a frame it sends (17 R451, R453) and the pause frames it sends (17 R452). -/

namespace Sys2Proof.Machine

/-- The rate of a speed code in Gb/s (17 R449); code 7 names none. -/
def macRate (speed : Nat) : Nat :=
  if speed = 0 then 10 else if speed = 1 then 25 else if speed = 2 then 50 else if speed = 3 then 100
  else if speed = 4 then 200 else if speed = 5 then 400 else if speed = 6 then 800 else 1

/-- The rate of a MAC in Gb/s. -/
def State.portRate (s : State) (mac : Nat) : Nat := macRate (s.fld F.ETH_MAC_CFG_speed mac)

/-- Device time corrected by a signed figure in ps (17 R453), in ns. -/
def State.stamp (s : State) (adj : Nat) : Nat := (((s.time.ns : Int) * 1000 + signed 16 adj) / 1000).toNat

/-- Two bytes of a frame as a big-endian number. -/
def be16At (l : List Byte) (i : Nat) : Nat := beNat (slice l i 2)

/-- The offset of a frame's EtherType, behind up to two VLAN tags. -/
def etherTypeAt (l : List Byte) : Nat :=
  let tag := fun i => decide (be16At l i = 0x8100) || decide (be16At l i = 0x88A8)
  if tag 12 then (if tag 16 then 20 else 16) else 12

/-- The priority of a frame: the PCP of its outer VLAN tag, 0 if it has none (17 R452). -/
def framePriority (l : List Byte) : Nat :=
  if be16At l 12 = 0x8100 ∨ be16At l 12 = 0x88A8 then be16At l 14 / 8192 else 0

/-- Where a frame's PTP message starts, and where its UDP checksum stands, if it is PTP over Ethernet or over UDP/IPv4
port 319 (17 R453). -/
def ptpAt (l : List Byte) : Option (Nat × Option Nat) :=
  let e := etherTypeAt l
  if be16At l e = 0x88F7 then some (e + 2, none)
  else if be16At l e = 0x0800 then
    let ip := e + 2
    let ihl := fieldAt l ip 1 % 16 * 4
    if fieldAt l (ip + 9) 1 = 17 ∧ be16At l (ip + ihl + 2) = 319 then some (ip + ihl + 8, some (ip + ihl + 6)) else none
  else none

/-- A byte string with bytes replaced from an offset. -/
def patch (l : List Byte) (i : Nat) (d : List Byte) : List Byte := l.take i ++ d ++ l.drop (i + d.length)

/-- One-step timestamping (17 R453): in a Sync message the time is written into originTimestamp and a UDP checksum is
cleared; any other frame is unchanged. -/
def oneStep (l : List Byte) (ns : Nat) : List Byte :=
  match ptpAt l with
  | none => l
  | some (p, ck) =>
    if fieldAt l p 1 % 16 ≠ 0 ∨ l.length < p + 44 then l
    else
      let l1 := patch l (p + 34) (beBytes 6 (ns / 10 ^ 9) ++ beBytes 4 (ns % 10 ^ 9))
      match ck with
      | none => l1
      | some c => patch l1 c [0, 0]

/-- A transmit timestamp enters the FIFO, or is lost (17 R453). -/
def State.pushStamp (s : State) (mac tag time : Nat) : State :=
  if 64 ≤ s.eth.stamps.length then s.raise Flt.ETH_TXTS_OVERFLOW
  else { s with eth := { s.eth with stamps := s.eth.stamps ++ [({ mac := mac, tag := tag, time := time } : TxStamp)] } }

/-- A frame sent by a MAC (17 R451, R453): padded to 64 bytes with its FCS, which is inverted for a poisoned packet. -/
def State.macTransmit (s : State) (mac : Nat) (data : List Byte) (meta32 : Nat) (poison : Bool) : State :=
  let t := s.stamp (s.fld F.ETH_TS_ADJ_tx_ps mac)
  let d0 := slice data 0 (max 60 data.length)
  let d := if bit meta32 30 then oneStep d0 t else d0
  let fcs := if poison then crc32 d ^^^ 0xFFFFFFFF else crc32 d
  let s1 := s.emit (.frame mac (d ++ leBytes 4 fcs))
  let s2 := if poison then s1.count F.ETH_MAC_CNT_tx_poisoned 1 mac else s1
  if bit meta32 31 then s2.pushStamp mac (meta32 % 65536) t else s2

/-! ## Priority flow control, sending (17 R452) -/

/-- Bytes of a priority held in a MAC's receive buffer. -/
def State.macHeld (s : State) (mac pri : Nat) : Nat := SMap.get 0 s.eth.held (mac * 8 + pri)

/-- That figure written. -/
def State.setMacHeld (s : State) (mac pri n : Nat) : State :=
  { s with eth := { s.eth with held := SMap.set 0 s.eth.held (mac * 8 + pri) n } }

/-- xoff_kib in bytes: 0 is used as 1, above 64 as 64. -/
def State.xoffBytes (s : State) (mac : Nat) : Nat := min 64 (max 1 (s.fld F.ETH_PFC_xoff_kib mac)) * 1024

/-- XOFF or XON is sent for a priority when its held bytes have crossed the threshold. -/
def State.pfcUpdate (s : State) (mac pri : Nat) : State :=
  let x := bit (s.fld F.ETH_MAC_STAT_tx_xoff mac) pri
  if !s.flag F.ETH_PFC_en mac then s
  else if !x ∧ s.xoffBytes mac < s.macHeld mac pri then
    (s.setFld F.ETH_MAC_STAT_tx_xoff (putBit (s.fld F.ETH_MAC_STAT_tx_xoff mac) pri true) mac).emit (.pause mac pri true)
  else if x ∧ 2 * s.macHeld mac pri < s.xoffBytes mac then
    (s.setFld F.ETH_MAC_STAT_tx_xoff (putBit (s.fld F.ETH_MAC_STAT_tx_xoff mac) pri false) mac).emit (.pause mac pri false)
  else s

/-- Bytes of a priority taken into the receive buffer. -/
def State.macHold (s : State) (mac pri n : Nat) : State := (s.setMacHeld mac pri (s.macHeld mac pri + n)).pfcUpdate mac pri

/-- Bytes of a priority that have left the receive buffer. -/
def State.macDrop (s : State) (mac pri n : Nat) : State := (s.setMacHeld mac pri (s.macHeld mac pri - n)).pfcUpdate mac pri

/-- The priority of a class at a MAC: c0_pri, c1_pri, c2_pri. -/
def State.classPri (s : State) (mac cls : Nat) : Nat :=
  if cls = 0 then s.fld F.ETH_PFC_c0_pri mac else if cls = 1 then s.fld F.ETH_PFC_c1_pri mac else s.fld F.ETH_PFC_c2_pri mac

/-- Whether a received pause stops the egress of a class at a MAC (17 R452). -/
def State.classPaused (s : State) (mac cls : Nat) : Bool :=
  s.flag F.ETH_PFC_en mac && bit (s.fld F.ETH_MAC_STAT_rx_paused mac) (s.classPri mac cls)

end Sys2Proof.Machine
end

