-- ==== Sys2Proof/Machine/Memory.lean ====
section
/-! DEFINITION. The memory layer (05) and its integrity logic (06): banks and their owners, arbitration, row moves and
their budget, the merge buffer, repair, scrubbing, remapping, the raw window and the memory tests. -/

namespace Sys2Proof.Machine

/-! ## Stored words (06 R170, R194) -/

/-- The code of a bank (06 R170): 0 S, 1 M, 2 L; 3 is treated as 0. -/
def State.codeOf (s : State) (bank : Nat) : Nat :=
  let b := bank % 256
  let v := bits (s.reg (R.MI_CODE + 4 * (b / 16)) (bank / 256)).toNat (2 * (b % 16) + 1) (2 * (b % 16))
  if v = 3 then 0 else v

/-- The remap entry that redirects a word, if one does (06 R194). -/
def State.remapSlot (s : State) (bank word : Nat) : Option Nat :=
  (SMap.get [] s.mem.remap (bank / 256)).findIdx? fun w => decide (w = bank * 8192 + word)

/-- The 144 stored bits of a word, redirected by the remap table. -/
def State.wordBits (s : State) (bank word : Nat) : BankBits :=
  match s.remapSlot bank word with
  | some n => SMap.get 0 s.mem.spares (bank / 256 * 64 + n)
  | none => SMap.get 0 s.mem.words (bank * 8192 + word)

/-- The stored bits of a word replaced. -/
def State.setWordBits (s : State) (bank word : Nat) (v : BankBits) : State :=
  match s.remapSlot bank word with
  | some n => { s with mem := { s.mem with spares := SMap.set 0 s.mem.spares (bank / 256 * 64 + n) v } }
  | none => { s with mem := { s.mem with words := SMap.set 0 s.mem.words (bank * 8192 + word) v } }

/-- Upsets of stored bits of a word: each listed bit is inverted. -/
def State.upset (s : State) (bank word : Nat) (flips : List Nat) : State :=
  if flips = [] then s
  else s.setWordBits bank word (flips.foldl (fun v i => v ^^^ BitVec.ofNat 144 (2 ^ i)) (s.wordBits bank word))

/-! ## The merge buffer (06 R181 to R184) -/

/-- The merge buffer of a column, oldest entry first. -/
def State.mergeOf (s : State) (col : Nat) : List MergeEntry := SMap.get [] s.mem.merge col

/-- The merge buffer of a column replaced. -/
def State.setMerge (s : State) (col : Nat) (l : List MergeEntry) : State :=
  { s with mem := { s.mem with merge := SMap.set [] s.mem.merge col l } }

/-- Pending bytes of a word laid over data read from it (06 R183). -/
def State.mergeOverlay (s : State) (bank word : Nat) (d : BankData) : BankData :=
  (s.mergeOf (bank / 256)).foldl
    (fun d e => if e.bank = bank ∧ e.word = word then overlay d e.data e.mask else d) d

/-- The pending entries of a word discarded by a later whole write (06 R183). -/
def State.mergeDrop (s : State) (bank word : Nat) : State :=
  s.setMerge (bank / 256) ((s.mergeOf (bank / 256)).filter fun e => !(decide (e.bank = bank) && decide (e.word = word)))

/-! ## Reads (06 R176, R177) -/

/-- The outcome of a read counted and recorded (06 R176). -/
def State.noteRead (s : State) (bank word : Nat) (d : Decoded) : State :=
  let col := bank / 256
  let last := fun (unc poison : Bool) (n : Nat) (s : State) =>
    s.setReg R.MI_ERR_LAST (BitVec.ofNat 32
      (unc.toNat * 2 ^ 31 + poison.toNat * 2 ^ 30 + n * 2 ^ 28 + bank % 256 * 2 ^ 13 + word)) col
  match d.found with
  | .clean => s
  | .corrected =>
    (last false false d.bits (s.count F.MI_COL_ERR_corrected 1 col)).raiseFirst Flt.MI_CORRECTED col s.ms
  | .uncorrectable =>
    ((last true false 0 (s.count F.MI_COL_ERR_uncorr 1 col)).setFlag F.MI_STATUS_uncorr_any true).raise
      Flt.MI_UNCORRECTABLE
  | .poison => last false true 0 s

/-- A word decoded under its bank's code. -/
def State.decodeAt (s : State) (bank word : Nat) : Decoded := decodeWord (s.codeOf bank) (s.wordBits bank word)

/-- A corrected word enters the column's repair queue, if it has room (06 R177). -/
def State.repairPush (s : State) (bank word : Nat) (d : BankData) : State :=
  let q := SMap.get [] s.mem.repair (bank / 256)
  if q.length < 4 then
    { s with mem := { s.mem with repair := SMap.set [] s.mem.repair (bank / 256) (q ++ [⟨bank, word, d⟩]) } }
  else s

/-- A word read: its outcome counted, a corrected word queued for repair, pending bytes laid over it. Answers the data
and whether it is bad. -/
def State.readWord (s : State) (bank word : Nat) : BankData × Bool × State :=
  let d := s.decodeAt bank word
  let s1 := s.noteRead bank word d
  let s2 := if d.found = .corrected then s1.repairPush bank word d.data else s1
  (s2.mergeOverlay bank word d.data, d.bad, s2)

/-! ## Writes (06 R178, R180 to R183) -/

/-- A write of a word by another master cancels a correction write that waits for it (06 R178). -/
def State.cancelRepair (s : State) (bank word : Nat) : State :=
  let q := (SMap.get [] s.mem.repair (bank / 256)).filter fun e => !(decide (e.bank = bank) && decide (e.word = word))
  { s with mem := { s.mem with repair := SMap.set [] s.mem.repair (bank / 256) q } }

/-- A whole word written with fresh check bits; the pending bytes of the word are discarded. -/
def State.writeWhole (s : State) (bank word : Nat) (d : BankData) : State :=
  ((s.setWordBits bank word (encodeWord (s.codeOf bank) d)).mergeDrop bank word).cancelRepair bank word

/-- The bytes of an aligned half of code M, or of any write of code L, written direct (06 R180). -/
def State.writeDirect (s : State) (bank word : Nat) (d : BankData) (mask : Nat) : State :=
  let code := s.codeOf bank
  let m : BankBits := BitVec.ofNat 144 (directMask code mask)
  let new := (s.wordBits bank word &&& ~~~m) ||| (encodeWord code d &&& m)
  (s.setWordBits bank word new).cancelRepair bank word

/-- A merge entry drained (06 R182, R184): a full mask as a whole write, else a read-modify-write; a bad read writes
poison. The entry leaves the buffer. -/
def State.drainEntry (s : State) (col : Nat) (e : MergeEntry) : State :=
  let s0 := s.setMerge col ((s.mergeOf col).erase e)
  let code := s.codeOf e.bank
  if e.mask = 0xFFFF then s0.writeWhole e.bank e.word e.data
  else
    let d := s0.decodeAt e.bank e.word
    let s1 := s0.noteRead e.bank e.word d
    if d.bad then
      ((s1.setWordBits e.bank e.word (poisonWord code)).cancelRepair e.bank e.word).raise Flt.MI_MERGE_POISONED
        [col, e.bank, e.word]
    else
      (s1.setWordBits e.bank e.word (encodeWord code (overlay d.data e.data e.mask))).cancelRepair e.bank e.word

/-- A narrow write laid into the merge buffer (06 R181): over the word's own entry, in a free one, or after the oldest
has drained. -/
def State.mergePut (s : State) (bank word : Nat) (d : BankData) (mask : Nat) : State :=
  let col := bank / 256
  let l := s.mergeOf col
  match l.find? fun e => decide (e.bank = bank) && decide (e.word = word) with
  | some e =>
    s.setMerge col (l.map fun x => if x = e then { e with data := overlay e.data d mask, mask := e.mask ||| mask } else x)
  | none =>
    let e : MergeEntry := ⟨bank, word, overlay 0 d mask, mask, s.memCycle col⟩
    if l.length < 8 then s.setMerge col (l ++ [e])
    else
      match l with
      | [] => s.setMerge col [e]
      | o :: _ =>
        let s1 := s.drainEntry col o
        s1.setMerge col (s1.mergeOf col ++ [e])

/-- A write of the masked bytes of a word, by the rules of its bank's code. -/
def State.writeWord (s : State) (bank word : Nat) (d : BankData) (mask : Nat) : State :=
  let code := s.codeOf bank
  if mask = 0xFFFF then s.writeWhole bank word d
  else if isNarrow code mask then s.mergePut bank word d mask
  else s.writeDirect bank word d mask

/-! ## Rows (05 R139, 06 R183) -/

/-- A row read: data, the mask of bad words, and the errors' bit positions reported to the row port's watch (02 R55). -/
def State.readRow (s : State) (bank row : Nat) : RowBits × Nat × State :=
  let r := (List.range 16).foldl (fun (acc : List Nat × Nat × State) k =>
    let (ds, mask, t) := acc
    let w := row * 16 + k
    let dec := t.decodeAt bank w
    let t1 := t.noteRead bank w dec
    let t2 := dec.errs.foldl (fun (u : State) e => u.rowBitError bank row (144 * k + e)) t1
    let t3 := if dec.found = .corrected then t2.repairPush bank w dec.data else t2
    (ds ++ [(t3.mergeOverlay bank w dec.data).toNat], if dec.bad then mask + 2 ^ k else mask, t3)) ([], 0, s)
  (BitVec.ofNat 2048 (ungroups 128 r.1), r.2.1, r.2.2)

/-- A row written with fresh check bits. -/
def State.writeRow (s : State) (bank row : Nat) (d : RowBits) : State :=
  (List.range 16).foldl (fun (t : State) k => t.writeWhole bank (row * 16 + k) (BitVec.ofNat 128 (d.toNat / 2 ^ (128 * k)))) s

/-! ## Owners (05 R148, R149, R151) -/

/-- The landing tile above a bank (01 R25). -/
def tileOfBank (bank : Nat) : Nat := bank % 256 / 8 * 32 + bank % 8 * 4

/-- The foreground owner of a bank's port in force (05 R148, R149). -/
def State.fgOwner (s : State) (bank : Nat) (portB : Bool) : Option MemMaster :=
  let col := bank / 256
  match s.ownerClass bank with
  | 0 =>
    let t := tileBits (s.liveOf col) (tileOfBank bank)
    let v := if portB then ownB t else ownA t
    if portB && !isDualPort bank then none
    else if v = 1 && !portB then some .fabric
    else if 0x100 ≤ v ∧ v < 0x200 then some (.mover (v - 0x100)) else none
  | 1 => if portB then none else some .management
  | 2 => if portB then none else some (.slice (col / 12))
  | _ => none

/-- Whether a foreground master may use a bank's port now (05 R151, R157; 02 R51, R56). -/
def State.fgAllowed (s : State) (m : MemMaster) (bank : Nat) (portB : Bool) : Bool :=
  decide (s.fgOwner bank portB = some m) &&
    !((s.rowPort bank).dead && (match m with | .fabric => true | .mover _ => true | _ => false))

/-- bg_access of a bank (05 R152): 0 none, 1 read, 2 or 3 read and write. -/
def State.bgAccess (s : State) (bank : Nat) : Nat := s.fld (F.MEM_BANK_CFG_bg_access.nth (bank % 256)) (bank / 256)

/-- Whether an operation writes. -/
def opWrites : MemOp → Bool
  | .readWord _ => false
  | .readRow _ => false
  | .writeWord _ _ _ => true
  | .writeRow _ _ => true

/-- Whether a background master may make an operation on a bank (05 R152). -/
def State.bgAllowed (s : State) (m : MemMaster) (bank : Nat) (op : MemOp) : Bool :=
  match m with
  | .dma => if (opWrites op) then decide (2 ≤ s.bgAccess bank) else decide (1 ≤ s.bgAccess bank)
  | .rowCopy => if (opWrites op) then decide (2 ≤ s.bgAccess bank) else decide (1 ≤ s.bgAccess bank)
  | _ => true

/-- Whether a column counts as stopped (05 R167): its island is held, or the device is not released. -/
def State.colStopped (s : State) (col : Nat) (released : Bool) : Bool := s.held col || !released

/-! ## Operations at a bank port -/

/-- Status of an answer: 0 done, 1 refused with an error response, 2 done with the poison flag. -/
def opStatus (bad : Bool) : Nat := if bad then 2 else 0

/-- One operation carried out for a master that is answered at `dst`. -/
def State.doOp (s : State) (bank dst : Nat) (op : MemOp) : State :=
  match op with
  | .readWord w =>
    let (d, bad, s1) := s.readWord bank w
    s1.answer dst (opStatus bad) (leBytes 16 d.toNat)
  | .writeWord w d m => (s.writeWord bank w d m).answer dst 0
  | .readRow r =>
    let (d, mask, s1) := s.readRow bank r
    s1.answer dst (opStatus (decide (mask ≠ 0))) (leBytes 256 d.toNat)
  | .writeRow r d => (s.writeRow bank r d).answer dst 0

/-- The words an operation writes. -/
def opWrittenWords : MemOp → List Nat
  | .writeWord w _ _ => [w]
  | .writeRow r _ => (List.range 16).map (16 * r + ·)
  | _ => []

/-- A same-word double write on the two ports of a bank (05 R147): counted, and the first of each window of 2^20 memory
cycles of the column recorded. -/
def State.collision (s : State) (bank : Nat) (a b : MemOp) : State :=
  if ((opWrittenWords a).filter fun w => decide (w ∈ (opWrittenWords b))) = [] then s
  else (s.count F.MEM_DP_COLLIDE_count 1 (bank / 256)).raiseFirst Flt.MEM_DP_COLLISION (bank / 256)
    (s.memCycle (bank / 256) / 2 ^ 20)

/-- The two ports of a dual-port bank in one cycle, `a` on port A and `b` on port B (05 R147): a write is seen by the
other port's read; of two writes of one word, port A's data is stored. -/
def State.twoPorts (s : State) (bank dst : Nat) (a b : MemOp) : State :=
  if (opWrites a) && (opWrites b) then ((s.doOp bank dst b).doOp bank dst a).collision bank a b
  else if (opWrites b) then (s.doOp bank dst b).doOp bank dst a
  else (s.doOp bank dst a).doOp bank dst b

/-- Whether a master is a foreground master (05). -/
def isForegroundMaster : MemMaster → Bool
  | .fabric => true
  | .mover _ => true
  | .management => true
  | .slice _ => true
  | _ => false

/-- A foreground request refused: an error response and MEM_NOT_OWNER (05 R151). -/
def State.notOwner (s : State) (bank : Nat) : State := (s.answer bank 1).raise Flt.MEM_NOT_OWNER

/-- An access arrives at a bank during its fill and waits (06 R186). -/
def State.fillPush (s : State) (bank : Nat) (m : MemMaster) (op : MemOp) : State :=
  let r : MemReq := { master := m, op := op, born := s.memCycle (bank / 256) }
  { s with mem := { s.mem with fillWait := SMap.upd [] s.mem.fillWait bank (· ++ [r]) } }

/-- MEM_FOREGROUND_REQUEST (05 R151, R153, R147; 02 R51, R56; 06 R186). `other` is what the bank's other port serves in
the same cycle; `upsets` are stored bits of the word that upsets had inverted. -/
def State.fgRequest (s : State) (m : MemMaster) (bank : Nat) (portB : Bool) (op : MemOp)
    (other : Option (MemMaster × MemOp)) (upsets : List Nat) : State :=
  if s.ownerClass bank = 0 && s.held (bank / 256) then s
  else if !s.fgAllowed m bank portB then s.notOwner bank
  else if NSet.has s.mem.filling bank then
    s.fillPush bank m op
  else
    let s0 := match op with
      | .readWord w => s.upset bank w upsets
      | _ => s
    match other with
    | none => s0.doOp bank bank op
    | some (m2, op2) =>
      if !isDualPort bank then s0.doOp bank bank op
      else if (isForegroundMaster m2) && !s0.fgAllowed m2 bank (!portB) then (s0.doOp bank bank op).notOwner bank
      else if portB then s0.twoPorts bank bank op2 op
      else s0.twoPorts bank bank op op2

/-! ## Background requests (05 R153 to R156) -/

/-- Rank of a background master among requests that arrived in one cycle (05 R155). -/
def masterRank : MemMaster → Nat
  | .repair => 0
  | .dma => 1
  | .rowCopy => 2
  | .test => 3
  | .scrubber => 4
  | _ => 5

/-- Code of a master in MEM_STARVE_LAST (05 R168). -/
def masterStarveCode : MemMaster → Nat
  | .dma => 0
  | .rowCopy => 1
  | .test => 2
  | .scrubber => 3
  | .repair => 4
  | _ => 5

/-- The background requests of a bank, the next to be granted first. -/
def State.bgOf (s : State) (bank : Nat) : List MemReq := SMap.get [] s.mem.queue bank

/-- The background requests of a bank replaced. -/
def State.setBg (s : State) (bank : Nat) (l : List MemReq) : State :=
  { s with mem := { s.mem with queue := SMap.set [] s.mem.queue bank l } }

/-- A background request arrives at a bank: after the older ones, by rank among those of its cycle (05 R155). -/
def State.bgPush (s : State) (bank : Nat) (r : MemReq) : State :=
  let l := s.bgOf bank
  let before := fun (x : MemReq) => decide (x.born < r.born) || (decide (x.born = r.born) && decide ((masterRank x.master) ≤ (masterRank r.master)))
  s.setBg bank (l.filter before ++ [r] ++ l.filter fun x => !before x)

/-- One word operation of a network access has ended; the last one gives the answer. A host write that is refused is
dropped and counted (17 R439). -/
def State.jobStep (s : State) (job : Nat) (word : Option (Nat × BankData)) (bad refused : Bool) : State :=
  match SMap.get none s.mem.jobs job with
  | none => s
  | some j =>
    let j1 := { j with left := j.left - 1, bad := j.bad || bad, refused := j.refused || refused, data := word.elim j.data fun w => SMap.insert j.data w.1 w.2 }
    if j1.left = 0 then
      let bytes := ((j1.data.flatMap fun w => leBytes 16 w.2.toNat).drop j1.first).take j1.bytes
      let s1 := { s with mem := { s.mem with jobs := SMap.set none s.mem.jobs job none } }
      if j1.posted then (if j1.refused && j1.host then s1.count F.PCI_ERR_dropped_wr else s1)
      else s1.answer j1.dst (if j1.refused then 1 else if j1.bad then 3 else 0) (if j1.read && !j1.refused then bytes else [])
    else { s with mem := { s.mem with jobs := SMap.set none s.mem.jobs job (some j1) } }

/-- A background word operation carried out for its master. -/
def State.bgRun (s : State) (bank : Nat) (r : MemReq) : State :=
  match r.job with
  | none => s.doOp bank bank r.op
  | some job =>
    match r.op with
    | .readWord w =>
      let (d, bad, s1) := s.readWord bank w
      s1.jobStep job (some (r.pos, d)) bad false
    | .writeWord w d m => (s.writeWord bank w d m).jobStep job none false false
    | .readRow _ => s.jobStep job none false false
    | .writeRow _ _ => s.jobStep job none false false

/-- MEM_BACKGROUND_GRANT (05 R153 to R155): the oldest background request of the bank takes an idle cycle; `other` is what
the other port of a dual-port bank serves in that cycle, on port A. -/
def State.bgGrant (s : State) (bank : Nat) (other : Option (MemMaster × MemOp)) : State :=
  if NSet.has s.mem.filling bank then s
  else
    match s.bgOf bank with
    | [] => s
    | r :: rest =>
      let s0 := s.setBg bank rest
      if !s0.bgAllowed r.master bank r.op then
        let s1 := s0.raise Flt.MEM_BG_REFUSED
        match r.job with
        | some j => s1.jobStep j none false true
        | none => s1.answer bank 1
      else
        match other with
        | none => s0.bgRun bank r
        | some (m2, op2) =>
          if !isDualPort bank || !s0.fgAllowed m2 bank false then s0.bgRun bank r
          else if (opWrites op2) && (opWrites r.op) then ((s0.bgRun bank r).doOp bank bank op2).collision bank op2 r.op
          else if (opWrites op2) then (s0.doOp bank bank op2).bgRun bank r
          else (s0.bgRun bank r).doOp bank bank op2

/-- BG_STARVED (05 R156): a background request of the bank passes starve_cycles. Requests that stand in the bank's queue
are marked, once each; the other background engines' requests are their own. -/
def State.bgStarved (s : State) (bank master : Nat) : State :=
  let l := s.bgOf bank
  let s1 := s.setBg bank (match l with
    | [] => []
    | r :: rest => { r with starved := true } :: rest)
  let already := match l with
    | [] => false
    | r :: _ => r.starved && decide ((masterStarveCode r.master) = master)
  if already then s
  else
    (((s1.count F.MEM_COL_STARVE_count 1 (bank / 256)).setReg R.MEM_STARVE_LAST
      (BitVec.ofNat 32 (master * 2 ^ 29 + bank / 256 * 2 ^ 8 + bank % 256))).setFlag F.MEM_STATUS_starve_any true).raise
      Flt.MEM_BG_STARVED

/-! ## The row budget (05 R158, R159, R161) -/

/-- Units of 1/4096 row an island's bucket gains each ns: device budget of its operating point times its share. -/
def State.rowRate (s : State) (k : Nat) : Nat :=
  32 * (s.fld F.CLK_ISL_STAT_op k + 1) * max 1 (s.fld (F.MEM_ROW_SHARE_share.nth k))

/-- Bucket depth in rows, 1 to 1,024 (05 R168). -/
def State.rowBurst (s : State) : Nat := min 1024 (max 1 (s.fld F.MEM_ROW_BURST_burst))

/-- What an island's bucket lacks of being full, in 1/4096 row, now. -/
def State.rowDeficit (s : State) (k : Nat) : Nat :=
  let (d, t) := SMap.get (0, 0) s.mem.spent k
  d - s.rowRate k * (s.time.ns - t)

/-- Tokens in an island's bucket now, in 1/4096 row. -/
def State.rowTokens (s : State) (k : Nat) : Nat := s.rowBurst * 4096 - s.rowDeficit k

/-- Whole tokens taken from an island's bucket for granted row moves, counted in MEM_COL_ROWS. -/
def State.takeTokens (s : State) (k n : Nat) : State :=
  let d := min (s.rowBurst * 4096) (s.rowDeficit k + 4096 * n)
  ({ s with mem := { s.mem with spent := SMap.set (0, 0) s.mem.spent k (d, s.time.ns) } }).count F.MEM_COL_ROWS_rows n k

/-- Row moves of an island that wait, in the order they will be granted (05 R159). -/
def State.rowWaits (s : State) (k : Nat) : List RowWait := SMap.get [] s.mem.rowWait k

/-- Those replaced. -/
def State.setRowWaits (s : State) (k : Nat) (l : List RowWait) : State :=
  { s with mem := { s.mem with rowWait := SMap.set [] s.mem.rowWait k l } }

/-- A landing row move granted: its bank may take it. -/
def State.rowGranted (s : State) (bank : Nat) : State :=
  { s with mem := { s.mem with granted := NSet.put s.mem.granted bank true } }

/-- A landing row move arrives at the bucket (05 R159): granted at once if a whole token is there and none waits, else it
waits, after the older ones and in ascending bank order among those of its cycle. -/
def State.rowArrive (s : State) (bank : Nat) : State :=
  let k := bank / 256
  let l := s.rowWaits k
  let now := s.memCycle k
  if l = [] ∧ 4096 ≤ s.rowTokens k then (s.takeTokens k 1).rowGranted bank
  else
    let before := fun (x : RowWait) => decide (x.since < now) || decide (x.bank ≤ bank)
    s.setRowWaits k (l.filter before ++ [⟨bank, true, now⟩] ++ l.filter fun x => !before x)

/-- ROW_TOKEN_GRANT (05 R159): the oldest waiting row move takes a whole token. The memory cycles waited count in
MEM_COL_ROWWAIT. -/
def State.rowTokenGrant (s : State) (k : Nat) : State :=
  match s.rowWaits k with
  | [] => s
  | w :: rest =>
    if s.rowTokens k < 4096 then s
    else
      let now := s.memCycle k
      let s1 := (s.takeTokens k 1).count F.MEM_COL_ROWWAIT_cycles (now - w.since) k
      (s1.setRowWaits k (rest.map fun x => { x with since := max x.since now })).rowGranted w.bank

/-! ## Row copies (05 R162) -/

/-- One row copied: read, decoded, written under the destination's code; a bad word is written as poison. -/
def State.copyRow (s : State) (src srow dst drow : Nat) : State :=
  let words := (List.range 16).foldl (fun (acc : List (BankData × Bool) × State) k =>
    let w := srow * 16 + k
    let d := acc.2.decodeAt src w
    let t := acc.2.noteRead src w d
    (acc.1 ++ [(t.mergeOverlay src w d.data, d.bad)], t)) ([], s)
  (words.1.zip (List.range 16)).foldl (fun (t : State) x =>
    let w := drow * 16 + x.2
    if x.1.2 then
      (((t.setWordBits dst w (poisonWord (t.codeOf dst))).mergeDrop dst w).cancelRepair dst w).setFlag
        F.MEM_RC_CTRL_err true (dst / 256)
    else t.writeWhole dst w x.1.1) words.2

/-- Whether a row-copy command is refused (05 R162). -/
def State.rowCopyRefused (s : State) (col count : Nat) : Bool :=
  let sb := col * 256 + s.fld F.MEM_RC_SRC_bank col
  let db := col * 256 + s.fld F.MEM_RC_DST_bank col
  s.flag F.MEM_RC_CTRL_busy col || decide (count = 0) || decide (512 < count)
    || decide (512 < s.fld F.MEM_RC_SRC_row col + count) || decide (512 < s.fld F.MEM_RC_DST_row col + count)
    || (s.rowPort sb).dead || (s.rowPort db).dead
    || decide (s.bgAccess sb = 0) || decide (s.bgAccess db < 2)

/-- A write of go to MEM_RC_CTRL of the selected column (05 R162). -/
def State.rowCopyGo (s : State) (count : Nat) : State :=
  let col := s.fld F.MEM_COL_SEL_column
  if s.rowCopyRefused col count then s.raise Flt.MEM_RC_REFUSED
  else
    let s0 := s.setFld F.MEM_RC_CTRL_count count col
    let s1 := (s0.setFlag F.MEM_RC_CTRL_busy true col).setFlag F.MEM_RC_CTRL_err false col
    let c : RowCopy := ⟨s.fld F.MEM_RC_SRC_bank col, s.fld F.MEM_RC_SRC_row col, s.fld F.MEM_RC_DST_bank col,
      s.fld F.MEM_RC_DST_row col, count⟩
    { s1 with mem := { s1.mem with copies := SMap.set {} s1.mem.copies col c } }

/-- The row-copy engine completes (05 R162): its rows in ascending order, each after every earlier row has been written;
two tokens a row. -/
def State.rowCopyDone (s : State) (col : Nat) : State :=
  let c := SMap.get {} s.mem.copies col
  if !s.flag F.MEM_RC_CTRL_busy col then s
  else
    let s1 := (List.range c.rows).foldl (fun (t : State) i =>
      (t.copyRow (col * 256 + c.srcBank) (c.srcRow + i) (col * 256 + c.dstBank) (c.dstRow + i)).takeTokens col 2) s
    ({ s1 with mem := { s1.mem with copies := SMap.set {} s1.mem.copies col {} } }).setFlag F.MEM_RC_CTRL_busy false col

/-! ## Repair, scrubbing and remapping (06 R177, R188 to R196) -/

/-- A remap is asked for (06 R195). -/
def State.askRemap (s : State) (bank word : Nat) : State :=
  if bank * 8192 + word ∈ s.mem.remapAsked then s
  else { s with mem := { s.mem with remapAsked := s.mem.remapAsked ++ [bank * 8192 + word] } }

/-- The write-back a scrubber makes after its read (06 R191): corrected data, or poison for an uncorrectable word. -/
def State.scrubWrite (s : State) (bank word : Nat) (d : Decoded) : State :=
  match d.found with
  | .corrected => s.setWordBits bank word (encodeWord (s.codeOf bank) d.data)
  | .uncorrectable => s.setWordBits bank word (poisonWord (s.codeOf bank))
  | _ => s

/-- A word in error found again by the lap scrubber after it corrected it at its previous visit (06 R195). -/
def State.lapRemap (s : State) (bank word : Nat) (d : Decoded) : State :=
  let key := bank * 8192 + word
  let again := NSet.has s.mem.lapCorrected key && decide (d.found = .corrected)
  let s1 := { s with mem := { s.mem with lapCorrected := NSet.put s.mem.lapCorrected key (decide (d.found = .corrected)) } }
  if again && s.flag F.MI_CTRL_auto_remap then s1.askRemap bank word else s1

/-- Whether the lap scrubber is forced on (06 R188): until DONE, in the safe state, in a warm reset. -/
def State.lapForced (s : State) : Bool :=
  !s.flag F.DEV_STATUS_done || s.flag F.DEV_STATUS_safe_state || s.mgt.warm

/-- LAP_SCRUB_READ (06 R188, R191, R195). -/
def State.lapRead (s : State) (bank : Nat) (upsets : List Nat) : State :=
  let w := SMap.get 0 s.mem.lapNext bank
  if !(s.flag F.MI_CTRL_lap_en || s.lapForced) || decide (8192 ≤ w) || NSet.has s.mem.filling bank then s
  else
    let s0 := s.upset bank w upsets
    let d := s0.decodeAt bank w
    let s1 := ((s0.noteRead bank w d).scrubWrite bank w d).lapRemap bank w d
    { s1 with mem := { s1.mem with lapNext := SMap.set 0 s1.mem.lapNext bank (w + 1) } }

/-- LAP_END (06 R189): the lap's duration and the count of laps; the next lap starts in every column. -/
def State.lapEnd (s : State) : State :=
  let s1 := (s.setFld F.MI_LAP_STAT_lap_us (min (2 ^ 24 - 1) ((s.time.ns - s.mem.lapStart) / 1000))).countWrap F.MI_LAP_STAT_laps
  { s1 with mem := { s1.mem with lapNext := [], lapStart := s.time.ns } }

/-- The bank and word of a word offset from 0x40_0000_0000 (05 R141). -/
def State.locate (s : State) (off16 : Nat) : Nat × Nat :=
  let g := off16 / 8192
  let z := s.fld (F.MEM_BANK_CFG_set_size.nth (g % 256)) (g / 256)
  let n := if z = 1 then 4 else if z = 2 then 8 else 1
  let g0 := g - g % n
  let w := off16 - g0 * 8192
  (g0 + w % n, w / n)

/-- A write of go to MI_SCRUB_CTRL (06 R190). -/
def State.scrubGo (s : State) : State :=
  let first := s.fld F.MI_SCRUB_FIRST_word
  let last := s.fld F.MI_SCRUB_LAST_word
  if s.flag F.MI_SCRUB_CTRL_busy || decide (last < first) || decide (0x6000000 ≤ last) then s.raise Flt.MI_SCRUB_REFUSED
  else
    let s1 := (s.setReg R.MI_SCRUB_CTRL 0).setFlag F.MI_SCRUB_CTRL_busy true
    let s2 := ((((s1.setReg R.MI_SCRUB_CHECKED 0).setReg R.MI_SCRUB_CORR 0).setReg R.MI_SCRUB_UNC 0).setReg
      R.MI_SCRUB_FAIL_FIRST 0).setReg R.MI_SCRUB_FAIL_LAST 0
    { s2 with mem := { s2.mem with pass := some ⟨first, last⟩ } }

/-- A write of abort to MI_SCRUB_CTRL (06 R190). -/
def State.scrubAbort (s : State) : State :=
  match s.mem.pass with
  | none => s
  | some _ => ({ s with mem := { s.mem with pass := none } }).setFlag F.MI_SCRUB_CTRL_busy false

/-- The summary of a scrub pass after one more word (06 R190, R191, R202). -/
def State.scrubNote (s : State) (off : Nat) (d : Decoded) : State :=
  let s1 := s.count F.MI_SCRUB_CHECKED_count
  let fail := fun (t : State) =>
    let v : Word := BitVec.ofNat 32 (2 ^ 31 + off)
    let t1 := if bit (t.reg R.MI_SCRUB_FAIL_FIRST).toNat 31 then t else t.setReg R.MI_SCRUB_FAIL_FIRST v
    t1.setReg R.MI_SCRUB_FAIL_LAST v
  match d.found with
  | .clean => s1
  | .corrected =>
    let m := s1.fld F.MI_SCRUB_CTRL_max_bits
    fail ((s1.count F.MI_SCRUB_CORR_count).setFld F.MI_SCRUB_CTRL_max_bits (max m d.bits))
  | _ => fail ((s1.count F.MI_SCRUB_UNC_count).setFld F.MI_SCRUB_CTRL_max_bits 7)

/-- SCRUB_PASS_READ (06 R190, R191). -/
def State.scrubRead (s : State) (upsets : List Nat) : State :=
  match s.mem.pass with
  | none => s
  | some p =>
    if p.last < p.next then s
    else
      let (bank, w) := s.locate p.next
      if NSet.has s.mem.filling bank then s
      else
        let s0 := s.upset bank w upsets
        let d := s0.decodeAt bank w
        let key := bank * 8192 + w
        let again := NSet.has s0.mem.lapCorrected key && decide (d.found = .corrected) && s0.flag F.MI_CTRL_auto_remap
        let s1 := ((s0.noteRead bank w d).scrubWrite bank w d).scrubNote p.next d
        let s2 := if again then s1.askRemap bank w else s1
        { s2 with mem := { s2.mem with pass := some { p with next := p.next + 1 } } }

/-- SCRUB_PASS_DONE (06 R190): the last word has been checked. -/
def State.scrubDone (s : State) : State :=
  match s.mem.pass with
  | none => s
  | some p =>
    if p.last < p.next then
      (({ s with mem := { s.mem with pass := none } }).setFlag F.MI_SCRUB_CTRL_busy false).setFlag F.MI_SCRUB_CTRL_done true
    else s

/-- REMAP_DONE (06 R196): the oldest remap asked for takes an idle cycle of its bank. -/
def State.remapDone (s : State) : State :=
  match s.mem.remapAsked with
  | [] => s
  | key :: rest =>
    let bank := key / 8192
    let word := key % 8192
    let col := bank / 256
    let table := SMap.get [] s.mem.remap col
    let s0 := { s with mem := { s.mem with remapAsked := rest } }
    if key ∈ table then s0
    else if 64 ≤ table.length then s0.raise Flt.MI_REMAP_FULL
    else
      let d := s0.decodeAt bank word
      let n := table.length
      let v := if d.bad then poisonWord (s0.codeOf bank) else encodeWord (s0.codeOf bank) d.data
      let s1 := s0.noteRead bank word d
      let s2 := { s1 with mem := { s1.mem with
        remap := SMap.set [] s1.mem.remap col (table ++ [key]),
        spares := SMap.set 0 s1.mem.spares (col * 64 + n) v,
        remapWrites := s1.mem.remapWrites ++ [(col, key)] } }
      (s2.setFld F.MI_REPAIR_STAT_remap_used (n + 1) col).raise Flt.MI_REMAPPED

/-! ## The raw window (06 R197) -/

/-- The bank and word that MI_RAW_ADDR and MI_COL_SEL name. -/
def State.rawTarget (s : State) : Nat × Nat :=
  (s.fld F.MI_COL_SEL_column * 256 + s.fld F.MI_RAW_ADDR_bank, s.fld F.MI_RAW_ADDR_word)

/-- The 144 bits that the data and check registers hold. -/
def State.rawRegs (s : State) : BankBits :=
  BitVec.ofNat 144 ((s.reg R.MI_RAW_D).toNat + (s.reg (R.MI_RAW_D + 4)).toNat * 2 ^ 32
    + (s.reg (R.MI_RAW_D + 8)).toNat * 2 ^ 64 + (s.reg (R.MI_RAW_D + 12)).toNat * 2 ^ 96
    + s.fld F.MI_RAW_CHK_chk * 2 ^ 128)

/-- The data registers given 128 bits. -/
def State.setRawData (s : State) (v : Nat) : State :=
  (List.range 4).foldl (fun (t : State) i => t.setReg (R.MI_RAW_D + 4 * i) (BitVec.ofNat 32 (v / 2 ^ (32 * i)))) s

/-- A raw access refused (06 R197). -/
def State.rawRefuse (s : State) : State := (s.setFlag F.MI_RAW_CTRL_refused true).raise Flt.MI_RAW_REFUSED

/-- Code of an outcome in MI_RAW_CTRL.result. -/
def Found.code : Found → Nat
  | .clean => 0
  | .corrected => 1
  | .uncorrectable => 2
  | .poison => 3

/-- The raw access itself: 0 raw read, 1 raw write, 2 coded read. -/
def State.rawDo (s : State) (op : Nat) : State :=
  let (bank, w) := s.rawTarget
  match op with
  | 0 =>
    let v := (s.wordBits bank w).toNat
    (s.setRawData v).setFld F.MI_RAW_CHK_chk (v / 2 ^ 128)
  | 1 => ((s.setWordBits bank w s.rawRegs).mergeDrop bank w).cancelRepair bank w
  | _ =>
    let d := s.decodeAt bank w
    ((s.setRawData (s.mergeOverlay bank w d.data).toNat).setFld F.MI_RAW_CTRL_result d.found.code).setFld
      F.MI_RAW_CTRL_bits d.bits

/-- A write of go to MI_RAW_CTRL with an op (06 R197, R186): refused while busy, for op 3, and for a raw write to a bank
of another class than 3 in a running column; during a fill of the bank it waits. -/
def State.rawGo (s : State) (op : Nat) (released : Bool) : State :=
  let (bank, _) := s.rawTarget
  let cls := s.ownerClass bank
  if s.flag F.MI_RAW_CTRL_busy || decide (op = 3) then s.rawRefuse
  else if op = 1 && decide (cls < 3) && !s.colStopped (bank / 256) released then
    (s.setFld F.MI_RAW_CTRL_op op).rawRefuse
  else
    let s1 := (s.setFld F.MI_RAW_CTRL_op op).setFlag F.MI_RAW_CTRL_refused false
    if NSet.has s.mem.filling bank then
      ({ s1 with mem := { s1.mem with rawWaits := some op } }).setFlag F.MI_RAW_CTRL_busy true
    else s1.rawDo op

/-! ## Fills (06 R186) -/

/-- All words of a bank read zero: its stored words, its remapped words, its pending entries. -/
def State.zeroBank (s : State) (bank : Nat) : State :=
  let col := bank / 256
  let remapped := (SMap.get [] s.mem.remap col).zip (List.range 64)
  let m := s.mem
  let spares := remapped.foldl (fun (t : SMap BankBits) x => if x.1 / 8192 = bank then SMap.set 0 t (col * 64 + x.2) 0 else t) m.spares
  let words := SMap.clear m.words fun k => decide (k / 8192 = bank)
  let merge := SMap.set [] m.merge col ((s.mergeOf col).filter fun e => decide (e.bank ≠ bank))
  let repair := SMap.set [] m.repair col ((SMap.get [] m.repair col).filter fun e => decide (e.bank ≠ bank))
  { s with mem := { m with words := words, spares := spares, merge := merge, repair := repair } }

/-- A change of a bank's code starts its fill (06 R186). Every access waits for the end of the fill and then sees the filled bank,
so the bank reads zero from the start on. -/
def State.startFill (s : State) (bank : Nat) : State :=
  let s0 := s.zeroBank bank
  { s0 with mem := { s0.mem with filling := NSet.put s0.mem.filling bank true } }

/-- BANK_FILL_DONE (06 R186): the accesses that waited for the bank are made, in order. -/
def State.fillDone (s : State) (bank : Nat) : State :=
  if !NSet.has s.mem.filling bank then s
  else
    let waits := SMap.get [] s.mem.fillWait bank
    let s1 := { s with mem := { s.mem with
      filling := NSet.put s.mem.filling bank false, fillWait := SMap.set [] s.mem.fillWait bank [] } }
    let s2 := waits.foldl (fun (t : State) r => t.doOp bank bank r.op) s1
    match s2.mem.rawWaits with
    | some op =>
      if s2.rawTarget.1 = bank then
        (({ s2 with mem := { s2.mem with rawWaits := none } }).setFlag F.MI_RAW_CTRL_busy false).rawDo op
      else s2
    | none => s2

/-! ## March tests (06 R198 to R200) -/

/-- The elements of the march table in force, up to the first whose order is 3. -/
def State.marchElems (s : State) : List Nat :=
  ((List.range 16).map fun e => (s.reg (R.MI_MARCH_ELEM + 4 * e)).toNat).takeWhile fun v => decide (bits v 11 10 ≠ 3)

/-- One element run on one word of sound memory, with `zero` and `one` the two data: the word's content after it, and
whether every read found what it expected. -/
def marchElem (zero one : BankBits) (elem : Nat) (st : BankBits × Bool) : BankBits × Bool :=
  (List.range (bits elem 9 8 + 1)).foldl (fun st k =>
    match bits elem (2 * k + 1) (2 * k) with
    | 0 => (st.1, st.2 && decide (st.1 = zero))
    | 1 => (st.1, st.2 && decide (st.1 = one))
    | 2 => (zero, st.2)
    | _ => (one, st.2)) st

/-- Whether a word passes the table on sound memory, from its content. -/
def marchPasses (elems : List Nat) (zero one content : BankBits) : Bool :=
  (elems.foldl (fun st e => marchElem zero one e st) (content, true)).2

/-- The data background of a word for the "0" of a march test (06 R202): solid is all zeros; the manual does not spell
out the others, which are Config's. -/
def marchZero (bgnd bank word : Nat) : BankBits :=
  if bgnd = 0 then 0 else BitVec.ofNat 144 (Config.marchBackground bgnd bank word)

/-- The words of a bank range that fail the table even on sound memory: a read that comes before any write, or reads of
what was not written. A table whose first operation is a write, and that passes once, passes everywhere. -/
def State.tableFails (s : State) (first last bgnd : Nat) : List (Nat × Nat) :=
  let elems := s.marchElems
  if elems.head?.any (fun e => decide (2 ≤ bits e 1 0)) && marchPasses elems 0 (~~~0) 0 then []
  else
    ((List.range (last + 1 - first)).flatMap fun i => (List.range 8192).map fun w => (first + i, w)).filter fun x =>
      let z := marchZero bgnd x.1 x.2
      !marchPasses elems z (~~~z) (s.wordBits x.1 x.2)

/-- Whether a march test on a bank range is refused (06 R199). -/
def State.marchRefused (s : State) (col first last : Nat) (released : Bool) : Bool :=
  s.flag F.MI_MARCH_CTRL_busy ||
    (!s.colStopped col released &&
      (List.range (last + 1 - first)).any fun i => decide (s.ownerClass (col * 256 + first + i) < 3))

/-- A write of go to MI_MARCH_CTRL (06 R199): `v` is the value written. -/
def State.marchGo (s : State) (v : Nat) (released : Bool) : State :=
  let col := s.fld F.MI_COL_SEL_column
  let first := bits v 15 8
  let last := bits v 23 16
  let old := (s.reg R.MI_MARCH_CTRL).toNat
  let mine := 0x1CFFFF00
  if s.marchRefused col first last released then
    (s.setReg R.MI_MARCH_CTRL (BitVec.ofNat 32 (old - (old &&& mine) + (v &&& mine)))).raise Flt.MI_MARCH_REFUSED
  else
    let s1 := (s.setReg R.MI_MARCH_CTRL (BitVec.ofNat 32 (putBits (putBits v 31 29 0) 7 0 0))).setFlag F.MI_MARCH_CTRL_busy true
    let s2 := s1.setReg R.MI_MARCH_RES 0
    let fails := s.tableFails (col * 256 + first) (col * 256 + last) (bits v 27 26)
    { s2 with mem := { s2.mem with march := some ⟨col, col * 256 + first, col * 256 + last, bit v 28, fails⟩ } }

/-- A failing word of a memory test counted and recorded; with auto_remap, its remap asked for (06 R199, R195). -/
def State.marchFail (s : State) (bank word : Nat) : State :=
  let n := s.fld F.MI_MARCH_RES_fail_words
  let s1 := if n = 0 then (s.setFld F.MI_MARCH_RES_bank (bank % 256)).setFld F.MI_MARCH_RES_word word else s
  let s2 := ((s1.setFld F.MI_MARCH_RES_fail_words (satAdd 11 n 1)).setFlag F.MI_MARCH_CTRL_fail true).raise Flt.MI_MARCH_FAIL
  if s.flag F.MI_CTRL_auto_remap then s2.askRemap bank word else s2

/-- MARCH_DONE (06 R199): `fails` are the words at which the memory itself failed. -/
def State.marchDone (s : State) (fails : List (Nat × Nat)) : State :=
  match s.mem.march with
  | none => s
  | some m =>
    let inRange := (fails.filter fun f => decide (m.first ≤ f.1) && decide (f.1 ≤ m.last) && decide (f ∉ m.tableFails))
    let s1 := (m.tableFails ++ inRange).foldl (fun (t : State) f => t.marchFail f.1 f.2) s
    let s2 := if m.preserve then s1
      else (List.range (m.last + 1 - m.first)).foldl (fun (t : State) i => t.zeroBank (m.first + i)) s1
    let s3 := if m.preserve then s2.takeTokens m.column ((m.last + 1 - m.first) * 2 * 512) else s2
    ({ s3 with mem := { s3.mem with march := none } }).setFlag F.MI_MARCH_CTRL_busy false

/-- TRANSPARENT_TEST_ROW (06 R200): the next row of the column is saved, tested and written back; `fails` are the words
of the row, 0 to 15, at which the memory failed. -/
def State.testRowDone (s : State) (col : Nat) (fails : List Nat) : State :=
  if !s.flag F.MI_CTRL_tt_en then s
  else
    let r := SMap.get 0 s.mem.testRow col
    let bank := col * 256 + r / 512 % 256
    let s1 := fails.foldl (fun (t : State) k => t.marchFail bank (r % 512 * 16 + k)) s
    { s1 with mem := { s1.mem with testRow := SMap.set 0 s1.mem.testRow col ((r + 1) % (256 * 512)) } }

/-! ## Protected regions (05 R165, R166) -/

/-- An access to the flow context array (region 0) or the secure region (1) refused: master 0 management complex not in
secure mode, 1 network DMA, 2 monitor, 3 other; `word` is the 16-byte offset. -/
def State.protectedAccess (s : State) (master region word : Nat) : State :=
  ((s.setReg R.MEM_PROT_LAST (BitVec.ofNat 32 (master * 2 ^ 28 + region * 2 ^ 24 + word % 2 ^ 23))).setFlag
    F.MEM_STATUS_prot_viol true).raise Flt.MEM_PROTECTED_ACCESS

/-! ## Commands -/

/-- MEM_FOREGROUND_REQUEST (05 R153, R151, R147). -/
def execMemForegroundRequest (master : MemMaster) (bank : Nat) (portB : Bool) (op : MemOp)
    (other : Option (MemMaster × MemOp)) (upsets : List Nat) (s : State) : Result :=
  .next (s.fgRequest master bank portB op other upsets)

/-- MEM_BACKGROUND_GRANT (05 R155). -/
def execMemBackgroundGrant (bank : Nat) (other : Option (MemMaster × MemOp)) (s : State) : Result :=
  .next (s.bgGrant bank other)

/-- BG_STARVED (05 R156). -/
def execBgStarved (bank master : Nat) (s : State) : Result := .next (s.bgStarved bank master)

/-- ROW_TOKEN_GRANT (05 R159). -/
def execRowTokenGrant (island : Nat) (s : State) : Result := .next (s.rowTokenGrant island)

/-- ROW_COPY_GO (05 R162). -/
def execRowCopyGo (count : Nat) (s : State) : Result := .next (s.rowCopyGo count)

/-- ROW_COPY_DONE (05 R162). -/
def execRowCopyDone (column : Nat) (s : State) : Result := .next (s.rowCopyDone column)

/-- REPAIR_WRITEBACK (06 R177): the oldest repair-queue entry of the column is written back. -/
def execRepairWriteback (column : Nat) (s : State) : Result :=
  match SMap.get [] s.mem.repair column with
  | [] => .next s
  | e :: rest =>
    .next (({ s with mem := { s.mem with repair := SMap.set [] s.mem.repair column rest } }).setWordBits e.bank e.word
      (encodeWord (s.codeOf e.bank) e.data))

/-- NARROW_WRITE (06 R181): a write to a bank by a master that may make it; one that is narrow under the bank's code goes
to the merge buffer. -/
def execNarrowWrite (master : MemMaster) (bank word : Nat) (data : BankData) (mask : Nat) (s : State) : Result :=
  if (isForegroundMaster master) && !s.fgAllowed master bank false && !s.fgAllowed master bank true then .next (s.notOwner bank)
  else if !(isForegroundMaster master) && !s.bgAllowed master bank (.writeWord word data mask) then
    .next ((s.raise Flt.MEM_BG_REFUSED).answer bank 1)
  else if NSet.has s.mem.filling bank then .next (s.fillPush bank master (.writeWord word data mask))
  else .next ((s.writeWord bank word data mask).answer bank 0)

/-- MERGE_DRAIN (06 R182, R184): the first entry with a full mask, else the oldest, drains. -/
def execMergeDrain (column : Nat) (upsets : List Nat) (s : State) : Result :=
  let l := s.mergeOf column
  match (l.find? fun e => decide (e.mask = 0xFFFF)).or l.head? with
  | none => .next s
  | some e => .next ((s.upset e.bank e.word upsets).drainEntry column e)

/-- BANK_FILL_DONE (06 R186). -/
def execBankFillDone (bank : Nat) (s : State) : Result := .next (s.fillDone bank)

/-- LAP_SCRUB_READ (06 R188). -/
def execLapScrubRead (bank : Nat) (upsets : List Nat) (s : State) : Result := .next (s.lapRead bank upsets)

/-- LAP_END (06 R189). -/
def execLapEnd (s : State) : Result := .next s.lapEnd

/-- SCRUB_PASS_GO (06 R190). -/
def execScrubPassGo (s : State) : Result := .next s.scrubGo

/-- SCRUB_PASS_ABORT (06 R190). -/
def execScrubPassAbort (s : State) : Result := .next s.scrubAbort

/-- SCRUB_PASS_READ (06 R190). -/
def execScrubPassRead (upsets : List Nat) (s : State) : Result := .next (s.scrubRead upsets)

/-- SCRUB_PASS_DONE (06 R190). -/
def execScrubPassDone (s : State) : Result := .next s.scrubDone

/-- REMAP_CMD (06 R195): of a word of the selected column. -/
def execRemapCmd (bank word : Nat) (s : State) : Result :=
  .next (s.askRemap (s.fld F.MI_COL_SEL_column * 256 + bank) word)

/-- REMAP_DONE (06 R196). -/
def execRemapDone (s : State) : Result := .next s.remapDone

/-- REMAP_FLASH_WRITE (06 R196): the oldest remap entry not yet in flash is there; none during a warm reset (23 R572). -/
def execRemapFlashWrite (s : State) : Result :=
  match s.mem.remapWrites with
  | [] => .next s
  | e :: rest =>
    .next (if s.mgt.warm then s else { s with mem := { s.mem with remapWrites := rest, remapFlash := s.mem.remapFlash ++ [e] } })

/-- RAW_READ (06 R197). -/
def execRawRead (s : State) : Result := .next (s.rawGo 0 s.released)

/-- RAW_WRITE (06 R197). -/
def execRawWrite (s : State) : Result := .next (s.rawGo 1 s.released)

/-- CODED_READ (06 R197). -/
def execCodedRead (s : State) : Result := .next (s.rawGo 2 s.released)

/-- MARCH_GO (06 R199). -/
def execMarchGo (value : Nat) (s : State) : Result := .next (s.marchGo value s.released)

/-- MARCH_DONE (06 R199). -/
def execMarchDone (fails : List (Nat × Nat)) (s : State) : Result := .next (s.marchDone fails)

/-- TRANSPARENT_TEST_ROW (06 R200). -/
def execTransparentTestRow (column : Nat) (fails : List Nat) (s : State) : Result := .next (s.testRowDone column fails)

end Sys2Proof.Machine
end

