-- ==== Sys2Proof/Machine/Dram.lean ====
section
/-! DEFINITION. LPDDR6 main memory (14): lines on the wire, modes E and A, decoding of addresses, outcomes, refresh,
training, tracking, set points, power-down. -/

namespace Sys2Proof.Machine

/-! ## GF(2^24) and the line codes (14 R369 to R372) -/

/-- Multiplication by α = x modulo x^24 + x^4 + x^3 + x + 1. -/
def gfDouble (a : Nat) : Nat := if bit a 23 then (2 * a % 2 ^ 24) ^^^ 0x1B else 2 * a

/-- α^j times a. -/
def gfAlpha (a : Nat) : Nat → Nat
  | 0 => a
  | j + 1 => gfDouble (gfAlpha a j)

/-- The product of two elements. -/
def gfMul (a b : Nat) : Nat :=
  (List.range 24).foldl (fun r j => if bit b j then r ^^^ gfAlpha a j else r) 0

/-- The inverse of α^22 + α^23. -/
def gfSolve : Nat := 0xD0BD01

/-- CRC-16 of 512 data bits, bit 0 first: polynomial 0x1021, initial value 0xFFFF (14 R370). -/
def lineCrc (d : Nat) : Nat :=
  (List.range 512).foldl (fun c i =>
    let top := bit c 15 != bit d i
    if top then (2 * c % 65536) ^^^ 0x1021 else 2 * c % 65536) 0xFFFF

/-- Column j of a stored line. -/
def lineCol (v j : Nat) : Nat := bits v (24 * j + 23) (24 * j)

/-- S0: the sum of columns 0 to n - 1. -/
def lineS0 (v n : Nat) : Nat := (List.range n).foldl (fun s j => s ^^^ lineCol v j) 0

/-- S1: the sum of α^j times column j, 0 to n - 1. -/
def lineS1 (v n : Nat) : Nat := (List.range n).foldl (fun s j => s ^^^ gfAlpha (lineCol v j) j) 0

/-- A line in mode E (14 R370). -/
def encodeE (d : BitVec 512) : BitVec 576 :=
  let v := d.toNat + lineCrc d.toNat * 2 ^ 512
  let s0 := lineS0 v 22
  let s1 := lineS1 v 22
  let c22 := gfMul (s1 ^^^ gfAlpha s0 23) gfSolve
  BitVec.ofNat 576 (v + c22 * 2 ^ 528 + (s0 ^^^ c22) * 2 ^ 552)

/-- What a line read gives: outcome, data, tag, and the lane corrected. -/
structure LineRead where
  found : Found
  data : BitVec 512
  tag : Nat := 0
  lane : Nat := 31
deriving DecidableEq, Repr

/-- Poison in mode E (14 R372). -/
def poisonE : BitVec 576 := BitVec.ofNat 576 ((2 ^ 48 - 1) * 2 ^ 528)

/-- Poison in mode A (14 R372). -/
def poisonA : BitVec 576 := BitVec.ofNat 576 ((2 ^ 64 - 1) * 2 ^ 512)

/-- Whether the CRC of a mode E line holds. -/
def crcHolds (v : Nat) : Bool := decide (bits v 527 512 = lineCrc (v % 2 ^ 512))

/-- A line read in mode E (14 R370). -/
def decodeE (w : BitVec 576) : LineRead :=
  let v := w.toNat
  let bad : LineRead := ⟨.uncorrectable, BitVec.ofNat 512 v, 0, 31⟩
  if w = poisonE then { bad with found := .poison }
  else
    let s0 := lineS0 v 24
    let s1 := lineS1 v 24
    if s0 = 0 ∧ s1 = 0 then (if crcHolds v then { bad with found := .clean } else bad)
    else if s0 = 0 then bad
    else
      match (List.range 24).find? fun j => decide (gfAlpha s0 j = s1) with
      | none => bad
      | some j =>
        let fixed := v ^^^ s0 * 2 ^ (24 * j)
        if crcHolds fixed then ⟨.corrected, BitVec.ofNat 512 fixed, 0, j⟩ else bad

/-- The eight parity bits of mode A (14 R371). -/
def lineParity (d : Nat) : Nat := maskOf ((List.range 8).filter fun k => parity 64 (d / 2 ^ (64 * k)))

/-- A line in mode A with its tag (14 R371). -/
def encodeA (d : BitVec 512) (tag : Nat) : BitVec 576 :=
  BitVec.ofNat 576 (d.toNat + (lineParity d.toNat + tag % 2 ^ 56 * 256) * 2 ^ 512)

/-- A line read in mode A (14 R371): one whose parity fails is uncorrectable. -/
def decodeA (w : BitVec 576) : LineRead :=
  let v := w.toNat
  let r : LineRead := ⟨.clean, BitVec.ofNat 512 v, bits v 575 520, 31⟩
  if w = poisonA then { r with found := .poison }
  else if bits v 519 512 = lineParity (v % 2 ^ 512) then r
  else { r with found := .uncorrectable }

/-! ## Addresses (14 R374) -/

/-- Capacity of each channel in bytes. -/
def State.chCap (s : State) : Nat := s.fld (F.LP_CFG_gib.win 0) * 2 ^ 30

/-- Fitted capacity of the sixteen channels. -/
def State.dramCap (s : State) : Nat := 16 * s.chCap

/-- The channel of a DRAM-window address. -/
def dramChannel (a : Nat) : Nat := bits a 11 8 ^^^ bits a 15 12

/-- The byte address within the channel. -/
def dramCA (a : Nat) : Nat := bits a 37 12 * 256 + a % 256

/-- The line within the channel. -/
def dramLine (a : Nat) : Nat := dramCA a / 64

/-- The line-aligned DRAM-window address of a line of a channel. -/
def dramAddr (ch line : Nat) : Nat :=
  let ca := line * 64
  let hi := ca / 256
  hi * 4096 + (ch ^^^ bits (hi * 4096) 15 12) * 256 + ca % 256

/-- Whether an address lies in the fitted memory. -/
def State.dramFits (s : State) (a : Nat) : Bool := decide (dramCA a < s.chCap)

/-! ## Channels -/

/-- A channel's state (14 R384). -/
def State.lpState (s : State) (ch : Nat) : Nat := s.fld (F.LP_STATUS_state.win ch)

/-- A channel's state written; the promise of far queues follows (13 R362). -/
def State.setLpState (s : State) (ch v : Nat) : State := (s.setFld (F.LP_STATUS_state.win ch) v).prmRefresh

/-- Whether a channel answers requests: ready, or in a power-saving state that it leaves for them (14 R381). -/
def State.lpAnswers (s : State) (ch : Nat) : Bool := decide (2 ≤ s.lpState ch) && decide (s.lpState ch < 6)

/-- A request brings a channel out of a power-saving state. -/
def State.lpWake (s : State) (ch : Nat) : State :=
  if 2 < s.lpState ch ∧ s.lpState ch < 6 then s.setFld (F.LP_STATUS_state.win ch) 2 else s

/-- A stored line, as it stands on the wires. -/
def State.lineBits (s : State) (ch line : Nat) : BitVec 576 := SMap.get 0 s.lp.lines (ch * 2 ^ 28 + line)

/-- A stored line replaced: a rewrite that waits for it is dropped (14 R373). -/
def State.setLineBits (s : State) (ch line : Nat) (v : BitVec 576) : State :=
  { s with lp := { s.lp with
    lines := SMap.set 0 s.lp.lines (ch * 2 ^ 28 + line) v
    rewrites := NSet.put s.lp.rewrites (ch * 2 ^ 28 + line) false } }

/-- Stored bits of a line inverted. -/
def State.lineUpset (s : State) (ch line : Nat) (flips : List Nat) : State :=
  if flips = [] then s
  else s.setLineBits ch line (flips.foldl (fun v i => v ^^^ BitVec.ofNat 576 (2 ^ (i % 576))) (s.lineBits ch line))

/-- An outcome counted and recorded (14 R373). -/
def State.noteLine (s : State) (ch line : Nat) (r : LineRead) : State :=
  let last := fun (unc poison : Bool) (s : State) => s.setReg (R.LP_ERR_LAST + 0x10000 * ch)
    (BitVec.ofNat 32 (unc.toNat * 2 ^ 31 + poison.toNat * 2 ^ 30 + line))
  match r.found with
  | .clean => s
  | .corrected =>
    let s1 := { s with lp := { s.lp with rewrites := NSet.put s.lp.rewrites (ch * 2 ^ 28 + line) true } }
    ((last false false (s1.count (F.LP_ERR_corrected.win ch))).setFld (F.LP_ERR_LANE_lane.win ch) r.lane).raiseFirst
      Flt.LP_CORRECTED ch s.ms [ch]
  | .uncorrectable =>
    ((last true false (s.count (F.LP_ERR_uncorr.win ch))).setFlag (F.LP_STATUS_uncorr_any.win ch) true).raise
      Flt.LP_UNCORR [ch]
  | .poison => last false true s

/-- A line of the DRAM window read by its controller, in mode A or E. -/
def State.readLine (s : State) (a : Nat) (modeA : Bool) : LineRead × State :=
  let ch := dramChannel a
  let line := dramLine a
  let s1 := s.lpWake ch
  let r := if modeA then decodeA (s1.lineBits ch line) else decodeE (s1.lineBits ch line)
  (r, s1.noteLine ch line r)

/-- A line of the DRAM window written by its controller. -/
def State.writeLine (s : State) (a : Nat) (v : BitVec 576) : State :=
  (s.lpWake (dramChannel a)).setLineBits (dramChannel a) (dramLine a) v

/-- A line written as the poison pattern. -/
def State.poisonLine (s : State) (a : Nat) (modeA : Bool) : State := s.writeLine a (if modeA then poisonA else poisonE)

/-! ## Refresh and temperature (14 R376, R377) -/

/-- The multiplier code of a channel's band in LP_REF (14 R384). -/
def State.refCode (s : State) (ch : Nat) : Nat :=
  let b := s.fld (F.LP_TEMP_band.win ch)
  bits (s.reg (R.LP_REF + 0x10000 * ch)).toNat (2 * b + 1) (2 * b)

/-- PER_BANK_REFRESH (14 R376): a multiplier read since the last refresh comes into force. -/
def State.bankRefresh (s : State) (ch : Nat) : State :=
  if s.lpState ch < 2 ∨ 4 ≤ s.lpState ch then s
  else ({ s with lp := { s.lp with lastRef := SMap.set 0 s.lp.lastRef ch s.time.ns } }).setFld (F.LP_TEMP_mult.win ch)
    (SMap.get 0 s.lp.wantMult ch)

/-- MR4_READ (14 R376, R377): the larger of the band's multiplier and the one the memory demands is in force from the
next refresh; above the memory's range it is ×8, recorded once per band change. -/
def State.mr4Read (s : State) (ch code mult : Nat) (above : Bool) : State :=
  if s.lpState ch < 2 ∨ 4 ≤ s.lpState ch then s
  else
    let k := if above then 3 else max (s.refCode ch) (mult % 4)
    let s0 := s.setFld (F.LP_TEMP_mr4.win ch) code
    let s1 := { s0 with lp := { s0.lp with wantMult := SMap.set 0 s0.lp.wantMult ch k } }
    let band := s.fld (F.LP_TEMP_band.win ch) + 1
    if above ∧ SMap.get 0 s.lp.hotBand ch ≠ band then
      { (s1.raise Flt.LP_REFRESH_HOT [ch]) with lp := { s1.lp with hotBand := SMap.set 0 s1.lp.hotBand ch band } }
    else s1

/-! ## Training, tracking, set points (14 R378 to R382) -/

/-- The channel fails (14 R378, R382). -/
def State.lpFail (s : State) (ch : Nat) (f : FaultCode) : State :=
  (({ s with lp := { s.lp with step := SMap.set 0 s.lp.step ch 0, retried := NSet.put s.lp.retried ch false } }).setFld
    (F.LP_STATUS_state.win ch) 6 |>.raise f [ch]).prmRefresh

/-- Whether LP_CFG of the channels lies within 14 R367. -/
def State.lpCfgGood (s : State) (ch : Nat) : Bool :=
  let g := s.fld (F.LP_CFG_gib.win ch)
  decide (2 ≤ g) && decide (g ≤ 16) && decide (g = s.fld (F.LP_CFG_gib.win 0))

/-- Training of a channel starts (14 R378). -/
def State.lpTrain (s : State) (ch : Nat) : State :=
  let s1 := { s with lp := { s.lp with step := SMap.set 0 s.lp.step ch 1, retried := NSet.put s.lp.retried ch false } }
  s1.setLpState ch 1

/-- TRAINING_STEP_DONE (14 R378): the step is passed, retried once, or fails the channel; `unfit` says that the memory is
outside 14 R367 or R377. -/
def State.trainStep (s : State) (ch : Nat) (ok unfit : Bool) : State :=
  let k := SMap.get 0 s.lp.step ch
  if s.lpState ch ≠ 1 ∨ k = 0 then s
  else if unfit ∨ (k = 1 ∧ !s.lpCfgGood ch) then s.lpFail ch Flt.LP_CFG_INVALID
  else if !ok then
    if NSet.has s.lp.retried ch then s.lpFail ch Flt.LP_TRAIN_FAIL
    else { s with lp := { s.lp with retried := NSet.put s.lp.retried ch true } }
  else if k < 6 then
    { s with lp := { s.lp with step := SMap.set 0 s.lp.step ch (k + 1), retried := NSet.put s.lp.retried ch false } }
  else
    let lapsed := SMap.get 0 s.lp.lastRef ch ≠ 0 ∧ 32000000 < s.time.ns - SMap.get 0 s.lp.lastRef ch
    let s1 := { s with lp := { s.lp with
      step := SMap.set 0 s.lp.step ch 0, retried := NSet.put s.lp.retried ch false
      lastRef := SMap.set 0 s.lp.lastRef ch s.time.ns, track := SMap.set 0 s.lp.track ch 0 } }
    let s2 := if lapsed then s1.setFlag (F.LP_STATUS_data_lost.win ch) true else s1
    s2.setLpState ch 2

/-- TRACKING_READ (14 R379): at most one step of the delay line a reading; drift beyond the trained window is recorded. -/
def State.trackRead (s : State) (ch : Nat) (drift : Int) (beyond : Bool) : State :=
  if s.lpState ch ≠ 2 ∧ s.lpState ch ≠ 3 then s
  else
    let d := clampInt (-1) 1 drift
    let s1 := { s with lp := { s.lp with track := SMap.upd 0 s.lp.track ch (· + d) } }
    if beyond then s1.raise Flt.LP_TRACK_DRIFT [ch] else s1

/-- Whether a far class-0 contract is committed (14 R380). -/
def State.farContract (s : State) : Bool :=
  s.committed.any fun q => s.flag F.QM_Q_CFG0_far q && decide (s.fld F.QM_Q_CFG0_class q = 0)

/-! ## Commands -/

/-- LINE_REWRITE (14 R373): a line that was read corrected is rewritten. -/
def execLineRewrite (ch line : Nat) (s : State) : Result :=
  if NSet.has s.lp.rewrites (ch * 2 ^ 28 + line) && s.lpAnswers ch then
    let w := s.lineBits ch line
    let r := decodeE w
    .next (s.setLineBits ch line (if r.found = .corrected then encodeE r.data else w))
  else .next s

/-- PER_BANK_REFRESH (14 R376). -/
def execPerBankRefresh (ch : Nat) (s : State) : Result := .next (s.bankRefresh ch)

/-- MR4_READ (14 R376, R377). -/
def execMr4Read (ch code mult : Nat) (above : Bool) (s : State) : Result := .next (s.mr4Read ch code mult above)

/-- TRAINING_STEP_DONE (14 R378). -/
def execTrainingStepDone (ch : Nat) (ok unfit : Bool) (s : State) : Result := .next (s.trainStep ch ok unfit)

/-- TRACKING_READ (14 R379). -/
def execTrackingRead (ch : Nat) (drift : Int) (beyond : Bool) (s : State) : Result := .next (s.trackRead ch drift beyond)

/-- LP_RETRAIN (14 R380): refused while a far class-0 contract is committed, unless the channel is failed. -/
def execLpRetrain (ch : Nat) (s : State) : Result :=
  if s.farContract && decide (s.lpState ch ≠ 6) then .next (s.raise Flt.LP_CMD_REFUSED [ch])
  else if s.lpState ch < 2 then .next s
  else .next (s.lpTrain ch)

/-- LP_SWITCH (14 R380): the other set point; refused while any far class-0 contract is committed. -/
def execLpSwitch (ch : Nat) (s : State) : Result :=
  if s.farContract then .next (s.raise Flt.LP_CMD_REFUSED [ch])
  else if s.lpAnswers ch then
    .next (s.setFlag (F.LP_STATUS_fsp.win ch) (!s.flag (F.LP_STATUS_fsp.win ch)))
  else .next s

/-- LP_POWER_DOWN_ENTRY (14 R381): a ready channel, idle for pd_idle_ns; 0 disables it. -/
def execLpPowerDownEntry (ch : Nat) (s : State) : Result :=
  if s.lpState ch = 2 ∧ s.fld (F.LP_PWR_pd_idle_ns.win ch) ≠ 0 then .next (s.setFld (F.LP_STATUS_state.win ch) 3)
  else .next s

end Sys2Proof.Machine
end

