-- ==== Sys2Proof/Machine/Mee.lean ====
section
/-! DEFINITION. Inline memory encryption and integrity (15): regions and rights, keystream and tag, counters and their
cache, the counter tree, re-encryption, keys, and the access of every master to the DRAM window. -/

namespace Sys2Proof.Machine

/-! ## Regions and rights (15 R386 to R388) -/

/-- 2 MiB. -/
def mib2 : Nat := 0x200000

/-- Whether a region is enabled. -/
def State.regEn (s : State) (r : Nat) : Bool := s.flag F.MEE_REG_CFG_en r

/-- A region's protection mode: 0 plain, 1 encrypted, 2 authenticated; 3 is 0. -/
def State.regMode (s : State) (r : Nat) : Nat := if s.fld F.MEE_REG_CFG_mode r = 3 then 0 else s.fld F.MEE_REG_CFG_mode r

/-- The enabled region of an address, if it lies in one. -/
def State.regionOf (s : State) (a : Nat) : Option Nat :=
  (List.range 32).find? fun r => s.regEn r && decide (s.fld F.MEE_REG_BASE_block r ≤ a / mib2)
    && decide (a / mib2 ≤ s.fld F.MEE_REG_LIMIT_block r)

/-- Pages of the fitted capacity. -/
def State.meePages (s : State) : Nat := s.dramCap / 4096

/-- Nodes of each tree level, level 1 first, up to the first with no more than 8,192 (15 R399). -/
def treeLevels (pages : Nat) : Nat → List Nat
  | 0 => []
  | f + 1 =>
    let n := ceilDiv pages 8
    if n ≤ 8192 then [n] else n :: treeLevels n f

/-- The levels of the fitted capacity. -/
def State.levels (s : State) : List Nat := treeLevels s.meePages 12

/-- o_l: the nodes of all levels below level `l`, 1 the lowest. -/
def State.levelStart (s : State) (l : Nat) : Nat := (s.levels.take (l - 1)).sum

/-- Base of the counter region and of the tree area. -/
def State.ctrBase (s : State) : Nat := s.fld F.MEE_CTR_BASE_base * mib2
def State.treeBase (s : State) : Nat := s.fld F.MEE_TREE_BASE_base * mib2

/-- Address of a page's counter block, and of level-l node v (15 R394, R399). -/
def State.ctrAddr (s : State) (page : Nat) : Nat := s.ctrBase + 64 * page
def State.nodeAddr (s : State) (l v : Nat) : Nat := s.treeBase + 64 * (s.levelStart l + v)

/-- Whether an address lies in the counter region. -/
def State.inCtr (s : State) (a : Nat) : Bool := decide (s.ctrBase ≤ a) && decide (a < s.ctrBase + s.dramCap / 64)

/-- Whether an address lies in the tree area. -/
def State.inTree (s : State) (a : Nat) : Bool := decide (s.treeBase ≤ a) && decide (a < s.treeBase + 64 * s.levels.sum)

/-- Whether the lines of an address are stored in error-code mode A (15 R386, R394). -/
def State.modeAAt (s : State) (a : Nat) : Bool :=
  if s.inCtr a || s.inTree a then true
  else match s.regionOf a with
    | some r => s.flag F.MEE_REG_CFG_ecc r
    | none => false

/-- The class of a request by its source node and port (15 R388). -/
def classOf (node port : Nat) : Nat :=
  if node < 48 then (if port < 2 then 0 else 2)
  else if node = 57 ∧ port = 1 then 1
  else if node = 57 ∧ port = 0 then 3
  else if node = 56 ∨ node = 58 ∨ node = 60 ∨ node = 62 then 5
  else 2

/-- Whether a class may read or write a region (15 R388). -/
def State.hasRight (s : State) (r cls : Nat) (write : Bool) : Bool :=
  bit (s.reg R.MEE_REG_RIGHTS r).toNat (2 * cls + write.toNat)
    && (decide (cls ≠ 4) || decide (s.regMode r = 0) || s.flag F.MEE_REG_RIGHTS_dbg r)

/-! ## Keystream and tag (15 R389, R390) -/

/-- X of a line: major, minor, nonce mark, block. -/
def lineX (a major minor nonce j : Nat) : Nat :=
  major % 2 ^ 64 * 2 ^ 64 + minor % 128 * 2 ^ 57 + nonce * 2 ^ 56 + j * 2 ^ 54 + bits a 37 6 * 2 ^ 22

/-- The 512 bits XORed with a line: byte 16 j meets the most significant byte of block j. -/
def keystream (key a major minor : Nat) : Nat :=
  ungroups 128 ((List.range 4).map fun j => leNat (beBytes 16 (Config.aes256 key (lineX a major minor 0 j))))

/-- The 56-bit tag of a stored line. -/
def lineTag (key a major minor cipher : Nat) : Nat :=
  (Config.ghash (Config.aes256 key 0) cipher ^^^ Config.aes256 key (lineX a major minor 1 0)) % 2 ^ 56

/-! ## The counter cache and the tree (15 R394 to R401) -/

/-- A line of the counter cache. -/
def State.cached (s : State) (a : Nat) : Option (Nat × Bool) := SMap.get none s.mee.cache (a / 64)

/-- A line put into the counter cache. -/
def State.cachePut (s : State) (a v : Nat) (dirty : Bool) : State :=
  { s with mee := { s.mee with cache := SMap.set none s.mee.cache (a / 64) (some (v, dirty)) } }

/-- A 64-bit root: the root table is the first 64 KiB of the secure region, under code S (15 R399, 05 R165). -/
def State.root (s : State) (v : Nat) : Nat :=
  let d := (decodeWord 0 (SMap.get 0 s.mem.secure (v / 2))).data.toNat
  bits d (64 * (v % 2) + 63) (64 * (v % 2))

/-- A root written. -/
def State.setRoot (s : State) (v x : Nat) : State :=
  let d := (decodeWord 0 (SMap.get 0 s.mem.secure (v / 2))).data.toNat
  let d2 := putBits d (64 * (v % 2) + 63) (64 * (v % 2)) x
  { s with mem := { s.mem with secure := SMap.set 0 s.mem.secure (v / 2) (encodeWord 0 (BitVec.ofNat 128 d2)) } }

/-- Child counter `k` of a node. -/
def childCtr (node k : Nat) : Nat := bits node (64 * k + 63) (64 * k)

/-- A line verified and brought into the cache, its parent's counter being `m` (15 R400, R401). -/
def State.fetchLine (s : State) (a m : Nat) : Option Nat × State :=
  match s.cached a with
  | some (v, _) => (some v, s)
  | none =>
    let (r, s1) := s.readLine a true
    if r.found ≠ .clean then (none, s1)
    else if r.tag ≠ lineTag s1.mee.treeKey a m 0 r.data.toNat then (none, s1)
    else (some r.data.toNat, s1.cachePut a r.data.toNat false)

/-- A tree node verified from the root down: level `l` node `v`, with `k` levels above it. -/
def State.fetchNode (s : State) : Nat → Nat → Nat → Option Nat × State
  | 0, l, v => s.fetchLine (s.nodeAddr l v) (s.root v)
  | k + 1, l, v =>
    match s.cached (s.nodeAddr l v) with
    | some (x, _) => (some x, s)
    | none =>
      match s.fetchNode k (l + 1) (v / 8) with
      | (none, s1) => (none, s1)
      | (some p, s1) => s1.fetchLine (s1.nodeAddr l v) (childCtr p (v % 8))

/-- A page's counter block, verified: under the tree in an authenticated region, else with 0 in place of M. -/
def State.fetchCtr (s : State) (page : Nat) (auth : Bool) : Option Nat × State :=
  match s.cached (s.ctrAddr page) with
  | some (v, _) => (some v, s)
  | none =>
    if auth then
      match s.fetchNode (s.levels.length - 1) 1 (page / 8) with
      | (none, s1) => (none, s1)
      | (some p, s1) => s1.fetchLine (s1.ctrAddr page) (childCtr p (page % 8))
    else s.fetchLine (s.ctrAddr page) 0

/-- Major and minor i of a counter block (15 R394). -/
def blockMajor (b : Nat) : Nat := b % 2 ^ 64
def blockMinor (b i : Nat) : Nat := bits b (64 + 7 * i + 6) (64 + 7 * i)

/-- Minor i of a counter block replaced. -/
def setMinor (b i n : Nat) : Nat := putBits b (64 + 7 * i + 6) (64 + 7 * i) n

/-- A failure on a page is noted (15 R408). -/
def State.meeFailPage (s : State) (page : Nat) : State := s.setFld F.MEE_FAIL_LAST_page page

/-- A page enters the bad-page list; a full list disables the region (15 R401). -/
def State.badPage (s : State) (page : Nat) : State :=
  if page ∈ s.mee.badPages then s
  else if 64 ≤ s.mee.badPages.length then
    let s1 := s.raise Flt.MEE_BADPAGE_FULL
    match s.regionOf (page * 4096) with
    | some r => s1.setFlag F.MEE_REG_CFG_en false r
    | none => s1
  else { s with mee := { s.mee with badPages := s.mee.badPages ++ [page] } }

/-- A counter block or node failed verification (15 R401). -/
def State.treeFail (s : State) (page : Nat) : State :=
  ((((s.count F.MEE_ERR_tag_fail).setFlag F.MEE_STATUS_tag_any true).meeFailPage page).badPage page).raise
    Flt.MEE_TREE_FAIL (loc32 page)

/-! ## Reading and writing lines -/

/-- The region of a line with what its access needs. -/
structure Prot where
  region : Nat
  mode : Nat
  modeA : Bool
  key : Nat
deriving DecidableEq, Repr

/-- The protection of a region. -/
def State.protOf (s : State) (r : Nat) : Prot :=
  ⟨r, s.regMode r, s.flag F.MEE_REG_CFG_ecc r, SMap.get 0 s.mee.keys (s.fld F.MEE_REG_CFG_key r)⟩

/-- The walk of a page, if one runs. -/
def State.walkOf (s : State) (page : Nat) : Option MeeWalk := s.mee.walks.find? fun w => decide (w.page = page)

/-- The counters of a line's present state (15 R396, R397): those the walk has given it, or its block's. -/
def State.lineCounters (s : State) (block page i : Nat) : Nat × Nat :=
  match s.walkOf page with
  | some w => if (w.moved.map (·.1)).contains i then (blockMajor block + 1, SMap.get 0 w.moved i) else (blockMajor block, blockMinor block i)
  | none => (blockMajor block, blockMinor block i)

/-- A line of an authenticated region whose tag fails (15 R402). -/
def State.tagFail (s : State) (page : Nat) : State :=
  (((s.count F.MEE_ERR_tag_fail).setFlag F.MEE_STATUS_tag_any true).meeFailPage page).raise Flt.MEE_TAG_FAIL

/-- A whole line read in plaintext, and whether it is bad (15 R389 to R391, R398, R401, R402). -/
def State.meeRead (s : State) (p : Prot) (a : Nat) : Nat × Bool × State :=
  let page := a / 4096
  let i := a / 64 % 64
  if p.mode = 0 then
    let (r, s1) := s.readLine a p.modeA
    (r.data.toNat, decide (r.found = .uncorrectable) || decide (r.found = .poison), s1)
  else if page ∈ s.mee.badPages then (0, true, s)
  else
    match s.fetchCtr page (decide (p.mode = 2)) with
    | (none, s1) => (0, true, s1.treeFail page)
    | (some block, s1) =>
      let (r, s2) := s1.readLine a p.modeA
      let c := s2.lineCounters block page i
      if r.found = .uncorrectable ∨ r.found = .poison then (r.data.toNat, true, s2)
      else
        let plain := r.data.toNat ^^^ keystream p.key a c.1 c.2
        if p.mode = 2 ∧ r.tag ≠ lineTag p.key a c.1 c.2 r.data.toNat then (plain, true, s2.tagFail page)
        else (plain, false, s2)

/-- A whole line encrypted and written with given counters. -/
def State.meeStore (s : State) (p : Prot) (a major minor plain : Nat) : State :=
  let cipher := if p.mode = 0 then plain else plain ^^^ keystream p.key a major minor
  let tag := if p.mode = 2 then lineTag p.key a major minor cipher else 0
  let d : BitVec 512 := BitVec.ofNat 512 cipher
  s.writeLine a (if p.modeA then encodeA d tag else encodeE d)

/-- Whether a page is eager (15 R397): its region says so, or a slice with a committed far class-0 contract has its cell
area there. -/
def State.pageEager (s : State) (r page : Nat) : Bool :=
  s.flag F.MEE_REG_CFG_eager r ||
    s.committed.any fun q => s.flag F.QM_Q_CFG0_far q &&
      decide (s.fld F.QM_FAR_BASE_addr (q / 1024) ≤ page) &&
      decide (page < s.fld F.QM_FAR_BASE_addr (q / 1024) + ceilDiv (s.fld F.QM_FAR_CELLS_cells (q / 1024)) 16)

/-- eager_at: values above 126 are 126. -/
def State.eagerAt (s : State) : Nat := min 126 (s.fld F.MEE_CTRL_eager_at)

/-- A page asks for a walker. -/
def State.walkAsk (s : State) (page : Nat) (eager : Bool) : State :=
  if (s.mee.waiting.any fun w => decide (w.1 = page)) || (s.walkOf page).isSome then s
  else { s with mee := { s.mee with waiting := s.mee.waiting ++ [(page, eager)] } }

/-- A whole line written (15 R396 to R398): none where the write must wait for its page's walk; else whether it is
refused. -/
def State.meeWrite (s : State) (p : Prot) (a plain : Nat) : Option Bool × State :=
  let page := a / 4096
  let i := a / 64 % 64
  if p.mode = 0 then (some false, s.meeStore p a 0 0 plain)
  else if page ∈ s.mee.badPages then (some true, s)
  else
    match s.fetchCtr page (decide (p.mode = 2)) with
    | (none, s1) => (some true, s1.treeFail page)
    | (some block, s1) =>
      let eager := s1.pageEager p.region page
      match s1.walkOf page with
      | some w =>
        if !w.eager then (none, s1)
        else
          let n := if (w.moved.map (·.1)).contains i then SMap.get 0 w.moved i + 1 else 1
          let w2 := { w with moved := SMap.insert w.moved i n }
          let s2 := { s1 with mee := { s1.mee with walks := s1.mee.walks.map fun (x : MeeWalk) => if x.page = page then w2 else x } }
          (some false, s2.meeStore p a (blockMajor block + 1) n plain)
      | none =>
        let n := blockMinor block i
        let waitsAlready := s1.mee.waiting.any fun w => decide (w.1 = page)
        if n = 127 then
          let s2 := s1.walkAsk page eager
          (none, if eager then
            let far := fun q => s2.flag F.QM_Q_CFG0_far q &&
              decide (s2.fld F.QM_FAR_BASE_addr (q / 1024) ≤ page) &&
              decide (page < s2.fld F.QM_FAR_BASE_addr (q / 1024) + ceilDiv (s2.fld F.QM_FAR_CELLS_cells (q / 1024)) 16)
            ((s2.committed.filter far).foldl State.prmEvent s2).raise Flt.MEE_EAGER_LATE (loc32 page)
          else s2)
        else if waitsAlready && !eager then (none, s1)
        else
          let s2 := (s1.cachePut (s1.ctrAddr page) (setMinor block i (n + 1)) true).meeStore p a (blockMajor block) (n + 1) plain
          (some false, if eager && decide (s2.eagerAt ≤ n + 1) then s2.walkAsk page true else s2)

/-! ## Accesses of the DRAM window (15 R387, R388, R392, R393, R402, R403) -/

/-- Line-aligned addresses of the lines that `n` bytes from `a` touch. -/
def linesOf (a n : Nat) : List Nat := (List.range ((a + n - 1) / 64 + 1 - a / 64)).map fun i => (a / 64 + i) * 64

/-- Why an access of a line ends with an error response: none where it does not. -/
def State.lineRefused (s : State) (cls a : Nat) (write : Bool) : Option (Option FaultCode) :=
  if !s.dramFits a then some (some Flt.NOC_UNROUTABLE)
  else if s.inCtr a || s.inTree a then some (some Flt.MEE_NO_REGION)
  else
    match s.regionOf a with
    | none => some (some Flt.MEE_NO_REGION)
    | some r =>
      if !s.hasRight r cls write then some (some Flt.MEE_RIGHTS)
      else if decide (s.regMode r ≠ 0) && !s.flag F.MEE_REG_CFG_init r then some (some Flt.MEE_NOT_INIT)
      else if !s.lpAnswers (dramChannel a) then some none
      else none

/-- The first refusal among the lines of an access. -/
def State.accessRefused (s : State) (cls a n : Nat) (write : Bool) : Option (Option FaultCode) :=
  (linesOf a n).findSome? fun l => s.lineRefused cls l write

/-- The fault of a refused access, if it has one; an address with no memory is located at the source node, known for
classes 1, 3 and 4 (10 R306). -/
def State.raiseOpt (s : State) (f : Option FaultCode) (cls : Nat) : State :=
  match f with
  | some f => s.raise f (if f.code = Flt.NOC_UNROUTABLE.code ∧ (cls = 1 ∨ cls = 3 ∨ cls = 4) then [57] else [])
  | none => s

/-- Bytes read from the DRAM window: status 0, 1 or 3, and the data. -/
def State.dramRead (s : State) (cls a n : Nat) : Nat × List Byte × State :=
  match s.accessRefused cls a n false with
  | some f => (1, [], s.raiseOpt f cls)
  | none =>
    let r := (linesOf a n).foldl (fun (acc : List Byte × Bool × State) l =>
      match acc.2.2.regionOf l with
      | none => acc
      | some reg =>
        let (d, bad, t) := acc.2.2.meeRead (acc.2.2.protOf reg) l
        (acc.1 ++ leBytes 64 d, acc.2.1 || bad, t)) ([], false, s)
    (if r.2.1 then 3 else 0, slice r.1 (a % 64) n, r.2.2)

/-- The bytes of a write laid over a line's plaintext: `a` and `data` as written, `l` the line. -/
def overlayLine (plain a : Nat) (data : List Byte) (l : Nat) : Nat :=
  leNat ((List.range 64).map fun i =>
    let x := l + i
    if a ≤ x ∧ x < a + data.length then (data[x - a]?).getD 0 else BitVec.ofNat 8 (plain / 2 ^ (8 * i)))

/-- Whether a write covers a whole line. -/
def coversLine (a n l : Nat) : Bool := decide (a ≤ l) && decide (l + 64 ≤ a + n)

/-- One line of a write: a partial line is first read into the merge buffer (15 R393, R402). Answers as meeWrite. -/
def State.writeOne (s : State) (a : Nat) (data : List Byte) (l : Nat) : Option Bool × State :=
  match s.regionOf l with
  | none => (some true, s)
  | some reg =>
    let p := s.protOf reg
    if coversLine a data.length l then s.meeWrite p l (overlayLine 0 a data l)
    else
      let (d, bad, s1) := s.meeRead p l
      if bad then
        if l / 4096 ∈ s1.mee.badPages then (some true, s1)
        else (some true, ((s1.poisonLine l p.modeA).meeFailPage (l / 4096)).raise Flt.MEE_PARTIAL_REFUSED)
      else s1.meeWrite p l (overlayLine d a data l)

/-- A write that waits for its page is kept whole, with the place of its answer. -/
def State.meeWait (s : State) (w : MeeWrite) : State := { s with mee := { s.mee with writes := s.mee.writes ++ [w] } }

/-- Bytes written to the DRAM window: status 0 or 1, or none where the write waits for a re-encryption and answers at
`dst` when it ends. A write that spans a refused line is refused whole. -/
def State.dramWrite (s : State) (cls a : Nat) (data : List Byte) (dst : Nat) : Option Nat × State :=
  match s.accessRefused cls a data.length true with
  | some f => (some 1, s.raiseOpt f cls)
  | none =>
    (linesOf a data.length).foldl (fun (acc : Option Nat × State) l =>
      match acc.2.writeOne a data l with
      | (some false, t) => (acc.1, t)
      | (some true, t) => (acc.1.map fun _ => 1, t)
      | (none, t) =>
        let lo := max a l
        let hi := min (a + data.length) (l + 64)
        (none, t.meeWait ⟨cls, lo, slice data (lo - a) (hi - lo), dst⟩)) (some 0, s)

/-! ## Re-encryption (15 R396 to R398) -/

/-- One line of a page walked: decrypted under its present counters, written under M + 1; one that reads bad is written
as poison. -/
def State.walkLine (s : State) (p : Prot) (page block i : Nat) (moved : SMap Nat) : State :=
  let a := page * 4096 + i * 64
  if (moved.map (·.1)).contains i then s
  else
    let (d, bad, s1) := s.meeRead p a
    if bad then s1.poisonLine a p.modeA else s1.meeStore p a (blockMajor block + 1) 0 d

/-- A page whose major is at its end (15 R398). -/
def State.counterEnd (s : State) (p : Prot) (page : Nat) : State :=
  let s1 := (List.range 64).foldl (fun (t : State) i => t.poisonLine (page * 4096 + i * 64) p.modeA) s
  let refused := s1.mee.writes.filter fun w => decide (w.addr / 4096 = page)
  let s2 := { s1 with mee := { s1.mee with writes := s1.mee.writes.filter fun w => decide (w.addr / 4096 ≠ page) } }
  (((refused.foldl (fun (t : State) w => t.answer w.dst 1) s2).badPage page).meeFailPage page).raise Flt.MEE_COUNTER_END

/-- REENC_WALK_START (15 R396 to R398): a free walker takes the oldest eager page, else the oldest. -/
def State.walkStart (s : State) : State :=
  match (s.mee.waiting.find? (·.2)).or s.mee.waiting.head? with
  | none => s
  | some (page, eager) =>
    if 16 ≤ s.mee.walks.length then s
    else
      let s1 := { s with mee := { s.mee with waiting := s.mee.waiting.filter fun w => decide (w.1 ≠ page) } }
      match s1.regionOf (page * 4096) with
      | none => s1
      | some r =>
        let p := s1.protOf r
        match s1.fetchCtr page (decide (p.mode = 2)) with
        | (none, s2) => s2.treeFail page
        | (some block, s2) =>
          if blockMajor block = 2 ^ 64 - 1 then s2.counterEnd p page
          else
            ({ s2 with mee := { s2.mee with walks := s2.mee.walks ++ [({ page := page, eager := eager, moved := [] } : MeeWalk)] } }).setFlag
              F.MEE_STATUS_walk_busy true

/-- The waiting writes of a page proceed, in order. One with place 0 has nobody to answer. -/
def State.writesProceed (s : State) (page : Nat) : State :=
  let mine := s.mee.writes.filter fun w => decide (w.addr / 4096 = page)
  let s1 := { s with mee := { s.mee with writes := s.mee.writes.filter fun w => decide (w.addr / 4096 ≠ page) } }
  mine.foldl (fun (t : State) w =>
    match t.dramWrite w.cls w.addr w.data w.dst with
    | (some st, u) => if w.dst = 0 then u else u.answer w.dst st
    | (none, u) => u) s1

/-- REENC_WALK_DONE (15 R396, R397): every line of the page is under M + 1. -/
def State.walkDone (s : State) (page : Nat) : State :=
  match s.walkOf page with
  | none => s
  | some w =>
    match s.regionOf (page * 4096) with
    | none => s
    | some r =>
      let p := s.protOf r
      match s.fetchCtr page (decide (p.mode = 2)) with
      | (none, s1) => s1.treeFail page
      | (some block, s1) =>
        let s2 := (List.range 64).foldl (fun (t : State) i => t.walkLine p page block i w.moved) s1
        let new := w.moved.foldl (fun b (e : Nat × Nat) => setMinor b e.1 e.2) (blockMajor block + 1)
        let s3 := s2.cachePut (s2.ctrAddr page) new true
        let s4 := { s3 with mee := { s3.mee with walks := s3.mee.walks.filter fun x => decide (x.page ≠ page) } }
        let s5 := (s4.count F.MEE_ERR_reenc).setFlag F.MEE_STATUS_walk_busy (decide (s4.mee.walks ≠ []))
        s5.writesProceed page

/-! ## Regions enabled, keys, walks of a region (15 R386, R403 to R407) -/

/-- Whether two ranges of 2 MiB blocks meet. -/
def rangesMeet (a b c d : Nat) : Bool := decide (a ≤ d) && decide (c ≤ b)

/-- Whether a region fails its check at enable (15 R386). -/
def State.regionBad (s : State) (r : Nat) : Bool :=
  let base := s.fld F.MEE_REG_BASE_block r
  let lim := s.fld F.MEE_REG_LIMIT_block r
  let last := fun (b n : Nat) => (b + n - 1) / mib2
  decide (lim < base) || decide (s.dramCap ≤ lim * mib2)
    || ((List.range 32).any fun x => decide (x ≠ r) && s.regEn x
          && rangesMeet base lim (s.fld F.MEE_REG_BASE_block x) (s.fld F.MEE_REG_LIMIT_block x))
    || rangesMeet base lim (s.ctrBase / mib2) (last s.ctrBase (s.dramCap / 64))
    || rangesMeet base lim (s.treeBase / mib2) (last s.treeBase (64 * s.levels.sum))
    || (decide (s.regMode r = 2) && !s.flag F.MEE_REG_CFG_ecc r)
    || (decide (s.regMode r ≠ 0) && !NSet.has s.mee.active (s.fld F.MEE_REG_CFG_key r))

/-- REGION_ENABLE (15 R386): the fields of the write are in the register; en rises if the check passes. -/
def State.regionEnable (s : State) (r : Nat) : State :=
  if s.regionBad r then (s.setFlag F.MEE_REG_CFG_en false r).raise Flt.MEE_REGION_INVALID
  else s.setFlag F.MEE_REG_CFG_en true r

/-- Whether clearing en of a region is ignored (15 R407). -/
def State.regionHeld (s : State) (r : Nat) : Bool :=
  let base := s.fld F.MEE_REG_BASE_block r * 512
  let lim := s.fld F.MEE_REG_LIMIT_block r * 512 + 511
  (s.mee.walks.any fun w => decide (base ≤ w.page) && decide (w.page ≤ lim))
    || (match s.mee.walk with
        | some w => decide (w.op < 3) && decide (w.region = r)
        | none => false)
    || (s.committed.any fun q => s.flag F.QM_Q_CFG0_far q && rangesMeet base lim (s.fld F.QM_FAR_BASE_addr (q / 1024))
          (s.fld F.QM_FAR_BASE_addr (q / 1024) + ceilDiv (s.fld F.QM_FAR_CELLS_cells (q / 1024)) 16 - 1))

/-- A key command's outcome (15 R408). -/
def State.keyStat (s : State) (slot result : Nat) : State :=
  let s1 := s.setReg R.MEE_KEY_STAT (BitVec.ofNat 32
    (result * 2 ^ 28 + (NSet.has s.mee.active slot).toNat * 64 + slot))
  if result = 0 then s1 else s1.raise Flt.MEE_KEY_REFUSED

/-- A key put into an empty slot. -/
def State.keyFill (s : State) (slot key : Nat) : State :=
  ({ s with mee := { s.mee with active := NSet.put s.mee.active slot true, keys := SMap.set 0 s.mee.keys slot key } }).keyStat
    slot 0

/-- Whether something references a key slot (15 R405). -/
def State.keyUsed (s : State) (slot : Nat) : Bool :=
  ((List.range 32).any fun r => s.regEn r && decide (s.regMode r ≠ 0) && decide (s.fld F.MEE_REG_CFG_key r = slot))
    || (match s.mee.walk with
        | some w => decide (w.op = 1) && decide (w.key = slot)
        | none => false)
    || (s.mee.writes.any fun w => (s.regionOf w.addr).any fun r => decide (s.fld F.MEE_REG_CFG_key r = slot))

/-- KEY_RETIRE (15 R405). -/
def State.keyRetire (s : State) (slot : Nat) : State :=
  if !NSet.has s.mee.active slot then s.keyStat slot 2
  else if s.keyUsed slot then s.keyStat slot 3
  else
    ({ s with mee := { s.mee with active := NSet.put s.mee.active slot false, keys := SMap.set 0 s.mee.keys slot 0 } }).keyStat
      slot 0

/-- A walk of a region, or a flush, starts (15 R403, R406). -/
def State.opStart (s : State) (op region key : Nat) : State :=
  ({ s with mee := { s.mee with walk := some ⟨op, region, key⟩ } }).setReg R.MEE_WALK_STAT
    (BitVec.ofNat 32 (2 ^ 31 + op * 2 ^ 29))

/-- Pages of a region. -/
def State.regionPages (s : State) (r : Nat) : List Nat :=
  let base := s.fld F.MEE_REG_BASE_block r * 512
  (List.range ((s.fld F.MEE_REG_LIMIT_block r + 1 - s.fld F.MEE_REG_BASE_block r) * 512)).map (base + ·)

/-- One page re-keyed (15 R406): with M = 0 and n = 0 under the new key; a page of the bad-page list is written as poison
and leaves the list. -/
def State.rekeyPage (s : State) (old new : Prot) (page : Nat) : State :=
  let bad := decide (page ∈ s.mee.badPages)
  let s1 := (List.range 64).foldl (fun (t : State) i =>
    let a := page * 4096 + i * 64
    if bad then t.poisonLine a new.modeA
    else
      let (d, b, u) := t.meeRead old a
      if b then u.poisonLine a new.modeA else u.meeStore new a 0 0 d) s
  let s2 := s1.cachePut (s1.ctrAddr page) 0 true
  { s2 with mee := { s2.mee with badPages := s2.mee.badPages.filter fun x => decide (x ≠ page) } }

/-- The branches of the tree above an initialised page: nodes that do not verify are built with counters 0. -/
def State.buildNodes (s : State) (page : Nat) : State :=
  ((List.range s.levels.length).reverse).foldl (fun (t : State) k =>
    let l := k + 1
    let v := page / 8 ^ l
    match t.fetchNode (t.levels.length - l) l v with
    | (some _, u) => u
    | (none, _) => t.cachePut (t.nodeAddr l v) 0 true) s

/-- One page initialised (15 R403): zero data with all counters 0. -/
def State.initPage (s : State) (p : Prot) (page : Nat) : State :=
  let s0 := if p.mode = 2 then s.buildNodes page else s
  let s1 := if p.mode = 0 then s0 else s0.cachePut (s0.ctrAddr page) 0 true
  let s2 := (List.range 64).foldl (fun (t : State) i => t.meeStore p (page * 4096 + i * 64) 0 0 0) s1
  { s2 with mee := { s2.mee with badPages := s2.mee.badPages.filter fun x => decide (x ≠ page) } }

/-- A region filled with zero data and, if encrypted, initialised (15 R403, 06 R187). -/
def State.initRegion (s : State) (r : Nat) : State :=
  let p := s.protOf r
  ((s.regionPages r).foldl (fun (t : State) pg => t.initPage p pg) s).setFlag F.MEE_REG_CFG_init (decide (p.mode ≠ 0)) r

/-- The counter of a child raised by one in its parent, which becomes dirty, or in its root (15 R400): the new value. -/
def State.bumpParent (s : State) (l v : Nat) : Nat × State :=
  if s.levels.length ≤ l then
    let x := (s.root v + 1) % 2 ^ 64
    (x, s.setRoot v x)
  else
    let a := s.nodeAddr (l + 1) (v / 8)
    let node := match s.cached a with
      | some (n, _) => n
      | none => 0
    let x := (childCtr node (v % 8) + 1) % 2 ^ 64
    (x, s.cachePut a (putBits node (64 * (v % 8) + 63) (64 * (v % 8)) x) true)

/-- A dirty line of level `l` (0 for counter blocks) written back to DRAM (15 R395, R400). -/
def State.writeBackLine (s : State) (l v : Nat) (a data : Nat) : State :=
  let auth := decide (0 < l) || (match s.regionOf (v * 4096) with
    | some r => decide (s.regMode r = 2)
    | none => false)
  let (m, s1) := if auth then s.bumpParent l v else (0, s)
  (s1.writeLine a (encodeA (BitVec.ofNat 512 data) (lineTag s1.mee.treeKey a m 0 data))).cachePut a data false

/-- The level and number of a cached line. -/
def State.cacheLevel (s : State) (a : Nat) : Nat × Nat :=
  if s.inCtr a then (0, (a - s.ctrBase) / 64)
  else
    let n := (a - s.treeBase) / 64
    let l := ((List.range s.levels.length).filter fun k => decide (s.levelStart (k + 1) ≤ n)).length
    (l, n - s.levelStart l)

/-- The counter cache written back level by level and emptied (15 R406). -/
def State.flushCache (s : State) : State :=
  let s1 := (List.range (s.levels.length + 1)).foldl (fun (t : State) l =>
    t.mee.cache.foldl (fun (u : State) e =>
      match e.2 with
      | some (_, true) =>
        let a := e.1 * 64
        let lv := u.cacheLevel a
        if lv.1 = l then
          match u.cached a with
          | some (d, true) => u.writeBackLine l lv.2 a d
          | _ => u
        else u
      | _ => u) t) s
  { s1 with mee := { s1.mee with cache := [] } }

/-- MEE_WALK_DONE (15 R403, R406): the REKEY, INIT or FLUSH in progress completes. -/
def State.meeWalkDone (s : State) : State :=
  match s.mee.walk with
  | none => s
  | some w =>
    let s1 := match w.op with
      | 1 =>
        let old := s.protOf w.region
        let new := { old with key := SMap.get 0 s.mee.keys w.key }
        (((s.regionPages w.region).foldl (fun (t : State) pg => t.rekeyPage old new pg) s).setFld F.MEE_REG_CFG_key w.key
          w.region).setFld F.MEE_WALK_STAT_pages (s.regionPages w.region).length
      | 2 => (s.initRegion w.region).setFld F.MEE_WALK_STAT_pages (s.regionPages w.region).length
      | _ => s.flushCache
    ({ s1 with mee := { s1.mee with walk := none } }).setFlag F.MEE_WALK_STAT_busy false

/-- A FLUSH that runs ends: its lines are written back. REKEY and INIT are not refused for it (15 R406). -/
def State.endFlush (s : State) : State :=
  match s.mee.walk with
  | some w => if w.op = 3 then s.meeWalkDone else s
  | none => s

/-! ## Commands -/

/-- DRAM_LINE_READ (14 R375, 15 R391): the line of an address read for a class; `flips` are stored bits inverted. -/
def execDramLineRead (cls addr : Nat) (flips : List Nat) (s : State) : Result :=
  let a := addr / 64 * 64
  let r := (s.lineUpset (dramChannel a) (dramLine a) flips).dramRead cls a 64
  .next (r.2.2.answer (0x20000 + dramChannel a) r.1 r.2.1)

/-- DRAM_LINE_WRITE (14 R375): a whole line written for a class, in order with the requests to that line. -/
def execDramLineWrite (cls addr : Nat) (data : BitVec 512) (s : State) : Result :=
  let a := addr / 64 * 64
  let r := s.dramWrite cls a (leBytes 64 data.toNat) (0x20000 + dramChannel a)
  match r.1 with
  | some st => .next (r.2.answer (0x20000 + dramChannel a) st)
  | none => .next r.2

/-- MEE_PARTIAL_WRITE (15 R393). -/
def execMeePartialWrite (cls addr : Nat) (data : List Byte) (s : State) : Result :=
  let r := s.dramWrite cls addr data (0x20000 + dramChannel addr)
  match r.1 with
  | some st => .next (r.2.answer (0x20000 + dramChannel addr) st)
  | none => .next r.2

/-- REGION_ENABLE (15 R386): a write with en = 1 to MEE_REG_CFG of the selected region, its RWH fields taken while the
region is stopped. -/
def execRegionEnable (value : Nat) (s : State) : Result :=
  let r := s.fld F.MEE_REG_SEL_region
  if s.regEn r then .next s
  else
    let init := s.flag F.MEE_REG_CFG_init r
    .next (((s.setReg R.MEE_REG_CFG (BitVec.ofNat 32 (putBits (putBits (putBits value 31 31 0) 25 6 0) 30 30 init.toNat)) r)).regionEnable r)

/-- REENC_WALK_START (15 R396). -/
def execReencWalkStart (s : State) : Result := .next s.walkStart

/-- REENC_WALK_DONE (15 R396). -/
def execReencWalkDone (page : Nat) (s : State) : Result := .next (s.walkDone page)

/-- KEY_LOAD (15 R404): from the random source, a free value, or derived from a key store secret. -/
def execKeyLoad (slot src label : Nat) (s : State) : Result :=
  if NSet.has s.mee.active slot then .next (s.keyStat slot 1)
  else if src = 0 then
    if s.flag F.SEC_STATUS_trng_ok then .next ((s.keyFill slot (Config.freeNat s.freeIdx)).takeFree)
    else .next (s.keyStat slot 4)
  else
    match SMap.get none s.secu.secrets label with
    | none => .next (s.keyStat slot 4)
    | some x => .next (s.keyFill slot (Config.deriveKey x slot s.mee.epoch))

/-- KEY_RETIRE (15 R405). -/
def execKeyRetire (slot : Nat) (s : State) : Result := .next (s.keyRetire slot)

/-- REKEY (15 R406): refused while another REKEY or INIT runs, for an empty slot, and for a plain region. -/
def execRekey (region key : Nat) (s : State) : Result :=
  if (s.mee.walk.any fun w => decide (w.op ≠ 3)) || !NSet.has s.mee.active key || decide (s.regMode region = 0) then .next (s.raise Flt.MEE_CMD_REFUSED)
  else .next (s.endFlush.opStart 1 region key)

/-- MEE_INIT (15 R403, R406). -/
def execMeeInit (region : Nat) (s : State) : Result :=
  if (s.mee.walk.any fun w => decide (w.op ≠ 3)) || decide (s.regMode region = 0) then .next (s.raise Flt.MEE_CMD_REFUSED)
  else .next (s.endFlush.opStart 2 region 0)

/-- MEE_FLUSH (15 R406). -/
def execMeeFlush (s : State) : Result :=
  if s.mee.walk.isSome then .next (s.raise Flt.MEE_CMD_REFUSED) else .next (s.opStart 3 0 0)

/-- MEE_WALK_DONE (15 R406). -/
def execMeeWalkDone (s : State) : Result := .next s.meeWalkDone

end Sys2Proof.Machine
end

