-- ==== Sys2Proof/Machine/Egress.lean ====
section
/-! DEFINITION. Queues as stores (11 R309 to R312, R326) and the choice of what an egress port sends next
(11 R327 to R329). -/

namespace Sys2Proof.Machine

/-! ## A queue's entry (11 R313) -/

/-- A queue. -/
def State.queue (s : State) (q : Nat) : QueueSt := SMap.get {} s.qm.queues q

/-- A queue replaced. -/
def State.setQueue (s : State) (q : Nat) (x : QueueSt) : State :=
  { s with qm := { s.qm with queues := SMap.set {} s.qm.queues q x } }

/-- The slice of a queue (11 R307). -/
def sliceOf (q : Nat) : Nat := q / 1024

/-- The class of a queue: 3 is treated as 2. -/
def State.qClass (s : State) (q : Nat) : Nat := min 2 (s.fld F.QM_Q_CFG0_class q)

/-- The largest packet of a queue in bytes. -/
def State.qMax (s : State) (q : Nat) : Nat := s.fld F.QM_Q_CFG0_max_pkt q + 1

/-- Whether a queue is far, and its egress port. -/
def State.qFar (s : State) (q : Nat) : Bool := s.flag F.QM_Q_CFG0_far q
def State.qEgress (s : State) (q : Nat) : Nat := s.fld F.QM_Q_CFG0_egress q

/-- The copy of the per-port registers of a slice's egress port. -/
def portInst (slice port : Nat) : Nat := slice * 32 + port

/-- Queue words of a packet. -/
def pktWords (len : Nat) : Nat := ceilDiv len 64

/-- A queue's depth in queue words (11 R326). -/
def State.qDepth (s : State) (q : Nat) : Nat := ((s.queue q).pkts.map fun p => pktWords p.len).sum

/-- Whether a queue counts as stopped (11 R314). -/
def State.qStopped (s : State) (q : Nat) : Bool :=
  !s.flag F.QM_Q_CFG0_en q && (s.queue q).opened.isNone && (s.queue q).pkts.isEmpty

/-- Free descriptors of a queue's ring (11 R312). -/
def State.qDescFree (s : State) (q : Nat) : Nat :=
  2 ^ s.fld F.QM_Q_CFG3_desc_log q - (s.queue q).pkts.length - (s.queue q).opened.isSome.toNat

/-! ## The near buffer (11 R309, R310) -/

/-- The near-buffer banks of a slice, ascending. -/
def State.nearBanks (s : State) (slice : Nat) : List Nat :=
  ((List.range 3072).map fun i => slice * 3072 + i).filter fun g =>
    decide (s.fld (F.MEM_BANK_CFG_owner_class.nth (g % 256)) (g / 256) = 2)

/-- The bank and word of lane j of a queue word of the near buffer; none outside it. -/
def State.nearLane (s : State) (slice qw j : Nat) : Option (Nat × Nat) :=
  match (s.nearBanks slice)[qw / 2048]? with
  | none => none
  | some g =>
    let z := s.fld (F.MEM_BANK_CFG_set_size.nth (g % 256)) (g / 256)
    let n := if z = 1 then 4 else if z = 2 then 8 else 1
    let back := g % n
    some (s.locate ((g - back) * 8192 + 4 * (qw - (qw / 2048 - back) * 2048) + j))

/-- One lane of a queue word read: the data so far, whether a lane was bad or missing, and the state. -/
def State.nearReadLane (slice qw : Nat) (r : List Nat × Bool × State) (j : Nat) : List Nat × Bool × State :=
  match r.2.2.nearLane slice qw j with
  | none => (r.1 ++ [0], true, r.2.2)
  | some (b, w) =>
    let x := r.2.2.readWord b w
    (r.1 ++ [x.1.toNat], r.2.1 || x.2.1, x.2.2)

/-- A near queue word read: data and whether it is bad (parity or decoding). -/
def State.nearRead (s : State) (slice qw : Nat) : BitVec 512 × Bool × State :=
  let r := (List.range 4).foldl (State.nearReadLane slice qw) ([], false, s)
  let d := ungroups 128 r.1
  (BitVec.ofNat 512 d, r.2.1 || decide (SMap.get 0 s.qm.parity (slice * 2 ^ 22 + qw) ≠ laneParity d), r.2.2)

/-- A near queue word written, with its parity. -/
def State.nearWrite (s : State) (slice qw : Nat) (d : BitVec 512) : State :=
  let step := fun (t : State) (j : Nat) =>
    match t.nearLane slice qw j with
    | none => t
    | some (b, w) => t.writeWord b w (BitVec.ofNat 128 (d.toNat / 2 ^ (128 * j))) 0xFFFF
  let s1 := (List.range 4).foldl step s
  { s1 with qm := { s1.qm with parity := SMap.set 0 s1.qm.parity (slice * 2 ^ 22 + qw) (laneParity d.toNat) } }

/-- The near-buffer word of word i of a queue's ring. -/
def State.ringWord (s : State) (q i : Nat) : Nat :=
  s.fld F.QM_Q_CFG1_buf q + i % max 1 (s.fld F.QM_Q_CFG2_near_words q)

/-! ## Far cells (11 R311) -/

/-- Free cells of a slice. -/
def State.farFree (s : State) (slice : Nat) : Nat :=
  s.fld F.QM_FAR_CELLS_cells slice - SMap.get 0 s.qm.nextCell slice + (SMap.get [] s.qm.freed slice).length

/-- Cells a queue uses. -/
def State.qCells (s : State) (q : Nat) : Nat :=
  ((s.queue q).pkts.map fun p => p.cells.length).sum + ((s.queue q).opened.map fun o => max o.reserved o.cells.length).getD 0

/-- Cells that open packets of other queues of the slice have reserved and not taken (11 R317). -/
def State.farPromised (s : State) (q : Nat) : Nat :=
  (s.qm.queues.map fun e =>
    if sliceOf e.1 = sliceOf q ∧ e.1 ≠ q ∧ s.qFar e.1 then (e.2.opened.map fun o => o.reserved - o.cells.length).getD 0 else 0).sum

/-- Cells of the slice that contracts of other queues hold free (13 R354, R355). -/
def State.farHeld (s : State) (q : Nat) : Nat :=
  (s.prm.map fun e => if sliceOf e.1 = sliceOf q ∧ e.1 ≠ q ∧ s.qFar e.1 then e.2.reserved - s.qCells e.1 else 0).sum

/-- The reserved cells of a removed contract are released once its queue holds no committed packet (13 R355). -/
def State.freeReserve (s : State) (q : Nat) : State :=
  if s.flag F.QM_CT_STAT_committed q ∨ (s.queue q).pkts ≠ [] ∨ (s.prmOf q).reserved = 0 then s
  else s.setPrm q { s.prmOf q with reserved := 0 }

/-- Whether a queue can take `n` more cells beyond those it uses. -/
def State.farRoom (s : State) (q n : Nat) : Bool :=
  decide (s.qCells q + n ≤ s.fld F.QM_Q_CFG1_buf q) && decide (n + s.farHeld q + s.farPromised q ≤ s.farFree (sliceOf q))

/-- A slice whose free list is empty says so, once in each millisecond (11 R330). -/
def State.farNote (s : State) (slice : Nat) : State :=
  if s.farFree slice = 0 then s.raiseFirst Flt.QM_FAR_EXHAUSTED slice s.ms [slice] else s

/-- A cell taken from a slice's free list: the oldest freed one, else the first never used. -/
def State.takeCell (s : State) (slice : Nat) : Nat × State :=
  match SMap.get [] s.qm.freed slice with
  | c :: l => (c, ({ s with qm := { s.qm with freed := SMap.set [] s.qm.freed slice l } }).farNote slice)
  | [] =>
    let c := SMap.get 0 s.qm.nextCell slice
    (c, ({ s with qm := { s.qm with nextCell := SMap.set 0 s.qm.nextCell slice (c + 1) } }).farNote slice)

/-- Cells returned to a slice's free list. -/
def State.freeCells (s : State) (slice : Nat) (l : List Nat) : State :=
  { s with qm := { s.qm with freed := SMap.set [] s.qm.freed slice (SMap.get [] s.qm.freed slice ++ l) } }

/-- The device address of a cell, and of its link table entry. -/
def State.cellAddr (s : State) (slice c : Nat) : Nat := s.fld F.QM_FAR_BASE_addr slice * 4096 + 256 * c
def State.linkAddr (s : State) (slice c : Nat) : Nat := s.fld F.QM_FAR_LINK_addr slice * 4096 + 8 * c

/-- Where the DRAM path acknowledges the cell writes of a queue. -/
def cellKey (q : Nat) : Nat := 0x30000 + q

/-- A write of the queue manager to DRAM; its status, if it is not delayed, is taken at once. -/
def State.qmWrite (s : State) (q a : Nat) (data : List Byte) : State := (s.dramWrite 5 a data (cellKey q)).2

/-- The parity bits of the 32 lanes of a cell. -/
def cellParity (data : List Byte) : Nat :=
  maskOf ((List.range 32).filter fun i => parity 64 (fieldAt data (8 * i) 8))

/-- A link table entry written: the next cell and the parity bits (11 R311). -/
def State.linkWrite (s : State) (q c next par : Nat) : State :=
  s.qmWrite q (s.linkAddr (sliceOf q) c) (leBytes 8 (next % 2 ^ 29 + par * 2 ^ 32))

/-- The parity bits that a cell's link table entry holds; none where it reads bad. -/
def State.linkParity (s : State) (q c : Nat) : Option Nat × State :=
  let r := s.dramRead 5 (s.linkAddr (sliceOf q) c) 8
  (if r.1 = 0 then some (leNat r.2.1 / 2 ^ 32) else none, r.2.2)

/-! ## Level interrupt (11 R326) -/

/-- A queue crosses its level. -/
def State.levelCross (s : State) (q : Nat) : State :=
  let r := R.QM_LVL_PEND + 4 * (q / 32)
  let s1 := (s.setReg r (BitVec.ofNat 32 (putBit (s.reg r).toNat (q % 32) true))).setFlag F.QM_STATUS_lvl_any true
  if s.flag F.QM_Q_CFG4_irq_en q then s1.msix 0 (s.fld F.QM_Q_CFG5_irq_vec q) else s1

/-- The level judged: the depth and level as they stood before, against those now. -/
def State.levelJudge (s : State) (q before levelBefore : Nat) : State :=
  let level := s.fld F.QM_Q_CFG4_level q
  let d := s.qDepth q
  if level ≠ 0 ∧ level ≤ d ∧ (before < level ∨ (before < levelBefore ∧ level ≠ levelBefore)) then s.levelCross q else s

/-! ## Egress ports: what is in force (11 R327, R328) -/

/-- An egress port's scheduler. -/
def State.egress (s : State) (slice port : Nat) : EgressSt := SMap.get {} s.qm.ports (portInst slice port)

/-- That scheduler replaced. -/
def State.setEgress (s : State) (slice port : Nat) (e : EgressSt) : State :=
  { s with qm := { s.qm with ports := SMap.set {} s.qm.ports (portInst slice port) e } }

/-- Slot length of a port in ns: below 4 used as 4, above 125 as 125. -/
def State.slotNs (s : State) (slice port : Nat) : Nat := min 125 (max 4 (s.fld F.QM_PORT_CFG_slot_ns (portInst slice port)))

/-- The queue that a slot of a port's calendar names, if the slot is valid. -/
def State.calSlot (s : State) (slice port slot : Nat) : Option Nat :=
  let v := (s.reg (R.QM_PORT_CAL + 4 * (slot / 2)) (portInst slice port)).toNat
  let b := 16 * (slot % 2)
  if bit v (b + 15) then some (slice * 1024 + bits v (b + 9) b) else none

/-- The valid slots of a port, rising. -/
def State.calSlots (s : State) (slice port : Nat) : List Nat :=
  (List.range 64).filter fun t => (s.calSlot slice port t).isSome

/-- The start of the next valid slot after a time, in ns; none where the port has none. -/
def State.nextSlot (s : State) (slice port t : Nat) : Option Nat :=
  let n := s.slotNs slice port
  ((List.range 64).map fun i => t / n + 1 + i).find? (fun k => (s.calSlot slice port (k % 64)).isSome) |>.map (· * n)

/-- The MAC behind egress port 0 to 23 of a slice (11 R308). -/
def State.portMac (_s : State) (slice port : Nat) : Nat := macOfPort slice port

/-- Twice the wire time of a packet, scaled by the rate in Gb/s: (time × 2 × rate, rate) (11 R328). -/
def State.wire2 (s : State) (slice port len : Nat) : Nat × Nat :=
  if port < 24 then
    let r := s.portRate (macOfPort slice port)
    (2 * (len + 24) * 8, r)
  else (pktWords len + 1, 1)

/-- Whether a packet started at `t` ends no later than `stop` (11 R328). -/
def State.wireFits (s : State) (slice port len t stop : Nat) : Bool :=
  let w := s.wire2 slice port len
  decide (2 * t * w.2 + w.1 ≤ 2 * stop * w.2)

/-- The virtual channel of a queue's packets on a network port (11 R324). -/
def State.qVc (s : State) (q : Nat) : Nat :=
  if s.qClass q = 0 then 0 else if s.flag F.QM_Q_CFG0_bulk q then 3 else 1

/-- Whether a port may start a packet of a queue: no pause of its class at a MAC, a credit at a network port. -/
def State.mayStart (s : State) (slice port q : Nat) : Bool :=
  if port < 24 then !s.classPaused (macOfPort slice port) (s.qClass q)
  else !bit (s.egress slice port).dry (s.qVc q)

/-! ## The round over classes 1 and 2 (11 R329) -/

/-- Whether a queue has a packet that the scheduler may take. -/
def State.qReady (s : State) (q : Nat) : Bool := !(s.queue q).pkts.isEmpty && !(s.queue q).descStop

/-- The queues of a class at a port that have packets, rising. -/
def State.classQueues (s : State) (slice port cls : Nat) : List Nat :=
  (s.qm.queues.map (·.1)).filter fun q =>
    decide (sliceOf q = slice) && decide (s.qEgress q = port) && decide (s.qClass q = cls) && s.qReady q

/-- A class's deficit, and the queue its round stands at. -/
def egDef (e : EgressSt) : Nat := if e.cls = 1 then e.def1 else e.def2
def setEgDef (e : EgressSt) (n : Nat) : EgressSt := if e.cls = 1 then { e with def1 := n } else { e with def2 := n }
def egAt (e : EgressSt) : Nat := if e.cls = 1 then e.at1 else e.at2
def setEgAt (e : EgressSt) (q : Nat) : EgressSt := if e.cls = 1 then { e with at1 := q } else { e with at2 := q }

/-- The weight of a class in bytes of a visit: 0 is used as 1. -/
def State.classWeight (s : State) (slice port cls : Nat) : Nat :=
  max 1 (if cls = 1 then s.fld F.QM_PORT_CFG_c1_weight (portInst slice port) else s.fld F.QM_PORT_CFG_c2_weight (portInst slice port)) * 1024

/-- The quantum of a queue in bytes: 0 is used as 1. -/
def State.qQuantum (s : State) (q : Nat) : Nat := max 1 (s.fld F.QM_Q_CFG0_quantum q) * 256

/-- The other class. -/
def otherClass (e : EgressSt) : EgressSt := { e with cls := 3 - e.cls, added := false }

/-- The first queue of a rising list at or after a number, else the first of the list. -/
def roundFrom (l : List Nat) (n : Nat) : Option Nat := (l.find? fun q => decide (n ≤ q)).orElse fun _ => l.head?

/-- The head length of a queue. -/
def State.headLen (s : State) (q : Nat) : Nat := ((s.queue q).pkts.head?.map QPkt.len).getD 0

/-- The deficit of a queue written. -/
def State.setDeficit (s : State) (q n : Nat) : State := s.setQueue q { s.queue q with deficit := n }

/-- The queues of a class at a port that the round passes over on its way from number `n` to queue `q` have no packet:
their deficits are set to 0. -/
def State.roundPass (s : State) (slice port cls n q : Nat) : State :=
  let between := fun x => if n ≤ q then decide (n ≤ x) && decide (x < q) else decide (n ≤ x) || decide (x < q)
  ((s.qm.queues.map (·.1)).filter fun x =>
    decide (sliceOf x = slice) && decide (s.qEgress x = port) && decide (s.qClass x = cls) && !s.qReady x && between x).foldl
    (fun (t : State) x => t.setDeficit x 0) s

/-- The round goes on until a queue's head packet fits the deficits of both its queue and its class; none where neither
class has a packet. -/
def State.egressRound (s : State) (slice port : Nat) : Nat → EgressSt → Option Nat × State
  | 0, e => (none, s.setEgress slice port e)
  | fuel + 1, e =>
    let l := s.classQueues slice port e.cls
    if l = [] then
      if s.classQueues slice port (3 - e.cls) = [] then
        (none, s.setEgress slice port { e with def1 := 0, def2 := 0, added := false, qAdded := false })
      else s.egressRound slice port fuel (otherClass (setEgDef e 0))
    else
      let e1 := if e.added then e else { setEgDef e (egDef e + s.classWeight slice port e.cls) with added := true }
      match roundFrom l (egAt e1) with
      | none => (none, s.setEgress slice port e1)
      | some q =>
        let fresh := decide (q ≠ egAt e1) || !e1.qAdded
        let s0 := s.roundPass slice port e.cls (egAt e1) q
        let s1 := if fresh then s0.setDeficit q ((s0.queue q).deficit + s0.qQuantum q) else s0
        let e2 := { setEgAt e1 q with qAdded := true }
        let len := s1.headLen q
        if (s1.queue q).deficit < len then s1.egressRound slice port fuel { setEgAt e2 (q + 1) with qAdded := false }
        else if egDef e2 < len then s1.egressRound slice port fuel (otherClass e2)
        else (some q, s1.setEgress slice port { e2 with chosen := some q })

/-! ## What a port sends next (11 R327, R328) -/

/-- The queue's head descriptor is uncorrectable (11 R312): the queue stops as if en were cleared. -/
def State.descFail (s : State) (q : Nat) : State :=
  let s1 := ((s.setFlag F.QM_Q_CFG0_en false q).setQueue q { s.queue q with descStop := true }).raise Flt.QM_DESC_UNCORR [q]
  if s.flag F.QM_CT_STAT_committed q then (s1.setPrm q { s1.prmOf q with descBad := true }).prmRefresh else s1

/-- The consumer cause of a port's queues is written (13 R362). -/
def State.setConsumer (s : State) (q : Nat) (b : Bool) : State :=
  if s.flag F.QM_CT_STAT_committed q ∧ (s.prmOf q).consumer ≠ b then
    (s.setPrm q { s.prmOf q with consumer := b }).prmRefreshOne q
  else s

/-- A port starts the head packet of a queue; `bad` says that the descriptor read is uncorrectable. -/
def State.portStart (s : State) (slice port q : Nat) (bad : Bool) : State :=
  if bad then s.descFail q
  else
    let e := s.egress slice port
    let n := s.headLen q
    if s.qClass q = 0 then
      (s.setEgress slice port { e with busy := some q, entitled := e.entitled.erase q }).setConsumer q false
    else
      let s1 := s.setDeficit q ((s.queue q).deficit - n)
      s1.setEgress slice port { setEgDef e (egDef e - n) with busy := some q, chosen := none }

/-- A port whose previous packet has left chooses and starts its next one, if it can start now. -/
def State.portTry (s : State) (slice port : Nat) (bad : Bool) : State :=
  let e := s.egress slice port
  if e.busy.isSome then s
  else
    match e.entitled.find? s.qReady with
    | some q => if s.mayStart slice port q then s.portStart slice port q bad else s
    | none =>
      let kept := e.chosen.filter fun q => s.qReady q && decide (s.qEgress q = port)
      let r : Option Nat × State := match kept with
        | some q => (some q, s)
        | none => s.egressRound slice port (2 ^ 20) { e with chosen := none }
      match r.1 with
      | none => r.2
      | some q =>
        let fits : Bool := match r.2.nextSlot slice port s.time.ns with
          | none => true
          | some t => r.2.wireFits slice port (r.2.headLen q) s.time.ns t
        if r.2.mayStart slice port q && fits then r.2.portStart slice port q bad else r.2

/-- PORT_SLOT_START (11 R327): the slot in force starts; its queue gains an entitlement if it holds a committed packet
that none covers, and the port starts what it can. `dry` are the channels for which a network port holds no credit. -/
def State.slotStart (s : State) (slice port dry : Nat) (bad : Bool) : State :=
  let slot := s.time.ns / s.slotNs slice port % 64
  let s0 := s.setEgress slice port { s.egress slice port with dry := dry }
  match s0.calSlot slice port slot with
  | none => s0
  | some q =>
    let e := s0.egress slice port
    let covered := (e.entitled.filter fun x => decide (x = q)).length + (if e.busy = some q then 1 else 0)
    let s1 := if covered < (s0.queue q).pkts.length then s0.setEgress slice port { e with entitled := e.entitled ++ [q] } else s0
    let s2 := if (s1.egress slice port).entitled.contains q ∧ !s1.mayStart slice port q then s1.setConsumer q true else s1
    s2.portTry slice port bad

/-- PORT_SLOT_START (11 R327). -/
def execPortSlotStart (slice port dry : Nat) (descBad : Bool) (s : State) : Result := .next (s.slotStart slice port dry descBad)

end Sys2Proof.Machine
end

