-- ==== Sys2Proof/Machine/Queues.lean ====
section
/-! DEFINITION. Producing queue packets (11 R313 to R323) and admission (13 R356, R357). -/

namespace Sys2Proof.Machine

/-! ## Answers to producers (R321) -/

/-- A MAC as a producer. -/
def macProducer (mac : Nat) : Producer := { dev := 16, node := mac, port := 0 }

/-- An answer to a producer. A MAC takes none: it counts a frame refused or rewound (17 R451, 13 R357). -/
def State.tellProducer (s : State) (p : Producer) (tag q code : Nat) : State :=
  if p.dev = 16 then (if code = 0 then s else s.count F.ETH_MAC_CNT_rx_bad 1 p.node)
  else s.answer (s.producerKey p tag) (if code = 0 then 0 else 1) (leBytes 8 ((if code = 0 then 0 else 1) + code * 256 + q * 65536))

/-- A refusal (codes 1, 2, 7) or rewind (codes 3 to 6) is counted, recorded and answered. -/
def State.qReport (s : State) (p : Producer) (tag q code : Nat) : State :=
  let refusal := decide (code = 1) || decide (code = 2) || decide (code = 7)
  let s1 := s.count (if refusal then F.QM_Q_BAD_refused else F.QM_Q_BAD_rewound) 1 q
  let s2 := s1.raiseFirst Flt.QM_REWOUND (2 * sliceOf q + refusal.toNat) s1.ms [sliceOf q]
  s2.tellProducer p tag q code

/-! ## Space (R309, R311, R317) -/

/-- Queue words of a near ring that committed packets and the open one hold or have reserved. -/
def State.nearUsed (s : State) (q : Nat) : Nat :=
  s.qDepth q + ((s.queue q).opened.map fun o => max o.reserved (pktWords o.bytes)).getD 0

/-- Whether a packet of `len` bytes finds space: a reservation (classes 0 and 1). -/
def State.spaceFor (s : State) (q len : Nat) : Bool :=
  if s.qFar q then s.farRoom q (ceilDiv len 256)
  else decide (s.nearUsed q + pktWords len ≤ s.fld F.QM_Q_CFG2_near_words q)

/-- The open packet of a queue replaced. -/
def State.setOpen (s : State) (q : Nat) (o : Option OpenPkt) : State := s.setQueue q { s.queue q with opened := o }

/-! ## Admission (13 R356) -/

/-- The bucket of a queue's contract now, in 1/8000 byte. -/
def State.bucketNow (s : State) (q : Nat) : Nat :=
  let p := s.prmOf q
  min (s.fld F.QM_CT_BURST_burst q * 8000) (p.bucket + (s.time.ns - p.bucketAt) * s.fld F.QM_CT_RATE_rate q)

/-- Admission of a packet of `len` bytes, 0 for not known: whether it is admitted, and the bucket after it. -/
def State.admits (s : State) (q len : Nat) : Bool × State :=
  let cmax := s.fld F.QM_CT_PKT_c_max q
  let l := if len = 0 then cmax else len
  let charge := max l (s.fld F.QM_CT_PKT_c_unit q) * 8000
  let b := s.bucketNow q
  if s.flag F.QM_CT_STAT_committed q ∧ l ≤ cmax ∧ charge ≤ b then
    (true, s.setPrm q { s.prmOf q with bucket := b - charge, bucketAt := s.time.ns })
  else (false, s)

/-! ## Starting a packet (R317) -/

/-- The bytes that a start of packet of a queue reserves space for. -/
def State.startLen (s : State) (q pktLen : Nat) : Nat :=
  if pktLen ≠ 0 then pktLen else if s.qClass q = 0 then s.fld F.QM_CT_PKT_c_max q else s.qMax q

/-- The code of a refused start of packet, or none, and the state after admission. -/
def State.startCheck (s : State) (q pktLen : Nat) : Option Nat × State :=
  if !s.flag F.QM_Q_CFG0_en q ∨ s.qDescFree q = 0 then (some 2, s)
  else if s.qClass q = 2 then (none, s)
  else
    let r := if s.qClass q = 0 then s.admits q pktLen else (true, s)
    if !r.1 then (some 1, r.2)
    else if r.2.spaceFor q (r.2.startLen q pktLen) then (none, r.2)
    else (some 2, if s.qFar q then r.2.farNote (sliceOf q) else r.2)

/-- The open packet that a start of packet makes. -/
def State.openPkt (s : State) (q : Nat) (h : NocHead) (g : Segment) : OpenPkt :=
  let far := s.qFar q
  { prod := producerOf h, vc := h.vc, start := (s.queue q).write, pktLen := g.pktLen
    reserved := if s.qClass q = 2 then 0 else if far then ceilDiv (s.startLen q g.pktLen) 256 else pktWords (s.startLen q g.pktLen)
    bytes := 0, meta32 := g.meta32, ack := g.ack, tag := h.tag, arrival := if h.srcDev = 16 then g.arrival else s.time.ns % 2 ^ 32
    last := s.time.ns, cells := [], tail := [], closing := false, bound := (s.reg R.QM_Q_BOUND q).toNat, bound0 := s.time.ns }

/-! ## Rewinding (R318) -/

/-- The producer's further segments of its packet are discarded. -/
def State.dropRest (s : State) (q : Nat) (p : Producer) : State :=
  s.setQueue q { s.queue q with dropping := p :: (s.queue q).dropping.filter fun x => decide (x ≠ p) }

/-- The producer's packet has ended: nothing more of it is discarded. -/
def State.dropEnd (s : State) (q : Nat) (p : Producer) : State :=
  s.setQueue q { s.queue q with dropping := (s.queue q).dropping.filter fun x => decide (x ≠ p) }

/-- The open packet of a queue is rewound with a code; `more` says that segments of it are still to come. -/
def State.rewind (s : State) (q code : Nat) (more : Bool) : State :=
  match (s.queue q).opened with
  | none => s
  | some o =>
    let s1 := ((s.setOpen q none).freeCells (sliceOf q) o.cells).qReport o.prod o.tag q code
    let s2 := if more then s1.dropRest q o.prod else s1.dropEnd q o.prod
    if code = 4 ∧ s.qClass q = 0 then s2.prmEvent q else s2

/-! ## Writing (R309 to R311) -/

/-- The flits of a near packet written from a byte count on; the last word's unused bytes are 0. -/
def State.writeNear (s : State) (q : Nat) (o : OpenPkt) (data : List Byte) : State :=
  let base := o.start + o.bytes / 64
  ((dataUnits data).zipIdx.foldl (fun (t : State) x => t.nearWrite (sliceOf q) (t.ringWord q (base + x.2)) x.1) s)

/-- Cells of a far packet written as they fill, or at its end. A class-2 packet that finds no free cell answers false. -/
def State.writeFar (s : State) (q : Nat) (o : OpenPkt) (last : Bool) : Nat → Bool × OpenPkt × State
  | 0 => (true, o, s)
  | fuel + 1 =>
    if o.tail.length < 256 ∧ !(last ∧ o.tail ≠ []) then (true, o, s)
    else if o.reserved ≤ o.cells.length ∧ !s.farRoom q 1 then
      (false, o, s.farNote (sliceOf q))
    else
      let (c, s1) := s.takeCell (sliceOf q)
      let d := slice (o.tail.take 256) 0 256
      let s2 := s1.qmWrite q (s1.cellAddr (sliceOf q) c) d
      let s3 := match o.cells.getLast? with
        | none => s2
        | some p =>
          let (par, t) := s2.linkParity q p
          t.linkWrite q p c (par.getD 0)
      (s3.linkWrite q c 0 (cellParity d)).writeFar q { o with cells := o.cells ++ [c], tail := o.tail.drop 256 } last fuel

/-! ## Committing (R319) -/

/-- The open packet of a queue commits: its end descriptor is written, it counts and is seen by the scheduler.
`descBad` says that a descriptor its port then reads is uncorrectable. -/
def State.commitPkt (s : State) (q : Nat) (descBad : Bool) : State :=
  match (s.queue q).opened with
  | none => s
  | some o =>
    let before := s.qDepth q
    let x := s.queue q
    let p : QPkt :=
      { len := o.bytes, meta32 := o.meta32, arrival := o.arrival, cls := s.qClass q, far := s.qFar q
        loc := if s.qFar q then o.cells.headD 0 else s.ringWord q o.start, cells := o.cells, bound := o.bound, bound0 := o.bound0 }
    let s1 := s.setQueue q { x with opened := none, pkts := x.pkts ++ [p],
                                    write := (o.start + pktWords o.bytes) % max 1 (s.fld F.QM_Q_CFG2_near_words q) }
    let s2 := s1.count F.QM_Q_CNT_committed 1 q
    let s3 := if o.ack then s2.tellProducer o.prod o.tag q 0 else s2
    (s3.levelJudge q before (s3.fld F.QM_Q_CFG4_level q)).portTry (sliceOf q) (s3.qEgress q) descBad

/-! ## Segments (R315 to R320) -/

/-- The bytes of payload that a segment carries. -/
def segmentBytes (g : Segment) : List Byte :=
  let n := if g.eop ∧ g.lastBytes ≠ 0 ∧ g.payload ≠ [] then 64 * (g.payload.length - 1) + g.lastBytes else 64 * g.payload.length
  flitBytes g.payload n

/-- The byte limit of an open packet: max_pkt + 1, pkt_len where it is known, c_max for class 0 (R318, 13 R357). -/
def State.byteLimit (s : State) (q : Nat) (o : OpenPkt) : Nat :=
  let m := if o.pktLen = 0 then s.qMax q else min (s.qMax q) o.pktLen
  if s.qClass q = 0 then min m (s.fld F.QM_CT_PKT_c_max q) else m

/-- A segment of the open packet: its payload is written, and at eop the packet commits, or waits for its last far cell. -/
def State.segmentWrite (s : State) (q : Nat) (h : NocHead) (g : Segment) (descBad : Bool) : State :=
  match (s.queue q).opened with
  | none => s
  | some o0 =>
    let data := segmentBytes g
    let o := { o0 with last := s.time.ns, bound0 := s.time.ns, ack := o0.ack || g.ack, tag := h.tag }
    if h.poison then (s.setOpen q (some o)).rewind q 4 (!g.eop)
    else if s.byteLimit q o < o.bytes + data.length then (s.setOpen q (some o)).rewind q 5 (!g.eop)
    else if s.qFar q then
      let r := s.writeFar q { o with tail := o.tail ++ data, bytes := o.bytes + data.length } g.eop 65
      let s1 := r.2.2.setOpen q (some { r.2.1 with closing := g.eop })
      if r.1 then s1 else s1.rewind q 6 (!g.eop)
    else if o.reserved = 0 ∧ s.fld F.QM_Q_CFG2_near_words q < s.qDepth q + pktWords (o.bytes + data.length) then
      (s.setOpen q (some o)).rewind q 6 (!g.eop)
    else
      let s1 := (s.writeNear q o data).setOpen q (some { o with bytes := o.bytes + data.length })
      if g.eop then s1.commitPkt q descBad else s1

/-- A start of packet on a queue with none open (R315, R317). -/
def State.segmentStart (s : State) (q : Nat) (h : NocHead) (g : Segment) (descBad : Bool) : State :=
  let p := producerOf h
  let s0 := s.dropEnd q p
  if g.abort then s0.qReport p h.tag q 3
  else
    match s0.startCheck q g.pktLen with
    | (some code, s1) => (if g.eop then s1 else s1.dropRest q p).qReport p h.tag q code
    | (none, s1) => (s1.setOpen q (some (s1.openPkt q h g))).segmentWrite q h g descBad

/-- A segment discarded with code 7 (R320). -/
def State.protocol (s : State) (q : Nat) (h : NocHead) : State := (s.qReport (producerOf h) h.tag q 7).raise Flt.QM_PROTOCOL [q]

/-- One segment at a queue of its slice. -/
def State.segmentTake (s : State) (q : Nat) (h : NocHead) (g : Segment) (descBad : Bool) : State :=
  let p := producerOf h
  let x := s.queue q
  let waits := x.waiting.any fun w => decide (producerOf w.1 = p)
  match x.opened with
  | none =>
    if g.sop then s.segmentStart q h g descBad
    else if x.dropping.contains p then (if g.eop then s.dropEnd q p else s)
    else s.protocol q h
  | some o =>
    if o.prod = p ∧ !o.closing then
      let s0 := s.setOpen q (some { o with tag := h.tag })
      if h.vc ≠ o.vc then (s0.protocol q h).rewind q 3 (!g.eop)
      else if g.abort then s0.rewind q 3 false
      else if g.sop then (s0.rewind q 3 false).segmentStart q h g descBad
      else s.segmentWrite q h g descBad
    else if waits ∨ (g.sop ∧ !g.abort) then s.setQueue q { x with waiting := x.waiting ++ [(h, g)] }
    else if g.abort ∧ g.sop then s.qReport p h.tag q 3
    else if x.dropping.contains p then (if g.eop then s.dropEnd q p else s)
    else s.protocol q h

/-- A frame that has left its MAC's receive buffer (17 R452). -/
def State.leaveMac (s : State) (h : NocHead) (g : Segment) : State :=
  if h.srcDev = 16 then s.macDrop h.srcNode h.cls (segmentBytes g).length else s

/-- Segments that waited for the open packet's end are taken, as long as none is open (R316). -/
def State.takeWaiting (s : State) (q : Nat) : Nat → State
  | 0 => s
  | n + 1 =>
    match (s.queue q).waiting with
    | [] => s
    | (h, g) :: l =>
      let mine := ((s.queue q).opened.map fun o => decide (o.prod = producerOf h) && !o.closing).getD true
      if !mine then s
      else (((s.setQueue q { s.queue q with waiting := l }).leaveMac h g).segmentTake q h g false).takeWaiting q n

/-- A segment, then those that its packet's end lets in. -/
def State.segmentIn (s : State) (q : Nat) (h : NocHead) (g : Segment) (descBad : Bool) : State :=
  let s1 := s.segmentTake q h g descBad
  s1.takeWaiting q ((s1.queue q).waiting.length)

/-- A STREAM segment at a slice's port (R315, R320): a queue of another slice is a protocol error. -/
def State.streamArrive (s : State) (h : NocHead) (g : Segment) (descBad : Bool) : State :=
  if sliceOf g.queue ≠ (h.dstNode - 56) / 2 then s.protocol g.queue h else s.segmentIn g.queue h g descBad

/-- The queue of a class-0 packet demoted or discarded on its way suspends its promise (13 R362). -/
def State.routeEvent (s : State) (h : NocHead) (q : Nat) : State :=
  if h.vc = 0 ∧ s.qClass q = 0 then s.prmEvent q else s

/-! ## Timeouts and acknowledgements -/

/-- FAR_CELL_ACK (R319): the last cell of a far packet is acknowledged, and the packet commits. A write of it that waits
for re-encryption has no acknowledgement yet. -/
def State.farAck (s : State) (q : Nat) (descBad : Bool) : State :=
  match (s.queue q).opened with
  | none => s
  | some o =>
    if !o.closing ∨ s.mee.writes.any (fun w => decide (w.dst = cellKey q)) then s
    else
      let s1 := s.commitPkt q descBad
      s1.takeWaiting q ((s1.queue q).waiting.length)

/-- OPEN_TIMEOUT (R316). -/
def State.openTimeout (s : State) (q : Nat) : State :=
  match (s.queue q).opened with
  | none => s
  | some o =>
    if o.closing ∨ s.time.ns < o.last + max 1 (s.fld F.QM_CTRL_open_timeout_us) * 1000 then s
    else
      let s1 := (s.rewind q 3 true).raise Flt.QM_OPEN_TIMEOUT [q]
      s1.takeWaiting q ((s1.queue q).waiting.length)

/-! ## Enabling, disabling, flushing (R313, R314) -/

/-- Whether two ranges of numbers have one in common. -/
def spansMeet (a n b m : Nat) : Bool := decide (a < b + m) && decide (b < a + n)

/-- Whether a class-0 queue's network destination is one R313 allows: a stream port, a Graft port, the PCIe host port. -/
def State.class0Dest (s : State) (q : Nat) : Bool :=
  let node := s.fld F.QM_Q_CFG5_dst_node q
  let port := s.fld F.QM_Q_CFG5_dst_port q
  decide (s.fld F.QM_Q_CFG5_dst_dev q ≠ s.fld F.NOC_GROVE_devnum) || (decide (node < 48) && decide (port < 2))
    || (graftBundleAt node port).isSome || (decide (node = 57) && decide (port = 0))

/-- The check of an entry (R313): whether it fails. -/
def State.entryBad (s : State) (q : Nat) : Bool :=
  let words := s.fld F.QM_Q_CFG2_near_words q
  let base := s.fld F.QM_Q_CFG1_buf q
  let log := s.fld F.QM_Q_CFG3_desc_log q
  let dbase := s.fld F.QM_Q_CFG3_desc_base q
  let others := (s.csr.filterMap fun e =>
    if e.1 % 2 ^ 28 = R.QM_Q_CFG0 ∧ bit e.2.toNat 31 ∧ e.1 / 2 ^ 28 ≠ q ∧ sliceOf (e.1 / 2 ^ 28) = sliceOf q then some (e.1 / 2 ^ 28) else none)
  let far := s.qFar q
  decide (28 ≤ s.qEgress q)
    || (decide (s.qClass q = 0) && decide (24 ≤ s.qEgress q) && !s.class0Dest q)
    || (!far && (decide ((s.nearBanks (sliceOf q)).length * 2048 < base + words) || decide (words < pktWords (s.qMax q))))
    || (!far && others.any fun o => !s.qFar o && spansMeet base words (s.fld F.QM_Q_CFG1_buf o) (s.fld F.QM_Q_CFG2_near_words o))
    || (others.any fun o => spansMeet dbase (2 ^ log) (s.fld F.QM_Q_CFG3_desc_base o) (2 ^ s.fld F.QM_Q_CFG3_desc_log o))
    || decide (dbase % 2 ^ log ≠ 0) || decide (log < 2) || decide (13 < log)
    || (far && (decide (base = 0) || decide (s.fld F.QM_FAR_CELLS_cells (sliceOf q) = 0)))

/-- A write that sets en from 0 to 1, its other fields being in place (R313). -/
def State.queueEnable (s : State) (q : Nat) : State :=
  if s.entryBad q then (s.setFlag F.QM_Q_CFG0_en false q).raise Flt.QM_Q_CFG_INVALID [q]
  else s.setFlag F.QM_Q_CFG0_en true q

/-- The RWH fields of a queue's entry register written, where the queue is stopped. -/
def State.queueFields (s : State) (q : Nat) (value : Nat) : State :=
  s.setReg R.QM_Q_CFG0 (BitVec.ofNat 32 (putBit value 31 (s.flag F.QM_Q_CFG0_en q))) q

/-- Whether a write of the entry register would change a RWH field. -/
def State.queueChanges (s : State) (q : Nat) (value : Nat) : Bool :=
  decide (value % 2 ^ 31 ≠ (s.reg R.QM_Q_CFG0 q).toNat % 2 ^ 31)

/-- The flag and fault of an ignored write of QM (R332). -/
def State.qmIgnored (s : State) : State := (s.setFlag F.QM_STATUS_wr_ignored true).raise Flt.QM_WR_IGNORED

/-- A write of QM_Q_CFG0 (R313, R314): RWH fields change only on a stopped queue; en then takes effect, and clearing it on
a queue with a committed class-0 contract is ignored. -/
def State.queueWrite (s : State) (q value : Nat) : State :=
  let s1 := if !s.queueChanges q value then s else if s.qStopped q then s.queueFields q value else s.qmIgnored
  let en := s.flag F.QM_Q_CFG0_en q
  if bit value 31 ∧ !en then s1.queueEnable q
  else if !bit value 31 ∧ en then
    (if s.flag F.QM_CT_STAT_committed q then s1.qmIgnored else s1.setFlag F.QM_Q_CFG0_en false q)
  else s1

/-- FLUSH (R314): every committed packet of a disabled queue but the one being sent is discarded. -/
def State.queueFlush (s : State) (q : Nat) : State :=
  if s.flag F.QM_Q_CFG0_en q then s.raise Flt.QM_CMD_REFUSED [q]
  else
    let x := s.queue q
    let e := s.egress (sliceOf q) (s.qEgress q)
    let keep := if e.busy = some q then x.pkts.take 1 else []
    let gone := x.pkts.drop keep.length
    let before := s.qDepth q
    let s1 := (s.setQueue q { x with pkts := keep, descStop := false }).freeCells (sliceOf q) (gone.flatMap QPkt.cells)
    let s2 := s1.setEgress (sliceOf q) (s.qEgress q)
      { e with entitled := e.entitled.filter fun y => decide (y ≠ q), chosen := e.chosen.filter fun y => decide (y ≠ q) }
    (((s2.count F.QM_Q_BAD_flushed gone.length q).levelJudge q before (s.fld F.QM_Q_CFG4_level q)).freeReserve q).portTry (sliceOf q) (s.qEgress q) false

/-- Whether a slice's far registers count as stopped (R330): none of its far queues is enabled. -/
def State.farStopped (s : State) (slice : Nat) : Bool :=
  s.csr.all fun e => !(decide (e.1 % 2 ^ 28 = R.QM_Q_CFG0) && bit e.2.toNat 31 && bit e.2.toNat 30
    && decide (sliceOf (e.1 / 2 ^ 28) = slice))

/-- A write of QM_FAR_CELLS (R330). The free list starts anew with the cells owned. -/
def State.farCellsWrite (s : State) (slice n : Nat) : State :=
  let others := (((List.range 4).filter fun x => decide (x ≠ slice)).map fun x => s.fld F.QM_FAR_CELLS_cells x).sum
  if s.fld F.QM_FAR_CELLS_cells slice = n % 2 ^ 29 then s
  else if !s.farStopped slice then (s.setFlag F.QM_STATUS_wr_ignored true).raise Flt.QM_WR_IGNORED
  else if 402653184 < others + n % 2 ^ 29 then s.raise Flt.QM_FAR_LIMIT [slice]
  else
    let s1 := s.setFld F.QM_FAR_CELLS_cells n slice
    { s1 with qm := { s1.qm with nextCell := SMap.set 0 s1.qm.nextCell slice 0, freed := SMap.set [] s1.qm.freed slice [] } }

/-! ## The sector stream port, sending (R322) -/

/-- The segment a stream port has gathered, as a packet. -/
def State.spSegment (s : State) (sector : Nat) (t : SpOpen) : NocPacket :=
  { head := s.spHead sector t (1 + t.words.length) false
    op := .stream { queue := t.queue, sop := !t.begun, eop := t.eop, abort := t.abort, ack := t.ack, pktLen := t.len,
                    lastBytes := t.lastBytes, meta32 := t.meta32, arrival := 0, payload := t.words } }

/-- A gathered segment is injected; the packet stays open until eop or abort. -/
def State.spInject (s : State) (sector : Nat) (t : SpOpen) : State :=
  let next := if t.eop ∨ t.abort then none else some { t with begun := true, flits := t.flits + t.words.length, words := [] }
  (s.setSp sector { s.spOf sector with tx := next }).emit (.noc (s.spSegment sector t))

/-- SP_SEGMENT_INJECT (R322): the segment has 64 flits, or eop or abort has come. A held island issues nothing. -/
def execSpSegmentInject (sector : Nat) (s : State) : Result :=
  match (s.spOf sector).tx with
  | none => .next s
  | some t => .next (if (t.words.length = 64 ∨ t.eop ∨ t.abort) ∧ !s.held (islandOf sector) then s.spInject sector t else s)

/-- SP_IDLE_TIMEOUT (R322): sp_tx_valid has been 0 for 16 cycles with the packet open. -/
def execSpIdleTimeout (sector : Nat) (s : State) : Result :=
  match (s.spOf sector).tx with
  | none => .next s
  | some t => .next (if t.words ≠ [] ∧ !s.held (islandOf sector) then s.spInject sector t else s)

/-! ## Commands -/

/-- FAR_CELL_ACK (R319). -/
def execFarCellAck (q : Nat) (descBad : Bool) (s : State) : Result := .next (s.farAck q descBad)

/-- OPEN_TIMEOUT (R316). -/
def execOpenTimeout (q : Nat) (s : State) : Result := .next (s.openTimeout q)

/-- QUEUE_ENABLE (R313): a write of QM_Q_CFG0 with en 1 to a queue. -/
def execQueueEnable (q : Nat) (value : Word) (s : State) : Result := .next (s.queueWrite q (putBit value.toNat 31 true))

/-- QUEUE_DISABLE (R314): a write of QM_Q_CFG0 with en 0 to a queue. -/
def execQueueDisable (q : Nat) (value : Word) (s : State) : Result := .next (s.queueWrite q (putBit value.toNat 31 false))

/-- QUEUE_FLUSH (R314). -/
def execQueueFlush (q : Nat) (s : State) : Result := .next (s.queueFlush q)

/-- FAR_CELLS_WRITE (R330). -/
def execFarCellsWrite (slice n : Nat) (s : State) : Result := .next (s.farCellsWrite slice n)

end Sys2Proof.Machine
end

