-- ==== Sys2Proof/Machine/Deliver.lean ====
section
/-! DEFINITION. Delivering queue packets (11 R324, R325) and judging their delivery (13 R358, R364); frames received
(11 R323, 12 R347, 17 R451, R452). -/

namespace Sys2Proof.Machine

/-! ## Reading a packet (R325) -/

/-- The words of a packet's cell, each with whether it is bad. -/
def State.cellWords (s : State) (q c : Nat) : List (BitVec 512 × Bool) × State :=
  let r := s.dramRead 5 (s.cellAddr (sliceOf q) c) 256
  let k := r.2.2.linkParity q c
  let good := fun i => match k.1 with
    | none => false
    | some p => decide (bits p (8 * i + 7) (8 * i) = laneParity (fieldAt r.2.1 (64 * i) 64))
  ((List.range 4).map fun i => (BitVec.ofNat 512 (fieldAt r.2.1 (64 * i) 64), decide (r.1 ≠ 0) || !good i), k.2)

/-- The queue words of a packet, each with whether it is bad. -/
def State.packetWords (s : State) (q : Nat) (p : QPkt) : List (BitVec 512 × Bool) × State :=
  let n := pktWords p.len
  if p.far then
    let r := p.cells.foldl (fun (a : List (BitVec 512 × Bool) × State) c =>
      ((a.1 ++ (a.2.cellWords q c).1), (a.2.cellWords q c).2)) ([], s)
    (r.1.take n, r.2)
  else
    let base := s.fld F.QM_Q_CFG1_buf q
    let ring := max 1 (s.fld F.QM_Q_CFG2_near_words q)
    (List.range n).foldl (fun (a : List (BitVec 512 × Bool) × State) i =>
      let x := a.2.nearRead (sliceOf q) (base + (p.loc - base + i) % ring)
      (a.1 ++ [(x.1, x.2.1)], x.2.2)) ([], s)

/-- Bad words of a delivered packet are counted and recorded. -/
def State.notePoison (s : State) (q n : Nat) : State :=
  if n = 0 then s
  else ((s.count F.QM_Q_BAD_poisoned n q).setFlag F.QM_STATUS_poison_any true).raiseFirst Flt.QM_POISON_READ (sliceOf q) s.ms [q]

/-! ## Where a packet goes (R324) -/

/-- The delivered packet as a STREAM packet. -/
def State.deliveredHead (s : State) (q : Nat) (words : List (BitVec 512 × Bool)) : NocHead :=
  { srcDev := s.fld F.NOC_GROVE_devnum, srcNode := 56 + 2 * sliceOf q, srcPort := s.qEgress q - 24, entry := 56 + 2 * sliceOf q,
    dstDev := s.fld F.QM_Q_CFG5_dst_dev q, dstNode := s.fld F.QM_Q_CFG5_dst_node q, dstPort := s.fld F.QM_Q_CFG5_dst_port q,
    vc := s.qVc q, tag := 0, poison := words.any (·.2), cls := s.qClass q, flits := 1 + words.length, badHead := none, badFlit := none }

/-- Its descriptor. -/
def deliveredSegment (q : Nat) (p : QPkt) (words : List (BitVec 512 × Bool)) : Segment :=
  { queue := q, sop := true, eop := true, abort := false, ack := false, pktLen := p.len, lastBytes := p.len % 64,
    meta32 := p.meta32, arrival := p.arrival, payload := words.map (·.1) }

/-- The words as a sector's stream port presents them (R322, R325): a bad word is marked, and the end of its packet. -/
def spWords (q : Nat) (p : QPkt) (words : List (BitVec 512 × Bool)) (poison : Bool) : List SpWord :=
  let last := words.length - 1
  words.zipIdx.map fun w =>
    { data := w.1.1, sop := decide (w.2 = 0), eop := decide (w.2 = last)
      poison := w.1.2 || (decide (w.2 = last) && poison), queue := q, len := p.len, cls := p.cls, meta32 := p.meta32 }

/-- The host ring that takes a queue's packets: enabled, to host (17 R443). -/
def State.ringOf (s : State) (q : Nat) (dir : Nat) : Option Nat :=
  (List.range 256).find? fun r =>
    s.flag F.PCI_RING_CFG_en r && decide (s.fld F.PCI_RING_CFG_dir r = dir) && decide (s.fld F.PCI_RING_CFG_queue r = q)

/-- A host ring beside its registers. -/
def State.ring (s : State) (r : Nat) : RingSt := SMap.get {} s.pci.rings r

/-- That part replaced. -/
def State.setRing (s : State) (r : Nat) (x : RingSt) : State := { s with pci := { s.pci with rings := SMap.set {} s.pci.rings r x } }

/-- A packet at a local port of this device. -/
def State.deliverLocal (s : State) (q : Nat) (p : QPkt) (h : NocHead) (words : List (BitVec 512 × Bool)) : State :=
  let data := flitBytes (words.map (·.1)) p.len
  let pk : NocPacket := ⟨h, .stream (deliveredSegment q p words)⟩
  if s.sinks h.dstNode h.dstPort then s.sinkPosted
  else if s.asleep h.dstNode then s.holdHead pk
  else if h.dstNode < 48 ∧ h.dstPort < 2 then
    let k := h.dstNode + 48 * h.dstPort
    s.setSp k { s.spOf k with rx := (s.spOf k).rx ++ spWords q p words h.poison }
  else if h.dstNode = 57 ∧ h.dstPort = 0 then
    match s.ringOf q 0 with
    | none => s
    | some r =>
      let x : HostPkt := { queue := q, data := data, meta32 := p.meta32, arrival := p.arrival, cls := p.cls, poison := h.poison }
      s.setRing r { s.ring r with waiting := (s.ring r).waiting ++ [x] }
  else
    match graftBundleAt h.dstNode h.dstPort with
    | some b => if s.flag (F.LN_CTRL_mode.win b) ∧ s.grState b ≠ 7 then s.graftSend b pk else s.sinkPosted
    | none => s.emit (.noc pk)

/-- A packet on a network egress port (R324): over the network to its destination, or to its Graft port. -/
def State.deliverNet (s : State) (q : Nat) (p : QPkt) (words : List (BitVec 512 × Bool)) : State :=
  let h0 := s.deliveredHead q words
  if h0.dstDev = s.fld F.NOC_GROVE_devnum then
    match s.nocTravel h0 with
    | (none, s1) => s1
    | (some h, s1) => (if h.vc ≠ h0.vc then s1.routeEvent h0 q else s1).deliverLocal q p h words
  else
    let pk : NocPacket := ⟨h0, .stream (deliveredSegment q p words)⟩
    let lost := (s.raise Flt.NOC_UNROUTABLE [h0.srcNode]).sinkPosted
    match s.groveBundle h0.dstDev with
    | none => lost
    | some b =>
      let s1 := if h0.vc = 0 ∧ !s.groveVc0 h0.dstDev b then s.routeEvent h0 q else s
      (s1.groveSend pk).getD lost

/-! ## Judging a delivery (13 R358, R364) -/

/-- The end of a delivery's bound in ns: for a network egress, the tail's way to its port is added. -/
def State.deliveryEnd (s : State) (q : Nat) : Nat :=
  if s.qEgress q < 24 then s.time.ns
  else
    let node := if s.fld F.QM_Q_CFG5_dst_dev q = s.fld F.NOC_GROVE_devnum then s.fld F.QM_Q_CFG5_dst_node q
      else ((s.groveBundle (s.fld F.QM_Q_CFG5_dst_dev q)).map fun b => (graftNode b).1).getD 0
    s.time.ns + ceilDiv (3 * (nocLinks (56 + 2 * sliceOf q) node + 1)) 2

/-- A class-0 delivery judged: late, late and covered, or the worst so far. -/
def State.judge (s : State) (q : Nat) (p : QPkt) : State :=
  if p.cls ≠ 0 then s
  else
    let took := s.deliveryEnd q - p.bound0
    let pr := s.prmOf q
    let covered := s.flag F.QM_PROMISE_STATUS_susp q || (decide (pr.fellAt ≠ 0) && decide (p.bound0 ≤ pr.fellAt))
    let s1 := if covered then s else s.setFld F.QM_Q_WORST_ns (max (s.fld F.QM_Q_WORST_ns q) (min took (2 ^ 32 - 1))) q
    if took ≤ p.bound then s1
    else if covered then (s1.count F.QM_Q_LATE_late_susp 1 q).raiseFirst Flt.PRM_LATE_SUSP (sliceOf q) s1.ms [sliceOf q]
    else (s1.count F.QM_Q_LATE_late 1 q).raise Flt.PRM_LATE [q]

/-! ## PORT_PACKET_DONE (R328) -/

/-- Whether a packet can leave: a stream port holds 256 flits (R322); the host port takes packets for an enabled ring. -/
def State.hasRoom (s : State) (q : Nat) (p : QPkt) : Bool :=
  let node := s.fld F.QM_Q_CFG5_dst_node q
  let host := decide (node = 57) && decide (s.fld F.QM_Q_CFG5_dst_port q = 0)
  let k := node + 48 * s.fld F.QM_Q_CFG5_dst_port q
  decide (s.qEgress q < 24) || decide (s.fld F.QM_Q_CFG5_dst_dev q ≠ s.fld F.NOC_GROVE_devnum) 
    || (decide (48 ≤ node) && (!host || (s.ringOf q 0).isSome)) || (decide (node < 48) && decide (2 ≤ s.fld F.QM_Q_CFG5_dst_port q))
    || (decide (node < 48) && s.held node) || (decide (node < 48) && decide ((s.spOf k).rx.length + pktWords p.len ≤ 256))

/-- The head packet of a queue has left its port: delivered, judged, and its space free. -/
def State.deliver (s : State) (q : Nat) (p : QPkt) : State :=
  let r := s.packetWords q p
  let s1 := r.2.notePoison q (r.1.filter (·.2)).length
  let s2 :=
    if s.qEgress q < 24 then
      s1.macTransmit (macOfPort (sliceOf q) (s.qEgress q)) (flitBytes (r.1.map (·.1)) p.len) p.meta32 (r.1.any (·.2))
    else s1.deliverNet q p r.1
  let before := s2.qDepth q
  let s3 := ((s2.judge q p).setQueue q { s2.queue q with pkts := (s2.queue q).pkts.drop 1 }).freeCells (sliceOf q) p.cells
  (s3.levelJudge q before (s3.fld F.QM_Q_CFG4_level q)).freeReserve q

/-- PORT_PACKET_DONE (R328): the packet being sent has left; the port chooses and starts its next. -/
def State.packetDone (s : State) (slice port dry : Nat) (bad : Bool) : State :=
  let s0 := s.setEgress slice port { s.egress slice port with dry := dry }
  match (s0.egress slice port).busy with
  | none => s0.portTry slice port bad
  | some q =>
    match (s0.queue q).pkts with
    | [] => (s0.setEgress slice port { s0.egress slice port with busy := none }).portTry slice port bad
    | p :: _ =>
      if !s0.hasRoom q p then s0
      else
        let s1 := s0.deliver q p
        let s2 := s1.setEgress slice port { s1.egress slice port with busy := none }
        ((s2.egress slice port).entitled.foldl (fun (t : State) x => t.setConsumer x (!t.mayStart slice port x)) s2).portTry slice port bad

/-- PORT_PACKET_DONE (R328). -/
def execPortPacketDone (slice port dry : Nat) (descBad : Bool) (s : State) : Result := .next (s.packetDone slice port dry descBad)

/-! ## Frames received (R323; 12 R347; 17 R451) -/

/-- The key that the classifier of a MAC builds from a frame (12 R347), at most 40 bytes. -/
def State.frameKey (s : State) (mac : Nat) (frame : List Byte) : List Byte :=
  let pr := bits (s.reg (R.FS_PORT_PROF + 4 * (mac / 8))).toNat (3 * (mac % 8) + 2) (3 * (mac % 8))
  let f := fun (x : FieldRef) => s.fld (x.nth pr)
  let lead := if f F.FS_PROFILE_port_byte = 1 then [BitVec.ofNat 8 (mac % 24)] else []
  (lead ++ slice frame (f F.FS_PROFILE_off0) (min 40 (f F.FS_PROFILE_len0)) ++ slice frame (f F.FS_PROFILE_off1) (min 40 (f F.FS_PROFILE_len1))).take 40

/-- The queue a frame goes to: that of its flow, or the port's default queue; none where it is discarded. -/
def State.classify (s : State) (mac : Nat) (frame : List Byte) : Option Nat × State :=
  let inst := portInst (mac / 24) (mac % 24)
  let key := s.frameKey mac frame
  let pr := bits (s.reg (R.FS_PORT_PROF + 4 * (mac / 8))).toNat (3 * (mac % 8) + 2) (3 * (mac % 8))
  let dflt := s.flag F.QM_PORT_CFG_dflt_en inst
  let dq := s.fld F.QM_PORT_CFG_dflt_q inst
  let miss := if dflt then some dq else none
  if key = [] then (miss, s)
  else
    let q : FlowReq :=
      { key := BitVec.ofNat 320 (leNat key), keyLen := key.length, ret := false, count := true, touch := true
        learn := s.flag (F.FS_PROFILE_learn.nth pr) && dflt, target := 0, countBytes := frame.length, queue := dq, eflags := 0
        opa := 0, opb := 0, user := none, long := false, reservedOp := false }
    let r := s.flowOp 0 q
    if r.1.status = 0 ∧ (r.1.result = 0 ∨ r.1.result = 7) then (some (entryQueue r.1.entry), r.2) else (miss, r.2)

/-- A frame enters its queue as one segment, or waits in the MAC's receive buffer behind the open packet. -/
def State.frameEnter (s : State) (mac q : Nat) (frame : List Byte) (badFcs : Bool) (descBad : Bool) : State :=
  let seg : Segment :=
    { queue := q, sop := true, eop := true, abort := false, ack := false, pktLen := 0, lastBytes := frame.length % 64, meta32 := 0,
      arrival := s.stamp (s.fld F.ETH_TS_ADJ_rx_ps mac) % 2 ^ 32, payload := dataUnits frame }
  let pri := framePriority frame
  let p := macProducer mac
  let h : NocHead :=
    { srcDev := p.dev, srcNode := p.node, srcPort := p.port, entry := 56 + 2 * (mac / 24), dstDev := s.fld F.NOC_GROVE_devnum,
      dstNode := 56 + 2 * sliceOf q, dstPort := 0, vc := 0, tag := 0, poison := false, cls := pri, flits := 1 + seg.payload.length,
      badHead := none, badFlit := none }
  if sliceOf q ≠ mac / 24 then
    s.emit (.noc ⟨{ h with srcDev := s.fld F.NOC_GROVE_devnum, srcNode := 56 + 2 * (mac / 24), vc := 1, cls := 0 },
      .stream { seg with abort := badFcs }⟩)
  else if badFcs then
    match s.startCheck q 0 with
    | (some code, s1) => s1.qReport p 0 q code
    | (none, s1) => s1.qReport p 0 q 3
  else
    let s1 := s.segmentIn q h seg descBad
    if (s1.queue q).waiting.any (fun w => decide (w.1 = h) && decide (w.2 = seg)) then s1.macHold mac pri frame.length else s1

/-- A frame received by a MAC, FCS included (17 R451): too short or too long is discarded and counted. -/
def State.frameReceive (s : State) (mac : Nat) (data : List Byte) (descBad : Bool) : State :=
  if !s.flag F.ETH_MAC_CFG_en mac ∨ !s.flag F.ETH_MAC_STAT_link_up mac then s
  else if data.length < 64 ∨ max 63 (s.fld F.ETH_MAC_CFG_max_frame mac) + 1 < data.length then s.count F.ETH_MAC_CNT_rx_bad 1 mac
  else
    let frame := data.take (data.length - 4)
    let bad := decide (leNat (data.drop (data.length - 4)) ≠ crc32 frame)
    match s.classify mac frame with
    | (none, s1) => s1.count F.ETH_MAC_CNT_rx_bad 1 mac
    | (some q, s1) => s1.frameEnter mac q frame bad descBad

/-- FEC codewords of a received frame that were corrected or uncorrectable (17 R451). -/
def State.fecNote (s : State) (mac corrected uncorr : Nat) : State :=
  let s1 := (s.count F.ETH_FEC_CNT_corrected corrected mac).count F.ETH_FEC_CNT_uncorr uncorr mac
  if uncorr = 0 then s1 else s1.raiseFirst Flt.ETH_FEC_UNCORR mac s1.ms

/-- FRAME_RECEIVE (R323): a frame with its FCS, and the FEC codewords corrected and uncorrectable in it. -/
def execFrameReceive (mac : Nat) (data : List Byte) (fecCorrected fecUncorr : Nat) (descBad : Bool) (s : State) : Result :=
  .next ((s.fecNote mac fecCorrected fecUncorr).frameReceive mac data descBad)

end Sys2Proof.Machine
end

