-- ==== Sys2Proof/Machine/Graft.lean ====
section
/-! DEFINITION. The Graft link (16 R421 to R431): capability, receiving, replay, latency and hop bound, grove time. -/

namespace Sys2Proof.Machine

/-! ## Capability (R424, R425) -/

/-- GRAFT_CAPABILITY: the partner's word settles version, rate and channels, or fails the link. -/
def State.graftCap (s : State) (b cap : Nat) : State :=
  if s.grState b ≠ 2 then s
  else
    let own := s.graftCapWord b
    let ver := min (bits own 55 52) (bits cap 55 52)
    let rate := min (bits own 47 45) (graftRate (bits cap 47 45))
    let vcs := bits own 40 37 &&& bits cap 40 37
    let s1 := (s.setPair R.GR_PEER_CAP_LO R.GR_PEER_CAP_HI cap b).setFld F.GR_LINK_peer_dev (bits cap 36 33) b
    let s2 := s1.setGr b { s1.grOf b with peer := some cap }
    if bits cap 63 56 ≠ 0x47 ∨ bits cap 44 41 ≠ 8 ∨ rate = 0 ∨ bits vcs 2 1 ≠ 3 then
      ((s2.setFld F.GR_LINK_state 7 b).raise Flt.GR_CAP_MISMATCH [b]).prmRefresh
    else if ver < max (bits own 51 48) (bits cap 51 48) then
      ((s2.setFld F.GR_LINK_state 7 b).raise Flt.GR_VERSION [b]).prmRefresh
    else
      let vcs2 := if ver < 2 ∨ !bit own 16 ∨ !bit cap 16 then vcs &&& 14 else vcs
      let s3 := (s2.setFld F.GR_LINK_ver ver b).setFld F.GR_LINK_vcs vcs2 b
      if rate = (s3.grOf b).rate then s3.setFld F.GR_LINK_state 4 b
      else
        let s4 := (s3.setGr b { s3.grOf b with rate := rate }).setFld F.GR_LINK_state 3 b
        (s4.lnReset b).setFld (F.LN_CTRL_rate.win b) rate

/-! ## Latency and hop bound (R429, R430) -/

/-- A Graft rate in units of 10 kb/s. -/
def graftBps (rate : Nat) : Nat := if rate = 1 then 2578125 else if rate = 3 then 5312500 else if rate = 5 then 10625000 else 11200000

/-- The wire flit time in ns is 8,800,000 over the rate in those units: 704 / (8 × lane rate) (R421). -/
def flitNum : Nat := 8800000

/-- W in half ns: the longest time from the start of a slot to the end of the n-th valid slot that starts after it. -/
def hopWait (valid : Nat) (n cycles : Nat) : Nat :=
  let reach := fun (t : Nat) => ((List.range (64 * n + 1)).filter fun i => decide (0 < i) && bit valid ((t + i) % 64))[n - 1]?.getD 0
  ((List.range 64).map fun t => reach t + 1).foldl max 0 * cycles

/-- GR_HOP_BOUND (R429); 0 for a link with no valid slot. -/
def State.hopBound (s : State) (b : Nat) : Nat :=
  let valid := s.pair R.GR_CAL_LO R.GR_CAL_HI b
  let rate := (s.grOf b).rate
  let r := graftBps rate
  if valid = 0 then 0
  else
    let w := hopWait valid (max 1 (s.fld F.GR_VC0_MAX_flits b)) (slotCycles rate)
    ceilDiv (w * 8 * r + 3 * s.fld F.GR_LAT_lat b * r + 32 * flitNum) (16 * r)

/-- The measured latency plus the flit time, in 1/16 ns rounded up; times in ps. -/
def State.measured (s : State) (b : Nat) (t1 t2 t3 t4 : Nat) : Nat :=
  let r := graftBps (s.grOf b).rate
  let twice := (((t4 : Int) - t1) - ((t3 : Int) - t2) + signed 16 (s.fld F.GR_ASYM_ps b)).toNat
  ceilDiv (16 * (twice * r + 2 * flitNum * 1000)) (2 * 1000 * r)

/-- The virtual channels a link carries, each granted 256 credits (R423). -/
def State.grantCredits (s : State) (b : Nat) : State :=
  let g := s.grOf b
  s.setGr b { g with credits := (onesOf 4 (s.fld F.GR_LINK_vcs b)).foldl (fun m v => SMap.set 0 m v 256) [] }

/-- LATENCY_MEASURE (R423, R430): the times of an ECHO and its answer. At the measurement step the figure is taken, the hop
bound computed and the link becomes active; on an active link a figure above GR_LAT starts a retrain. -/
def State.latency (s : State) (b t1 t2 t3 t4 : Nat) : State :=
  let m := s.measured b t1 t2 t3 t4
  if s.grState b = 4 then
    let s1 := s.setFld F.GR_LAT_lat m b
    let s2 := s1.setFld F.GR_HOP_BOUND_ns (s1.hopBound b) b
    let s3 := if (s2.grOf b).wasActive then s2 else s2.grantCredits b
    let s4 := (s3.setGr b { s3.grOf b with wasActive := true, lastTime := s3.time.ns }).setFld F.GR_LINK_state 5 b
    (s4.prmRefresh).grSend b (s4.grOf b).waiting.length
  else if s.grState b = 5 ∧ s.fld F.GR_LAT_lat b < m then s.graftRetrain b
  else s

/-- ECHO (R430): an ECHO with the sender's time is answered with the times it was received and answered, in ps. -/
def State.echo (s : State) (b t1 : Nat) : State :=
  let now := s.time.ns * 1000
  if s.grState b = 4 ∨ s.grState b = 5 then
    s.grEmit b 2 0 (BitVec.ofNat 512 (t1 % 2 ^ 64 + now % 2 ^ 64 * 2 ^ 64 + now % 2 ^ 64 * 2 ^ 128)) 0
  else s

/-! ## Replay (R426) -/

/-- Every unacknowledged flit is sent again, oldest first; one that would be sent a third time starts a retrain. -/
def State.grReplay (s : State) (b : Nat) : State :=
  let g := s.grOf b
  if g.replay = [] then s
  else
    let s1 := s.count F.GR_REPLAY_replays 1 b
    if g.replay.any fun f => decide (2 ≤ f.sends) then s1.graftRetrain b
    else
      let s2 := s1.setGr b { g with replay := g.replay.map fun f => { f with sends := f.sends + 1 } }
      g.replay.foldl (fun (t : State) f => t.grEmit b 1 f.seq f.data f.side) s2

/-- Flits acknowledged up to a sequence number leave the replay buffer, if it names one of them. -/
def ackReplay (l : List GrSent) (ack : Nat) : List GrSent :=
  if l.any (fun f => decide (f.seq = ack)) then (l.dropWhile fun f => decide (f.seq ≠ ack)).drop 1 else l

/-! ## Receiving (R421, R422, R426) -/

/-- A flit that is bad or out of sequence is discarded; the first one asks for a replay. -/
def State.grNak (s : State) (b : Nat) : State :=
  if (s.grOf b).nak then s
  else (s.setGr b { s.grOf b with nak := true }).grEmit b 0 0 0 0

/-- A data flit delivered in sequence: it joins its packet, which enters the network whole at its tail. -/
def State.grDeliver (s : State) (b : Nat) (f : BitVec 512 × BitVec 64) : State :=
  let v := flitVc f.2
  let g := s.grOf b
  let l := SMap.get [] g.partials v ++ [f]
  let c := s.grVc b v
  let g1 := { g with owed := SMap.set 0 g.owed c (SMap.get 0 g.owed c + 1) }
  if 2 ≤ bits f.2.toNat 63 62 then
    let s1 := s.setGr b { g1 with partials := SMap.set [] g.partials v [] }
    match packetOf (graftNode b).1 l with
    | some p => s1.emit (.noc p)
    | none => ((s1.count F.NOC_RTR_ERR_head_crc 1 (graftNode b).1).setFlag F.NOC_STATUS_crc_any true).raise Flt.NOC_HEAD_CRC [(graftNode b).1]
  else s.setGr b { g1 with partials := SMap.set [] g.partials v l }

/-- What a good flit's control field says: acknowledged flits, credits, a replay request (R422). -/
def State.grControl (s : State) (b ctl : Nat) : State :=
  let g := s.grOf b
  let v := bits ctl 10 9
  let s1 := s.setGr b { g with
    replay := ackReplay g.replay (bits ctl 20 12)
    credits := SMap.set 0 g.credits v (SMap.get 0 g.credits v + bits ctl 8 3) }
  if bit ctl 11 then s1.grReplay b else s1

/-- A good wire flit. -/
def State.grGood (s : State) (b : Nat) (d : List Byte) (misaligned : Bool) : State :=
  let ctl := fieldAt d 72 4
  let s1 := s.grControl b ctl
  let kind := bits ctl 31 30
  let g := s1.grOf b
  let s2 :=
    if kind = 1 then
      let seq := bits ctl 29 21
      if seq = (g.ack + 1) % 512 then
        (s1.setGr b { g with ack := seq, nak := false }).grDeliver b (BitVec.ofNat 512 (fieldAt d 0 64), BitVec.ofNat 64 (fieldAt d 64 8))
      else if (g.ack + 512 - seq) % 512 < 256 then s1
      else s1.grNak b
    else if kind = 3 ∧ misaligned then s1.graftRetrain b
    else s1
  let waiting := (s2.grOf b).waiting.length
  if waiting = 0 then (if kind = 1 ∧ s2.grActive b then s2.grEmit b 0 0 0 0 else s2) else s2.grSend b waiting

/-- GRAFT_FLIT_RECEIVE (R426): a wire flit of 88 bytes is decoded; a bad one is discarded. `misaligned` says what the
receiver's lane alignment check finds on an ALIGN flit. -/
def State.grReceive (s : State) (b : Nat) (wire : List Byte) (misaligned : Bool) : State :=
  if s.grState b ≠ 5 then s
  else
    match rsDecode ((slice wire 0 88).map BitVec.toNat) with
    | none => ((s.count F.GR_FEC_uncorr 1 b).count F.GR_REPLAY_crc_fail 1 b).grNak b
    | some (l, n) =>
      let s1 := if n = 0 then s else s.count F.GR_FEC_corrected 1 b
      let d := l.map (BitVec.ofNat 8)
      if fieldAt d 76 4 ≠ crc32c (d.take 76) then (s1.count F.GR_REPLAY_crc_fail 1 b).grNak b
      else s1.grGood b d misaligned

/-! ## Grove time (R431) -/

/-- Whether grove time runs on a bundle: version 2, and grove time at both ends. -/
def State.groveTime (s : State) (b : Nat) : Bool :=
  s.grActive b && decide (s.fld F.GR_LINK_ver b = 2) && ((s.grOf b).peer.map fun c => bit c 17).getD false

/-- The role of a bundle: 3 is 0. -/
def State.timeRole (s : State) (b : Nat) : Nat := s.fld F.GR_CTRL_time_role b % 3

/-- The receiving bundle that device time uses: the lowest of those active. -/
def State.timeBundle (s : State) : Option Nat := (List.range 12).find? fun b => s.groveTime b && decide (s.timeRole b = 2)

/-- TIME_SEND: the sender's device time in ns. -/
def State.timeSend (s : State) (b : Nat) : State :=
  if s.groveTime b ∧ s.timeRole b = 1 then s.grEmit b 2 0 (BitVec.ofNat 512 (s.time.ns % 2 ^ 64)) 0 else s

/-- TIME_RECEIVE: a stamp in ps gives an offset, which disciplines device time where it follows Graft time. -/
def State.timeReceive (s : State) (b stamp : Nat) : State :=
  if s.timeBundle ≠ some b then s
  else
    let r := graftBps (s.grOf b).rate
    let ofs : Int := (stamp : Int) + (s.fld F.GR_LAT_lat b * 1000 / 16 : Nat) - (flitNum * 1000 / r : Nat) - (s.time.ns * 1000 : Nat)
    let shown := clampInt (-(2 ^ 31)) (2 ^ 31 - 1) ofs
    let s1 := s.setReg R.GR_TIME_OFS (BitVec.ofInt 32 shown) b
    let l := (ofs :: (s1.grOf b).offsets).take 16
    let s2 := s1.setGr b { s1.grOf b with offsets := l, lastTime := s1.time.ns }
    let lock := decide (l.length = 16) && l.all fun x => decide (x.natAbs ≤ 1000)
    let s3 := s2.setFlag F.GR_STATUS_time_lock lock
    if s3.fld F.ETH_TIME_CTRL_src = 3 then
      (s3.timeCorrect (if 0 ≤ ofs then (ofs + 500) / 1000 else -((-ofs + 500) / 1000))).setFlag F.ETH_STATUS_time_lock lock
    else s3

/-- GR_TIME_LOST: no TIME command for 16 us. -/
def State.timeLost (s : State) : State :=
  match s.timeBundle with
  | none => s
  | some b =>
    if s.time.ns < (s.grOf b).lastTime + 16000 then s
    else
      let s1 := (s.setGr b { s.grOf b with offsets := [] }).setFlag F.GR_STATUS_time_lock false
      let s2 := if s1.fld F.ETH_TIME_CTRL_src = 3 then
          ({ s1 with time := { s1.time with slew := 0 } }).setFlag F.ETH_STATUS_time_lock false else s1
      s2.raise Flt.GR_TIME_LOST [b]

/-! ## Commands -/

/-- GRAFT_FLIT_RECEIVE (R426). -/
def execGraftFlitReceive (bundle : Nat) (wire : List Byte) (misaligned : Bool) (s : State) : Result :=
  .next (s.grReceive bundle wire misaligned)

/-- GRAFT_CAPABILITY (R425). -/
def execGraftCapability (bundle : Nat) (word : BitVec 64) (s : State) : Result := .next (s.graftCap bundle word.toNat)

/-- ECHO (R430). -/
def execEcho (bundle t1 : Nat) (s : State) : Result := .next (s.echo bundle t1)

/-- LATENCY_MEASURE (R430). -/
def execLatencyMeasure (bundle t1 t2 t3 t4 : Nat) (s : State) : Result := .next (s.latency bundle t1 t2 t3 t4)

/-- REPLAY_TIMEOUT (R426). -/
def execReplayTimeout (bundle : Nat) (s : State) : Result := .next (if s.grActive bundle then s.grReplay bundle else s)

/-- GRAFT_RETRAIN_CMD (R428): GR_CMD op RETRAIN, or a retrain request from the partner, on an active link. -/
def execGraftRetrainCmd (bundle : Nat) (s : State) : Result := .next (if s.grActive bundle then s.graftRetrain bundle else s)

/-- TIME_SEND (R431). -/
def execTimeSend (bundle : Nat) (s : State) : Result := .next (s.timeSend bundle)

/-- TIME_RECEIVE (R431). -/
def execTimeReceive (bundle stamp : Nat) (s : State) : Result := .next (s.timeReceive bundle stamp)

/-- GR_TIME_LOST (R431). -/
def execGrTimeLost (s : State) : Result := .next s.timeLost

end Sys2Proof.Machine
end

