-- ==== Sys2Proof/Machine/Contracts.lean ====
section
/-! DEFINITION. Contracts of guaranteed delivery (13 R352 to R355, R359, R360, R363): commit, removal, the end of a
suspension. -/

namespace Sys2Proof.Machine

/-! ## A contract's terms (R352) -/

/-- The reserved slots of a queue: the valid slots of its port that name it. -/
def State.ctSlots (s : State) (q : Nat) : List Nat :=
  (List.range 64).filter fun t => decide (s.calSlot (sliceOf q) (s.qEgress q) t = some q)

/-- The calendar period of a queue's port in ns. -/
def State.ctPeriod (s : State) (q : Nat) : Nat := 64 * s.slotNs (sliceOf q) (s.qEgress q)

/-- The contract's fields. -/
def State.ctRate (s : State) (q : Nat) : Nat := s.fld F.QM_CT_RATE_rate q
def State.ctBurst (s : State) (q : Nat) : Nat := s.fld F.QM_CT_BURST_burst q
def State.ctMax (s : State) (q : Nat) : Nat := s.fld F.QM_CT_PKT_c_max q
def State.ctUnit (s : State) (q : Nat) : Nat := s.fld F.QM_CT_PKT_c_unit q

/-- Slots from one of a rising list of slots to the next, cyclically. -/
def slotGap (l : List Nat) (t : Nat) : Nat :=
  match l.find? fun u => decide (t < u) with
  | some u => u - t
  | none => 64 + l.headD 0 - t

/-- Check 4: every valid slot of the port leaves its queue's largest packet time before the next. -/
def State.ctSlotsFit (s : State) (q : Nat) : Bool :=
  let slice := sliceOf q
  let port := s.qEgress q
  let l := s.calSlots slice port
  l.all fun t =>
    match s.calSlot slice port t with
    | none => true
    | some x => s.wireFits slice port (s.ctMax x) 0 (slotGap l t * s.slotNs slice port)

/-- 8,000 times burst + rate × P / 8,000 (check 5). -/
def State.ctLoad (s : State) (q : Nat) : Nat := s.ctBurst q * 8000 + s.ctRate q * s.ctPeriod q

/-- The space a contract with n slots needs (check 6): words or cells. -/
def State.ctSpace (s : State) (q : Nat) : Nat :=
  ((s.ctSlots q).length + 1) * ceilDiv (s.ctMax q) (if s.qFar q then 256 else 64)

/-- Check 6. -/
def State.ctSpaceOk (s : State) (q : Nat) : Bool :=
  (if s.qFar q then decide (s.ctSpace q ≤ s.fld F.QM_Q_CFG1_buf q) && decide (s.ctSpace q + s.farHeld q ≤ s.farFree (sliceOf q))
    else decide (s.ctSpace q ≤ s.fld F.QM_Q_CFG2_near_words q))
  && decide ((s.ctSlots q).length + 2 ≤ 2 ^ s.fld F.QM_Q_CFG3_desc_log q)

/-- Whether every router of a route holds a calendar entry for the route's input on its output (check 7): the input of the
first router is the local port the packet enters by. -/
def State.routeReserved (s : State) : List (Nat × Nat) → Nat → Bool
  | [], _ => true
  | (r, o) :: l, input =>
    ((List.range 64).any fun t => decide (s.nocCal r o t = some input)) && s.routeReserved l (inputAfter o)

/-- A route and its reservation from a port of a node to a port of a node. -/
def State.pathReserved (s : State) (src srcPort dst dstPort : Nat) : Bool :=
  s.routeReserved (nocRoute src dst dstPort) (4 + srcPort)

/-- The DRAM channel ports: nodes 48 to 55, ports 0 and 1. -/
def dramPorts : List (Nat × Nat) := (List.range 16).map fun c => (48 + c / 2, c % 2)

/-- Whether the slice and every DRAM channel port reach each other by reserved routes; a slice spreads its cell traffic over
its ports, and port 0 stands for them. -/
def State.farReserved (s : State) (q : Nat) : Bool :=
  let node := 56 + 2 * sliceOf q
  dramPorts.all fun d => s.pathReserved node 0 d.1 d.2 && s.pathReserved d.1 d.2 node 0

/-- Check 7. -/
def State.ctRoute (s : State) (q : Nat) : Bool :=
  let port := s.qEgress q
  let dev := s.fld F.QM_Q_CFG5_dst_dev q
  let net :=
    if port < 24 then true
    else if dev = s.fld F.NOC_GROVE_devnum then
      s.pathReserved (56 + 2 * sliceOf q) (port - 24) (s.fld F.QM_Q_CFG5_dst_node q) (s.fld F.QM_Q_CFG5_dst_port q)
    else
      match s.groveBundle dev with
      | none => false
      | some b => s.flag (F.NOC_GROVE_ROUTE_vc0.nth dev) && s.pathReserved (56 + 2 * sliceOf q) (port - 24) (graftNode b).1 (graftNode b).2
  net && (!s.qFar q || s.farReserved q)

/-- Check 8: no page of the slice's cell area lies in an authenticated region. -/
def State.ctCells (s : State) (q : Nat) : Bool :=
  !s.qFar q ||
    (let a := s.fld F.QM_FAR_BASE_addr (sliceOf q) * 4096
     let n := s.fld F.QM_FAR_CELLS_cells (sliceOf q) * 256
     (List.range 32).all fun r =>
       !(s.regEn r && decide (s.regMode r = 2)
         && decide (s.fld F.MEE_REG_BASE_block r * mib2 < a + n) && decide (a ≤ s.fld F.MEE_REG_LIMIT_block r * mib2 + mib2 - 1)))

/-- The first failing check of R353, in its order; 0 where all pass. -/
def State.ctCheck (s : State) (q : Nat) : Nat :=
  let cu := s.ctUnit q
  let cm := s.ctMax q
  if !s.flag F.QM_Q_CFG0_en q ∨ s.qClass q ≠ 0 ∨ s.flag F.QM_CT_STAT_committed q then 1
  else if ¬(1 ≤ cu ∧ cu ≤ cm ∧ cm ≤ min (s.qMax q) 16384 ∧ cm ≤ s.ctBurst q) then 2
  else if s.ctSlots q = [] then 3
  else if !s.ctSlotsFit q then 4
  else if (s.ctSlots q).length * cu * 8000 < s.ctLoad q then 5
  else if !s.ctSpaceOk q then 6
  else if !s.ctRoute q then 7
  else if !s.ctCells q then 8
  else if s.causeOpLow q then 9
  else 0

/-! ## The bound and the slack (R359, R360) -/

/-- t_ser: the serialisation of the largest packet, in whole ns. -/
def State.ctSer (s : State) (q : Nat) : Nat :=
  if s.qEgress q < 24 then ceilDiv (s.ctMax q * 8) (s.portRate (macOfPort (sliceOf q) (s.qEgress q)))
  else ceilDiv (pktWords (s.ctMax q) + 1) 2

/-- QM_Q_BOUND. -/
def State.ctBound (s : State) (q : Nat) : Nat := 180 + s.ctPeriod q + s.ctSer q + 120 + (if s.qFar q then 400 else 0)

/-- Slots from a slot of a rising list to the m-th after it, cyclically. -/
def slotSpan (l : List Nat) : Nat → Nat → Nat
  | _, 0 => 0
  | t, m + 1 => slotGap l t + slotSpan l ((t + slotGap l t) % 64) m

/-- QM_Q_SLACK: P less the longest time from a slot of the queue to the m-th after it. -/
def State.ctSlack (s : State) (q : Nat) : Nat :=
  let l := s.ctSlots q
  let m := s.ctLoad q / (8000 * s.ctUnit q)
  s.ctPeriod q - (l.map fun t => slotSpan l t m).foldl max 0 * s.slotNs (sliceOf q) (s.qEgress q)

/-! ## The smallest slack (22 R549) -/

/-- PM_SLACK: the smallest slack of all committed contracts; all 1 means none. -/
def State.smallestSlack (s : State) : Nat :=
  (s.committed.map fun q => (s.reg R.QM_Q_SLACK q).toNat).foldl min (2 ^ 32 - 1)

/-! ## Commit and removal (R353 to R355) -/

/-- QM_CT_CMD COMMIT. A far contract's slice makes the pages of its cell area eager: `State.pageEager` reads that from
the committed contracts. -/
def State.ctCommit (s : State) (q : Nat) : State :=
  let f := s.ctCheck q
  if f ≠ 0 then (s.setFld F.QM_CT_STAT_fail f q).raise Flt.PRM_CT_REFUSED [q]
  else
    let s1 := ((s.setReg R.QM_Q_BOUND (BitVec.ofNat 32 (s.ctBound q)) q).setReg R.QM_Q_SLACK (BitVec.ofNat 32 (s.ctSlack q)) q)
    let s2 := s1.setPrm q { bucket := s.ctBurst q * 8000, bucketAt := s.time.ns, reserved := if s.qFar q then s.ctSpace q else 0 }
    let s3 := (s2.setFld F.QM_CT_STAT_fail 0 q).setFlag F.QM_CT_STAT_committed true q
    (s3.setReg R.PM_SLACK (BitVec.ofNat 32 s3.smallestSlack)).prmRefreshOne q

/-- QM_CT_CMD REMOVE: committed clears, and the bound and slack read 0. The reserved cells stay reserved while the queue
holds a committed packet. -/
def State.ctRemove (s : State) (q : Nat) : State :=
  if !s.flag F.QM_CT_STAT_committed q then s
  else
    let susp := s.flag F.QM_PROMISE_STATUS_susp q
    let s1 := ((s.setFlag F.QM_CT_STAT_committed false q).setReg R.QM_Q_BOUND 0 q).setReg R.QM_Q_SLACK 0 q
    let s2 := if susp then s1.setFld F.QM_PROMISE_SUM_suspended (s1.fld F.QM_PROMISE_SUM_suspended - 1) else s1
    let s3 := ((s2.setReg R.QM_PROMISE_STATUS 0 q).setPrm q { reserved := (s2.prmOf q).reserved }).freeReserve q
    s3.setReg R.PM_SLACK (BitVec.ofNat 32 s3.smallestSlack)

/-- PROMISE_RESUME (R363): one bound after the last cause cleared, susp falls. -/
def State.promiseResume (s : State) (q : Nat) : State :=
  let s1 := if s.flag F.QM_CT_STAT_committed q then s.prmRefreshOne q else s
  if !s1.flag F.QM_CT_STAT_committed q ∨ !s1.flag F.QM_PROMISE_STATUS_susp q ∨ s1.causes q ≠ 0
      ∨ s1.time.ns < (s1.prmOf q).lastCause + (s1.reg R.QM_Q_BOUND q).toNat then s1
  else
    let s2 := (s1.setFlag F.QM_PROMISE_STATUS_susp false q).setPrm q { s1.prmOf q with fellAt := s1.time.ns }
    (s2.setFld F.QM_PROMISE_SUM_suspended (s2.fld F.QM_PROMISE_SUM_suspended - 1)).raise Flt.PRM_RESUMED [q]

/-! ## Commands -/

/-- CONTRACT_REMOVE (R355). -/
def execContractRemove (q : Nat) (s : State) : Result := .next (s.ctRemove q)

/-- PROMISE_RESUME (R363). -/
def execPromiseResume (q : Nat) (s : State) : Result := .next (s.promiseResume q)

end Sys2Proof.Machine
end

