-- ==== Sys2Proof/Machine/Host.lean ====
section
/-! DEFINITION. Host rings (17 R443 to R448) and Ethernet MACs (17 R449, R450, R452, R453). -/

namespace Sys2Proof.Machine

/-! ## Host rings: what a ring is (R443, R444) -/

/-- Descriptors of a ring. -/
def State.ringSize (s : State) (r : Nat) : Nat := 2 ^ s.fld F.PCI_RING_CFG_log_size r

/-- Host address of a ring's array. -/
def State.ringBase (s : State) (r : Nat) : Nat := s.pair R.PCI_RING_BASE_LO R.PCI_RING_BASE_HI r

/-- Whether a ring carries packets from the host. -/
def State.ringFrom (s : State) (r : Nat) : Bool := s.flag F.PCI_RING_CFG_dir r

/-- Whether a ring counts as stopped: en is 0 and no packet of it is in progress. -/
def State.ringStopped (s : State) (r : Nat) : Bool :=
  let x := s.ring r
  !s.flag F.PCI_RING_CFG_en r && x.cur.isEmpty && x.sentPkts.isEmpty && decide (x.sent = 0)

/-- Whether a queue suits a ring's direction. -/
def State.ringQueueOk (s : State) (r : Nat) : Bool :=
  let q := s.fld F.PCI_RING_CFG_queue r
  if s.ringFrom r then s.flag F.QM_Q_CFG0_en q
  else decide (24 ≤ s.qEgress q) && decide (s.fld F.QM_Q_CFG5_dst_node q = 57) && decide (s.fld F.QM_Q_CFG5_dst_port q = 0)
    && decide (s.fld F.QM_Q_CFG5_dst_dev q = s.fld F.NOC_GROVE_devnum)

/-- The check of a ring (R443): whether it fails. -/
def State.ringBad (s : State) (r : Nat) : Bool :=
  !s.ringQueueOk r
  || ((List.range 256).any fun x => decide (x ≠ r) && s.flag F.PCI_RING_CFG_en x && (s.ringFrom x == s.ringFrom r)
      && decide (s.fld F.PCI_RING_CFG_queue x = s.fld F.PCI_RING_CFG_queue r))
  || decide (s.pci.vfs < s.fld F.PCI_RING_CFG_func r)
  || decide (s.fld F.PCI_RING_CFG_log_size r < 4) || decide (s.ringBase r % 64 ≠ 0)

/-- Setting en checks the ring (R443); a ring that passes starts with no descriptors. -/
def State.ringEnable (s : State) (r : Nat) : State :=
  if s.ringBad r then (s.setFlag F.PCI_RING_CFG_en false r).raise Flt.PCI_RING_INVALID [r]
  else
    let x := s.ring r
    ((s.setReg R.PCI_RING_IDX 0 r).setFlag F.PCI_RING_CFG_en true r).setRing r
      { x with cur := [], tail := [], begun := false, early := none, sentPkts := [], fetch := 0, sent := 0 }

/-- The block's ignored write. -/
def State.pciIgnored (s : State) : State := (s.setFlag F.PCI_STATUS_wr_ignored true).raise Flt.PCI_WR_IGNORED

/-- A write of PCI_RING_CFG (R443): its RWH fields change only on a stopped ring. -/
def State.ringWrite (s : State) (r value : Nat) : State :=
  let old := (s.reg R.PCI_RING_CFG r).toNat
  let en := s.flag F.PCI_RING_CFG_en r
  let new := value &&& 0x7FFFFF00
  let s1 := if new = old &&& 0x7FFFFF00 then s
    else if s.ringStopped r then s.setReg R.PCI_RING_CFG (BitVec.ofNat 32 (new + en.toNat * 2 ^ 31)) r
    else s.pciIgnored
  if bit value 31 ∧ !en then s1.ringEnable r
  else if !bit value 31 ∧ en then s1.setFlag F.PCI_RING_CFG_en false r
  else s1

/-! ## Stopping (R448) -/

/-- The head of a segment that the host port sends to a ring's queue. -/
def State.ringHead (s : State) (r flits : Nat) : NocHead :=
  let q := s.fld F.PCI_RING_CFG_queue r
  let dev := s.fld F.NOC_GROVE_devnum
  { srcDev := dev, srcNode := 57, srcPort := 0, entry := 57, dstDev := dev, dstNode := 56 + 2 * sliceOf q, dstPort := q % 4,
    vc := 1, tag := r, poison := false, cls := s.qClass q, flits := flits, badHead := none, badFlit := none }

/-- A segment of a ring's packet sent. -/
def State.ringSegment (s : State) (r : Nat) (sop eop abort : Bool) (data : List Byte) (meta32 : Nat) : State :=
  let u := dataUnits data
  s.emit (.noc ⟨s.ringHead r (1 + u.length), .stream
    { queue := s.fld F.PCI_RING_CFG_queue r, sop := sop, eop := eop, abort := abort, ack := true, pktLen := 0,
      lastBytes := data.length % 64, meta32 := meta32, arrival := 0, payload := u }⟩)

/-- A ring stops: en clears, and the packet in progress ends. -/
def State.ringStop (s : State) (r : Nat) : State :=
  let x := s.ring r
  let s1 := if s.ringFrom r ∧ x.begun then s.ringSegment r false true true [] 0 else s
  let s2 := s1.setRing r { x with cur := [], tail := [], begun := false, early := none, sent := 0
                                  waiting := if x.sent = 0 then x.waiting else x.waiting.drop 1 }
  s2.setFlag F.PCI_RING_CFG_en false r

/-- A ring stops under R448 with its fault. -/
def State.ringFault (s : State) (r : Nat) : State :=
  if s.flag F.PCI_RING_CFG_en r then ((s.ringStop r).setFlag F.PCI_STATUS_ring_fault true).raise Flt.PCI_RING_FAULT [r] else s

/-- The rings of functions stop, recording no fault. -/
def State.stopFunctions (s : State) (fns : List Nat) : State :=
  ((List.range 256).filter fun r => s.flag F.PCI_RING_CFG_en r && fns.contains (s.fld F.PCI_RING_CFG_func r)).foldl State.ringStop s

/-! ## Doorbells (R445) -/

/-- A doorbell: the host's producer index. -/
def State.doorbell (s : State) (r idx : Nat) : State :=
  let i := idx % 65536
  let cons := s.fld F.PCI_RING_IDX_cons r
  if !s.flag F.PCI_RING_CFG_en r then s.count F.PCI_ERR_dropped_wr
  else if s.ringSize r < (i + 65536 - cons) % 65536 then s.ringFault r
  else s.setFld F.PCI_RING_IDX_prod i r

/-! ## Completions and vectors (R444, R446) -/

/-- The phase bit of a descriptor number: 1 − (lap mod 2). -/
def State.ringPhase (s : State) (r idx : Nat) : Nat := 1 - idx / s.ringSize r % 2

/-- Bytes 12 to 23 of a descriptor written to the host. -/
def State.ringPut (s : State) (r idx meta32 arrival len flags code : Nat) : State :=
  s.emit (.hostWrite (s.ringBase r + 32 * (idx % s.ringSize r) + 12)
    (leBytes 4 meta32 ++ leBytes 4 arrival ++ leBytes 2 len ++ leBytes 1 (flags % 128 + 128 * s.ringPhase r idx) ++ leBytes 1 code))

/-- A ring's vector sent. -/
def State.ringVector (s : State) (r : Nat) : State :=
  (s.setRing r { s.ring r with lastIrq := some s.time.ns, irqHeld := false }).msix (s.fld F.PCI_RING_CFG_func r) (s.fld F.PCI_RING_IRQ_vec r)

/-- The vector rule after an eop completion: at most once per holdoff_us. -/
def State.ringIrq (s : State) (r : Nat) : State :=
  let due := match (s.ring r).lastIrq with
    | none => true
    | some t => decide (t + s.fld F.PCI_RING_IRQ_holdoff_us r * 1000 ≤ s.time.ns)
  if !s.flag F.PCI_RING_IRQ_irq_en r then s
  else if due then s.ringVector r
  else s.setRing r { s.ring r with irqHeld := true }

/-- Descriptors consumed. -/
def State.ringConsume (s : State) (r n : Nat) : State :=
  s.setFld F.PCI_RING_IDX_cons ((s.fld F.PCI_RING_IDX_cons r + n) % 65536) r

/-- RING_COMPLETION (R446): the next posted buffer of a to-host ring takes its part of the waiting packet. `fail`: the
descriptor read failed (R448). -/
def State.ringComplete (s : State) (r addr bufLen : Nat) (fail : Bool) : State :=
  let x := s.ring r
  let cons := s.fld F.PCI_RING_IDX_cons r
  match x.waiting with
  | [] => s
  | p :: l =>
    if !s.flag F.PCI_RING_CFG_en r ∨ s.ringFrom r ∨ cons = s.fld F.PCI_RING_IDX_prod r then s
    else if fail then s.ringFault r
    else
      let part := (p.data.drop x.sent).take bufLen
      let sop := decide (x.sent = 0)
      let eop := decide (p.data.length ≤ x.sent + part.length)
      let flags := sop.toNat + 2 * eop.toNat + 4 * (eop && p.poison).toNat + 8 * p.cls
      let s1 := (s.emit (.hostWrite addr part)).ringPut r cons p.meta32 p.arrival part.length flags 0
      let s2 := s1.setRing r { s1.ring r with waiting := if eop then l else x.waiting, sent := if eop then 0 else x.sent + part.length }
      let s3 := s2.ringConsume r 1
      if eop then s3.ringIrq r else s3

/-! ## From host (R447) -/

/-- A packet's answer is written into its descriptors: code into that with eop, phase into every one. -/
def State.ringAnswered (s : State) (r code : Nat) (l : List RingDesc) : State :=
  let put := fun (t : State) (d : RingDesc) => t.ringPut r d.idx d.meta32 0 0 (d.flags % 4) (if bit d.flags 1 then code else 0)
  ((l.foldl put s).ringConsume r l.length).ringIrq r

/-- The slice's answer to a ring's packet (R447): the oldest packet wholly sent, else the one being fetched. -/
def State.ringAnswer (s : State) (r code : Nat) : State :=
  let x := s.ring r
  match x.sentPkts with
  | l :: rest => (s.setRing r { x with sentPkts := rest }).ringAnswered r code l
  | [] => if x.cur = [] then s else s.setRing r { x with early := some code }

/-- The segments that a packet's bytes give: at most 256 flits each, whole flits except at eop. Answers the bytes kept. -/
def State.ringSend (s : State) (r : Nat) (data : List Byte) (begun eop : Bool) (meta32 : Nat) : Nat → List Byte × Bool × State
  | 0 => (data, begun, s)
  | fuel + 1 =>
    if 16384 < data.length then
      (s.ringSegment r (!begun) false false (data.take 16384) meta32).ringSend r (data.drop 16384) true eop meta32 fuel
    else if eop then ([], true, s.ringSegment r (!begun) true false data meta32)
    else
      let n := data.length / 64 * 64
      if n = 0 then (data, begun, s) else (data.drop n, true, s.ringSegment r (!begun) false false (data.take n) meta32)

/-- FROM_HOST_FETCH (R447): the next posted descriptor and its buffer, as read from the host; `fail`: a read failed. -/
def State.ringFetch (s : State) (r : Nat) (desc data : List Byte) (fail : Bool) : State :=
  let x := s.ring r
  if !s.flag F.PCI_RING_CFG_en r ∨ !s.ringFrom r ∨ x.fetch = s.fld F.PCI_RING_IDX_prod r then s
  else if fail then s.ringFault r
  else
    let flags := fieldAt desc 22 1
    let d : RingDesc := { idx := x.fetch, meta32 := fieldAt desc 12 4, flags := flags }
    let meta32 := ((x.cur ++ [d]).head?.map RingDesc.meta32).getD 0
    let eop := bit flags 1
    let res := s.ringSend r (x.tail ++ slice data 0 (fieldAt desc 8 4)) x.begun eop meta32 3
    let x1 := { x with fetch := (x.fetch + 1) % 65536, tail := res.1, begun := res.2.1, cur := x.cur ++ [d] }
    if eop then
      let x2 := { x1 with cur := [], begun := false, tail := [], early := none }
      match x.early with
      | some code => (res.2.2.setRing r x2).ringAnswered r code x1.cur
      | none => res.2.2.setRing r { x2 with sentPkts := x1.sentPkts ++ [x1.cur] }
    else res.2.2.setRing r x1

/-! ## Ethernet MACs (R449, R450) -/

/-- Lanes that a MAC of a speed uses at a lane rate; 0 where the table has no entry (R449). -/
def macLanes (speed rate : Nat) : Nat :=
  match speed, rate with
  | 0, 0 => 1
  | 1, 1 => 1
  | 2, 1 => 2 | 2, 4 => 1
  | 3, 1 => 4 | 3, 2 => 4 | 3, 4 => 2 | 3, 5 => 1
  | 4, 4 => 4 | 4, 5 => 2
  | 5, 4 => 8 | 5, 5 => 4
  | 6, 5 => 8
  | _, _ => 0

/-- The lanes of a MAC, as a mask of its bundle. -/
def State.macMask (s : State) (mac : Nat) : Nat :=
  let w := macLanes (s.fld F.ETH_MAC_CFG_speed mac) (s.fld (F.LN_CTRL_rate.win (mac / 8)))
  (2 ^ w - 1) * 2 ^ (mac % 8)

/-- The check of a MAC (R450): whether it fails. -/
def State.macBad (s : State) (mac : Nat) : Bool :=
  let b := mac / 8
  let w := macLanes (s.fld F.ETH_MAC_CFG_speed mac) (s.fld (F.LN_CTRL_rate.win b))
  s.lnGraft b || decide (w = 0) || decide (mac % 8 % max 1 w ≠ 0) || decide (8 < mac % 8 + w)
  || decide (s.macMask mac &&& s.fld (F.LN_CTRL_lane_en.win b) ≠ s.macMask mac)
  || (List.range 8).any fun m => decide (8 * b + m ≠ mac) && s.flag F.ETH_MAC_CFG_en (8 * b + m)
      && decide (s.macMask (8 * b + m) &&& s.macMask mac ≠ 0)

/-- The block's ignored write. -/
def State.ethIgnored (s : State) : State := (s.setFlag F.ETH_STATUS_wr_ignored true).raise Flt.ETH_WR_IGNORED

/-- A write of ETH_MAC_CFG (R450): its RWH fields change only on a stopped MAC, and setting en checks it. -/
def State.macWrite (s : State) (mac value : Nat) : State :=
  let old := (s.reg R.ETH_MAC_CFG mac).toNat
  let en := s.flag F.ETH_MAC_CFG_en mac
  let new := value &&& 0x7FFF0007
  let s1 := if new = old &&& 0x7FFF0007 then s
    else if en then s.ethIgnored
    else s.setReg R.ETH_MAC_CFG (BitVec.ofNat 32 new) mac
  if bit value 31 ∧ !en then
    (if s1.macBad mac then s1.raise Flt.ETH_CFG_INVALID [mac] else s1.setFlag F.ETH_MAC_CFG_en true mac)
  else if !bit value 31 ∧ en then s1.setFlag F.ETH_MAC_CFG_en false mac
  else s1

/-! ## Pause frames received (R452) -/

/-- The class-0 queues that wait for a MAC's port take or lose the consumer cause, and the port goes on. -/
def State.afterPause (s : State) (mac : Nat) : State :=
  let slice := mac / 24
  let port := mac % 24
  let s1 := (s.egress slice port).entitled.foldl (fun (t : State) q => t.setConsumer q (!t.mayStart slice port q)) s
  let s2 := s1.portTry slice port false
  (List.range 8).foldl (fun (t : State) p => t.pfcUpdate mac p) s2

/-- A priority of a MAC paused or let go by its partner. -/
def State.pauseSet (s : State) (mac pri : Nat) (stop : Bool) : State :=
  if !s.flag F.ETH_PFC_en mac then s
  else
    (s.setFld F.ETH_MAC_STAT_rx_paused (putBit (s.fld F.ETH_MAC_STAT_rx_paused mac) (pri % 8) stop) mac).afterPause mac

/-! ## Transmit timestamps (R453) -/

/-- A read of ETH_TXTS_TAG pops the FIFO head into the timestamp registers; the value read is answered. -/
def State.stampPop (s : State) : Nat × State :=
  match s.eth.stamps with
  | [] => (0, s)
  | x :: l =>
    (2 ^ 31 + x.mac % 128 * 2 ^ 16 + x.tag % 65536, ({ s with eth := { s.eth with stamps := l } }).setPair R.ETH_TXTS_LO R.ETH_TXTS_HI x.time)

/-! ## Commands -/

/-- RING_ENABLE (R443): a write of PCI_RING_CFG with en 1. -/
def execRingEnable (ring : Nat) (value : Word) (s : State) : Result := .next (s.ringWrite ring (putBit value.toNat 31 true))

/-- DOORBELL (R445). -/
def execDoorbell (ring index : Nat) (s : State) : Result := .next (s.doorbell ring index)

/-- FROM_HOST_FETCH (R447). -/
def execFromHostFetch (ring : Nat) (desc data : List Byte) (fail : Bool) (s : State) : Result := .next (s.ringFetch ring desc data fail)

/-- RING_COMPLETION (R446). -/
def execRingCompletion (ring addr bufLen : Nat) (fail : Bool) (s : State) : Result := .next (s.ringComplete ring addr bufLen fail)

/-- RING_HOLDOFF_EXPIRE (R446). -/
def execRingHoldoffExpire (ring : Nat) (s : State) : Result := .next (if (s.ring ring).irqHeld then s.ringVector ring else s)

/-- PCIE_COMPLETION_TIMEOUT (R448). -/
def execPcieCompletionTimeout (ring : Nat) (s : State) : Result := .next (s.ringFault ring)

/-- PCIE_LINK_UP (R437): the link reaches L0. -/
def execPcieLinkUp (gen width : Nat) (s : State) : Result :=
  .next ((((s.setFlag F.PCI_STATUS_up true).setFlag F.PCI_STATUS_l1 false).setFld F.PCI_STATUS_gen gen).setFld F.PCI_STATUS_width width).prmRefresh

/-- LTR_SEND (R442): a write of PCI_LTR.send_us; a change of it sends an LTR message. -/
def execLtrSend (value : Nat) (s : State) : Result :=
  .next (if s.fld F.PCI_LTR_send_us = value % 65536 then s else (s.setFld F.PCI_LTR_send_us value).emit (.ltr (value % 65536)))

/-- MAC_ENABLE (R450): a write of ETH_MAC_CFG with en 1. -/
def execMacEnable (mac : Nat) (value : Word) (s : State) : Result := .next (s.macWrite mac (putBit value.toNat 31 true))

/-- MAC_LINK_UP (R450). -/
def execMacLinkUp (mac : Nat) (s : State) : Result :=
  .next (if s.flag F.ETH_MAC_CFG_en mac then (s.setFlag F.ETH_MAC_STAT_link_up true mac).prmRefresh else s)

/-- MAC_LINK_DOWN (R450). -/
def execMacLinkDown (mac : Nat) (s : State) : Result :=
  .next (if s.flag F.ETH_MAC_STAT_link_up mac then
      (((s.setFlag F.ETH_MAC_STAT_link_up false mac).setFlag F.ETH_STATUS_link_down_any true).raise Flt.ETH_LINK_DOWN).prmRefresh
    else s)

/-- PFC_PAUSE_RECEIVE (R452): XOFF or XON of a priority. -/
def execPfcPauseReceive (mac pri : Nat) (stop : Bool) (s : State) : Result := .next (s.pauseSet mac pri stop)

/-- PFC_PAUSE_EXPIRE (R452): the pause time of a priority has run out. -/
def execPfcPauseExpire (mac pri : Nat) (s : State) : Result := .next (s.pauseSet mac pri false)

/-- ETH_TXTS_TAG_READ (R453). -/
def execEthTxtsTagRead (s : State) : Result := .next (s.stampPop.2.answer 0 0 (leBytes 4 s.stampPop.1))

end Sys2Proof.Machine
end

