-- ==== Sys2Proof/Machine/Scan.lean ====
section
/-! DEFINITION. Configuration upsets and their repair (20): the scanners of the 96 sectors. -/

namespace Sys2Proof.Machine

/-! ## Frames, masks and signatures (18 R459, 20 R507) -/

/-- The sector field of a frame address (18 R459): layer, quadrant, index. -/
def sectorField (k : Nat) : Nat := k / 48 * 64 + k % 48 / 12 * 16 + k % 12

/-- The frame address of a fabric frame (18 R459, R460: type 0). -/
def fabricAddr (k plane f : Nat) : Nat := plane * 2 ^ 20 + sectorField k * 2 ^ 13 + f

/-- The location of a CI fault: the sector, and the frame address (20 R523, 25 R619). -/
def frameLoc (k plane f : Nat) : List Nat := [k] ++ loc32 (fabricAddr k plane f)

/-- The truth-table bits of memory clusters in frame `f` of a plane as loaded (20 R507). -/
def frameMask (plane : Frames) (f : Nat) : Nat :=
  memTableMask (tileBits plane (f / 6)) / 2 ^ (2048 * (f % 6)) % 2 ^ 2048

/-- The signature of frame bits: the CRC-32 of its 256 bytes with the masked bits read as 0 (18 R472, 20 R507). -/
def frameSig (mask v : Nat) : Nat := crc32 (leBytes 256 (v - (v &&& mask)))

/-- The signature of a frame of zeros. -/
def zeroSig : Nat := 0x0D968558

/-- A frame's scan signature (20 R507). -/
def State.scanSig (s : State) (k p f : Nat) : Nat := SMap.get zeroSig s.ci.sigs ((k * 8 + p) * 6144 + f)

/-- A frame's scan signature written, with fresh check bits. -/
def State.setScanSig (s : State) (k p f v : Nat) : State :=
  let key := (k * 8 + p) * 6144 + f
  { s with ci := { s.ci with sigs := SMap.set zeroSig s.ci.sigs key v, sigBad := NSet.put s.ci.sigBad key false } }

/-- Whether a frame's signature has been found uncorrectable (20 R519). -/
def State.sigBadAt (s : State) (k p f : Nat) : Bool := NSet.has s.ci.sigBad ((k * 8 + p) * 6144 + f)

/-- The 2,304 stored bits of a frame read with some of them flipped: word w has data bits 72 w to 72 w + 63 and check
bits above (20 R509). The decoded frame, the words corrected, whether a word is uncorrectable. -/
def decodeFrame (v : Nat) (flips : List Nat) : Nat × Nat × Bool :=
  (flips.map (· / 72)).dedup.foldl (fun (a : Nat × Nat × Bool) w =>
    let d := bits v (64 * w + 63) (64 * w)
    let e := maskOf ((flips.filter fun i => decide (i / 72 = w)).map (· % 72))
    let r := hamDecode (d ^^^ e % 2 ^ 64) (hamCheck d ^^^ e / 2 ^ 64)
    (putBits a.1 (64 * w + 63) (64 * w) r.2.1, a.2.1 + (decide (r.1 = .corrected)).toNat,
      a.2.2 || decide (r.1 = .uncorrectable))) (v, 0, false)

/-! ## A scanner's state -/

/-- A sector's scanner. -/
def State.ciSec (s : State) (k : Nat) : CiSec := SMap.get {} s.ci.secs k

/-- A sector's scanner replaced. -/
def State.setCiSec (s : State) (k : Nat) (c : CiSec) : State := { s with ci := { s.ci with secs := SMap.set {} s.ci.secs k c } }

/-- Its state: 0 scanning, 1 disabled, 2 stalled, 3 unscanned, 4 reloading, 5 halted (20 R522). -/
def State.ciState (s : State) (k : Nat) : Nat := s.fld F.CI_SEC_STAT_state k

/-- The state of a scanner changed, and with it dead_any and halt_any. -/
def State.setCiState (s : State) (k v : Nat) : State :=
  let s1 := s.setFld F.CI_SEC_STAT_state v k
  let any := fun (x : Nat) => (List.range 96).any fun j => decide (s1.ciState j = x)
  (s1.setFlag F.CI_STATUS_dead_any (any 3)).setFlag F.CI_STATUS_halt_any (any 5)

/-- CI_CTRL as in force for a sector (20 R521). -/
def State.ciCtrl (s : State) (k : Nat) : Nat :=
  match s.ci.commit with
  | some l => if NSet.has s.ci.taken k then l.headD 0 else (s.reg R.CI_CTRL).toNat
  | none => (s.reg R.CI_CTRL).toNat

/-- The policy in force for a sector (20 R512, R521). -/
def State.ciPolicy (s : State) (k : Nat) : Nat :=
  let own := (s.reg (R.CI_POLICY + 4 * (k / 16))).toNat
  let w := match s.ci.commit with
    | some l => if NSet.has s.ci.taken k then (l[k / 16 + 1]?).getD own else own
    | none => own
  bits w (2 * (k % 16) + 1) (2 * (k % 16))

/-- Whether scanning is enabled for a sector. -/
def State.ciEnabled (s : State) (k : Nat) : Bool := bit (s.ciCtrl k) 0

/-- lap_us, at least 500 (20 R522). -/
def State.ciLapUs (s : State) (k : Nat) : Nat := max 500 (bits (s.ciCtrl k) 31 16)

/-- Whether a scanner scans: enabled, and scanning or reloading. -/
def State.ciScans (s : State) (k : Nat) : Bool :=
  s.ciEnabled k && (decide (s.ciState k = 0) || decide (s.ciState k = 4))

/-- CI_LAST (20 R522): where 0 live, 1 staged, 2 plane; outcome 0 repaired, 1 reported, 2 persistent, 3 damaged. -/
def State.ciLast (s : State) (place outcome k p f : Nat) : State :=
  ((s.setFld F.CI_LAST_where place).setFld F.CI_LAST_outcome outcome).setFld F.CI_LAST_frame (fabricAddr k p f % 2 ^ 23)

/-! ## Findings -/

/-- A halt (20 R516): the sector's island is held as 02 R50 steps 1 to 3 and 5, and the scanner's state is halted. -/
def State.ciHalt (s : State) (k : Nat) (f : FaultCode) (loc : List Nat) : State :=
  let s1 := (s.holdIsland (islandOf k)).raise f loc
  (s1.setCiSec k { s1.ciSec k with repair := none, reload := none }).setCiState k 5

/-- A persistent live-latch frame (20 R514). -/
def State.ciPersist (s : State) (k p f : Nat) : State :=
  (s.ciLast 0 2 k p f).ciHalt k Flt.CI_PERSISTENT (frameLoc k p f)

/-- A damaged resident plane (20 R517). -/
def State.planeBad (s : State) (k p f : Nat) : State :=
  let s1 := (s.setFlag ((F.CTX_PLANE_INFO_loaded.nth p).ctx k) false).setFld F.CI_SEC_STAT_plane_bad
    (s.fld F.CI_SEC_STAT_plane_bad k ||| 2 ^ p) k
  ((s1.setFlag F.CI_STATUS_plane_bad_any true).ciLast 2 3 k p f).raise Flt.CI_PLANE_BAD (frameLoc k p f)

/-- A resident-plane frame read and decoded (20 R509, R517): whether it is damaged, its decoded bits. -/
def State.planeRead (s : State) (k p f : Nat) (flips : List Nat) : Bool × Nat × State :=
  let fr := s.plane k p
  let (v, n, bad) := decodeFrame (frame fr f).toNat flips
  let s1 := s.count F.CI_SEC_CNT_plane_corr n k
  if bad || decide (frameSig (frameMask fr f) v ≠ s.scanSig k p f) then (true, v, s1.planeBad k p f)
  else
    let s2 := if n = 0 then s1 else s1.ciLast 2 (if s.ciPolicy k = 1 then 1 else 0) k p f
    (false, v, (List.range n).foldl (fun (t : State) _ => t.raise Flt.CI_PLANE_CORRECTED (frameLoc k p f)) s2)

/-- Bits of a latch frame flipped. -/
def flipFrame (fr : Frames) (f : Nat) (flips : List Nat) : Frames :=
  if flips = [] then fr else SMap.set 0 fr f (frame fr f ^^^ BitVec.ofNat 2048 (maskOf flips))

/-- The latches of a place: 0 live, 1 staged. -/
def State.latches (s : State) (k place : Nat) : Frames := if place = 0 then s.liveOf k else s.stagedOf k

/-- The latches of a place replaced. -/
def State.setLatches (s : State) (k place : Nat) (fr : Frames) : State := if place = 0 then s.setLive k fr else s.setStaged k fr

/-- A latch frame that does not match, under policy 1 (20 R512, R514): recorded once until it matches again; a live one
that still mismatches after 3 laps is persistent if report_halt is 1. -/
def State.ciReport (s : State) (k place p f : Nat) : State :=
  let c := s.ciSec k
  let key := place * 65536 + p * 6144 + f
  let laps := SMap.get 0 c.reported key + 1
  let s1 := ((s.setCiSec k { c with reported := SMap.set 0 c.reported key laps }).count F.CI_SEC_CNT_latch_corr 1 k).ciLast
    place 1 k p f
  let s2 := if laps = 1 then s1.raise Flt.CI_LATCH_MISMATCH (frameLoc k p f) else s1
  if place = 0 && decide (3 < laps) && bit (s.ciCtrl k) 1 then s2.ciPersist k p f else s2

/-- A latch frame read (20 R508, R510, R512). -/
def State.latchRead (s : State) (k place f : Nat) (flips : List Nat) : State :=
  let p := if place = 0 then s.livePlane k else s.fld (F.CTX_STATUS_staged_plane.ctx k)
  let s1 := s.setLatches k place (flipFrame (s.latches k place) f flips)
  let v := (frame (s1.latches k place) f).toNat
  let c := s1.ciSec k
  if s1.sigBadAt k p f then s1
  else if frameSig (frameMask (s1.plane k p) f) v = s1.scanSig k p f then
    s1.setCiSec k { c with reported := SMap.set 0 c.reported (place * 65536 + p * 6144 + f) 0 }
  else if s1.ciPolicy k = 1 then s1.ciReport k place p f
  else if s1.ciPolicy k = 3 && decide (place = 0) then
    ((s1.count F.CI_SEC_CNT_latch_corr 1 k).ciLast 0 1 k p f).ciHalt k Flt.CI_SECTOR_HALTED (frameLoc k p f)
  else s1.setCiSec k { c with repair := some (decide (place = 0), p, f) }

/-- A signature found uncorrectable (20 R519): recorded, and its frame skipped. -/
def State.sigFails (s : State) (k p f : Nat) : State :=
  let key := (k * 8 + p) * 6144 + f
  if NSet.has s.ci.sigBad key then s
  else ({ s with ci := { s.ci with sigBad := NSet.put s.ci.sigBad key true } }).raise Flt.CI_SIG_UNCORR (frameLoc k p f)

/-- Whether a plane counts as loaded to the scanner (20 R508): loaded, and no load under way declares it (18 R479, which
marks it not loaded). -/
def State.scanPlace (s : State) (k place p : Nat) : Bool :=
  match place with
  | 0 => decide (s.livePlane k < 8)
  | 1 => !s.flag (F.CTX_STATUS_restaging.ctx k) && decide (s.fld (F.CTX_STATUS_staged_state.ctx k) = 1)
  | _ => s.planeLoaded k p

/-- SCAN_FRAME_READ (20 R508): `place` 0 live latches, 1 staged latches, 2 resident plane `p`. `flips` are the bits that
have flipped since the frame was last read: of the latches' 2,048, or of the plane's 2,304 stored bits. -/
def State.scanRead (s : State) (k place p f : Nat) (flips : List Nat) (sigBad : Bool) : State :=
  if !s.ciScans k || !s.scanPlace k place p then s
  else
    let q := match place with
      | 0 => s.livePlane k
      | 1 => s.fld (F.CTX_STATUS_staged_plane.ctx k)
      | _ => p
    if sigBad then s.sigFails k q f
    else if place < 2 then s.latchRead k place f flips
    else if s.sigBadAt k p f then s
    else (s.planeRead k p f flips).2.2

/-! ## Repair and reload (20 R513 to R515) -/

/-- A frame written over the restage path except for its masked bits. -/
def writeFrame (fr : Frames) (f mask v : Nat) : Frames :=
  let old := (frame fr f).toNat
  SMap.set 0 fr f (BitVec.ofNat 2048 (v - (v &&& mask) + (old &&& mask)))

/-- Which latches hold a plane now: live, staged and valid, or neither. -/
def State.placeOf (s : State) (k p : Nat) : Option Nat :=
  if s.livePlane k = p then some 0 else if s.stagedValid k p then some 1 else none

/-- A repair fails (20 R514): a live-latch frame is persistent. -/
def State.repairFails (s : State) (k : Nat) (live : Bool) (p f : Nat) : State :=
  let s1 := s.count F.CI_SEC_CNT_latch_corr 1 k
  if live then s1.ciPersist k p f else s1

/-- A repaired live frame that has been repaired in each of 3 consecutive laps (20 R514). -/
def State.repairedLaps (s : State) (k p f : Nat) : Nat × State :=
  let c := s.ciSec k
  let old := SMap.get 0 c.repaired (p * 6144 + f)
  let n := if old = 0 then 1 else if old / 4 = c.lap then old % 4 else if old / 4 + 1 = c.lap then old % 4 + 1 else 1
  (n, s.setCiSec k { c with repaired := SMap.set 0 c.repaired (p * 6144 + f) (c.lap * 4 + min 3 n) })

/-- LATCH_REPAIR (20 R513): `flips` are the stored bits of the resident frame that read wrong, `again` the latch bits that
read wrong after the write. -/
def State.latchRepair (s : State) (k : Nat) (flips again : List Nat) : State :=
  match (s.ciSec k).repair with
  | none => s
  | some (live, p, f) =>
    let s0 := s.setCiSec k { s.ciSec k with repair := none }
    if bit (s0.fld F.CI_SEC_STAT_plane_bad k) p then s0.repairFails k live p f
    else
      let (bad, v, s1) := s0.planeRead k p f flips
      if bad then s1.repairFails k live p f
      else
        match s1.placeOf k p with
        | none => s1
        | some place =>
          let mask := frameMask (s1.plane k p) f
          let s2 := s1.setLatches k place (flipFrame (writeFrame (s1.latches k place) f mask v) f again)
          if frameSig mask (frame (s2.latches k place) f).toNat ≠ s2.scanSig k p f then s2.repairFails k live p f
          else
            let s3 := ((s2.count F.CI_SEC_CNT_latch_corr 1 k).setFlag F.CI_STATUS_corr_any true).ciLast place 0 k p f
            if !live then s3.raise Flt.CI_LATCH_CORRECTED (frameLoc k p f)
            else
              let (n, s4) := s3.repairedLaps k p f
              if 3 ≤ n then s4.ciPersist k p f
              else if s4.ciPolicy k = 2 then
                (s4.setCiSec k { s4.ciSec k with reload := some p }).setCiState k 4
              else s4.raise Flt.CI_LATCH_CORRECTED (frameLoc k p f)

/-- The initial flip-flop values of a tile under a context (03 R71, R74): bit 2 c is qa_init of cell c, the bit above
qb_init. -/
def tileInit (t : Nat) : List Nat :=
  (List.range 64).flatMap fun c =>
    (if bit (cellBits t c) 68 then [2 * c] else []) ++ (if bit (cellBits t c) 74 then [2 * c + 1] else [])

/-- Every user flip-flop of a sector takes its qa_init or qb_init (03 R74). -/
def State.initFlops (s : State) (k : Nat) : State :=
  let fr := s.liveOf k
  let ones := (tilesOf fr).flatMap fun t => (tileInit (tileBits fr t)).map (· + 128 * t)
  { s with fab := { s.fab with ff := SMap.set [] s.fab.ff k (ones.foldl (fun m i => NSet.put m i true) []) } }

/-- The live context of a plane rewritten whole from the plane, but for the masked bits (20 R515). -/
def reloadFrames (live plane : Frames) : Frames :=
  ((live.map (·.1)) ++ (plane.map (·.1))).dedup.foldl
    (fun fr f => writeFrame fr f (frameMask plane f) (frame plane f).toNat) live

/-- SECTOR_RELOAD (20 R515): the rest of the sector's live frames is rewritten, unless a switch has occurred, and its
flip-flops are initialised. -/
def State.sectorReload (s : State) (k : Nat) : State :=
  match (s.ciSec k).reload with
  | none => s
  | some p =>
    let s1 := if s.livePlane k = p then s.setLive k (reloadFrames (s.liveOf k) (s.plane k p)) else s
    let s2 := s1.initFlops k
    let s3 := (s2.setCiSec k { s2.ciSec k with reload := none }).raise Flt.CI_SECTOR_RELOADED [k]
    if s3.ciState k = 4 then s3.setCiState k 0 else s3

/-! ## Laps, stalls, the scan list (20 R511, R518 to R520) -/

/-- A commit of group 0 that every sector has taken ends (20 R521). -/
def State.ciCommitEnd (s : State) : State :=
  match s.ci.commit with
  | none => s
  | some l =>
    if (List.range 96).all fun k => NSet.has s.ci.taken k then
      let s1 := (s.setReg R.CI_CTRL (BitVec.ofNat 32 (l.headD 0)))
      let s2 := (List.range 6).foldl (fun (t : State) m =>
        t.setReg (R.CI_POLICY + 4 * m) (BitVec.ofNat 32 ((l[m + 1]?).getD 0))) s1
      ({ s2 with ci := { s2.ci with commit := none, taken := [] } }).setFlag F.CI_BLK_COMMIT_grp0 false
    else s

/-- A sector's next lap starts (20 R519, R521): it takes a pending commit, and is disabled or scans accordingly. -/
def State.lapStarts (s : State) (k : Nat) : State :=
  let s1 := if s.ci.commit.isSome then { s with ci := { s.ci with taken := NSet.put s.ci.taken k true } } else s
  let s2 := if s1.ciState k ≤ 1 then s1.setCiState k (if s1.ciEnabled k then 0 else 1) else s1
  s2.ciCommitEnd

/-- A commit of group 0 is requested (20 R521): a scanner that runs no lap takes it at once. -/
def State.ciCommit (s : State) (words : List Nat) : State :=
  let s1 := ({ s with ci := { s.ci with commit := some words, taken := [] } }).setFlag F.CI_BLK_COMMIT_grp0 true
  ((List.range 96).filter fun k => !s.ciScans k).foldl State.lapStarts s1

/-- The scan list fails its check at the start of a lap (20 R519): the scanner stops. -/
def State.listFails (s : State) (k : Nat) : State :=
  ((s.setCiSec k { s.ciSec k with listBad := true }).raise Flt.CI_LIST_BAD [k]).setCiState k 2

/-- The device lap ends when every enabled scanner has completed its lap (20 R511). -/
def State.deviceLap (s : State) (k : Nat) : State :=
  let done := NSet.put s.ci.lapped k true
  if (List.range 96).all fun j => NSet.has done j || !s.ciScans j then
    let us := min (2 ^ 24 - 1) ((s.time.ns - s.ci.lapStart) / 1000)
    ({ s with ci := { s.ci with lapped := [], lapStart := s.time.ns } } |>.countWrap F.CI_LAP_laps).setFld F.CI_LAP_lap_us us
  else { s with ci := { s.ci with lapped := done } }

/-- SCAN_LAP_END (20 R511, R519). -/
def State.lapEnds (s : State) (k : Nat) (listBad : Bool) : State :=
  if !s.ciScans k then s
  else
    let c := s.ciSec k
    let s1 := ((s.setCiSec k { c with lap := c.lap + 1 }).countWrap F.CI_SEC_STAT_laps 1 k).deviceLap k
    let s2 := s1.lapStarts k
    if listBad then s2.listFails k else s2

/-- SCAN_STALL (20 R520). -/
def State.scanStall (s : State) (k : Nat) : State :=
  if !s.ciScans k then s
  else
    let c := s.ciSec k
    let s1 := (s.raise Flt.CI_SCAN_STALL [k]).setCiSec k { c with stalled := some c.lap, repair := none, reload := none }
    let again := match c.stalled with
      | some l => decide (c.lap - l ≤ 16)
      | none => false
    if again then (s1.raise Flt.CI_SCAN_DEAD [k]).setCiState k 3 else s1.setCiState k 2

/-- RESTART (20 R520): the scanner's state is reset and a new lap starts, whose list check fails while the list is bad.
An unscanned or halted sector stays so. -/
def State.ciRestart (s : State) (k : Nat) : State :=
  if 95 < k ∨ s.ciState k = 3 ∨ s.ciState k = 5 ∨ s.mgt.warm then s
  else
    let c := s.ciSec k
    let s1 := (s.setCiSec k { c with reported := [], repaired := [], repair := none, reload := none }).setCiState k 0
    let s2 := s1.lapStarts k
    if c.listBad then s2.listFails k else s2

/-- REBUILD (20 R519): the scan list is rebuilt, and signatures found uncorrectable are computed again from planes that
decode clean; the scanner then scans. -/
def State.ciRebuild (s : State) (k : Nat) : State :=
  if 95 < k ∨ s.mgt.warm then s
  else
    let mine := (NSet.members s.ci.sigBad).filter fun key => decide (key / 6144 / 8 = k) && s.planeLoaded k (key / 6144 % 8)
    let s1 := mine.foldl (fun (t : State) key =>
      let p := key / 6144 % 8
      let f := key % 6144
      t.setScanSig k p f (frameSig (frameMask (t.plane k p) f) (frame (t.plane k p) f).toNat)) s
    let s2 := s1.setCiSec k { s1.ciSec k with listBad := false }
    if (s.ciSec k).listBad && decide (s2.ciState k = 2) then (s2.setCiState k 0).lapStarts k else s2

/-- VOTE_CORRECTION (20 R518). -/
def State.ciVote (s : State) : State := (s.count F.CI_VOTE_count).raiseFirst Flt.CI_VOTE_CORR 0 s.ms

/-- The hold of an island has ended (02 R52): its halted scanners scan again. -/
def State.ciRelease (s : State) (island : Nat) : State :=
  [island, island + 48].foldl (fun (t : State) k =>
    if t.ciState k = 5 then (t.setCiState k 0).lapStarts k else t) s

/-! ## Commands -/

/-- SCAN_FRAME_READ (20 R508). -/
def execScanFrameRead (sector place plane frame : Nat) (flips : List Nat) (sigBad : Bool) (s : State) : Result :=
  .next (s.scanRead sector place plane frame flips sigBad)

/-- LATCH_REPAIR (20 R513). -/
def execLatchRepair (sector : Nat) (flips again : List Nat) (s : State) : Result := .next (s.latchRepair sector flips again)

/-- SECTOR_RELOAD (20 R515). -/
def execSectorReload (sector : Nat) (s : State) : Result := .next (s.sectorReload sector)

/-- SCAN_LAP_END (20 R511). -/
def execScanLapEnd (sector : Nat) (listBad : Bool) (s : State) : Result := .next (s.lapEnds sector listBad)

/-- VOTE_CORRECTION (20 R518). -/
def execVoteCorrection (s : State) : Result := .next s.ciVote

/-- SCAN_STALL (20 R520). -/
def execScanStall (sector : Nat) (s : State) : Result := .next (s.scanStall sector)

/-- RESTART (20 R520). -/
def execRestart (sector : Nat) (s : State) : Result := .next (s.ciRestart sector)

/-- REBUILD (20 R519). -/
def execRebuild (sector : Nat) (s : State) : Result := .next (s.ciRebuild sector)

end Sys2Proof.Machine
end

