-- ==== Sys2Proof/Machine/Flags.lean ====
section
/-! DEFINITION. The signal engine's arithmetic on 56-bit accumulators and every flag it computes (07 R210 to R217,
08 R237, R252). An accumulator is the number of its 56 bits. -/

namespace Sys2Proof.Machine

/-- 2^56: accumulators wrap there. -/
def accMod : Nat := 2 ^ 56

/-- A result of an accumulator operation: its 56 bits, and the flags V and C. -/
structure AluOut where
  res : Nat
  v : Bool := false
  c : Bool := false
deriving DecidableEq, Repr

/-- An exact integer as 56 bits. -/
def accOf (i : Int) : Nat := unsigned 56 i

/-- The signed value of 56 bits. -/
def accVal (a : Nat) : Int := signed 56 a

/-- Whether an exact value lies outside [-2^55, 2^55 - 1] (07 R212). -/
def accOver (i : Int) : Bool := decide (i < -2 ^ 55) || decide (2 ^ 55 ≤ i)

/-- Bits [55:47] not all equal (07 R212). -/
def accExt (a : Nat) : Bool := decide (bits a 55 47 ≠ 0) && decide (bits a 55 47 ≠ 511)

/-- The flags of a result in their places in st, L excepted (07 R206, R212). -/
def flagBits (o : AluOut) : Nat :=
  (decide (o.res = 0)).toNat + (bit o.res 55).toNat * 2 + o.v.toNat * 4 + (accExt o.res).toNat * 8 + o.c.toNat * 32

/-- st with Z, N, V, E and C taken from a result and L kept. -/
def stWith (st : Nat) (o : AluOut) : Nat := (bit st 4).toNat * 16 + flagBits o

/-- st with L set. -/
def stLimit (st : Nat) : Nat := putBit st 4 true

/-- An addition (07 R212). -/
def accAdd (a b : Nat) : AluOut := ⟨(a + b) % accMod, accOver (accVal a + accVal b), decide (accMod ≤ a + b)⟩

/-- A subtraction (07 R212): C is the borrow. -/
def accSub (a b : Nat) : AluOut := ⟨(a + accMod - b) % accMod, accOver (accVal a - accVal b), decide (a < b)⟩

/-- A move of an accumulator value: V = C = 0. -/
def accPass (a : Nat) : AluOut := ⟨a % accMod, false, false⟩

/-- The rounding step (07 R213): 2^23 added, bits [23:0] cleared; C and V of the rounding addition. -/
def accRound (a : Nat) : AluOut :=
  let o := accAdd a (2 ^ 23)
  { o with res := o.res / 2 ^ 24 * 2 ^ 24 }

/-- Rounding after an accumulation: V if either wraps, C of the rounding (07 R212). -/
def accRoundAfter (o : AluOut) : AluOut :=
  let r := accRound o.res
  { r with v := o.v || r.v }

/-- The product of two data words (07 R210, R211). -/
def product (frac : Bool) (a b : Nat) : Nat :=
  accOf (signed 24 a * signed 24 b * (if frac then 2 else 1))

/-- v(a) of ADDX and SUBX (08 R237). -/
def alignedWord (frac : Bool) (a : Nat) : Nat := accOf (signed 24 a * (if frac then 2 ^ 24 else 1))

/-- 0 - acc (08 R237). -/
def accNeg (a : Nat) : AluOut := accSub 0 a

/-- ABS (08 R237). -/
def accAbs (a : Nat) : AluOut := if bit a 55 then accNeg a else accPass a

/-- A left shift by `n` (07 R217, 08 R252): V if a bit shifted out differed from bit 55 of the result. -/
def accShl (a n : Nat) : AluOut :=
  let r := a * 2 ^ n % accMod
  let out := if n < 56 then a / 2 ^ (56 - n) else a
  let ones := if n < 56 then 2 ^ n - 1 else accMod - 1
  ⟨r, if bit r 55 then decide (out ≠ ones) else decide (out ≠ 0), false⟩

/-- An arithmetic right shift by `n` (08 R252). -/
def accShr (a n : Nat) : AluOut := ⟨accOf (accVal a / 2 ^ (min n 56)), false, false⟩

/-- ASL1 (08 R237): V if bit 55 changed. -/
def accAsl1 (a : Nat) : AluOut :=
  let r := a * 2 % accMod
  ⟨r, bit r 55 != bit a 55, false⟩

/-- SAT (08 R252): the result and whether L is set. -/
def accSat (a : Nat) : AluOut × Bool :=
  if accExt a then (accPass (if bit a 55 then accMod - 2 ^ 47 else 2 ^ 47 - 1), true) else (accPass a, false)

/-- How many of the leading `n` bits of `a` from bit 55 down equal bit 55, counted on (07 R216). -/
def leadCount (a : Nat) : Nat → Nat
  | 0 => 0
  | n + 1 => if bit a n = bit a 55 then 1 + leadCount a n else 0

/-- The count EXP writes, in 24 bits (07 R216). -/
def expCount (a : Nat) : Nat := unsigned 24 ((leadCount a 56 : Int) - 9)

/-- NORM (07 R217): a shift by a signed 24-bit count held within -8 to +47. -/
def accNorm (a count : Nat) : AluOut :=
  let n := clampInt (-8) 47 (signed 24 count)
  if n < 0 then accShr a (-n).toNat else accShl a n.toNat

/-- The operand of AND, OR and XOR (08 R253). -/
def logicOperand (h : Bool) (s : Nat) : Nat := accOf (signed 24 s * (if h then 2 ^ 24 else 1))

/-- The word that a store of acc.h stores, and whether L is set (07 R214, R215). -/
def storeHigh (sat rnd : Bool) (a : Nat) : Nat × Bool :=
  let v := if rnd then (a + 2 ^ 23) % accMod else a
  if sat && accExt v then (if bit v 55 then 0x800000 else 0x7FFFFF, true) else (bits v 47 24, false)

/-- The conditions of BCC on st, 0 to 13 (08 R247). -/
def condHolds (cond st : Nat) : Bool :=
  let z := bit st 0
  let n := bit st 1
  match cond with
  | 0 => z
  | 1 => !z
  | 2 => n
  | 3 => !n
  | 4 => !z && !n
  | 5 => z || n
  | 6 => bit st 2
  | 7 => !bit st 2
  | 8 => bit st 3
  | 9 => !bit st 3
  | 10 => bit st 4
  | 11 => !bit st 4
  | 12 => bit st 5
  | _ => !bit st 5

end Sys2Proof.Machine
end

