-- ==== Sys2Proof/Machine/Operands.lean ====
section
/-! DEFINITION. The signal engine's operands (07 R204, R218 to R222, R224; 08 R238, R239, R241): registers, pairs, move
slots, pointers, port formats, and its two memories. -/

namespace Sys2Proof.Machine

/-! ## Registers (07 R204) -/

/-- Reset value of a register: ctl is 3. -/
def engReset (r : Nat) : Nat := if r = 22 then 3 else 0

/-- Bits of a register; 0 for a reserved number. -/
def engWidth (r : Nat) : Nat :=
  if r < 4 then 24
  else if r < 20 then (if r % 4 < 2 then 24 else if r % 4 = 2 then 8 else 0)
  else if r = 20 then 11
  else if r = 21 ∨ r = 49 then 6
  else if r = 22 then 3
  else if 24 ≤ r ∧ r < 48 then 12
  else if r = 48 ∨ r = 54 then 10
  else if r = 52 then 20
  else if r = 55 then 4
  else if 56 ≤ r then 10
  else 24

/-- A register's bits. -/
def Engine.reg (g : Engine) (r : Nat) : Nat := SMap.get (engReset r) g.regs r

/-- A register given the low bits of a value; a write of wdt_per loads wdt too (09 R275). -/
def Engine.setReg (g : Engine) (r v : Nat) : Engine :=
  let put := fun (m : SMap Nat) (r : Nat) => SMap.set (engReset r) m r (v % 2 ^ engWidth r)
  if engWidth r = 0 then g
  else { g with regs := if r = 23 then put (put g.regs 23) 53 else put g.regs r }

/-- The value MOV reads of a register's bits: s0 to s7 and the guard parts sign-extended to 24 bits. -/
def engExtend (r v : Nat) : Nat :=
  if 32 ≤ r ∧ r < 40 then unsigned 24 (signed 12 v)
  else if 4 ≤ r ∧ r < 20 ∧ r % 4 = 2 then unsigned 24 (signed 8 v)
  else v

/-- Accumulator `n`: the number of its 56 bits. -/
def Engine.acc (g : Engine) (n : Nat) : Nat :=
  (g.reg (4 + 4 * n) + 2 ^ 24 * g.reg (5 + 4 * n) + 2 ^ 48 * g.reg (6 + 4 * n)) % accMod

/-- Accumulator `n` replaced. -/
def Engine.setAcc (g : Engine) (n v : Nat) : Engine :=
  ((g.setReg (4 + 4 * n) v).setReg (5 + 4 * n) (v / 2 ^ 24)).setReg (6 + 4 * n) (v / 2 ^ 48)

/-- Accumulator `n` as E1 reads it: without what the last instruction writes in E2 (08 R241). -/
def Engine.accE1 (g : Engine) (n : Nat) : Nat :=
  match g.lagAcc with
  | some (k, v) => if k = n then v else g.acc n
  | none => g.acc n

/-- A register as E1 reads it (08 R241). -/
def Engine.regE1 (g : Engine) (r : Nat) : Nat :=
  if 4 ≤ r ∧ r < 20 then
    let a := g.accE1 ((r - 4) / 4)
    match r % 4 with
    | 0 => a % 2 ^ 24
    | 1 => bits a 47 24
    | 2 => bits a 55 48
    | _ => 0
  else if r = 21 then g.lagSt.getD (g.reg 21)
  else g.reg r

/-- The value of a register operand of a control-format instruction (08 R244). -/
def Engine.readE1 (g : Engine) (r : Nat) : Nat := engExtend r (g.regE1 r)

/-- A register number that MOV may not name: reserved or window-only (07 R205). -/
def engNoMov (r : Nat) : Bool := decide (engWidth r = 0) || decide (54 ≤ r)

/-- A d field that is an instruction error (08 R244). -/
def engBadDest (r : Nat) : Bool := engNoMov r || decide (r = 53)

/-- Whether a register is acc.h. -/
def isAccHigh (r : Nat) : Bool := decide (4 ≤ r) && decide (r < 20) && decide (r % 4 = 1)

/-- Whether a register is used by address generation: p, s or m. -/
def isAddressReg (r : Nat) : Bool := decide (24 ≤ r) && decide (r < 48)

/-- A register written at the end of E1: p, s and m reach address generation one instruction later (09 R264); a write of
part of an accumulator, or of st, is what E1 reads next. -/
def Engine.writeE1 (g : Engine) (r v : Nat) : Engine :=
  if isAddressReg r then { g with pend := some (r - 24, v % 4096) } else g.setReg r v

/-- What was written in E1 by the instruction before reaches address generation; it prevails over the update that the
next instruction has made in D (09 R264). -/
def Engine.applyPend (g : Engine) : Engine :=
  match g.pend with
  | none => g
  | some (r, v) => { (g.setReg (24 + r % 24) v) with pend := none }

/-! ## Address generation (07 R218 to R220) -/

/-- The least k with 2^k ≥ L. -/
def log2Up (l : Nat) : Nat := if l ≤ 1 then 0 else log2 (l - 1) + 1

/-- The step of an update field, signed: +1, s, or -1. -/
def stepOf (upd s : Nat) : Int :=
  match upd with
  | 0 => 0
  | 1 => 1
  | 2 => signed 12 s
  | _ => -1

/-- Bit-reversed addressing on `n` bits: the added amount with its carry running downward; +1 and -1 of the update field
add and subtract 2^(n-1). -/
def bitRevStep (p n upd s : Nat) : Nat :=
  let lo := bitReverse n (p % 2 ^ n)
  let new := match upd with
    | 0 => lo
    | 1 => lo + 1
    | 2 => lo + bitReverse n (s % 2 ^ n)
    | _ => lo + 2 ^ n - 1
  p / 2 ^ n * 2 ^ n + bitReverse n (new % 2 ^ n)

/-- The new pointer (07 R218). -/
def newPointer (p s m upd : Nat) : Nat :=
  if upd = 0 then p
  else if bit m 11 then
    let n := min 12 (bits m 3 0)
    if n = 0 then unsigned 12 ((p : Int) + stepOf upd s) else bitRevStep p n upd s
  else if m = 0 then unsigned 12 ((p : Int) + stepOf upd s)
  else
    let l := bits m 10 0
    let base := p / 2 ^ log2Up l * 2 ^ log2Up l
    base + (((p : Int) - base + stepOf upd s) % (l : Int)).toNat

/-! ## Move slots (07 R221, 08 R239) -/

/-- Fields of an 11-bit move slot. -/
def slotOn (sl : Nat) : Bool := bit sl 10
def slotStore (sl : Nat) : Bool := bit sl 9
def slotPtr (sl : Nat) : Nat := bits sl 8 6
def slotUpd (sl : Nat) : Nat := bits sl 5 4
def slotReg (sl : Nat) : Nat := bits sl 3 1
def slotZero (sl : Nat) : Bool := bit sl 0

/-- Address generation of a slot in D: the pointer before its update, and the update (07 R218). -/
def slotAddress (g : Engine) (sl : Nat) : Nat × Engine :=
  let n := slotPtr sl
  let p := g.reg (24 + n)
  if slotOn sl then
    (p, g.setReg (24 + n) (newPointer p (g.reg (32 + n)) (g.reg (40 + n)) (slotUpd sl)))
  else (p, g)

/-- The operand pair (08 R238). -/
def pairRegs (code : Nat) : Nat × Nat :=
  match code with
  | 0 => (0, 2)
  | 1 => (0, 3)
  | 2 => (1, 2)
  | 3 => (1, 3)
  | n => (n - 4, n - 4)

/-! ## Port formats (07 R224) -/

/-- An engine word from a fabric word. -/
def inFormat (sample : Bool) (f : Nat) : Nat := if sample then f % 2 ^ 16 * 2 ^ 8 else f % 2 ^ 24

/-- A fabric word from an engine word. -/
def outFormat (sample : Bool) (w : Nat) : Nat :=
  if sample then bits w 23 8 else w % 2 ^ 24 + (if bit w 23 then 0xFF000000 else 0)

/-! ## The engines' memories (07 R207, R209) -/

/-- A stored data word: 24 data bits and 6 check bits above them. -/
def dmemCode (d : Nat) : Nat := d % 2 ^ 24 + secdedCheck 29 24 5 (d % 2 ^ 24) * 2 ^ 24

/-- A stored program word: 32 data bits and 7 check bits above them. -/
def pmemCode (d : Nat) : Nat := d % 2 ^ 32 + secdedCheck 38 32 6 (d % 2 ^ 32) * 2 ^ 32

/-- A stored data word decoded. -/
def dmemDecode (v : Nat) : Found × Nat := secdedDecode 29 24 5 (v % 2 ^ 24) (v / 2 ^ 24)

/-- A stored program word decoded. -/
def pmemDecode (v : Nat) : Found × Nat := secdedDecode 38 32 6 (v % 2 ^ 32) (v / 2 ^ 32)

/-- An engine. -/
def State.engine (s : State) (e : Nat) : Engine := SMap.get {} s.eng e

/-- An engine replaced. -/
def State.setEngine (s : State) (e : Nat) (g : Engine) : State := { s with eng := SMap.set {} s.eng e g }

/-- An engine changed. -/
def State.updEngine (s : State) (e : Nat) (f : Engine → Engine) : State := s.setEngine e (f (s.engine e))

/-- A stored bit of an engine's memories inverted. -/
def Engine.upset (g : Engine) (u : EngUpset) : Engine :=
  if u.prog then { g with pmem := SMap.upd 0 g.pmem (u.word % 1024) (· ^^^ 2 ^ (u.bit % 39)) }
  else { g with dmem := SMap.upd 0 g.dmem (u.word % 4096) (· ^^^ 2 ^ (u.bit % 30)) }

/-- Upsets of an engine's memories. -/
def State.engUpsets (s : State) (e : Nat) (ups : List EngUpset) : State :=
  if ups = [] then s else s.updEngine e fun g => ups.foldl Engine.upset g

/-- An uncorrectable read of an engine's memories (07 R209). -/
def State.engUncorr (s : State) (e : Nat) (f : FaultCode) : State :=
  ((s.count F.ENG_MEM_ERR_uncorr 1 e).setFlag F.ENG_STATUS_uncorr_any true).raise f [e]

/-- A data word read (07 R209): the outcome counted, a corrected word's rewrite made pending if none is. Answers the word
and whether it is uncorrectable. -/
def State.dmemRead (s : State) (e a : Nat) : Nat × Bool × State :=
  let d := dmemDecode (SMap.get 0 (s.engine e).dmem (a % 4096))
  match d.1 with
  | .clean => (d.2, false, s)
  | .corrected =>
    let s1 := (s.count F.ENG_MEM_ERR_corrected 1 e).raiseFirst Flt.ENG_DMEM_CORRECTED e s.ms [e]
    (d.2, false, s1.updEngine e fun g => { g with rewrite := some (g.rewrite.getD (a % 4096)) })
  | _ => (d.2, true, s.engUncorr e Flt.ENG_DMEM_UNCORR)

/-- A data word written with a fresh code; a pending rewrite of the word is dropped (07 R209). -/
def State.dmemWrite (s : State) (e a v : Nat) : State :=
  s.updEngine e fun g =>
    { g with dmem := SMap.set 0 g.dmem (a % 4096) (dmemCode v), rewrite := if g.rewrite = some (a % 4096) then none else g.rewrite }

/-- A program word read (07 R209): a corrected word is rewritten at once. -/
def State.pmemRead (s : State) (e a : Nat) : Nat × Bool × State :=
  let d := pmemDecode (SMap.get 0 (s.engine e).pmem (a % 1024))
  match d.1 with
  | .clean => (d.2, false, s)
  | .corrected =>
    let s1 := (s.count F.ENG_MEM_ERR_corrected 1 e).raiseFirst Flt.ENG_PMEM_CORRECTED e s.ms [e]
    (d.2, false, s1.updEngine e fun g => { g with pmem := SMap.set 0 g.pmem (a % 1024) (pmemCode d.2) })
  | _ => (d.2, true, s.engUncorr e Flt.ENG_PMEM_UNCORR)

/-- A program word written with a fresh code. -/
def State.pmemWrite (s : State) (e a v : Nat) : State :=
  s.updEngine e fun g => { g with pmem := SMap.set 0 g.pmem (a % 1024) (pmemCode v) }

end Sys2Proof.Machine
end

