-- ==== Sys2Proof/Machine/Engine.lean ====
section
/-! DEFINITION. Executing one signal engine instruction (08, 09): decode, instruction errors, the arithmetic ops, moves,
program flow, ports, and what follows it: repeats, delay slots, locked sequences, halts. One command is one issue of one
instruction of one engine, with the stages of 09 R262 as the views of Operands.lean give them. -/

namespace Sys2Proof.Machine

/-- The instructions, named as the manual's mnemonics. -/
inductive EngKind where
  | nopa | mpy | mac | msu | mpyr | macr | msur | addx | subx | clr | cpya | neg | abs | asl1 | asr1 | rnd
  | nop | ldi | ldih | mov | ldd | std | bra | bcc | call | ret | rti | dbnz | rep
  | exp | norm | shl | shr | sat | and | or | xor | in | out | wait | sig | xfer
  | ei | di | lock | unlock | kick | tas | halt | trap
deriving DecidableEq, Repr

/-- The parallel op of bits [30:27] (08 R237). -/
def parallelKind (op : Nat) : EngKind :=
  match op with
  | 0 => .nopa | 1 => .mpy | 2 => .mac | 3 => .msu | 4 => .mpyr | 5 => .macr | 6 => .msur | 7 => .addx
  | 8 => .subx | 9 => .clr | 10 => .cpya | 11 => .neg | 12 => .abs | 13 => .asl1 | 14 => .asr1 | _ => .rnd

/-- The control opcode of bits [30:25] (08 R243); none for an unlisted one. -/
def controlKind (op : Nat) : Option EngKind :=
  match op with
  | 0x00 => some .nop | 0x01 => some .ldi | 0x02 => some .ldih | 0x03 => some .mov | 0x04 => some .ldd
  | 0x05 => some .std | 0x08 => some .bra | 0x09 => some .bcc | 0x0A => some .call | 0x0B => some .ret
  | 0x0C => some .rti | 0x0D => some .dbnz | 0x0E => some .rep | 0x10 => some .exp | 0x11 => some .norm
  | 0x12 => some .shl | 0x13 => some .shr | 0x14 => some .sat | 0x15 => some .and | 0x16 => some .or
  | 0x17 => some .xor | 0x18 => some .in | 0x19 => some .out | 0x1A => some .wait | 0x1B => some .sig
  | 0x1C => some .xfer | 0x20 => some .ei | 0x21 => some .di | 0x22 => some .lock | 0x23 => some .unlock
  | 0x24 => some .kick | 0x25 => some .tas | 0x28 => some .halt | 0x29 => some .trap
  | _ => none

/-- The instruction a word is (08 R236). -/
def engKind (w : Nat) : Option EngKind :=
  if bit w 31 then some (parallelKind (bits w 30 27)) else controlKind (bits w 30 25)

/-- Whether an instruction is branch-type (08 R246). -/
def isBranch (k : EngKind) : Bool := [EngKind.bra, .bcc, .call, .ret, .rti, .dbnz].contains k

/-- Whether an instruction has a d field, at [21:16] (08 R243). -/
def hasDest (k : EngKind) : Bool := [EngKind.ldi, .ldih, .mov, .ldd, .exp, .in].contains k

/-- The s field of an instruction, if it has one (08 R243). -/
def sourceField (k : EngKind) (w : Nat) : Option Nat :=
  match k with
  | .std => some (bits w 21 16)
  | .out => some (bits w 21 16)
  | .mov => some (bits w 5 0)
  | .norm => some (bits w 5 0)
  | .and => some (bits w 5 0)
  | .or => some (bits w 5 0)
  | .xor => some (bits w 5 0)
  | _ => none

/-- The number of times a REP repeats the next instruction (08 R251); 0 for an lc out of range. -/
def repCount (g : Engine) (w : Nat) : Nat :=
  if bit w 24 then (if g.reg 20 ≤ 1024 then g.reg 20 else 0) else bits w 9 0 + 1

/-- Bank words an XFER covers (07 R228). -/
def xferBankWords (w : Nat) : Nat := ceilDiv (bits w 8 0) (if bit w 23 then 8 else 4)

/-- The first bank word an XFER names (08 R256). -/
def xferBank (g : Engine) (w : Nat) : Nat := g.reg (bits w 19 18) % 8192

/-- Instruction errors of the word itself and of the registers it uses (08 R244, R247, R248, R251, R254, R256, R261;
07 R205, R225, R229). -/
def operandError (g : Engine) (k : EngKind) (w : Nat) : Bool :=
  (hasDest k && engBadDest (bits w 21 16))
  || (match sourceField k w with
      | some r => engNoMov r
      | none => false)
  || (match k with
      | .std => bit w 24 && !isAccHigh (bits w 21 16)
      | .out => (bit w 24 && !isAccHigh (bits w 21 16)) || decide (2 ≤ bits w 2 0)
      | .bcc => decide (14 ≤ bits w 13 10)
      | .call => decide (8 ≤ g.reg 55)
      | .ret => decide (g.reg 55 = 0)
      | .rep => decide (repCount g w = 0)
      | .xfer => g.mover.busy || decide (bits w 8 0 = 0) || decide (256 < bits w 8 0)
          || decide (8192 < xferBank g w + xferBankWords w)
      | _ => false)

/-- Instruction errors of where the instruction stands: in a delay slot, repeated, in a locked sequence or outside one
(08 R246, R251, R257, R258). -/
def placeError (g : Engine) (k : EngKind) : Bool :=
  (decide (0 < g.delay) && (isBranch k || [EngKind.rep, .halt, .trap, .ei, .di].contains k))
  || (decide (0 < g.rep) && (isBranch k || [EngKind.rep, .lock, .unlock, .wait, .halt, .trap, .xfer].contains k))
  || (match g.lock with
      | some n => [EngKind.lock, .rep, .halt, .trap, .wait].contains k
          || (decide (n = 7) && decide (k ≠ .unlock))
      | none => decide (k = .unlock))

/-! ## Time, halts -/

/-- One engine clock edge (07 R206, 09 R275): the timer and the watchdog count; their reload and expiry edges are
commands of their own. -/
def Engine.tick (g : Engine) : Engine :=
  let g1 := if g.reg 51 ≠ 0 ∧ g.reg 50 ≠ 0 then g.setReg 50 (g.reg 50 - 1) else g
  if g1.reg 23 ≠ 0 ∧ 1 < g1.reg 53 then g1.setReg 53 (g1.reg 53 - 1) else g1

/-- Everything in the pipeline has completed. -/
def Engine.drain (g : Engine) : Engine := { g.applyPend with lagAcc := none, lagSt := none }

/-- A halt (09 R278, R279): cause and pc; older instructions complete. -/
def Engine.haltAt (g : Engine) (cause pc : Nat) : Engine :=
  { (g.drain.setReg 54 pc) with
    halted := true, cause := cause, stalled := false, waiting := false, stepping := false, cmdHalt := false }

/-- REP and locked-sequence state cleared. -/
def Engine.noBlock (g : Engine) : Engine := { g with rep := 0, lock := none }

/-- The pending branch cleared too. -/
def Engine.noFlow (g : Engine) : Engine := { g.noBlock with delay := 0, target := 0 }

/-- An instruction error (09 R279): the erring instruction is not executed, and the engine halts with cause 4. -/
def State.engError (s : State) (e : Nat) : State :=
  let g := s.engine e
  (s.setEngine e (g.noBlock.haltAt 4 (g.reg 54))).raise Flt.ENG_INSTR_ERROR [e, g.reg 54]

/-! ## The parallel format (08 R237) -/

/-- The arithmetic of a parallel op on accumulator `n`: none where it writes no accumulator. -/
def parallelAlu (g : Engine) (k : EngKind) (w : Nat) : Option AluOut :=
  let a := g.acc (bits w 26 25)
  let frac := bit (g.reg 22) 0
  let pr := pairRegs (bits w 24 22)
  let p := product frac (g.reg pr.1) (g.reg pr.2)
  match k with
  | .mpy => some (accPass p)
  | .mac => some (accAdd a p)
  | .msu => some (accSub a p)
  | .mpyr => some (accRound p)
  | .macr => some (accRoundAfter (accAdd a p))
  | .msur => some (accRoundAfter (accSub a p))
  | .addx => some (accAdd a (alignedWord frac (g.reg pr.1)))
  | .subx => some (accSub a (alignedWord frac (g.reg pr.1)))
  | .clr => some (accPass 0)
  | .cpya => some (accPass (g.acc (bits w 23 22)))
  | .neg => some (accNeg a)
  | .abs => some (accAbs a)
  | .asl1 => some (accAsl1 a)
  | .asr1 => some (accShr a 1)
  | .rnd => some (accRound a)
  | _ => none

/-- A loaded word reaches its register (07 R221); E1 reads it from now on. -/
def slotLoad (g : Engine) (r v : Nat) : Engine :=
  if r < 4 then g.setReg r v
  else
    let g1 := g.setAcc (r - 4) (accOf (signed 24 v * 2 ^ 24))
    { g1 with lagAcc := if g.lagAcc.map (·.1) = some (r - 4) then none else g.lagAcc }

/-- The word a slot stores, and the engine after it: L may be set (07 R215, R221). -/
def slotStoreWord (g : Engine) (sl : Nat) : Nat × Engine :=
  if slotZero sl then (0, g)
  else if slotReg sl < 4 then (g.reg (slotReg sl), g)
  else
    let o := storeHigh (bit (g.reg 22) 1) false (g.accE1 (slotReg sl - 4))
    (o.1, if o.2 then g.setReg 21 (stLimit (g.reg 21)) else g)

/-- A slot's access in E1 (07 R208, R221). Answers whether a read was uncorrectable. -/
def State.slotAccess (s : State) (e sl a : Nat) : Bool × State :=
  if !slotOn sl then (false, s)
  else if slotStore sl then
    let o := slotStoreWord (s.engine e) sl
    (false, (s.setEngine e o.2).dmemWrite e a o.1)
  else if slotZero sl then (false, s.updEngine e fun g => slotLoad g (slotReg sl) 0)
  else
    let (v, bad, s1) := s.dmemRead e a
    (bad, s1.updEngine e fun g => slotLoad g (slotReg sl) v)

/-- E2 of an accumulator operation: the accumulator and the flags, and the views E1 still has of them. `l`: L is set
too (SAT). -/
def Engine.writeE2 (g : Engine) (n before : Nat) (o : AluOut) (l : Bool) : Engine :=
  let st := g.reg 21
  let st2 := if l then stLimit (stWith st o) else stWith st o
  { ((g.setAcc n o.res).setReg 21 st2) with lagAcc := some (n, before), lagSt := some st }

/-- No accumulator or flag is written in E2. -/
def Engine.quietE2 (g : Engine) : Engine := { g with lagAcc := none, lagSt := none }

/-- A parallel instruction (08 R237 to R240). Answers whether a read was uncorrectable. -/
def State.parallel (s : State) (e : Nat) (k : EngKind) (w : Nat) : Bool × State :=
  let g0 := s.engine e
  let (aA, g1) := slotAddress g0 (bits w 21 11)
  let (aB, g2) := slotAddress g1 (bits w 10 0)
  let g3 := g2.applyPend.tick
  let alu := parallelAlu g3 k w
  let n := bits w 26 25
  let before := g3.acc n
  let (badA, s1) := (s.setEngine e g3).slotAccess e (bits w 21 11) aA
  let (badB, s2) := s1.slotAccess e (bits w 10 0) aB
  let s3 := s2.updEngine e fun g =>
    match alu with
    | some o => g.writeE2 n before o false
    | none => g.quietE2
  (badA || badB, s3)

/-! ## The control format -/

/-- A branch decided (08 R246, 09 R265): two delay slots, then the target or the instruction after them. -/
def Engine.branch (g : Engine) (taken : Bool) (target : Nat) : Engine :=
  { g with delay := 2, target := if taken then target % 1024 else (g.reg 54 + 3) % 1024 }

/-- The word STD and OUT take of a register, and whether L is set (07 R214, R215; 08 R245, R254). -/
def outWord (g : Engine) (r : Nat) (rnd : Bool) : Nat × Bool :=
  if isAccHigh r then storeHigh (bit (g.reg 22) 1) rnd (g.accE1 ((r - 4) / 4)) else (g.readE1 r, false)

/-- st with L set where a store has saturated. -/
def Engine.limit (g : Engine) (l : Bool) : Engine := if l then g.setReg 21 (stLimit (g.reg 21)) else g

/-- Mover status (07 R231). -/
def Mover.status (m : Mover) : Nat := m.busy.toNat * 2 ^ 23 + m.err * 2 ^ 21 + m.done

/-- The value of IN port 2 to 7 (07 R225). -/
def portValue (g : Engine) (port : Nat) : Nat :=
  match port with
  | 2 => g.in0.length
  | 3 => g.in1.length
  | 4 => 16 - g.out0.length
  | 5 => 16 - g.out1.length
  | 6 => g.evt % 16
  | _ => g.mover.status

/-- Whether an instruction must stall now (07 R225, 08 R255). -/
def mustStall (g : Engine) (k : EngKind) (w : Nat) : Bool :=
  match k with
  | .in => (decide (bits w 2 0 = 0) && g.in0.isEmpty) || (decide (bits w 2 0 = 1) && g.in1.isEmpty)
  | .out => (decide (bits w 2 0 = 0) && decide (16 ≤ g.out0.length)) || (decide (bits w 2 0 = 1) && decide (16 ≤ g.out1.length))
  | .sig => decide (4 ≤ SMap.get 0 g.sig (bits w 1 0))
  | _ => false

/-- The sector of an engine (01 R26). -/
def engSector (e : Nat) : Nat := e / 128

/-- The island of an engine. -/
def engIsland (e : Nat) : Nat := islandOf (engSector e)

/-- The number of an engine's mover in its island (05 R149). -/
def moverNumber (e : Nat) : Nat := e % 128 + (if 48 ≤ engSector e then 128 else 0)

/-- The bank that a mover serves, and whether on port B (07 R227). -/
def State.moverBank (s : State) (e : Nat) : Option (Nat × Bool) :=
  let col := engIsland e
  let m := MemMaster.mover (moverNumber e)
  ((List.range 256).findSome? fun b =>
    let bank := col * 256 + b
    if s.fgOwner bank false = some m then some (bank, false)
    else if s.fgOwner bank true = some m then some (bank, true) else none)

/-- XFER starts the mover (07 R228, R229); with no bank named it ends at once with error 2. -/
def State.startXfer (s : State) (e : Nat) (g : Engine) (w : Nat) : State :=
  let m : Mover := {
    busy := true, toBank := bit w 24, sample := bit w 23, eaddr := g.reg (24 + bits w 22 20)
    bword := xferBank g w, left := bits w 8 0 }
  match s.moverBank e with
  | some (b, pb) => s.updEngine e fun g => { g with mover := { m with bank := b, portB := pb } }
  | none => (s.updEngine e fun g => { g with mover := { err := 2 } }).raise Flt.ENG_XFER_ERR [e]

/-- TAS (08 R259). -/
def State.testAndSet (s : State) (e w : Nat) : State :=
  let key := engSector e * 64 + bits w 5 0
  let clear := !NSet.has s.sems key
  if bit w 24 then { s with sems := NSet.put s.sems key false }
  else { (s.updEngine e fun g => g.setReg 21 (putBit (g.reg 21) 0 clear)) with sems := NSet.put s.sems key true }

/-- The accumulator field of a control-format instruction (08 R243). -/
def accField (w : Nat) : Nat := bits w 23 22

/-- What an accumulator instruction of the control format computes, and whether SAT sets L (08 R252, R253). -/
def controlAlu (g : Engine) (k : EngKind) (w : Nat) : Option (AluOut × Bool) :=
  let a := g.acc (accField w)
  let operand := logicOperand (bit w 24) (g.readE1 (bits w 5 0))
  match k with
  | .norm => some (accNorm a (g.readE1 (bits w 5 0)), false)
  | .shl => some (accShl a (bits w 5 0), false)
  | .shr => some (accShr a (bits w 5 0), false)
  | .sat => some (accSat a)
  | .and => some (accPass (a &&& operand), false)
  | .or => some (accPass (a ||| operand), false)
  | .xor => some (accPass (a ^^^ operand), false)
  | _ => none

/-- A control-format instruction (08 R243 to R259). `g0` is the engine before this cycle's clock edge, which E1 reads; the
state's engine is after it. Answers whether a read was uncorrectable. -/
def State.control (s : State) (e : Nat) (k : EngKind) (w : Nat) (g0 : Engine) : Bool × State :=
  let d := bits w 21 16
  let up := fun (f : Engine → Engine) => (false, s.updEngine e f)
  match k with
  | .ldi => up fun g => g.writeE1 d (unsigned 24 (signed 16 (bits w 15 0)))
  | .ldih => up fun g => if engWidth d < 17 then g else g.writeE1 d (bits (g0.readE1 d) 15 0 + bits w 7 0 * 2 ^ 16)
  | .mov => up fun g => g.writeE1 d (g0.readE1 (bits w 5 0))
  | .ldd =>
    let (v, bad, s1) := s.dmemRead e (bits w 11 0)
    (bad, s1.updEngine e fun g => g.writeE1 d v)
  | .std =>
    let o := outWord g0 d (bit w 24)
    (false, (s.updEngine e fun g => g.limit o.2).dmemWrite e (bits w 11 0) o.1)
  | .bra => up fun g => g.branch true (bits w 9 0)
  | .bcc => up fun g => g.branch (condHolds (bits w 13 10) (g.reg 21)) (bits w 9 0)
  | .call => up fun g =>
    let csp := g.reg 55
    ((g.setReg (56 + csp) (g.reg 54 + 3)).setReg 55 (csp + 1)).branch true (bits w 9 0)
  | .ret => up fun g =>
    let csp := g.reg 55 - 1
    (g.setReg 55 csp).branch true (g.reg (56 + csp))
  | .rti => up fun g =>
    { (((g.setReg 21 (g.reg 49)).setReg 22 (putBit (g.reg 22) 2 true)).branch true (g.reg 48)) with handler := false }
  | .dbnz => up fun g =>
    let lc := (g.reg 20 + 2047) % 2048
    (g.setReg 20 lc).branch (decide (lc ≠ 0)) (bits w 9 0)
  | .rep => up fun g => { g with rep := repCount g w }
  | .exp => up fun g => g.writeE1 d (expCount (g0.accE1 (accField w)))
  | .in =>
    match bits w 2 0 with
    | 0 => up fun g => { (g.writeE1 d (inFormat (bit (g.reg 52) 0) (g.in0.headD 0))) with in0 := g.in0.tail }
    | 1 => up fun g => { (g.writeE1 d (inFormat (bit (g.reg 52) 1) (g.in1.headD 0))) with in1 := g.in1.tail }
    | p => up fun g => g.writeE1 d (portValue g0 p)
  | .out =>
    let o := outWord g0 d (bit w 24)
    if bits w 2 0 = 0 then up fun g => { (g.limit o.2) with out0 := g.out0 ++ [outFormat (bit (g.reg 52) 2) o.1] }
    else up fun g => { (g.limit o.2) with out1 := g.out1 ++ [outFormat (bit (g.reg 52) 3) o.1] }
  | .wait => up fun g => { g with waiting := true }
  | .sig => up fun g => { g with sig := SMap.upd 0 g.sig (bits w 1 0) (· + 1) }
  | .xfer => (false, s.startXfer e g0 w)
  | .ei => up fun g => g.setReg 22 (putBit (g.reg 22) 2 true)
  | .di => up fun g => g.setReg 22 (putBit (g.reg 22) 2 false)
  | .lock => up fun g => { g with lock := some 0 }
  | .unlock => up fun g => { g with lock := none }
  | .kick => up fun g => g.setReg 53 (g.reg 23)
  | .tas => (false, s.testAndSet e w)
  | _ => (false, s)

/-- A control-format instruction with its pipeline views: E2 instructions read and write accumulators there, the others
leave nothing for E2. -/
def State.controlIssue (s : State) (e : Nat) (k : EngKind) (w : Nat) : Bool × State :=
  let g0 := (s.engine e).applyPend
  let g1 := g0.tick
  match controlAlu g0 k w with
  | some (o, l) => (false, s.setEngine e (g1.writeE2 (accField w) (g0.acc (accField w)) o l))
  | none => (s.setEngine e g1.quietE2).control e k w g0

/-! ## One issue -/

/-- What follows an executed instruction (08 R246, R251, R258): the locked sequence counts it, a repeated instruction
stays at its address while executions are left, and after the second delay slot execution goes to the target. -/
def Engine.advance (g : Engine) (k : EngKind) : Engine :=
  let pc := g.reg 54
  let g1 := { g with lock := if k = EngKind.lock then g.lock else g.lock.map (· + 1) }
  if isBranch k || decide (k = .rep) then g1.setReg 54 (pc + 1)
  else if 1 < g1.rep then { g1 with rep := g1.rep - 1 }
  else
    let g2 := { g1 with rep := 0 }
    if g2.delay = 1 then ({ g2 with delay := 0, target := 0 }).setReg 54 g2.target
    else ({ g2 with delay := g2.delay - 1 }).setReg 54 (pc + 1)

/-- Whether the step of a STEP is complete (09 R281). -/
def Engine.stepDone (g : Engine) : Bool := g.stepping && decide (g.delay = 0) && decide (g.rep = 0) && g.lock.isNone

/-- An instruction that enters E1 (08 R261, 09 R279): it errs, stalls, or executes; then HALT, an uncorrectable read or
the end of a step halts the engine. -/
def State.engRun (s : State) (e : Nat) (k : EngKind) (w : Nat) : State :=
  let g := s.engine e
  if placeError g k || operandError g k w then s.engError e
  else if k = .trap then s.setEngine e (g.haltAt 2 (g.reg 54))
  else if mustStall g k w then s.setEngine e { g with stalled := true, waiting := false, fresh := false }
  else
    let s0 := s.setEngine e { g with stalled := false, waiting := false, fresh := false }
    let r := if bit w 31 then s0.parallel e k w else s0.controlIssue e k w
    r.2.updEngine e fun g =>
      let g1 := g.advance k
      if k = .halt then g1.haltAt 5 (g1.reg 54)
      else if r.1 then g1.noFlow.haltAt 6 (g1.reg 54)
      else if g1.stepDone then g1.haltAt 1 (g1.reg 54)
      else g1

/-- The next instruction fetched and run, if it is a `k` (any where none is named), or one that cannot be decoded: an
uncorrectable word halts the engine (07 R209, 09 R279). -/
def State.engFetch (s : State) (e : Nat) (want : Option EngKind) : State :=
  let g := s.engine e
  let (w, bad, s1) := s.pmemRead e (g.reg 54)
  if bad then s1.updEngine e fun g => g.noBlock.haltAt 7 (g.reg 54)
  else
    match engKind w with
    | none => s1.engError e
    | some k => if want.isNone || decide (want = some k) then s1.engRun e k w else s

/-! ## Interrupt requests (09 R268, R269) -/

/-- Whether a vector's en bit is 1. -/
def vectorEnabled (g : Engine) (v : Nat) : Bool := bit (pmemDecode (SMap.get 0 g.pmem (1016 + v))).2 31

/-- Whether the source of a vector requests (07 R226, 09 R268). -/
def vectorRequests (g : Engine) (v : Nat) : Bool :=
  let level := fun (n : Nat) => bits (g.reg 52) (4 * n + 7) (4 * n + 4)
  match v with
  | 0 => g.timerPend
  | 1 => decide (g.evt % 4 ≠ 0)
  | 2 => decide (g.evt / 4 % 4 ≠ 0)
  | 3 => decide (level 0 < g.in0.length)
  | 4 => decide (level 1 < g.in1.length)
  | 5 => decide (level 2 < 16 - g.out0.length)
  | 6 => decide (level 3 < 16 - g.out1.length)
  | _ => g.mboxPend

/-- The request of highest priority. -/
def engRequest (g : Engine) : Option Nat := (List.range 8).find? fun v => vectorEnabled g v && vectorRequests g v

/-- Whether an engine's clock runs. -/
def State.engClocked (s : State) (e : Nat) : Bool := s.clocked (engIsland e)

/-- Whether an engine can issue its next instruction: it runs, is not stalled, and does not wait in WAIT with no
request. -/
def Engine.canIssue (g : Engine) : Bool := !g.halted && !g.stalled && (!g.waiting || (engRequest g).isSome)

/-- One of the instruction commands: engine `e` issues its next instruction, which is a `k`. `ups` are stored bits of its
memories that upsets have inverted. -/
def State.engCommand (s : State) (e : Nat) (ups : List EngUpset) (k : EngKind) : State :=
  if s.engClocked e && (s.engine e).canIssue then
    (s.engUpsets e ups).engFetch e (some k)
  else s

end Sys2Proof.Machine
end

