-- ==== Sys2Proof/Machine/EngineCmd.lean ====
section
/-! DEFINITION. The signal engine's commands: one per instruction (08), and its events: timer, watchdog, interrupts,
ports, mover, halts, resume, step, reset, window (07 R223 to R234, 09 R268 to R282). -/

namespace Sys2Proof.Machine

/-! ## Timer, watchdog, interrupts -/

/-- DMEM_REWRITE (07 R209): the pending word is rewritten with what it decodes to. -/
def State.dmemRewrite (s : State) (e : Nat) : State :=
  let g := s.engine e
  match g.rewrite with
  | none => s
  | some a =>
    if !s.engClocked e then s
    else
      let d := dmemDecode (SMap.get 0 g.dmem a)
      if d.1 = .uncorrectable then s.setEngine e { g with rewrite := none }
      else s.setEngine e { g with rewrite := none, dmem := SMap.set 0 g.dmem a (dmemCode d.2) }

/-- TIMER_RELOAD (07 R206): the edge that finds tmr at 0. -/
def State.timerReload (s : State) (e : Nat) : State :=
  let g := s.engine e
  if !s.engClocked e || g.halted || decide (g.reg 51 = 0) then s
  else s.setEngine e { (g.setReg 50 (g.reg 51)) with timerPend := true }

/-- WATCHDOG_EXPIRE (09 R275, R276): the edge that takes wdt from 1 to 0. -/
def State.watchdogExpire (s : State) (e : Nat) : State :=
  let g := s.engine e
  if !s.engClocked e || g.halted || decide (g.reg 23 = 0) then s
  else
    let g1 := { ((g.noFlow.setReg 53 0).setReg 22 (putBit (g.reg 22) 2 false)) with handler := false }
    (s.setEngine e (g1.haltAt 3 (g.reg 54))).raise Flt.ENG_WATCHDOG [e]

/-- Whether the instruction in D, the next to issue, is held off (09 R270). -/
def Engine.heldOff (g : Engine) : Bool := decide (0 < g.delay) || decide (0 < g.rep) || g.lock.isSome

/-- INTERRUPT_ENTRY (09 R270, R271): the enabled request of highest priority is taken. -/
def State.interruptEntry (s : State) (e : Nat) (ups : List EngUpset) : State :=
  let g := s.engine e
  if !s.engClocked e || g.halted || g.stalled || g.stepping || g.handler || g.heldOff || !bit (g.reg 22) 2 then s
  else
    match engRequest g with
    | none => s
    | some v =>
      let g1 := g.drain
      let g2 := { (((g1.setReg 48 (g1.reg 54)).setReg 49 (g1.reg 21)).setReg 22 (putBit (g1.reg 22) 2 false)) with
        handler := true, waiting := false
        timerPend := g1.timerPend && decide (v ≠ 0), mboxPend := g1.mboxPend && decide (v ≠ 7) }
      let (w, bad, s1) := ((s.setEngine e g2).engUpsets e ups).pmemRead e (1016 + v)
      if bad then s1.updEngine e fun g => g.haltAt 7 (1016 + v)
      else s1.updEngine e fun g => g.setReg 54 (bits w 9 0)

/-! ## Ports -/

/-- Whether a sector's live context attaches a port segment (03 R101, R102). -/
def State.attached (s : State) (sector att : Nat) : Bool :=
  (tilesOf (s.liveOf sector)).any fun t => decide (attOf (tileBits (s.liveOf sector) t) = att)

/-- The att value of an engine's segment (03 R102). -/
def engAtt (e : Nat) : Nat := e % 128 / 4 + 1

/-- ENG_PORT_PUSH (07 R223): ports 0 and 1 are pushed by the fabric, the output ports 2 and 3 give it their oldest word. -/
def State.engPort (s : State) (e port : Nat) (word : Word) : State :=
  let g := s.engine e
  if !s.engClocked e || !s.attached (engSector e) (engAtt e) then s
  else
    match port with
    | 0 => if g.in0.length < 16 then s.setEngine e { g with in0 := g.in0 ++ [word.toNat] } else s
    | 1 => if g.in1.length < 16 then s.setEngine e { g with in1 := g.in1 ++ [word.toNat] } else s
    | 2 => s.setEngine e { g with out0 := g.out0.tail }
    | _ => s.setEngine e { g with out1 := g.out1.tail }

/-- A step or a program goes on for as long as the engine steps (09 R281); `n` bounds the instructions of a step: a REP
and its 1,024 repetitions. -/
def State.engStepLoop (s : State) (e : Nat) : Nat → State
  | 0 => s
  | n + 1 =>
    if (s.engine e).stepping && (s.engine e).canIssue then State.engStepLoop (s.engFetch e none) e n else s

/-- A number of engine clock edges pass. -/
def Engine.ticks (g : Engine) (n : Nat) : Engine :=
  let g1 := if g.reg 51 ≠ 0 then g.setReg 50 (g.reg 50 - n) else g
  if g1.reg 23 ≠ 0 then g1.setReg 53 (max (min 1 (g1.reg 53)) (g1.reg 53 - n)) else g1

/-- ENG_STALL_END (07 R225, 08 R255): the stalled instruction finds its word or room and completes, after `cycles` edges. -/
def State.stallEnd (s : State) (e cycles : Nat) : State :=
  let g := s.engine e
  let w := (pmemDecode (SMap.get 0 g.pmem (g.reg 54))).2
  match engKind w with
  | none => s
  | some k =>
    if !s.engClocked e || !g.stalled || mustStall g k w then s
    else
      let s1 := (s.setEngine e { (g.ticks cycles) with stalled := false }).engRun e k w
      s1.engStepLoop e 1100

/-- SIG_PULSE_DELIVERED (08 R255). -/
def State.sigDelivered (s : State) (e line : Nat) : State :=
  let g := s.engine e
  let n := SMap.get 0 g.sig line
  if n = 0 ∨ s.held (engIsland e) then s
  else (s.setEngine e { g with sig := SMap.set 0 g.sig line (n - 1), sigOut := g.sigOut ||| 2 ^ (line % 4) }).emit (.pulse e line)

/-! ## The mover (07 R227 to R231) -/

/-- Engine words of one bank word of a transfer. -/
def Mover.lanes (m : Mover) : Nat := if m.sample then 8 else 4

/-- Bytes of one lane. -/
def Mover.laneBytes (m : Mover) : Nat := if m.sample then 2 else 4

/-- The engine word of lane `q` of a bank word (07 R228). -/
def Mover.fromLane (m : Mover) (d : Nat) (q : Nat) : Nat :=
  if m.sample then bits d (16 * q + 15) (16 * q) * 2 ^ 8 else bits d (32 * q + 23) (32 * q)

/-- The lane bits of an engine word (07 R228). -/
def Mover.toLane (m : Mover) (w : Nat) : Nat :=
  if m.sample then bits w 23 8 else w + (if bit w 23 then 0xFF000000 else 0)

/-- The transfer after one bank word of `n` engine words. -/
def Mover.step (m : Mover) (n : Nat) : Mover :=
  { m with done := m.done + n, left := m.left - n, eaddr := (m.eaddr + n) % 4096, bword := m.bword + 1 }

/-- An error of a transfer (07 R231). -/
def State.xferError (s : State) (e err : Nat) : State :=
  (s.updEngine e fun g => { g with mover := { g.mover with err := err } }).raise Flt.ENG_XFER_ERR [e]

/-- One bank word read into engine memory; a bad word is written as read, with error 1. -/
def State.moverIn (s : State) (e : Nat) (m : Mover) (n : Nat) : State :=
  let (d, bad, s1) := s.readWord m.bank m.bword
  let s2 := (List.range n).foldl (fun (t : State) q => t.dmemWrite e (m.eaddr + q) (m.fromLane d.toNat q)) s1
  let s3 := s2.updEngine e fun g => { g with mover := m.step n }
  if bad then s3.xferError e 1 else s3

/-- One bank word written from engine memory; an uncorrectable engine word makes it the poison pattern, with error 1. -/
def State.moverOut (s : State) (e : Nat) (m : Mover) (n : Nat) : State :=
  let r := (List.range n).foldl (fun (acc : List Nat × Bool × State) q =>
    let (v, bad, t) := acc.2.2.dmemRead e (m.eaddr + q)
    (acc.1 ++ [m.toLane v], acc.2.1 || bad, t)) ([], false, s)
  let d : BankData := BitVec.ofNat 128 (ungroups (8 * m.laneBytes) r.1)
  let mask := 2 ^ (n * m.laneBytes) - 1
  let s1 := r.2.2.updEngine e fun g => { g with mover := m.step n }
  if r.2.1 then
    (((s1.setWordBits m.bank m.bword (poisonWord (s1.codeOf m.bank))).mergeDrop m.bank m.bword).cancelRepair m.bank
      m.bword).xferError e 1
  else s1.writeWord m.bank m.bword d mask

/-- MOVER_BANK_WORD (07 R230, R231): the next bank-word request, judged when it is presented (05 R151). -/
def State.moverWord (s : State) (e : Nat) (ups : List EngUpset) (bankUps : List Nat) : State :=
  let m := (s.engine e).mover
  if !s.engClocked e || !m.busy || decide (m.left = 0) || NSet.has s.mem.filling m.bank then s
  else if !s.fgAllowed (.mover (moverNumber e)) m.bank m.portB then
    ((s.updEngine e fun g => { g with mover := { m with left := 0 } }).xferError e 2).raise Flt.MEM_NOT_OWNER
  else
    let n := min m.left m.lanes
    let s1 := (s.engUpsets e ups).upset m.bank m.bword bankUps
    if m.toBank then s1.moverOut e m n else s1.moverIn e m n

/-- MOVER_DONE (07 R231): busy falls when no engine word is left. -/
def State.moverDone (s : State) (e : Nat) : State :=
  let m := (s.engine e).mover
  if m.busy && decide (m.left = 0) then s.updEngine e fun g => { g with mover := { m with busy := false } } else s

/-! ## Halting, resuming, stepping, reset (09 R277 to R282; 07 R233) -/

/-- ENG_CMD op HALT: a boundary halt is requested. -/
def State.engHalt (s : State) (e : Nat) : State :=
  if s.held (engIsland e) || (s.engine e).halted then s
  else s.updEngine e fun g => { g with cmdHalt := true }

/-- An engine starts from its pc: wdt is loaded (09 R280, R281). -/
def Engine.start (g : Engine) (step : Bool) : Engine :=
  { (g.setReg 53 (g.reg 23)) with halted := false, stepping := step, fresh := true, stalled := false, waiting := false }

/-- ENG_CMD op RESUME. -/
def State.engResume (s : State) (e : Nat) : State :=
  if s.held (engIsland e) || !(s.engine e).halted then s else s.updEngine e fun g => g.start false

/-- ENG_CMD op STEP: one step, then a halt with cause 1. -/
def State.engStep (s : State) (e : Nat) : State :=
  if s.held (engIsland e) || !(s.engine e).halted then s
  else (s.updEngine e fun g => g.start true).engStepLoop e 1100

/-- ENG_CMD op RESET (07 R233): the registers at their reset values, the port FIFOs empty, a transfer left with at most
the four bank words in flight; memories, pending rewrite and semaphores stand. -/
def State.engReset (s : State) (e : Nat) : State :=
  if s.held (engIsland e) then s
  else s.updEngine e fun g =>
    { dmem := g.dmem, pmem := g.pmem, rewrite := g.rewrite, evt := g.evt, sig := g.sig, cause := 8
      mover := { g.mover with left := min g.mover.left (4 * g.mover.lanes) } }

/-- BOUNDARY_HALT (09 R278): a command halt acts on an instruction in D that is not held off. An instruction stalled in
E1 is abandoned and stands at pc. -/
def State.boundaryHalt (s : State) (e : Nat) : State :=
  let g := s.engine e
  let off := if g.stalled then decide (1 < g.delay) || decide (1 < g.rep) || g.lock.isSome else g.heldOff
  if !s.engClocked e || g.halted || !g.cmdHalt || off then s
  else s.setEngine e (g.haltAt 1 (g.reg 54))

/-- Whether a hardware breakpoint of an engine is enabled at an address (23 R588). -/
def State.breakpointAt (s : State) (e pc : Nat) : Bool :=
  (List.range 4).any fun n => s.flag (F.MON_BP_en.nth n) e && decide (s.fld (F.MON_BP_addr.nth n) e = pc)

/-- BREAKPOINT (09 R278, 23 R588). -/
def State.breakpoint (s : State) (e : Nat) : State :=
  let g := s.engine e
  if !s.engClocked e || g.halted || g.stalled || g.stepping || g.fresh || g.heldOff || !s.breakpointAt e (g.reg 54) then s
  else s.setEngine e (g.haltAt 2 (g.reg 54))

/-! ## The engine window (07 R232) -/

/-- A window access refused. -/
def State.windowRefused (s : State) (e : Nat) : State := (s.answer e 1).raise Flt.ENG_WINDOW_REFUSED [e]

/-- The value of a register through the window: as MOV reads it, window-only registers zero-extended. -/
def Engine.windowReg (g : Engine) (r : Nat) : Nat := engExtend r (g.reg r)

/-- The 32 bits that a window read returns, and what reading does. -/
def State.windowValue (s : State) (e off : Nat) : Nat × State :=
  if off < 0x4000 then
    let r := s.dmemRead e (off / 4)
    (r.1, r.2.2)
  else if off < 0x5000 then
    let r := s.pmemRead e ((off - 0x4000) / 4)
    (r.1, r.2.2)
  else if 0x8000 ≤ off ∧ off < 0x8100 then ((s.engine e).windowReg ((off - 0x8000) / 4), s)
  else (0, s)

/-- ENGINE_WINDOW_READ: an access of another size or alignment than a word is refused without effect (00 R7). -/
def State.windowRead (s : State) (e off size : Nat) : State :=
  if size ≠ 4 ∨ off % 4 ≠ 0 then s.answer e 1
  else if !(s.engine e).halted then s.windowRefused e
  else
    let r := s.windowValue e (off % 0x10000)
    r.2.answer e 0 (leBytes 4 r.1)

/-- A window write takes effect. -/
def State.windowPut (s : State) (e off : Nat) (v : Nat) : State :=
  if off < 0x4000 then s.dmemWrite e (off / 4) v
  else if off < 0x5000 then s.pmemWrite e ((off - 0x4000) / 4) v
  else if 0x8000 ≤ off ∧ off < 0x8100 then s.updEngine e fun g => g.setReg ((off - 0x8000) / 4) v
  else s

/-- ENGINE_WINDOW_WRITE. -/
def State.windowWrite (s : State) (e off size : Nat) (v : Nat) : State :=
  if size ≠ 4 ∨ off % 4 ≠ 0 then s.answer e 1
  else if !(s.engine e).halted then s.windowRefused e
  else (s.windowPut e (off % 0x10000) v).answer e 0

/-! ## What ENG_STATE shows (07 R234) -/

/-- ENG_STATE of an engine. -/
def State.engState (s : State) (e : Nat) : Nat :=
  let g := s.engine e
  let st := if s.held (engIsland e) then 4 else if g.halted then 1 else if g.stalled then 2 else if g.waiting then 3 else 0
  g.reg 54 * 2 ^ 16 + g.cause * 16 + g.mover.busy.toNat * 8 + st

/-! ## The instruction commands (08) -/

/-- NOPA (08 R237). -/
def execNopa (e : Nat) (upsets : List EngUpset) (s : State) : Result := .next (s.engCommand e upsets .nopa)

/-- MPY (08 R237). -/
def execMpy (e : Nat) (upsets : List EngUpset) (s : State) : Result := .next (s.engCommand e upsets .mpy)

/-- MAC (08 R237). -/
def execMac (e : Nat) (upsets : List EngUpset) (s : State) : Result := .next (s.engCommand e upsets .mac)

/-- MSU (08 R237). -/
def execMsu (e : Nat) (upsets : List EngUpset) (s : State) : Result := .next (s.engCommand e upsets .msu)

/-- MPYR (08 R237). -/
def execMpyr (e : Nat) (upsets : List EngUpset) (s : State) : Result := .next (s.engCommand e upsets .mpyr)

/-- MACR (08 R237). -/
def execMacr (e : Nat) (upsets : List EngUpset) (s : State) : Result := .next (s.engCommand e upsets .macr)

/-- MSUR (08 R237). -/
def execMsur (e : Nat) (upsets : List EngUpset) (s : State) : Result := .next (s.engCommand e upsets .msur)

/-- ADDX (08 R237). -/
def execAddx (e : Nat) (upsets : List EngUpset) (s : State) : Result := .next (s.engCommand e upsets .addx)

/-- SUBX (08 R237). -/
def execSubx (e : Nat) (upsets : List EngUpset) (s : State) : Result := .next (s.engCommand e upsets .subx)

/-- CLR (08 R237). -/
def execClr (e : Nat) (upsets : List EngUpset) (s : State) : Result := .next (s.engCommand e upsets .clr)

/-- CPYA (08 R237). -/
def execCpya (e : Nat) (upsets : List EngUpset) (s : State) : Result := .next (s.engCommand e upsets .cpya)

/-- NEG (08 R237). -/
def execNegAcc (e : Nat) (upsets : List EngUpset) (s : State) : Result := .next (s.engCommand e upsets .neg)

/-- ABS (08 R237). -/
def execAbsAcc (e : Nat) (upsets : List EngUpset) (s : State) : Result := .next (s.engCommand e upsets .abs)

/-- ASL1 (08 R237). -/
def execAsl1 (e : Nat) (upsets : List EngUpset) (s : State) : Result := .next (s.engCommand e upsets .asl1)

/-- ASR1 (08 R237). -/
def execAsr1 (e : Nat) (upsets : List EngUpset) (s : State) : Result := .next (s.engCommand e upsets .asr1)

/-- RND (08 R237). -/
def execRnd (e : Nat) (upsets : List EngUpset) (s : State) : Result := .next (s.engCommand e upsets .rnd)

/-- NOP (08 R243). -/
def execNop (e : Nat) (upsets : List EngUpset) (s : State) : Result := .next (s.engCommand e upsets .nop)

/-- LDI (08 R245). -/
def execLdi (e : Nat) (upsets : List EngUpset) (s : State) : Result := .next (s.engCommand e upsets .ldi)

/-- LDIH (08 R245). -/
def execLdih (e : Nat) (upsets : List EngUpset) (s : State) : Result := .next (s.engCommand e upsets .ldih)

/-- MOV (08 R245). -/
def execMov (e : Nat) (upsets : List EngUpset) (s : State) : Result := .next (s.engCommand e upsets .mov)

/-- LDD (08 R245). -/
def execLdd (e : Nat) (upsets : List EngUpset) (s : State) : Result := .next (s.engCommand e upsets .ldd)

/-- STD (08 R245). -/
def execStd (e : Nat) (upsets : List EngUpset) (s : State) : Result := .next (s.engCommand e upsets .std)

/-- BRA (08 R246). -/
def execBra (e : Nat) (upsets : List EngUpset) (s : State) : Result := .next (s.engCommand e upsets .bra)

/-- BCC (08 R247). -/
def execBcc (e : Nat) (upsets : List EngUpset) (s : State) : Result := .next (s.engCommand e upsets .bcc)

/-- CALL (08 R248). -/
def execCall (e : Nat) (upsets : List EngUpset) (s : State) : Result := .next (s.engCommand e upsets .call)

/-- RET (08 R248). -/
def execRet (e : Nat) (upsets : List EngUpset) (s : State) : Result := .next (s.engCommand e upsets .ret)

/-- RTI (08 R249). -/
def execRti (e : Nat) (upsets : List EngUpset) (s : State) : Result := .next (s.engCommand e upsets .rti)

/-- DBNZ (08 R250). -/
def execDbnz (e : Nat) (upsets : List EngUpset) (s : State) : Result := .next (s.engCommand e upsets .dbnz)

/-- REP (08 R251). -/
def execRep (e : Nat) (upsets : List EngUpset) (s : State) : Result := .next (s.engCommand e upsets .rep)

/-- EXP (07 R216). -/
def execExp (e : Nat) (upsets : List EngUpset) (s : State) : Result := .next (s.engCommand e upsets .exp)

/-- NORM (07 R217). -/
def execNorm (e : Nat) (upsets : List EngUpset) (s : State) : Result := .next (s.engCommand e upsets .norm)

/-- SHL (08 R252). -/
def execShl (e : Nat) (upsets : List EngUpset) (s : State) : Result := .next (s.engCommand e upsets .shl)

/-- SHR (08 R252). -/
def execShr (e : Nat) (upsets : List EngUpset) (s : State) : Result := .next (s.engCommand e upsets .shr)

/-- SAT (08 R252). -/
def execSat (e : Nat) (upsets : List EngUpset) (s : State) : Result := .next (s.engCommand e upsets .sat)

/-- AND (08 R253). -/
def execAndOp (e : Nat) (upsets : List EngUpset) (s : State) : Result := .next (s.engCommand e upsets .and)

/-- OR (08 R253). -/
def execOrOp (e : Nat) (upsets : List EngUpset) (s : State) : Result := .next (s.engCommand e upsets .or)

/-- XOR (08 R253). -/
def execXorOp (e : Nat) (upsets : List EngUpset) (s : State) : Result := .next (s.engCommand e upsets .xor)

/-- IN (08 R254). -/
def execInPort (e : Nat) (upsets : List EngUpset) (s : State) : Result := .next (s.engCommand e upsets .in)

/-- OUT (08 R254). -/
def execOutPort (e : Nat) (upsets : List EngUpset) (s : State) : Result := .next (s.engCommand e upsets .out)

/-- WAIT (08 R254). -/
def execWait (e : Nat) (upsets : List EngUpset) (s : State) : Result := .next (s.engCommand e upsets .wait)

/-- SIG (08 R255). -/
def execSig (e : Nat) (upsets : List EngUpset) (s : State) : Result := .next (s.engCommand e upsets .sig)

/-- XFER (08 R256). -/
def execXfer (e : Nat) (upsets : List EngUpset) (s : State) : Result := .next (s.engCommand e upsets .xfer)

/-- EI (08 R257). -/
def execEi (e : Nat) (upsets : List EngUpset) (s : State) : Result := .next (s.engCommand e upsets .ei)

/-- DI (08 R257). -/
def execDi (e : Nat) (upsets : List EngUpset) (s : State) : Result := .next (s.engCommand e upsets .di)

/-- LOCK (08 R258). -/
def execLock (e : Nat) (upsets : List EngUpset) (s : State) : Result := .next (s.engCommand e upsets .lock)

/-- UNLOCK (08 R258). -/
def execUnlock (e : Nat) (upsets : List EngUpset) (s : State) : Result := .next (s.engCommand e upsets .unlock)

/-- KICK (08 R257). -/
def execKick (e : Nat) (upsets : List EngUpset) (s : State) : Result := .next (s.engCommand e upsets .kick)

/-- TAS (08 R259). -/
def execTas (e : Nat) (upsets : List EngUpset) (s : State) : Result := .next (s.engCommand e upsets .tas)

/-- HALT (08 R257). -/
def execHalt (e : Nat) (upsets : List EngUpset) (s : State) : Result := .next (s.engCommand e upsets .halt)

/-- TRAP (08 R257). -/
def execTrap (e : Nat) (upsets : List EngUpset) (s : State) : Result := .next (s.engCommand e upsets .trap)

/-! ## The other commands -/

/-- DMEM_REWRITE (07 R209). -/
def execDmemRewrite (e : Nat) (s : State) : Result := .next (s.dmemRewrite e)

/-- TIMER_RELOAD (07 R206). -/
def execTimerReload (e : Nat) (s : State) : Result := .next (s.timerReload e)

/-- WATCHDOG_EXPIRE (09 R276). -/
def execWatchdogExpire (e : Nat) (s : State) : Result := .next (s.watchdogExpire e)

/-- INTERRUPT_ENTRY (09 R271). -/
def execInterruptEntry (e : Nat) (upsets : List EngUpset) (s : State) : Result := .next (s.interruptEntry e upsets)

/-- ENG_PORT_PUSH (07 R223). -/
def execEngPortPush (e port : Nat) (word : Word) (s : State) : Result := .next (s.engPort e port word)

/-- ENG_STALL_END (07 R225). -/
def execEngStallEnd (e cycles : Nat) (s : State) : Result := .next (s.stallEnd e cycles)

/-- SIG_PULSE_DELIVERED (08 R255). -/
def execSigPulseDelivered (e line : Nat) (s : State) : Result := .next (s.sigDelivered e line)

/-- MOVER_BANK_WORD (07 R230). -/
def execMoverBankWord (e : Nat) (upsets : List EngUpset) (bankUpsets : List Nat) (s : State) : Result :=
  .next (s.moverWord e upsets bankUpsets)

/-- MOVER_DONE (07 R231). -/
def execMoverDone (e : Nat) (s : State) : Result := .next (s.moverDone e)

/-- The engine that ENG_SEL selects. -/
def State.engSelected (s : State) : Nat := min 12287 (s.fld F.ENG_SEL_engine)

/-- ENG_CMD_HALT (09 R277). -/
def execEngCmdHalt (s : State) : Result := .next (s.engHalt s.engSelected)

/-- ENG_CMD_RESUME (09 R280). -/
def execEngCmdResume (s : State) : Result := .next (s.engResume s.engSelected)

/-- ENG_CMD_STEP (09 R281). -/
def execEngCmdStep (s : State) : Result := .next (s.engStep s.engSelected)

/-- ENG_CMD_RESET (07 R233). -/
def execEngCmdReset (s : State) : Result := .next (s.engReset s.engSelected)

/-- BOUNDARY_HALT (09 R278). -/
def execBoundaryHalt (e : Nat) (s : State) : Result := .next (s.boundaryHalt e)

/-- BREAKPOINT (09 R278). -/
def execBreakpoint (e : Nat) (s : State) : Result := .next (s.breakpoint e)

/-- ENGINE_WINDOW_READ (07 R232). -/
def execEngineWindowRead (e off size : Nat) (s : State) : Result := .next (s.windowRead e off size)

/-- ENGINE_WINDOW_WRITE (07 R232). -/
def execEngineWindowWrite (e off size : Nat) (value : Word) (s : State) : Result := .next (s.windowWrite e off size value.toNat)

end Sys2Proof.Machine
end

