-- ==== Sys2Proof/Machine/DevAccess.lean ====
section
/-! DEFINITION. Device addresses (25 R628, 10 R286) and the reads and writes that the management complex makes of buffers in
main memory and general banks (23 R578, R585; 24 R615). -/

namespace Sys2Proof.Machine

/-- Where a device address leads (25 R628). -/
inductive Target where
  | dram (a : Nat)
  | bank (off : Nat)
  | flowArray (off : Nat)
  | secure (off : Nat)
  | engine (e off : Nat)
  | csr (off : Nat)
  | nowhere
deriving DecidableEq, Repr

/-- The target of a 48-bit device address. -/
def targetOf (a : Nat) : Target :=
  if a < 0x4000000000 then .dram a
  else if a < 0x4060000000 then .bank (a - 0x4000000000)
  else if 0x4100000000 ≤ a ∧ a < 0x4108000000 then .flowArray (a - 0x4100000000)
  else if 0x4180000000 ≤ a ∧ a < 0x4181000000 then .secure (a - 0x4180000000)
  else if 0x4400000000 ≤ a ∧ a < 0x4430000000 then .engine ((a - 0x4400000000) / 65536) (a % 65536)
  else if 0x4800000000 ≤ a ∧ a < 0x4810000000 then .csr (a - 0x4800000000)
  else .nowhere

/-- The 16-byte words of a range of general banks. -/
def wordsOf (off n : Nat) : List Nat := (List.range ((off + n + 15) / 16 - off / 16)).map fun i => off / 16 + i

/-- Bytes read from general banks: none where a word is bad. -/
def State.bankBytes (s : State) (off n : Nat) : Option (List Byte) × State :=
  let r := (wordsOf off n).foldl (fun (a : List Byte × Bool × State) w =>
    let p := a.2.2.locate w
    let x := a.2.2.readWord p.1 p.2
    (a.1 ++ leBytes 16 x.1.toNat, a.2.1 || x.2.1, x.2.2)) ([], false, s)
  (if r.2.1 then none else some (slice r.1 (off % 16) n), r.2.2)

/-- Bytes written to general banks. -/
def State.bankPut (s : State) (off : Nat) (data : List Byte) : State :=
  (wordsOf off data.length).foldl (fun (t : State) w =>
    let p := t.locate w
    let at' := fun (i : Nat) => 16 * w + i
    let mask := maskOf ((List.range 16).filter fun i => decide (off ≤ at' i) && decide (at' i < off + data.length))
    let v := leNat ((List.range 16).map fun i => if off ≤ at' i then data.getD (at' i - off) 0 else 0)
    t.writeWord p.1 p.2 (BitVec.ofNat 128 v) mask) s

/-- A buffer read at a device address with the rights of a class: none on an error response. -/
def State.devRead (s : State) (cls a n : Nat) : Option (List Byte) × State :=
  match targetOf a with
  | .dram a =>
    let r := s.dramRead cls a n
    (if r.1 = 0 then some r.2.1 else none, r.2.2)
  | .bank off => if off + n ≤ 0x60000000 then s.bankBytes off n else (none, s)
  | _ => (none, s)

/-- A buffer written at a device address with the rights of a class: whether it was. -/
def State.devWrite (s : State) (cls a : Nat) (data : List Byte) : Bool × State :=
  match targetOf a with
  | .dram a =>
    let r := s.dramWrite cls a data 0
    (decide (r.1 = some 0) || r.1.isNone, r.2)
  | .bank off => if off + data.length ≤ 0x60000000 then (true, s.bankPut off data) else (false, s)
  | _ => (false, s)

end Sys2Proof.Machine
end

