-- ==== Sys2Proof/Machine/Security.lean ====
section
/-! DEFINITION. Self-test, life cycle and secure storage (24): BIST, analogue checks, the TAP, wipes, tamper, fuses and
the key store. -/

namespace Sys2Proof.Machine

/-! ## Logic self-test (24 R595 to R599) -/

/-- Whether the device is in test mode (24 R594). -/
def State.testMode (s : State) : Bool := decide (s.fld F.CFG_STATUS_stage = 8)

/-- The engines of a sector's group. -/
def groupEngines (sector : Nat) : List Nat := (List.range 128).map (128 * sector + ·)

/-- The scratch run: its first bank, global. -/
def State.scratchBank (s : State) : Nat := s.fld F.BT_SCRATCH_column * 256 + s.fld F.BT_SCRATCH_bank

/-- Why a run is refused (24 R597); 0: it is not. `baseOk`: VDD_BASE lies in 0.70 to 0.85 V. -/
def State.bistRefusal (s : State) (kind index : Nat) (baseOk : Bool) : Nat :=
  let vid := s.opVid (s.fld F.CLK_ISL_STAT_op (islandOf index))
  let limit := match kind with | 0 => 96 | 1 => 64 | 2 => 4 | 3 => 1 | 4 => 1 | _ => 0
  if s.flag F.BT_STATUS_busy then 1
  else if limit ≤ index then 5
  else if kind = 0 && (s.held (islandOf index) || (groupEngines index).any fun e => !(s.engine e).halted) then 2
  else if kind ≠ 0 && !s.testMode then 2
  else if kind = 0 && (decide (s.fld F.CLK_ISL_STAT_op (islandOf index) < 3) || decide (5 < s.fld F.CLK_ISL_STAT_op (islandOf index))
      || decide (vid < 140) || decide (170 < vid)) then 3
  else if kind ≠ 0 && !baseOk then 3
  else if s.fld F.BT_SCRATCH_bank % 32 ≠ 0 || decide (48 ≤ s.fld F.BT_SCRATCH_column)
      || (List.range 32).any (fun i => decide (s.ownerClass (s.scratchBank + i) ≠ 3)) then 4
  else 0

/-- A refused run or check. -/
def State.btRefuse (s : State) (reason : Nat) : State := (s.setFld F.BT_RESULT_reason reason).raise Flt.BT_REFUSED

/-- Free values for `n` words from key `lo`: what the map holds there is not stated. -/
def freeRange (idx lo n : Nat) (m : SMap BankBits) : SMap BankBits :=
  m.filter (fun e => decide (e.1 < lo))
    ++ ((List.range n).map fun i => (lo + i, BitVec.ofNat 144 (Config.freeNat (idx + i)))).filter (fun e => decide (e.2 ≠ 0))
    ++ m.filter (fun e => decide (lo + n ≤ e.1))

/-- The save (24 R598 step 2): the scratch banks take the target's state, in a layout the manual does not give. -/
def State.bistSave (s : State) : State :=
  let n := 32 * 8192
  { s with freeIdx := s.freeIdx + n
           mem := { s.mem with words := freeRange s.freeIdx (s.scratchBank * 8192) n s.mem.words } }

/-- What a run of a kind above 0 clears and does not restore (24 R598). -/
def State.bistClears (s : State) (kind index : Nat) : State :=
  match kind with
  | 1 => { s with noc := { s.noc with held := s.noc.held.filter fun h => decide (h.router ≠ index) } }
  | 2 =>
    { s with qm := { s.qm with queues := SMap.clear s.qm.queues fun q => decide (q / 1024 = index)
                               parity := SMap.clear s.qm.parity fun k => decide (k / 2 ^ 22 = index) } }
  | 3 => { s with mee := { s.mee with cache := [], writes := [] } }
  | _ => s

/-- The run starts after its wipe, if it makes one. -/
def State.bistRun (s : State) (kind index : Nat) : State :=
  (s.bistSave.bistClears kind index).setFld F.BT_RESULT_phase 3

/-- The run ends with a result; a target of the island's sequencer that waited is taken (24 R599). -/
def State.bistEnd (s : State) (result : Nat) : State :=
  match s.secu.run with
  | none => s
  | some (kind, index) =>
    let s1 := { s with secu := { s.secu with run := none } }
    let s2 := ((s1.setFld F.BT_RESULT_phase 0).setFld F.BT_RESULT_result result).setFlag F.BT_STATUS_busy false
    let s3 := if result = 3 then s2.raise Flt.BT_ABORTED else s2
    if kind = 0 then s3.takeTarget (islandOf index) else s3

/-! ## Wipes (24 R606, R608) -/

/-- A wipe starts, or joins the one in progress; it ends a BIST run that did not ask for it. -/
def State.wipeStart (s : State) (source : Nat) (after : AfterWipe) : State :=
  let s0 := if after = .bist then s else s.bistEnd 3
  match s0.secu.wipe with
  | some w => { s0 with secu := { s0.secu with wipe := some { w with after := w.after ++ [after] } } }
  | none =>
    (({ s0 with secu := { s0.secu with wipe := some { source := source, after := [after] } } }).setFlag
      F.SEC_STATUS_wiping true).setFlag F.MEM_STATUS_secure_wipe true

/-- What a wipe erases. -/
def State.wipeAll (s : State) : State :=
  let s1 := { s with mee := { s.mee with active := [], keys := [], treeKey := 0, cache := [], writes := [] }
                     mem := { s.mem with secure := [] } }
  (List.range 32).foldl (fun (t : State) r =>
    if t.fld F.MEE_REG_CFG_mode r ≠ 0 then t.setFlag F.MEE_REG_CFG_init false r else t) s1

/-- Every key store secret is killed (24 R605, R607). -/
def State.killAll (s : State) : State :=
  ({ s with secu := { s.secu with killed := s.secu.killed + s.secu.secrets.length, secrets := [] } }).fuseView

/-- The scan state (24 R603): every island is held, DONE falls. -/
def State.scanState (s : State) : State :=
  (((List.range 48).foldl State.holdIsland s).setFlag F.DEV_STATUS_done false).setFlag F.SEC_STATUS_scan true

/-- What follows a wipe. -/
def State.afterWipe (s : State) (a : AfterWipe) : State :=
  match a with
  | .nothing => s
  | .burn t => { (if 3 ≤ t then s.killAll else s) with secu := { (if 3 ≤ t then s.killAll else s).secu with burn := some t } }
  | .bist => match s.secu.run with
    | some (k, i) => s.bistRun k i
    | none => s
  | .scan => s.scanState
  | .startUp => s.startUp false true

/-- WIPE_DONE (24 R606). -/
def State.wipeDone (s : State) : State :=
  match s.secu.wipe with
  | none => s
  | some w =>
    let s1 := { s.wipeAll with secu := { s.wipeAll.secu with wipe := none } }
    let s2 := ((s1.setFlag F.SEC_STATUS_wiping false).setFlag F.MEM_STATUS_secure_wipe false).raise Flt.SEC_WIPED [w.source]
    w.after.foldl State.afterWipe s2

/-- BIST_GO (24 R597, R598): a write of BT_CTRL with go. -/
def State.bistGo (s : State) (value : Nat) (baseOk : Bool) : State :=
  let kind := bits value 10 8
  let index := bits value 6 0
  let s0 := (s.setFld F.BT_CTRL_kind kind).setFld F.BT_CTRL_index index
  let r := s0.bistRefusal kind index baseOk
  if r ≠ 0 then s0.btRefuse r
  else
    let s1 := { s0 with secu := { s0.secu with run := some (kind, index) } }
    let s2 := s1.setFlag F.BT_STATUS_busy true
    if kind = 3 ∨ kind = 4 then (s2.setFld F.BT_RESULT_phase 1).wipeStart 2 .bist else s2.bistRun kind index

/-- BIST_RUN_DONE (24 R598): the final MISR, the expected signature of the factory record's private area, and whether the
restored state verified. -/
def State.bistDone (s : State) (misr expected : Nat) (restoreBad : Bool) : State :=
  match s.secu.run with
  | none => s
  | some (kind, index) =>
    if s.secu.wipe.isSome then s
    else
      let s1 := s.setPair R.BT_MISR_LO R.BT_MISR_HI misr
      let s2 := if restoreBad then
          let s' := s1.raise Flt.BT_RESTORE_FAIL
          if kind = 0 then (groupEngines index).foldl State.engReset s' else s'
        else s1
      let pass := decide (misr % 2 ^ 64 = expected % 2 ^ 64)
      (if pass then s2 else s2.raise Flt.BT_LBIST_FAIL).bistEnd (if pass then 1 else 2)

/-! ## Analogue checks (24 R600, R601) -/

/-- Whether a lane bundle is stopped (16 R432). -/
def State.lnStopped (s : State) (b : Nat) : Bool :=
  !s.flag (F.LN_CTRL_en.win b) && (decide (s.lnState b = 0) || decide (s.lnState b = 8))

/-- Whether an analogue check is allowed (24 R600). -/
def State.anaAllowed (s : State) (check item : Nat) : Bool :=
  match check with
  | 0 => decide (item < 12) && s.lnStopped item
  | 1 => (decide (item < 12) && s.lnStopped item) || (decide (16 ≤ item) && decide (item < 28) && s.testMode)
  | _ => decide (check ≤ 4)

/-- ANALOGUE_CHECK_GO (24 R600, R614): a write of BT_ANA_CTRL with go. -/
def State.anaGo (s : State) (value : Nat) : State :=
  let check := bits value 10 8
  let item := bits value 4 0
  let s0 := (s.setFld F.BT_ANA_CTRL_check check).setFld F.BT_ANA_CTRL_item item
  if s0.flag F.BT_STATUS_busy then s0.btRefuse 1
  else if !s0.anaAllowed check item then s0.btRefuse 2
  else (({ s0 with secu := { s0.secu with ana := some (check, item) } }).setFlag F.BT_STATUS_busy true).setFlag F.BT_ANA_RES_done false

/-- ANALOGUE_CHECK_DONE (24 R601): the item furthest from its limit and its value, whether the check failed, and under
check 2 the sensors that failed. -/
def State.anaDone (s : State) (worstItem worst : Nat) (fail : Bool) (sensors : List Nat) : State :=
  match s.secu.ana with
  | none => s
  | some (check, item) =>
    let s1 := ({ s with secu := { s.secu with ana := none } }).setFlag F.BT_STATUS_busy false
    let s2 := ((s1.setReg R.BT_ANA_RES (BitVec.ofNat 32 (worstItem % 256 * 65536 + min 65535 worst))).setFlag
      F.BT_ANA_RES_done true).setFlag F.BT_ANA_RES_fail fail
    let s3 := if check = 2 then
        (sensors.filter fun n => decide (n < 176) && !s2.flag F.TH_SENSOR_failed n).foldl (fun (t : State) n =>
          (t.setFlag F.TH_SENSOR_failed true n).raise Flt.TH_SENSOR_FAIL) s2
      else s2
    if fail then s3.raise Flt.BT_ANA_FAIL [check, item] else s3

/-! ## The TAP (24 R602, R603) -/

/-- TAP_UPDATE_IR (24 R603): the first pin-control instruction makes a wipe and enters the scan state. -/
def State.tapUpdate (s : State) (op : Nat) : State :=
  let s1 := { s with secu := { s.secu with tap := op % 256 } }
  let asked := match s.secu.wipe with
    | some w => w.after.contains .scan
    | none => false
  if 3 ≤ op % 256 && decide (op % 256 ≤ 7) && !s.flag F.SEC_STATUS_scan && !asked then s1.wipeStart 3 .scan else s1

/-! ## Life cycle (24 R604, R605) -/

/-- A refused command or transition. -/
def State.secRefuse (s : State) : State := s.raise Flt.SEC_CMD_REFUSED

/-- LC_TRANSITION (24 R605): a write of SEC_LC_CMD. -/
def State.lcTransition (s : State) (value : Nat) : State :=
  let target := bits value 2 0
  if target ≤ 4 && decide (s.secu.lc < target) && decide (bits value 31 16 = 0x4C00 + target) && s.secu.burn.isNone
      && !s.flag F.SEC_STATUS_busy then
    (s.setFlag F.SEC_STATUS_busy true).wipeStart 1 (.burn target)
  else s.secRefuse

/-- FUSE_BURN_DONE (24 R605): the target's fuse is read back, and a start-up follows. -/
def State.burnDone (s : State) (good : Bool) : State :=
  match s.secu.burn with
  | none => s
  | some t =>
    let s1 := ({ s with secu := { s.secu with burn := none, lc := if good then max t s.secu.lc else s.secu.lc } }).fuseView
    let s2 := s1.setFlag F.SEC_STATUS_busy false
    let e := if good then Flt.SEC_LC_CHANGED.entry else Flt.SEC_FUSE_FAIL.entry
    (s2.record e).startUp false true

/-! ## Tamper (24 R607) -/

/-- The sources of a mask that are enabled. -/
def State.tamperOn (s : State) (mask : Nat) : Nat := mask &&& s.fld F.SEC_TAMPER_CFG_en

/-- TAMPER (24 R607): sources fire; in D4 they are latched. -/
def State.tamper (s : State) (mask : Nat) : State :=
  let m := s.tamperOn mask
  if m = 0 then s
  else if s.pm.off then { s with secu := { s.secu with latched := s.secu.latched ||| m } }
  else
    let s1 := (s.setFld F.SEC_TAMPER_STAT_fired (s.fld F.SEC_TAMPER_STAT_fired ||| m)).raise Flt.SEC_TAMPER
    let s2 := if s1.flag F.SEC_TAMPER_CFG_erase then s1.killAll else s1
    s2.wipeStart 0 (if s2.flag F.SEC_TAMPER_CFG_reset then .startUp else .nothing)

/-! ## The key store (24 R609 to R611, R615) -/

/-- A command of SEC_CMD ends with a status. -/
def State.secStatus (s : State) (status : Nat) : State :=
  let s1 := s.setFld F.SEC_CMD_STAT_status status
  if status = 0 then s1 else s1.secRefuse

/-- The buffer's device address. -/
def State.secAddr (s : State) : Nat := s.pair R.SEC_CMD_ADDR_LO R.SEC_CMD_ADDR_HI % 2 ^ 48

/-- PROG_SLOT (24 R609). -/
def State.progSlot (s : State) (slot : Nat) (good : Bool) : State :=
  if 2 ≤ s.secu.lc then s.secStatus 1
  else if NSet.has s.secu.slotProg slot then s.secStatus 2
  else
    match s.devRead 1 s.secAddr 48 with
    | (none, s1) => s1.secStatus 3
    | (some b, s1) =>
      if !good then s1.secStatus 5
      else (({ s1 with secu := { s1.secu with slotProg := NSet.put s1.secu.slotProg slot true
                                              slotHash := SMap.set 0 s1.secu.slotHash slot (leNat b) } }).fuseView).secStatus 0

/-- REVOKE (24 R609): refused where it would leave no slot that is programmed and not revoked. -/
def State.revoke (s : State) (slot : Nat) (good : Bool) : State :=
  let live := fun (n : Nat) => NSet.has s.secu.slotProg n && !NSet.has s.secu.slotRev n
  if 4 ≤ s.secu.lc then s.secStatus 1
  else if !live slot || !(List.range 4).any (fun n => decide (n ≠ slot) && live n) then s.secStatus 2
  else if !good then s.secStatus 5
  else (({ s with secu := { s.secu with slotRev := NSet.put s.secu.slotRev slot true } }).fuseView).secStatus 0

/-- PROVISION (24 R610). -/
def State.provision (s : State) (label : Nat) (good : Bool) : State :=
  if 2 ≤ s.secu.lc then s.secStatus 1
  else if label = 0 || SMap.get none s.secu.secrets label ≠ none || decide (32 ≤ s.secu.secrets.length + s.secu.killed) then
    s.secStatus 2
  else
    match s.devRead 1 s.secAddr 160 with
    | (none, s1) => s1.secStatus 3
    | (some b, s1) =>
      if (slice b 97 3).any fun x => decide (x ≠ 0) then s1.secStatus 3
      else
        match Config.unwrapSecret b label with
        | none => s1.secStatus 3
        | some v =>
          if !good then s1.secStatus 5
          else (({ s1 with secu := { s1.secu with secrets := SMap.set none s1.secu.secrets label (some v) } }).fuseView).secStatus 0

/-- KILL (24 R610). -/
def State.kill (s : State) (label : Nat) (good : Bool) : State :=
  if 4 ≤ s.secu.lc then s.secStatus 1
  else if SMap.get none s.secu.secrets label = none then s.secStatus 2
  else if !good then s.secStatus 5
  else (({ s with secu := { s.secu with secrets := SMap.set none s.secu.secrets label none
                                        killed := s.secu.killed + 1 } }).fuseView).secStatus 0

/-- GET_DEVPUB (24 R610): the 97-byte identity public key is written to the buffer. -/
def State.getDevpub (s : State) : State :=
  let r := s.devWrite 1 s.secAddr (leBytes 97 Config.devPub)
  r.2.secStatus (if r.1 then 0 else 3)

/-- Whether 4,096 bytes are a factory record (24 R611, 19 R486). -/
def factoryGood (b : List Byte) : Bool :=
  let zero := fun (start len : Nat) => (slice b start len).all fun x => decide (x = 0)
  decide (b.length = 4096) && decide (fieldAt b 0 4 = 0x52465A43) && decide (fieldAt b 8 4 = 0x19608A5B)
    && decide (1 ≤ fieldAt b 12 1) && decide (fieldAt b 12 1 ≤ 3) && decide (fieldAt b 13 1 ≤ 1)
    && zero 6 2 && zero 14 2 && zero 32 224 && zero 3072 1020
    && ((List.range 112).all fun i => zero (1280 + 16 * i + 12) 4)
    && decide (fieldAt b 4092 4 = crc32c (b.take 4092))

/-- FACTORY_WRITE (24 R611). -/
def State.factoryWrite (s : State) (good : Bool) : State :=
  if s.secu.lc ≠ 0 ∨ !s.testMode then s.secStatus 1
  else
    match s.devRead 1 s.secAddr 4096 with
    | (none, s1) => s1.secStatus 3
    | (some b, s1) =>
      if !factoryGood b then s1.secStatus 3
      else if !good then ({ s1 with stu := { s1.stu with factory := some (leBytes 4096 (Config.freeNat s1.freeIdx)) } }).takeFree.secStatus 5
      else ({ s1 with stu := { s1.stu with factory := some b } }).secStatus 0

/-- A write of SEC_CMD (24 R615): fuses and flash are taken to read back as written. -/
def State.secCmdWrite (s : State) (v : Nat) : State :=
  let slot := bits v 17 16
  let label := bits v 15 0
  match bits v 31 28 with
  | 1 => s.progSlot slot true
  | 2 => s.revoke slot true
  | 3 => s.provision label true
  | 4 => s.kill label true
  | 5 => s.getDevpub
  | 6 => (s.wipeStart 4 .nothing).secStatus 0
  | 7 => s.factoryWrite true
  | _ => s

/-! ## Commands -/

/-- BIST_GO (24 R597). -/
def execBistGo (value : Nat) (baseOk : Bool) (s : State) : Result := .next (s.bistGo value baseOk)

/-- BIST_ABORT (24 R599): the run ends with result 3, its target restored. -/
def execBistAbort (s : State) : Result := .next (s.bistEnd 3)

/-- BIST_RUN_DONE (24 R598). -/
def execBistRunDone (misr expected : Nat) (restoreBad : Bool) (s : State) : Result := .next (s.bistDone misr expected restoreBad)

/-- ANALOGUE_CHECK_GO (24 R600). -/
def execAnalogueCheckGo (value : Nat) (s : State) : Result := .next (s.anaGo value)

/-- ANALOGUE_CHECK_DONE (24 R601). -/
def execAnalogueCheckDone (worstItem worst : Nat) (fail : Bool) (sensors : List Nat) (s : State) : Result :=
  .next (s.anaDone worstItem worst fail sensors)

/-- TAP_UPDATE_IR (24 R603). -/
def execTapUpdateIr (op : Nat) (s : State) : Result := .next (s.tapUpdate op)

/-- TAP_RESET (24 R603). -/
def execTapReset (s : State) : Result := .next { s with secu := { s.secu with tap := 1 } }

/-- LC_TRANSITION (24 R605). -/
def execLcTransition (value : Nat) (s : State) : Result := .next (s.lcTransition value)

/-- FUSE_BURN_DONE (24 R605). -/
def execFuseBurnDone (good : Bool) (s : State) : Result := .next (s.burnDone good)

/-- WIPE_DONE (24 R606). -/
def execWipeDone (s : State) : Result := .next s.wipeDone

/-- TAMPER (24 R607). -/
def execTamper (mask : Nat) (s : State) : Result := .next (s.tamper mask)

/-- PROG_SLOT (24 R609). -/
def execProgSlot (slot : Nat) (good : Bool) (s : State) : Result := .next (s.progSlot slot good)

/-- REVOKE (24 R609). -/
def execRevoke (slot : Nat) (good : Bool) (s : State) : Result := .next (s.revoke slot good)

/-- PROVISION (24 R610). -/
def execProvision (label : Nat) (good : Bool) (s : State) : Result := .next (s.provision label good)

/-- KILL (24 R610). -/
def execKill (label : Nat) (good : Bool) (s : State) : Result := .next (s.kill label good)

/-- GET_DEVPUB (24 R610). -/
def execGetDevpub (s : State) : Result := .next s.getDevpub

/-- SEC_WIPE_CMD (24 R606): SEC_CMD WIPE. -/
def execSecWipeCmd (s : State) : Result := .next ((s.wipeStart 4 .nothing).secStatus 0)

/-- FACTORY_WRITE (24 R611). -/
def execFactoryWrite (good : Bool) (s : State) : Result := .next (s.factoryWrite good)

/-- TRNG_HEALTH_FAIL (24 R613). -/
def execTrngHealthFail (s : State) : Result := .next ((s.setFlag F.SEC_STATUS_trng_ok false).raise Flt.SEC_TRNG_FAIL)

/-- TRNG_HEALTH_RECOVER (24 R613). -/
def execTrngHealthRecover (s : State) : Result := .next (s.setFlag F.SEC_STATUS_trng_ok true)

end Sys2Proof.Machine
end

