-- ==== Sys2Proof/Machine/Fabric.lean ====
section
/-! DEFINITION. The fabric beside its clock edge (03): row commands and the upper path of landing tiles, the direction
resolver, edge channels, hard serial and flash ports, capture. -/

namespace Sys2Proof.Machine

/-! ## Row commands (03 R90 to R94) -/

/-- A pulse of refusal: counted and shown (03 R91). -/
def State.rowRefuse (s : State) (bank : Nat) : State :=
  (s.count F.FAB_LAND_STAT_cmd_refused 1 (bank / 256)).setLand bank { s.land bank with refused := true }

/-- Whether a tile of a lower sector can issue row commands (03 R91, R102): its landing attachment is in the live
context, and its island's clocks run. -/
def State.canCommand (s : State) (sector tile : Nat) : Bool :=
  decide (sector < 48) && isLandingTile tile && decide (attOf (tileBits (s.liveOf sector) tile) = 0xFF)
    && !s.held sector && s.released

/-- A row command presented (03 R91, R92): refused while busy, to a bank whose owner in force is not the fabric, or on a
dead row port; else it starts and asks for its row token. -/
def State.rowCommand (s : State) (sector tile row : Nat) (store : Bool) : State :=
  if !s.canCommand sector tile then s
  else
    let bank := bankUnder sector tile
    let l := s.land bank
    if l.cmd.isSome || !s.stu.writesEnabled || !s.fgAllowed .fabric bank false then s.rowRefuse bank
    else (s.setLand bank { l with cmd := some ⟨store, row % 512, l.buffer, true⟩ }).rowArrive bank

/-- Stored bits that read otherwise while a row crosses its port: inverted before, and again after (02 R55). -/
def State.crossFlips (s : State) (bank row : Nat) (errors : List (Nat × Nat)) : State :=
  errors.foldl (fun (t : State) e => t.upset bank (row * 16 + e.1) [e.2]) s

/-- Fabric word `w` of a row buffer. -/
def bufWord (b : RowBits) (w : Nat) : Half := BitVec.ofNat 16 (b.toNat / 2 ^ (16 * (w % 128)))

/-- Fabric word `w` of a row buffer replaced. -/
def putBufWord (b : RowBits) (w : Nat) (v : Half) : RowBits :=
  BitVec.ofNat 2048 (putBits b.toNat (16 * (w % 128) + 15) (16 * (w % 128)) v.toNat)

/-- A granted row command completes (03 R92, R94): a STORE writes its row, a LOAD lands in the buffer over the fabric's
writes of that edge. `errors` are the bits (bank word, bit) that crossed wrong. -/
def State.rowDone (s : State) (sector tile : Nat) (errors : List (Nat × Nat)) : State :=
  let bank := bankUnder sector tile
  let l := s.land bank
  match l.cmd with
  | none => s
  | some c =>
    if !NSet.has s.mem.granted bank || NSet.has s.mem.filling bank || s.held sector then s
    else
      let s0 := { s with mem := { s.mem with granted := NSet.put s.mem.granted bank false } }
      if c.store then
        ((s0.writeRow bank c.row c.data).crossFlips bank c.row errors).setLand bank
          { l with cmd := none, done := true, err := false, errMask := 0 }
      else
        let (d, mask, s1) := (s0.crossFlips bank c.row errors).readRow bank c.row
        let s2 := s1.crossFlips bank c.row errors
        let s3 := if l.lastWrites = 0 then s2 else s2.count F.FAB_LAND_STAT_lost_writes l.lastWrites (bank / 256)
        s3.setLand bank { l with
          buffer := d, cmd := none, done := true, err := decide (mask ≠ 0), errMask := mask
          portData := l.portAddr.map (bufWord d), lastWrites := 0 }

/-! ## The upper path (03 R95, R96) -/

/-- Whether a bundle is in landing mode (03 R95): land_en is set at both ends. -/
def State.landingMode (s : State) (island tile : Nat) : Bool :=
  landEn (tileBits (s.liveOf island) tile) && landEn (tileBits (s.liveOf (island + 48)) tile)

/-- Group `g` of a row buffer. -/
def bufGroup (b : RowBits) (g : Nat) : BitVec 256 := BitVec.ofNat 256 (b.toNat / 2 ^ (256 * (g % 8)))

/-- Group `g` written under a mask of its 16 words. -/
def putBufGroup (b : RowBits) (g mask : Nat) (v : BitVec 256) : RowBits :=
  (onesOf 16 mask).foldl (fun b w => putBufWord b (16 * (g % 8) + w) (BitVec.ofNat 16 (v.toNat / 2 ^ (16 * w)))) b

/-- Group number `j` of a burst crosses. -/
def burstGroup (b : RowBits) (u : Burst) (j : Nat) : RowBits × Burst :=
  if u.write then (putBufGroup b (u.group + j) u.mask (u.data[j]?.getD 0), u)
  else (b, { u with got := u.got ++ [bufGroup b (u.group + j)] })

/-- The groups of a burst from number `j` on cross. -/
def burstRest (b : RowBits) (u : Burst) (j : Nat) : RowBits × Burst :=
  ((List.range u.count).filter fun i => decide (j ≤ i)).foldl (fun x i => burstGroup x.1 x.2 i) (b, u)

/-- How many groups of a burst have crossed after its cycle `n`: group j crosses at the edge ending cycle 2 + j. -/
def burstCrossed (u : Burst) : Nat := min u.count (u.cycle - 2)

/-- Whether a burst still holds the path (03 R96): to the cycle before the next command may come. -/
def burstBusy (u : Burst) : Bool := decide (u.cycle < if u.write then 1 + u.count else 4 + u.count)

/-- A burst command of the upper tile (03 R96): ignored with land_err while a burst is in progress. -/
def State.upperCommand (s : State) (sector tile : Nat) (u : Burst) : State :=
  let island := islandOf sector
  if sector < 48 || !isLandingTile tile || !s.landingMode island tile || s.held island || !s.released
      || decide (attOf (tileBits (s.liveOf sector) tile) ≠ 0xFF) then s
  else
    let bank := bankUnder island tile
    let l := s.land bank
    match l.burst with
    | none => s.setLand bank { l with burst := some u }
    | some v =>
      if burstBusy v then s.setLand bank { l with landErr := true }
      else s.setLand bank { l with buffer := (burstRest l.buffer v (burstCrossed v)).1, burst := some u }

/-- The last group of a burst crosses and the path turns around (03 R96). -/
def State.upperDone (s : State) (sector tile : Nat) : State :=
  let bank := bankUnder (islandOf sector) tile
  let l := s.land bank
  match l.burst with
  | none => s
  | some u =>
    let r := burstRest l.buffer u (burstCrossed u)
    s.setLand bank { l with
      buffer := r.1, burst := if u.write then none else some { r.2 with cycle := max u.cycle (4 + u.count) } }

/-! ## The direction resolver (03 R89) -/

/-- One end's latch bits of a Z wire upset: z_drv set, or for wire 127 land_en inverted. -/
def State.zUpset (s : State) (sector tile wire : Nat) : State :=
  let fr := s.liveOf sector
  let t := tileBits fr tile
  let v := if wire = 127 then putBit t 11928 (!landEn t) else putBit t (11480 + 7 * wire) true
  s.setLive sector (putTile fr tile v)

/-- Whether the two ends of a Z wire conflict: both drive, or for wire 127 the land_en bits disagree. -/
def State.zConflicts (s : State) (island tile wire : Nat) : Bool :=
  let a := tileBits (s.liveOf island) tile
  let b := tileBits (s.liveOf (island + 48)) tile
  if wire = 127 then landEn a != landEn b else zDrv a wire && zDrv b wire

/-- The resolver acts in the first cycle of a conflict: counted and recorded. -/
def State.zResolve (s : State) (island tile wire : Nat) : State :=
  ((((s.setFlag F.FAB_STATUS_zconf true).count F.FAB_ZC_COUNT_count).setReg R.FAB_ZC_LAST
    (BitVec.ofNat 32 (island * 2 ^ 24 + tile * 2 ^ 14 + wire)))).raise Flt.FAB_Z_CONFLICT [island, tile, wire]

/-! ## Edge channels (03 R84) -/

/-- The key of the FIFO by which words reach a sector over one of its edges. -/
def edgeKey (sector edge channel : Nat) : Nat := (sector * 4 + edge) * 8 + channel

/-- The opposite edge. -/
def oppositeEdge (edge : Nat) : Nat := (edge + 2) % 4

/-! ## Hard serial ports and the flash user port (03 R98 to R100) -/

/-- A hard serial port. -/
def State.serialPort (s : State) (p : Nat) : SerialPort := SMap.get {} s.fab.serial p

/-- A hard serial port replaced. -/
def State.setSerialPort (s : State) (p : Nat) (v : SerialPort) : State :=
  { s with fab := { s.fab with serial := SMap.set {} s.fab.serial p v } }

/-- A transmitted word leaves the head of its port's FIFO, if it stands there. -/
def dropHead (l : List (Half × Bool)) (w : Half) (ctl : Bool) : List (Half × Bool) :=
  match l with
  | x :: rest => if x = (w, ctl) then rest else l
  | [] => []

/-- Words received, into a FIFO of 64. -/
def fifoPush (l new : List Half) : List Half := (l ++ new).take 64

/-- A result word of the flash user port. -/
def State.flashResult (s : State) (w : Half) : State :=
  { s with fab := { s.fab with flashRx := fifoPush s.fab.flashRx [w] } }

/-- The words of a flash command leave the head of the port's transmit FIFO, if they stand there (R100). -/
def State.flashTake (s : State) (op address : Nat) (data : List Half) : State :=
  let p := s.serialPort 10
  let words := [BitVec.ofNat 16 (op * 2 ^ 14 + address / 2 ^ 16 % 32), BitVec.ofNat 16 address] ++ data
  s.setSerialPort 10 { p with tx := words.foldl (fun l w => dropHead l w false) p.tx }

/-- A word of the user area. -/
def State.flashWord (s : State) (a : Nat) : Half := SMap.get 0xFFFF s.fab.flash a

/-- Words of the user area: 4 MiB. -/
def flashWords : Nat := 2097152

/-! ## Capture (03 R105 to R108) -/

/-- The sectors selected in FAB_CAP_MASK0 to 2. -/
def State.capSelected (s : State) : List Nat :=
  (List.range 96).filter fun k => bit (s.reg (R.FAB_CAP_MASK0 + 4 * (k / 32))).toNat (k % 32)

/-- The islands with a selected sector. -/
def State.capIslands (s : State) : List Nat := (s.capSelected.map islandOf).dedup

/-- FAB_CAP_SKEW of an island. -/
def State.setSkew (s : State) (island v : Nat) : State :=
  let r := R.FAB_CAP_SKEW0 + 4 * (island / 16)
  s.setReg r (BitVec.ofNat 32 (putBits (s.reg r).toNat (island % 16 * 2 + 1) (island % 16 * 2) v))

/-- The capture edges (03 R105, R106): the shadow latches of the selected sectors take their flip-flops. `edges` are the
edges, 0 to 2, at which islands 0, 1, … capture. -/
def State.capture (s : State) (edges : List Nat) : State :=
  let s1 := (List.range 48).foldl (fun (t : State) k =>
    t.setSkew k (if k ∈ s.capIslands then min 2 (edges[k]?.getD 0) else 3)) s
  let shadow := s.capSelected.foldl (fun (m : SMap CapSector) k =>
    SMap.set {} m k ⟨true, s.livePlane k % 8, SMap.get [] s.fab.ff k⟩) []
  let s2 := { s1 with fab := { s1.fab with shadow := shadow } }
  ((s2.setPair R.FAB_CAP_TIME_LO R.FAB_CAP_TIME_HI s.time.ns).setFlag F.FAB_STATUS_cap_pending false).setFlag
    F.FAB_STATUS_cap_draining true

/-- Whether a capture is pending or draining. -/
def State.capBusy (s : State) : Bool := s.flag F.FAB_STATUS_cap_pending || s.flag F.FAB_STATUS_cap_draining

/-! ## Commands -/

/-- ROW_LOAD (03 R91, R92). -/
def execRowLoad (sector tile row : Nat) (s : State) : Result := .next (s.rowCommand sector tile row false)

/-- ROW_STORE (03 R91, R92). -/
def execRowStore (sector tile row : Nat) (s : State) : Result := .next (s.rowCommand sector tile row true)

/-- ROW_CMD_DONE (03 R92). -/
def execRowCmdDone (sector tile : Nat) (errors : List (Nat × Nat)) (s : State) : Result :=
  .next (s.rowDone sector tile errors)

/-- UPPER_READ (03 R96). -/
def execUpperRead (sector tile group count : Nat) (s : State) : Result :=
  .next (s.upperCommand sector tile { write := false, group := group, count := count, mask := 0, data := [] })

/-- UPPER_WRITE (03 R96): as many groups as `data` holds. -/
def execUpperWrite (sector tile group mask : Nat) (data : List (BitVec 256)) (s : State) : Result :=
  .next (s.upperCommand sector tile { write := true, group := group, count := data.length, mask := mask, data := data })

/-- UPPER_BURST_DONE (03 R96). -/
def execUpperBurstDone (sector tile : Nat) (s : State) : Result := .next (s.upperDone sector tile)

/-- Z_CONFLICT (03 R89): an upset makes the two ends conflict; `upper` names the end it strikes. -/
def execZConflict (island tile wire : Nat) (upper : Bool) (s : State) : Result :=
  let s0 := if s.zConflicts island tile wire then s
    else if wire = 127 then s.zUpset (if upper then island + 48 else island) tile wire
    else (s.zUpset island tile wire).zUpset (island + 48) tile wire
  .next (s0.zResolve island tile wire)

/-- EDGE_CHANNEL_WORD (03 R84): a word of a sector is visible to its neighbour after the crossing; a full FIFO, or an
edge with no neighbour, shows ready 0 and takes none. -/
def execEdgeChannelWord (sector edge channel : Nat) (word : Half) (s : State) : Result :=
  match neighbour sector edge with
  | none => .next s
  | some n =>
    let k := edgeKey n (oppositeEdge edge) channel
    if 16 ≤ (SMap.get [] s.fab.edges k).length then .next s
    else .next { s with fab := { s.fab with edges := SMap.upd [] s.fab.edges k (· ++ [word]) } }

/-- SERIAL_SETTINGS_WORD (03 R99): the value of the select it names, applied to the idle port. -/
def execSerialSettingsWord (port : Nat) (word : Half) (s : State) : Result :=
  let p := s.serialPort port
  let sel := word.toNat / 8192
  .next (s.setSerialPort port { p with
    tx := dropHead p.tx word true
    settings := if sel < 2 then p.settings.set sel (word.toNat % 8192) else p.settings })

/-- SERIAL_DATA_WORD (03 R99): a word is transmitted, a UART's in its low byte; what is received enters the FIFO. -/
def execSerialDataWord (port : Nat) (word : Half) (received : List Half) (s : State) : Result :=
  let p := s.serialPort port
  .next ((s.setSerialPort port { p with tx := dropHead p.tx word false, rx := fifoPush p.rx received }).emit
    (.serial port (if port < 4 then word.toNat % 256 else word.toNat)))

/-- FLASH_USER_READ (03 R100). -/
def execFlashUserRead (address : Nat) (s : State) : Result := .next ((s.flashTake 0 address []).flashResult (s.flashWord (address % flashWords)))

/-- FLASH_USER_PROGRAM (03 R100): bits may only be cleared; a word that would set one is refused with status 1. -/
def execFlashUserProgram (address : Nat) (word : Half) (s : State) : Result :=
  let a := address % flashWords
  let t := s.flashTake 1 address [word]
  if s.flashWord a &&& word = word then
    .next (({ t with fab := { t.fab with flash := SMap.set 0xFFFF t.fab.flash a word } }).flashResult 0)
  else .next (t.flashResult 1)

/-- FLASH_USER_ERASE (03 R100): the 2,048 words of a 4 KiB sector. -/
def execFlashUserErase (address : Nat) (s : State) : Result :=
  let sector := address % flashWords / 2048
  let t := s.flashTake 2 address []
  .next (({ t with fab := { t.fab with flash := SMap.clear t.fab.flash fun k => decide (k / 2048 = sector) } }).flashResult 0)

/-- CAPTURE_GO_COMMAND (03 R105, R108). -/
def execCaptureGoCommand (edges : List Nat) (s : State) : Result :=
  if s.capBusy then .next (s.raise Flt.FAB_CAP_REFUSED)
  else .next ((s.setFld F.FAB_CAP_CTRL_src 0).capture edges)

/-- CAPTURE_ARM (03 R105, R108). -/
def execCaptureArm (s : State) : Result :=
  if s.capBusy then .next (s.raise Flt.FAB_CAP_REFUSED)
  else .next ((s.setFld F.FAB_CAP_CTRL_src 1).setFlag F.FAB_STATUS_cap_pending true)

/-- CAPTURE_FABRIC_TRIGGER (03 R105): the trigger port of a selected sector after go. -/
def execCaptureFabricTrigger (sector : Nat) (edges : List Nat) (s : State) : Result :=
  if s.flag F.FAB_STATUS_cap_pending && decide (sector ∈ s.capSelected) then .next (s.capture edges) else .next s

/-- CAPTURE_DRAIN_DONE (03 R107): the new capture replaces the store. -/
def execCaptureDrainDone (s : State) : Result :=
  if s.flag F.FAB_STATUS_cap_draining then
    let s1 := { s with fab := { s.fab with store := s.fab.shadow } }
    .next (((s1.setFlag F.FAB_STATUS_cap_draining false).countWrap F.FAB_CAP_STAT_seq).setFlag F.FAB_CAP_STAT_valid true)
  else .next s

end Sys2Proof.Machine
end

