-- ==== Sys2Proof/Machine/Power.lean ====
section
/-! DEFINITION. Power states (22 R541 to R550): the governor, sleep and wake of islands and of the device, the waits of a
contract commit, and LTR (17 R442). -/

namespace Sys2Proof.Machine

/-! ## What allows a state (22 R548, R549) -/

/-- The latency tolerance (22 R549, 17 R442): PM_LAT_TOL, and what the host has written while it has enabled LTR. -/
def State.tolerance (s : State) : Nat :=
  let own := (s.reg R.PM_LAT_TOL).toNat
  if s.pci.ltrOn then min own (min s.pci.snoop s.pci.noSnoop) else own

/-- Whether a latency lies within a limit whose all-1 value means none. -/
def within (ns limit : Nat) : Bool := decide (limit = 2 ^ 32 - 1) || decide (ns ≤ limit)

/-- The slack that limits guaranteed domains: PM_SLACK, and that of contracts whose commit waits (22 R549, R550). -/
def State.slackLimit (s : State) : Nat := (s.pm.commits.map s.ctSlack).foldl min (s.reg R.PM_SLACK).toNat

/-- Whether an island is a guaranteed domain (22 R548). -/
def State.islGuaranteed (s : State) (k : Nat) : Bool :=
  bit ((s.reg R.PM_GUAR_ISL_LO).toNat + 2 ^ 32 * (s.reg R.PM_GUAR_ISL_HI).toNat) k

/-- Whether the device as a whole is a guaranteed domain (22 R548). -/
def State.devGuaranteed (s : State) : Bool := decide (s.reg R.PM_GUAR_BLK_LO ≠ 0) || decide ((s.reg R.PM_GUAR_BLK_HI).toNat % 16 ≠ 0)

/-- Whether a state of an island is allowed (22 R549); none below I0 during a warm reset (23 R572). -/
def State.islAllowed (s : State) (k st : Nat) : Bool :=
  !s.mgt.warm && within (islandExit st) s.tolerance && (!s.islGuaranteed k || within (islandExit st) s.slackLimit)
    && decide (st ≤ s.fld F.PM_CTRL_isl_max) && decide (st ≤ s.fld F.PM_ISL_CTRL_max_state k)

/-- Whether a state of the device is allowed (22 R547, R549); none below D0 during a warm reset (23 R572). -/
def State.devAllowed (s : State) (st : Nat) : Bool :=
  !s.mgt.warm && within (deviceExit st) s.tolerance && (!s.devGuaranteed || within (deviceExit st) s.slackLimit)

/-- The deepest state of 1 to `top` that passes, or 0. -/
def deepest (ok : Nat → Bool) (top : Nat) : Nat := (((List.range top).map (· + 1)).filter ok).foldl max 0

/-! ## Waking (22 R545, R547) -/

/-- The state of an island. -/
def State.islState (s : State) (k : Nat) : Nat := s.fld F.PM_ISL_STAT_state k

/-- The state of the device. -/
def State.devState (s : State) : Nat := s.fld F.PM_STATUS_dev_state

/-- The device starts its return to D0; an entry in progress completes first (10 R302). -/
def State.devWake (s : State) : State :=
  if s.devState = 0 ∨ s.pm.devWaking.isSome then s
  else if s.pm.devEntering then { s with pm := { s.pm with devAsked := true } }
  else { s with pm := { s.pm with devWaking := some s.time.ns, devFrom := s.devState } }

/-- An island starts its return to I0; an entry in progress completes first. An island wake source also wakes the
device. -/
def State.islWake (s : State) (k : Nat) : State :=
  let s0 := s.devWake
  if s0.islState k = 0 ∨ (SMap.get none s0.pm.waking k).isSome then s0
  else if NSet.has s0.pm.entering k then { s0 with pm := { s0.pm with wakeAsked := NSet.put s0.pm.wakeAsked k true } }
  else
    let p := s0.pm
    { s0 with pm := { p with waking := SMap.set none p.waking k (some s0.time.ns)
                             wokeFrom := SMap.set 0 p.wokeFrom k (s0.islState k) } }

/-- A domain no longer allowed is raised at once to its deepest allowed state (22 R550): an island. -/
def State.islRaise (s : State) (k : Nat) : State :=
  if s.islState k = 0 ∨ s.islAllowed k (s.islState k) then s
  else
    let d := deepest (s.islAllowed k) (s.islState k)
    if d = 0 then s.islWake k else s.setFld F.PM_ISL_STAT_state d k

/-- LPDDR6 memory follows the state of the device (14 R381): channels that are up go to power-down, self-refresh or deep
sleep, and back. -/
def State.lpFollow (s : State) (st : Nat) : State :=
  (List.range 16).foldl (fun (t : State) c =>
    if 2 ≤ t.lpState c ∧ t.lpState c < 6 then t.setLpState c (2 + st) else t) s

/-- The device is raised (22 R550). -/
def State.devRaise (s : State) : State :=
  if s.devState = 0 ∨ s.devAllowed s.devState then s
  else
    let d := deepest s.devAllowed s.devState
    if d = 0 then s.devWake else (s.setFld F.PM_STATUS_dev_state d).lpFollow d

/-- Every domain whose state is no longer allowed is raised (22 R550). -/
def State.raiseAll (s : State) : State := (List.range 48).foldl State.islRaise s.devRaise

/-- Whether a guaranteed domain is on its way to wake. -/
def State.guarWaking (s : State) : Bool :=
  (s.devGuaranteed && (s.pm.devWaking.isSome || s.pm.devAsked)) ||
    (List.range 48).any fun k => s.islGuaranteed k && ((SMap.get none s.pm.waking k).isSome || NSet.has s.pm.wakeAsked k)

/-- Contracts whose commit waited are committed once every guaranteed domain is awake (22 R550). -/
def State.commitsProceed (s : State) : State :=
  if s.guarWaking then s
  else
    let l := s.pm.commits
    l.foldl State.ctCommit { s with pm := { s.pm with commits := [] } }

/-- ISLAND_WAKE_DONE (22 R545): I0, pm_woke in the first fabric cycle, the wake counted. -/
def State.islWakeDone (s : State) (k : Nat) : State :=
  match SMap.get none s.pm.waking k with
  | none => s
  | some t =>
    let p := s.pm
    let s1 := { s with pm := { p with waking := SMap.set none p.waking k none, woke := NSet.put p.woke k true
                                      since := SMap.set 0 p.since k 0 } }
    let s2 := (s1.setFld F.PM_ISL_STAT_state 0 k).setFld F.PM_ISL_STAT_last_exit_ns (min 65535 (s.time.ns - t)) k
    ((s2.count F.PM_WAKE_CNT_count 1 k).raiseAll).commitsProceed

/-- DEVICE_WAKE_DONE (22 R546): D0; the memory is up, and after D3 the lanes bring themselves up again. -/
def State.devWakeDone (s : State) : State :=
  match s.pm.devWaking with
  | none => s
  | some _ =>
    let s1 := ({ s with pm := { s.pm with devWaking := none } }).setFld F.PM_STATUS_dev_state 0
    let s2 := s1.lpFollow 0
    let s3 := if s.pm.devFrom = 3 then
        ((List.range 12).filter fun b => s2.flag (F.LN_CTRL_en.win b)).foldl State.lnStart s2
      else s2
    (s3.raiseAll).commitsProceed

/-- SLEEP_ENTRY_DONE (22 R543): the entry is complete, and a wake asked for meanwhile starts. -/
def State.entryDone (s : State) (device : Bool) (k : Nat) : State :=
  if device then
    if !s.pm.devEntering then s
    else
      let s1 := { s with pm := { s.pm with devEntering := false, devAsked := false } }
      if s.pm.devAsked then s1.devWake else s1
  else if !NSet.has s.pm.entering k then s
  else
    let s1 := { s with pm := { s.pm with entering := NSet.put s.pm.entering k false
                                         wakeAsked := NSet.put s.pm.wakeAsked k false } }
    if NSet.has s.pm.wakeAsked k then s1.islWake k else s1

/-! ## Eligibility (22 R544) -/

/-- Whether an engine lets its island sleep: halted, or in WAIT with tmr_per 0; its mover idle. -/
def Engine.quiet (g : Engine) : Bool := (g.halted || (g.waiting && decide (g.reg 51 = 0))) && !g.mover.busy

/-- Whether a sector's context, stream port and edge FIFOs are quiet. -/
def State.sectorQuiet (s : State) (k : Nat) : Bool :=
  !s.flag (F.CTX_STATUS_sched_run.ctx k) && !s.ctxBusy k && decide (s.spOf k = {})
    && (s.fab.edges.all fun e => decide (e.1 / 32 ≠ k))
    && !(s.capBusy && decide (k ∈ s.capSelected))

/-- Whether an island is eligible: `idle` are the sectors whose live context drives pm_idle. -/
def State.eligible (s : State) (idle : List Nat) (k : Nat) : Bool :=
  idle.contains k && idle.contains (k + 48) && s.sectorQuiet k && s.sectorQuiet (k + 48) && !s.held k
    && (s.fab.landing.all fun e => decide (e.1 / 256 ≠ k) || e.2.cmd.isNone)
    && (s.eng.all fun e => decide (engIsland e.1 ≠ k) || e.2.quiet)
    && (decide (k % 3 ≠ 0) || decide (s.flPort (k / 3) = {}))

/-! ## The governor (22 R547, R549) -/

/-- An island evaluated: its eligibility, and sleep in its deepest allowed state once it has been eligible for idle_us. -/
def State.govIsland (idle : List Nat) (s : State) (k : Nat) : State :=
  let e := s.eligible idle k
  let old := SMap.get 0 s.pm.since k
  let since := if !e then 0 else if old = 0 then s.time.ns + 1 else old
  let s1 := ({ s with pm := { s.pm with since := SMap.set 0 s.pm.since k since } }).setFlag F.PM_ISL_STAT_eligible e k
  if !e || decide (s.time.ns + 1 < since + s.fld F.PM_CTRL_idle_us * 1000)
      || (SMap.get none s.pm.waking k).isSome || NSet.has s.pm.entering k then s1
  else
    let d := deepest (s1.islAllowed k) 3
    if d ≤ s1.islState k then s1
    else ({ s1 with pm := { s1.pm with entering := NSet.put s1.pm.entering k true } }).setFld F.PM_ISL_STAT_state d k

/-- Whether nothing moves in the device (22 R547): every island in I1 or deeper, no packet in a queue, no request
outstanding. -/
def State.devQuiet (s : State) : Bool :=
  ((List.range 48).all fun k => decide (s.islState k ≠ 0))
    && (s.qm.queues.all fun e => e.2.opened.isNone && decide (e.2.pkts = []))
    && (s.noc.reqs.all fun e => e.2.isNone)

/-- The device evaluated (22 R546, R547). -/
def State.govDevice (s : State) : State :=
  if s.devState ≠ 0 || !s.devQuiet then s
  else
    let d := deepest s.devAllowed (s.fld F.PM_CTRL_dev_max)
    if d = 0 then s
    else
      let s1 := ({ s with pm := { s.pm with devEntering := true } }).setFld F.PM_STATUS_dev_state d
      let s2 := if 2 ≤ d then (List.range 48).foldl (fun (t : State) k => t.setFld F.PM_ISL_STAT_state 3 k) s1 else s1
      let s3 := if d = 3 then (List.range 12).foldl State.lnReset s2 else s2
      s3.lpFollow d

/-- The base of PM. -/
def pmBase : Nat := 0x200000

/-- GOVERNOR_EVAL (22 R549): a pending commit takes effect, and every domain is evaluated. -/
def State.governor (s : State) (idle : List Nat) : State :=
  let s1 := if s.commitPends pmBase 0 then s.commitEnds pmBase 0 else s
  ((List.range 48).foldl (State.govIsland idle) s1.raiseAll).govDevice

/-! ## Regulators and D4 (22 R542, R547, R560) -/

/-- The device enters D4 (22 R546, R547), the flash log first brought up to date (25 R622). -/
def State.enterD4 (s : State) : State :=
  let s1 := s.faultsDrain
  { s1 with pm := { s1.pm with off := true } }

/-- Every regulator turns off, DONE is driven low and D4 is entered (22 R560 steps 1, 2 and 4). -/
def State.powerStop (s : State) : State :=
  ({ s with th := { s.th with shutdown := true } }).setFlag F.CFG_STATUS_done_pin false |>.enterD4

/-- REGULATOR_FAULT (22 R542): a logic channel of island `unit`, or the configuration or memory rail. -/
def State.regFault (s : State) (rail : Bool) (unit : Nat) : State :=
  let s1 := s.setFlag F.PM_STATUS_reg_fault true
  if rail then (s1.raiseSev Flt.PM_REG_FAULT 4).powerStop
  else (s1.holdIsland unit).raise Flt.PM_REG_FAULT [unit]

/-! ## Contracts and LTR (13 R353, 17 R442, 22 R550) -/

/-- A COMMIT that passes its checks first raises every guaranteed domain that it would no longer allow; it is committed
once they are awake. -/
def State.contractCommit (s : State) (q : Nat) : State :=
  if s.ctCheck q ≠ 0 then s.ctCommit q
  else
    let s1 := ({ s with pm := { s.pm with commits := s.pm.commits ++ [q] } }).raiseAll
    s1.commitsProceed

/-- PCI_LTR.host_tol_us: the smallest tolerance in whole µs, saturating (17 R442). -/
def State.hostTol (s : State) : State := s.setFld F.PCI_LTR_host_tol_us (min 65535 (s.tolerance / 1000))

/-- LTR_UPDATE (17 R442, 22 R550). -/
def State.ltrUpdate (s : State) (on : Bool) (snoop noSnoop : Nat) : State :=
  (({ s with pci := { s.pci with ltrOn := on, snoop := snoop, noSnoop := noSnoop } }).hostTol).raiseAll

/-! ## Commands -/

/-- CONTRACT_COMMIT (13 R353, 22 R550). -/
def execContractCommit (q : Nat) (s : State) : Result := .next (s.contractCommit q)

/-- LTR_UPDATE (17 R442). -/
def execLtrUpdate (on : Bool) (snoop noSnoop : Nat) (s : State) : Result := .next (s.ltrUpdate on snoop noSnoop)

/-- PCIE_L1_ENTRY (17 R442): the link leaves L0, which is a cause of host-ring class-0 queues. -/
def execPcieL1Entry (s : State) : Result :=
  .next (if s.flag F.PCI_STATUS_up then (s.setFlag F.PCI_STATUS_l1 true).prmRefresh else s)

/-- PCIE_L1_EXIT (22 R547): back to L0, which wakes the device. -/
def execPcieL1Exit (s : State) : Result := .next (((s.setFlag F.PCI_STATUS_l1 false).prmRefresh).devWake)

/-- GOVERNOR_EVAL (22 R549). -/
def execGovernorEval (idle : List Nat) (s : State) : Result := .next (s.governor idle)

/-- ISLAND_WAKE (22 R545). -/
def execIslandWake (island : Nat) (s : State) : Result := .next (s.islWake island)

/-- ISLAND_WAKE_DONE (22 R545). -/
def execIslandWakeDone (island : Nat) (s : State) : Result := .next (s.islWakeDone island)

/-- DEVICE_WAKE (22 R547). -/
def execDeviceWake (s : State) : Result := .next s.devWake

/-- DEVICE_WAKE_DONE (22 R546). -/
def execDeviceWakeDone (s : State) : Result := .next s.devWakeDone

/-- SLEEP_ENTRY_DONE (22 R543). -/
def execSleepEntryDone (device : Bool) (island : Nat) (s : State) : Result := .next (s.entryDone device island)

/-- PM_OFF (22 R547): D4. -/
def execPmOff (s : State) : Result := .next s.enterD4

/-- REGULATOR_FAULT (22 R542). -/
def execRegulatorFault (rail : Bool) (unit : Nat) (s : State) : Result := .next (s.regFault rail unit)

end Sys2Proof.Machine
end

