-- ==== Sys2Proof/Machine/Thermal.lean ====
section
/-! DEFINITION. Thermal control (22 R551 to R564): sensors, estimates, bands, throttling, shutdown. Temperatures are
signed counts of a quarter of a degree. -/

namespace Sys2Proof.Machine

/-! ## Limits (22 R556, R564) -/

/-- warn, at most 115 degrees. -/
def State.warnAt (s : State) : Int := 4 * (min 115 (s.fld F.TH_LIMITS_warn) : Nat)

/-- throttle, at most 115 degrees. -/
def State.throttleAt (s : State) : Int := 4 * (min 115 (s.fld F.TH_LIMITS_throttle) : Nat)

/-- 115 degrees less crit_margin (22 R558). -/
def State.guarAt (s : State) : Int := 4 * (115 - (s.fld F.TH_LIMITS_crit_margin : Nat) : Int)

/-- The points of the throttle curve in force: excess, removal. -/
def State.curve (s : State) : List (Nat × Nat) :=
  (List.range 16).map fun k => (s.fld (F.TH_CURVE_excess.nth k), s.fld (F.TH_CURVE_removal.nth k))

/-- c(x) (22 R557): linear between points, rounded down; beyond the last point its removal. -/
def curveAt (x : Nat) : List (Nat × Nat) → Nat
  | [] => 0
  | [p] => p.2
  | p :: q :: l => if x < q.1 then p.2 + (x - p.1) * (q.2 - p.2) / (q.1 - p.1) else curveAt x (q :: l)

/-- The removal of a temperature above a limit. -/
def State.removalAbove (s : State) (x : Int) : Nat := if x ≤ 0 then 0 else min 950 (curveAt x.toNat s.curve)

/-- Whether a curve fails its check (22 R564). -/
def curveBad (l : List (Nat × Nat)) : Bool :=
  decide (l.headD (1, 1) ≠ (0, 0)) || (l.any fun p => decide (950 < p.2))
    || (l.zip (l.drop 1)).any fun p => decide (p.2.1 ≤ p.1.1) || decide (p.2.2 < p.1.2)

/-! ## Bands (22 R554, R555) -/

/-- The band a temperature lies in. -/
def bandOf (t : Int) : Nat := if t < 0 then 0 else if t < 180 then 1 else if t < 340 then 2 else if t ≤ 400 then 3 else 4

/-- The lower boundary of a band above B0. -/
def bandFloor (b : Nat) : Int := match b with | 0 => -1000 | 1 => 0 | 2 => 180 | 3 => 340 | _ => 400

/-- The band after a reading: up at once, down only 2 degrees below the lower boundary. -/
def nextBand (cur : Nat) (t : Int) : Nat :=
  let b := bandOf t
  if cur ≤ b then b else if t ≤ bandFloor cur - 8 then b else cur

/-! ## Sensors (22 R551, R552, R559) -/

/-- A sensor's last reading, unless it has failed. -/
def State.sensor (s : State) (n : Nat) : Option Int :=
  if s.flag F.TH_SENSOR_failed n then none else some (signed 12 (s.fld F.TH_SENSOR_reading n))

/-- window_ms, 0 used as 1. -/
def State.riseWindow (s : State) : Nat := max 1 (s.fld F.TH_RISE_window_ms)

/-- A sensor read: out of range or incomplete marks it failed until the next start-up (22 R552). -/
def State.sensorRead (s : State) (n : Nat) (r : Option Int) : State :=
  if s.flag F.TH_SENSOR_failed n then s
  else
    match r with
    | none => (s.setFlag F.TH_SENSOR_failed true n).raise Flt.TH_SENSOR_FAIL
    | some t =>
      if t < -240 ∨ 600 < t then (s.setFlag F.TH_SENSOR_failed true n).raise Flt.TH_SENSOR_FAIL
      else
        let h := (t :: SMap.get [] s.th.history n).take (10 * s.riseWindow + 1)
        ({ s with th := { s.th with history := SMap.set [] s.th.history n h } }).setFld F.TH_SENSOR_reading (unsigned 12 t) n

/-- Whether a sensor's rise exceeds the limit (22 R559): its reading less that of window_ms ago, against limit times the
window; limit 0 disables. -/
def State.rising (s : State) (n : Nat) : Bool :=
  let h := SMap.get [] s.th.history n
  let w := s.riseWindow
  let limit := s.fld F.TH_RISE_limit
  match h[0]?, h[10 * w]? with
  | some a, some b => decide (limit ≠ 0) && !s.flag F.TH_SENSOR_failed n && decide ((limit * w : Nat) < a - b)
  | _, _ => false

/-- A rising sensor recorded, once per sensor per second. -/
def State.riseNote (s : State) (n : Nat) : State :=
  if s.rising n then (s.setFlag F.TH_STATUS_rise_any true).raiseFirst Flt.TH_RATE n s.second [n] else s

/-! ## The middle layer (22 R561, R562) -/

/-- The largest of the readings that are there. -/
def maxOf (l : List (Option Int)) : Option Int :=
  l.foldl (fun a x => match a, x with
    | none, y => y
    | some a, none => some a
    | some a, some b => some (max a b)) none

/-- An island's estimate, where its layer-1 or layer-3 sensor gives one. -/
def State.estimate (s : State) (k act : Nat) : Option Int :=
  (maxOf [s.sensor (120 + k / 2), s.sensor (96 + k / 2)]).map fun t =>
    t + (s.fld F.TH_EST_CFG_slope * act / 1024 : Nat) + signed 8 (s.fld F.TH_EST_CFG_ofs)

/-- Whether the layer-2 sensor of an island is suspect. -/
def State.suspect (s : State) (k : Nat) : Bool := bit (s.pair R.TH_SUSPECT_LO R.TH_SUSPECT_HI) k

/-- Its mark set. -/
def State.setSuspect (s : State) (k : Nat) : State :=
  (s.setPair R.TH_SUSPECT_LO R.TH_SUSPECT_HI (putBit (s.pair R.TH_SUSPECT_LO R.TH_SUSPECT_HI) k true)).setFlag
    F.TH_SENSOR_suspect true k

/-- TH_STATUS.suspect_any, which shows whether some sensor is suspect. -/
def State.suspectAny (s : State) : State :=
  s.setFlag F.TH_STATUS_suspect_any (decide (s.pair R.TH_SUSPECT_LO R.TH_SUSPECT_HI ≠ 0))

/-- The disagreement of an island's estimate with its layer-2 sensor (22 R562): for more than 10 ms, the sensor is
suspect. -/
def State.disagree (s : State) (k : Nat) (est : Option Int) : State :=
  let put := fun (t : State) (v : Nat) => { t with th := { t.th with disSince := SMap.set 0 t.th.disSince k v } }
  match est, s.sensor k with
  | some e, some r =>
    if s.suspect k || decide (e - r ≤ (s.fld F.TH_DISAGREE_deg : Nat)) then put s 0
    else
      let since := SMap.get 0 s.th.disSince k
      if since = 0 then put s (s.time.ns + 1)
      else if s.time.ns + 1 ≤ since + 10 ^ 7 then s
      else (((put s 0).setSuspect k).suspectAny).raise Flt.TH_SENSOR_DISAGREE
  | _, _ => put s 0

/-- The layer-2 value (22 R553, R562) and whether it includes the estimate. -/
def State.layer2 (s : State) (k : Nat) (est : Option Int) : Option Int × Bool :=
  match s.sensor k with
  | none => (est, est.isSome)
  | some r => if s.suspect k then (maxOf [some r, est], est.isSome) else (some r, false)

/-! ## One island at a sample -/

/-- The sensors of an island. -/
def islandSensors (k : Nat) : List Nat := [k, 48 + k, 96 + k / 2, 120 + k / 2]

/-- The removal of an island (22 R557 to R559). -/
def State.removal (s : State) (k : Nat) (t : Int) : Nat :=
  if s.islGuaranteed k then s.removalAbove (t - s.guarAt)
  else
    let rise := if (islandSensors k).any s.rising then min 950 (s.fld F.TH_RISE_removal) else 0
    max (s.removalAbove (t - s.throttleAt)) rise

/-- The removal in force, and the first non-zero one recorded (22 R557, R558). -/
def State.throttle (s : State) (k r : Nat) : State :=
  let s1 := s.setFld F.TH_ISL_STAT_removal r k
  if r = 0 then { s1 with th := { s1.th with throttled := NSet.put s1.th.throttled k false } }
  else if NSet.has s1.th.throttled k then s1
  else ({ s1 with th := { s1.th with throttled := NSet.put s1.th.throttled k true } }).raise
    (if s1.islGuaranteed k then Flt.TH_GUAR_THROTTLE else Flt.TH_THROTTLE)

/-- The warning of an island (22 R556). -/
def State.warn (s : State) (k : Nat) (t : Int) : State :=
  let on := NSet.has s.th.warned k
  let put := fun (s : State) (b : Bool) => { s with th := { s.th with warned := NSet.put s.th.warned k b } }
  if s.warnAt ≤ t then (if on then s else ((put s true).setFlag F.TH_STATUS_warn_any true).raise Flt.TH_WARN)
  else if t ≤ s.warnAt - 8 then put s false else s

/-- An island's band changes: its delay lines move and re-centre (22 R555, 02 R60). -/
def State.islandBand (s : State) (k : Nat) (t : Int) : State :=
  let cur := s.fld F.TH_ISL_STAT_band k
  let b := nextBand cur t
  if b = cur then s else (s.setFld F.TH_ISL_STAT_band b k).startRetune k b

/-- An island at a sample. `a` is its activity. -/
def State.islandSample (s : State) (k act : Nat) : State :=
  let est := s.estimate k act
  let s1 := (s.setFld F.TH_ISL_EST_activity act k).setFld F.TH_ISL_EST_est
    (match est with | some e => unsigned 12 e | none => s.fld F.TH_ISL_EST_est k) k
  let s2 := s1.disagree k est
  let l2 := s2.layer2 k est
  match maxOf [l2.1, s2.sensor (48 + k), s2.sensor (96 + k / 2), s2.sensor (120 + k / 2)] with
  | none => s2
  | some t =>
    let s3 := (s2.setFld F.TH_ISL_STAT_t_isl (unsigned 12 t) k).setFlag F.TH_ISL_STAT_est_used l2.2 k
    ((s3.islandBand k t).warn k t).throttle k (s3.removal k t)

/-! ## Base-layer bands and shutdown -/

/-- The band of an LPDDR6 channel and of a lane bundle from its base-layer sensor (22 R553, 14 R376). -/
def State.baseBand (s : State) (n : Nat) : State :=
  match s.sensor n with
  | none => s
  | some t =>
    if n < 160 then s.setFld (F.LP_TEMP_band.win (n - 144)) (nextBand (s.fld (F.LP_TEMP_band.win (n - 144))) t)
    else if n < 172 then
      let x := s.lnOf (n - 160)
      s.setLn (n - 160) { x with band := nextBand x.band t }
    else s

/-- What reads 115 degrees or more: islands, and 48 + base-layer sensors. -/
def State.hotNow (s : State) : List Nat :=
  ((List.range 48).filter fun k => decide (460 ≤ signed 12 (s.fld F.TH_ISL_STAT_t_isl k)))
    ++ ((List.range 32).filter fun n => match s.sensor (144 + n) with
      | some t => decide (460 ≤ t)
      | none => false).map (48 + ·)

/-- The shutdown (22 R560). -/
def State.thermalStop (s : State) : State := (s.raise Flt.TH_SHUTDOWN).powerStop

/-- Critical readings at two consecutive samples stop the device. -/
def State.critical (s : State) : State :=
  let now := s.hotNow
  let stop := now.any fun n => NSet.has s.th.hot n
  let s1 := { s with th := { s.th with hot := now.foldl (fun m n => NSet.put m n true) [] } }
  if stop then s1.thermalStop else s1

/-! ## Commits (22 R564, R555) -/

/-- The base of TH. -/
def thBase : Nat := 0x300000

/-- A commit of group 0 takes effect: the bands' refresh codes are written into LP_REF of every channel. -/
def State.thCommit0 (s : State) : State :=
  let s1 := s.commitEnds thBase 0
  let code := fun (n : Nat) => bits (s1.reg (R.TH_BAND_A + 16 * n)).toNat 17 16
  (List.range 16).foldl (fun (t : State) c =>
    (List.range 5).foldl (fun (u : State) n =>
      u.setFld ⟨R.LP_REF + 0x10000 * c, 2 * n + 1, 2 * n⟩ (code n)) t) s1

/-- The points of the curve as staged. -/
def State.curveStaged (s : State) : List (Nat × Nat) :=
  (List.range 16).map fun k => (s.stagedFld (F.TH_CURVE_excess.nth k), s.stagedFld (F.TH_CURVE_removal.nth k))

/-- A commit of group 0 is requested (22 R564). -/
def State.thCommitAsk (s : State) : State :=
  if curveBad s.curveStaged then s.raise Flt.TH_TABLE_INVALID else s.commitWaits thBase 0

/-- Pending commits take effect at a sample boundary. -/
def State.thCommits (s : State) : State :=
  let s1 := if s.commitPends thBase 0 then s.thCommit0 else s
  if s1.commitPends thBase 1 then s1.commitEnds thBase 1 else s1

/-! ## A sample (22 R551) -/

/-- The activity of an island over the last 1 ms (22 R561): cycles with a parallel-format multiply of the engine cycles,
cycles with a flip-flop load of the cluster cycles. -/
def activity (a : Nat × Nat × Nat × Nat) : Nat := 511 * a.1 / max 1 a.2.1 + 511 * a.2.2.1 / max 1 a.2.2.2

/-- SENSOR_SAMPLE: the 176 readings, the activity of the islands, and the input power over the last 1 ms. -/
def State.sample (s : State) (readings : List (Option Int)) (act : List (Nat × Nat × Nat × Nat)) (dw : Nat) : State :=
  let s0 := (s.thCommits).setFld F.PM_POWER_dw dw
  let s1 := (List.range 176).foldl (fun (t : State) n => t.sensorRead n (readings.getD n none)) s0
  let s2 := (List.range 176).foldl State.riseNote s1
  let s3 := (List.range 48).foldl (fun (t : State) k => t.islandSample k (min 1022 (activity (act.getD k (0, 1, 0, 1))))) s2
  let s4 := (List.range 28).foldl (fun (t : State) n => t.baseBand (144 + n)) s3
  let s5 := s4.setFlag F.TH_STATUS_throttle_any ((List.range 48).any fun k => decide (s4.fld F.TH_ISL_STAT_removal k ≠ 0))
  (s5.prmRefresh).critical

/-! ## Commands -/

/-- SENSOR_SAMPLE (22 R551). -/
def execSensorSample (readings : List (Option Int)) (activity : List (Nat × Nat × Nat × Nat)) (dw : Nat) (s : State) : Result :=
  .next (s.sample readings activity dw)

end Sys2Proof.Machine
end

