-- ==== Sys2Proof/Machine/Csr.lean ====
section
/-! DEFINITION. Registers as the bus sees them (00 R6 to R16): reads with their side effects, writes under the access type of
each field, stops, commits, and the writes that are commands. -/

namespace Sys2Proof.Machine

/-! ## Copies -/

/-- The copy of a register that the block's selection register names. -/
def State.csrInst (s : State) (d : RegDesc) : Nat :=
  match d.per with
  | .one => 0
  | .island =>
    match d.off / 0x100000 with
    | 8 => s.fld F.VX_SEL_island
    | 7 => s.fld F.FAB_LAND_SEL_island
    | 1 => s.fld F.CLK_ISL_SEL_island
    | 2 => s.fld F.PM_ISL_SEL_island
    | _ => s.fld F.TH_SEL_island
  | .column => if d.off / 0x100000 = 9 then s.fld F.MEM_COL_SEL_column else s.fld F.MI_COL_SEL_column
  | .engine => if d.off / 0x100000 = 11 then s.fld F.ENG_SEL_engine else s.fld F.MON_BP_SEL_engine
  | .router => s.fld F.NOC_SEL_router
  | .queue => s.fld F.QM_QSEL_queue
  | .port => s.fld F.QM_PSEL_slice * 32 + s.fld F.QM_PSEL_port
  | .slice => s.fld F.QM_PSEL_slice
  | .region => s.fld F.MEE_REG_SEL_region
  | .lane => 0
  | .bundle => s.fld F.GR_SEL_bundle
  | .ring => s.fld F.PCI_RSEL_ring
  | .mac => s.fld F.ETH_SEL_mac
  | .sector => s.fld F.CI_SEL_sector
  | .sensor => s.fld F.TH_SEL_sensor

/-- The copy of the register at an offset: as `csrInst`, and per lane the lane that the bundle's window selects. -/
def State.instAt (s : State) (off : Nat) (d : RegDesc) : Nat :=
  if d.per = .lane then s.fld (F.LN_LANE_SEL_lane.win (windowOf off)) else s.csrInst d

/-- A selection register's written value as it reads back: numbers beyond the last are the last. -/
def clampSel (off v : Nat) : Nat :=
  if off = R.VX_SEL ∨ off = R.FAB_LAND_SEL ∨ off = R.CLK_ISL_SEL ∨ off = R.PM_ISL_SEL ∨ off = R.MEM_COL_SEL ∨ off = R.MI_COL_SEL then
    putBits v 5 0 (min 47 (bits v 5 0))
  else if off = R.ENG_SEL ∨ off = R.MON_BP_SEL then putBits v 13 0 (min 12287 (bits v 13 0))
  else if off = R.GR_SEL then putBits v 3 0 (min 11 (bits v 3 0))
  else if off = R.ETH_SEL ∨ off = R.CI_SEL then putBits v 6 0 (min 95 (bits v 6 0))
  else if off = R.TH_SEL then putBits (putBits v 13 8 (min 47 (bits v 13 8))) 7 0 (min 175 (bits v 7 0))
  else if off = R.QM_PSEL then putBits v 4 0 (min 27 (bits v 4 0))
  else if off = R.CLK_TRIM then putBits v 29 26 (min 11 (bits v 29 26))
  else v

/-! ## What registers show that no register holds -/

/-- The bundles of an island that hold anything but their reset contents. -/
def State.islandBundles (s : State) (k : Nat) : List Bundle :=
  (s.vx.bundles.filter fun e => decide (e.1 / 1024 = k)).map fun e => e.2

/-- VX_ISL_STAT of an island. -/
def State.vxIslStat (s : State) (k : Nat) : Nat :=
  let l := s.islandBundles k
  let noSpare := (l.filter fun b => decide (.free ∉ b.spares)).length
  let repaired := (l.filter fun b => b.spares.any fun x => match x with | .wire _ => true | _ => false).length
  min 255 noSpare * 2 ^ 24 + repaired * 2 ^ 13 + min 2047 (l.map fun b => b.dead.length).sum

/-- VX_ISL_ROW of an island. -/
def State.vxIslRow (s : State) (k : Nat) : Nat :=
  let l := (s.vx.rowPorts.filter fun e => decide (e.1 / 256 = k)).map fun e => e.2
  (l.filter fun p => p.dead).length * 2 ^ 16 + (l.filter fun p => decide (p.steered ≠ [])).length

/-- MEM_COL_STAT of a column: banks of class 2, and banks in word-interleaved sets. -/
def State.memColStat (s : State) (c : Nat) : Nat :=
  let near := ((List.range 256).filter fun b => decide (s.fld (F.MEM_BANK_CFG_owner_class.nth b) c = 2)).length
  let sets := ((List.range 256).filter fun b =>
    let z := s.fld (F.MEM_BANK_CFG_set_size.nth b) c
    decide (z = 1) || decide (z = 2)).length
  near * 2 ^ 16 + sets

/-- HSP_STATUS.busy: ports with words to send. -/
def State.hspBusy (s : State) : Nat := maskOf ((List.range 10).filter fun p => decide ((SMap.get {} s.fab.serial p).tx ≠ []))

/-- The value of a register as it stands: what is in force, with the fields that show other state. -/
def State.regView (s : State) (off inst : Nat) : Nat :=
  let v := (s.reg off inst).toNat
  let o := unwindow off
  if o = R.VX_STATUS then
    putBits v 3 1 (4 * (decide (8192 ≤ s.vx.map.length)).toNat + 2 * (s.vx.retune.any fun e => e.2.isSome).toNat
      + (decide (s.reg R.VX_HELD_LO ≠ 0) || decide (s.reg R.VX_HELD_HI ≠ 0)).toNat)
  else if o = R.VX_ISL_STAT then s.vxIslStat inst
  else if o = R.VX_ISL_ROW then s.vxIslRow inst
  else if o = R.HSP_STATUS then putBits v 10 1 s.hspBusy
  else if o = R.MEM_COL_STAT then s.memColStat inst
  else if o = R.MI_STATUS then
    putBits v 3 2 (2 * s.lapForced.toNat + (s.mem.remap.any fun e => decide (64 ≤ e.2.length)).toNat)
  else if o = R.ENG_STATE then s.engState inst
  else if o = R.ENG_XFER_STAT then (s.engine inst).mover.status
  else if o = R.QM_Q_DEPTH then
    (s.queue inst).opened.isSome.toNat * 2 ^ 31 + (s.qStopped inst).toNat * 2 ^ 30 + min (2 ^ 30 - 1) (s.qDepth inst)
  else if o = R.QM_Q_PKTS then min (2 ^ 24 - 1) (s.queue inst).pkts.length
  else if o = R.QM_FAR_FREE then s.farFree inst
  else if o = R.FS_STATUS then putBits v 3 3 (decide (0 < s.flowUsed true)).toNat
  else if o = R.FS_OCC then s.flowUsed true * 2 ^ 21 + s.flowUsed false
  else if o = R.MEE_STATUS then putBits v 3 3 (decide (s.mee.badPages ≠ [])).toNat
  else if o = R.ETH_TIME_LO then s.time.ns % 2 ^ 32
  else if o = R.ETH_TIME_HI then s.time.latchedHi
  else if o = R.ETH_TXTS_TAG then s.stampPop.1
  else if o = R.CFG_STATUS then putBits v 22 22 s.stu.chain.sending.toNat
  else if o = R.PM_ISL_STAT then putBits v 2 2 (s.islGuaranteed inst).toNat
  else if o = R.FLT_STATUS then putBits v 2 2 s.errN.toNat
  else v

/-! ## Reads -/

/-- The staged value of the RWS fields beside the other fields' value (00 R8). -/
def State.readValue (s : State) (off inst : Nat) (d : RegDesc) : Nat :=
  let v := s.regView off inst
  let m := rwsMask d
  v - (v &&& m) + (s.stagedAt off inst &&& m)

/-- A read of a register: its value, and the state after its side effects (00 R8). A peek (23 R586) has none. An offset
with no register reads 0 (00 R9); the FLT window reads the fault record (25 R623). -/
def State.csrRead (s : State) (off : Nat) (peek : Bool := false) : Nat × State :=
  if off / 0x100000 = 25 ∧ 0x8000 ≤ off % 0x100000 ∧ off % 0x100000 < 0x10000 then
    ((s.recordWord (off % 0x100000 - 0x8000)).toNat, s)
  else
    match findReg off with
    | none => (0, s)
    | some (d, _) =>
      let i := s.instAt off d
      let v := s.readValue off i d
      if peek then (v, s)
      else if off = R.ETH_TIME_LO then (v, { s with time := { s.time with latchedHi := s.time.ns / 2 ^ 32 % 2 ^ 32 } })
      else if off = R.ETH_TXTS_TAG then (v, s.stampPop.2)
      else
        let m := accMask d fun a => decide (a = .rc)
        if m = 0 then (v, s)
        else
          let old := (s.reg off i).toNat
          (v, s.setReg off (BitVec.ofNat 32 (old - (old &&& m))) i)

/-! ## Ignored writes (00 R12, R14, R16) -/

/-- The WR_IGNORED code of a block (25 R627). -/
def ignoredCode (block : Nat) : Option FaultCode :=
  match block with
  | 1 => some Flt.CLK_WR_IGNORED
  | 2 => some Flt.PM_WR_IGNORED
  | 3 => some Flt.TH_WR_IGNORED
  | 4 => some Flt.STU_WR_IGNORED
  | 5 => some Flt.CI_WR_IGNORED
  | 6 => some Flt.CTX_WR_IGNORED
  | 7 => some Flt.FAB_WR_IGNORED
  | 8 => some Flt.VX_WR_IGNORED
  | 9 => some Flt.MEM_WR_IGNORED
  | 10 => some Flt.MI_WR_IGNORED
  | 12 => some Flt.NOC_WR_IGNORED
  | 13 => some Flt.QM_WR_IGNORED
  | 14 => some Flt.FS_WR_IGNORED
  | 15 => some Flt.LP_WR_IGNORED
  | 16 => some Flt.MEE_WR_IGNORED
  | 17 => some Flt.LN_WR_IGNORED
  | 18 => some Flt.GR_WR_IGNORED
  | 19 => some Flt.ETH_WR_IGNORED
  | 20 => some Flt.PCI_WR_IGNORED
  | 22 => some Flt.MON_WR_IGNORED
  | 23 => some Flt.BT_WR_IGNORED
  | 24 => some Flt.SEC_WR_IGNORED
  | 25 => some Flt.FLT_WR_IGNORED
  | _ => none

/-- A write, or part of one, ignored: the block's flag and its fault. -/
def State.wrIgnored (s : State) (off : Nat) : State :=
  match ignoredCode (blockOf off) with
  | some f => (s.setFlag ⟨windowBase off, 0, 0⟩ true).raise f
  | none => s

/-- Whether the block counts as stopped for a register with RWH fields (00 R14): each chapter's rule. -/
def State.rwhStopped (s : State) (off inst : Nat) : Bool :=
  let o := unwindow off
  match blockOf off with
  | 7 => !s.capBusy
  | 9 => s.colStopped inst s.released
  | 10 => if R.MI_MARCH_ELEM ≤ o then !s.flag F.MI_MARCH_CTRL_busy else s.colStopped inst s.released
  | 13 =>
    if o = R.QM_FAR_BASE ∨ o = R.QM_FAR_LINK then s.farStopped inst
    else if R.QM_CT_RATE ≤ o then !s.flag F.QM_CT_STAT_committed inst
    else s.qStopped inst
  | 14 => s.flowStopped
  | 15 => !s.released || decide (s.lpState (windowOf off) = 6)
  | 16 => if o = R.MEE_CTR_BASE ∨ o = R.MEE_TREE_BASE then !s.released else !s.regEn inst
  | 17 => s.lnStopped (windowOf off)
  | 18 => s.lnStopped inst
  | 20 => s.ringStopped inst
  | 4 => !s.flag F.CFG_LOAD_STAT_busy
  | 23 => s.secu.run.isNone && s.secu.ana.isNone
  | _ => !s.released

/-! ## Writes of fields (00 R8) -/

/-- A value written to a register's fields under their access types. -/
def State.writeFields (s : State) (off inst : Nat) (d : RegDesc) (v : Nat) : State :=
  let mk := fun (a : Acc) => accMask d fun x => decide (x = a)
  let old := (s.reg off inst).toNat
  let rws := mk .rws
  let rwh := mk .rwh
  let rwl := mk .rwl
  let pends := decide (rws ≠ 0) && s.commitPends (windowBase off) d.group
  let hChange := decide (((v ^^^ old) &&& rwh) ≠ 0)
  let hOk := hChange && s.rwhStopped off inst
  let locked := NSet.has s.locked (regKey off inst)
  let lBad := locked && decide (((v ^^^ old) &&& rwl) ≠ 0)
  let n1 := mix old v (mk .rw)
  let n2 := if hOk then mix n1 v rwh else n1
  let n3 := if decide (rwl ≠ 0) && !locked then mix n2 v rwl else n2
  let n4 := n3 - (n3 &&& v &&& mk .w1c)
  let s1 := if rwl ≠ 0 then { s with locked := NSet.put s.locked (regKey off inst) true } else s
  let s2 := s1.setReg off (BitVec.ofNat 32 n4) inst
  let s3 := if decide (rws ≠ 0) && !pends then s2.setStagedAt off (mix (s.stagedAt off inst) v rws) inst else s2
  if pends || (hChange && !hOk) || lBad then s3.wrIgnored off else s3

/-! ## Commits (00 R11): their checks and their effects -/

/-- MEM group 0 (05 R160): the shares sum to at most 4,096, 0 counted as 1. -/
def State.shareBad (s : State) : Bool :=
  decide (4096 < ((List.range 48).map fun k => max 1 (bits (s.stagedAt (R.MEM_ROW_SHARE + 4 * k)) 11 0)).sum)

/-- The keys of registers in an offset range that differ from reset or have a staged value. -/
def State.keysIn (s : State) (lo hi : Nat) : List Nat :=
  let f := fun (e : Nat × Word) => decide (lo ≤ e.1 % 2 ^ 28) && decide (e.1 % 2 ^ 28 ≤ hi)
  (((s.csr.filter f).map fun e => e.1) ++ ((s.staged.filter f).map fun e => e.1)).dedup

/-- Whether router number r has input 0 N, 1 E, 2 S, 3 W or a local port (10 R284, R285). -/
def routerHas (r input : Nat) : Bool :=
  match input with
  | 0 => decide (r / 8 < 7)
  | 1 => decide (r % 8 < 7)
  | 2 => decide (0 < r / 8)
  | 3 => decide (0 < r % 8)
  | 4 => true
  | 5 => true
  | 6 => decide (r < 48) || decide (56 ≤ r)
  | _ => decide (56 ≤ r)

/-- Whether one calendar entry fails the check of 10 R296. -/
def State.calEntryBad (s : State) (router out entry : Nat) : Bool :=
  bit entry 3 &&
    (let i := entry % 8
     !routerHas router i || decide (i = out) || (decide (out = 1 ∨ out = 3) && decide (i = 0 ∨ i = 2))
       || decide (s.linkCfg router out = 0))

/-- The first router and output whose next calendar fails (10 R296). -/
def State.nocCalBad (s : State) : Option (Nat × Nat) :=
  ((s.keysIn R.NOC_CAL (R.NOC_CAL + 0xFF)).find? fun k =>
    let off := k % 2 ^ 28
    (groups 4 8 (s.stagedAt off (k / 2 ^ 28))).any fun e =>
      s.calEntryBad (k / 2 ^ 28) ((off - R.NOC_CAL) / 0x20) e).map
    fun k => (k / 2 ^ 28, (k % 2 ^ 28 - R.NOC_CAL) / 0x20)

/-- Whether a commit would change or remove a valid entry of a calendar (10 R296). -/
def State.nocCalTaken (s : State) : Bool :=
  (s.keysIn R.NOC_CAL (R.NOC_CAL + 0xFF)).any fun k =>
    let off := k % 2 ^ 28
    let inst := k / 2 ^ 28
    ((groups 4 8 (s.reg off inst).toNat).zip (groups 4 8 (s.stagedAt off inst))).any fun e => bit e.1 3 && decide (e.1 ≠ e.2)

/-- The queue that half `j` of a calendar word of a port names, if its slot is valid. -/
def calHalf (slice v j : Nat) : Option Nat :=
  if bit v (16 * j + 15) then some (slice * 1024 + bits v (16 * j + 9) (16 * j)) else none

/-- QM group 0 (11 R330): a valid slot names a queue that is not class 0 with this egress port. -/
def State.portCalBad (s : State) : Bool :=
  (s.keysIn R.QM_PORT_CAL (R.QM_PORT_CAL + 0x7F)).any fun k =>
    let inst := k / 2 ^ 28
    let v := s.stagedAt (k % 2 ^ 28) inst
    (List.range 2).any fun j =>
      match calHalf (inst / 32) v j with
      | some q => decide (s.qClass q ≠ 0) || decide (s.qEgress q ≠ inst % 32)
      | none => false

/-- QM group 0 (11 R330): a valid slot that a committed contract holds is changed or removed. -/
def State.portCalTaken (s : State) : Bool :=
  (s.keysIn R.QM_PORT_CAL (R.QM_PORT_CAL + 0x7F)).any fun k =>
    let inst := k / 2 ^ 28
    let off := k % 2 ^ 28
    (List.range 2).any fun j =>
      match calHalf (inst / 32) (s.reg off inst).toNat j with
      | some q => s.flag F.QM_CT_STAT_committed q && decide (calHalf (inst / 32) (s.stagedAt off inst) j ≠ some q)
      | none => false

/-- The staged calendar of a Graft bundle. -/
def State.grCalNext (s : State) (b : Nat) : Nat := s.stagedAt R.GR_CAL_LO b + 2 ^ 32 * s.stagedAt R.GR_CAL_HI b

/-- GR group 0 (16 R434): all 64 slots valid, or valid slots with ver_max below 2. -/
def State.grCalBad (s : State) : Bool :=
  (List.range 12).any fun b =>
    let v := s.grCalNext b
    let ver := if s.fld F.GR_CTRL_ver_max b = 0 then 1 else min 2 (s.fld F.GR_CTRL_ver_max b)
    decide (v = 2 ^ 64 - 1) || (decide (v ≠ 0) && decide (ver < 2))

/-- GR group 0 (16 R434): on the route of a committed class-0 contract, a valid slot is cleared or vc0_max lowered. -/
def State.grCalTaken (s : State) : Bool :=
  (List.range 12).any fun b =>
    (s.committed.any fun q => decide (s.graftOnRoute q = some b)) &&
      (let old := s.pair R.GR_CAL_LO R.GR_CAL_HI b
       decide (old - (old &&& s.grCalNext b) ≠ 0)
         || decide (bits (s.stagedAt R.GR_VC0_MAX b) 8 0 < s.fld F.GR_VC0_MAX_flits b))

/-- MEE group 0: in DEPLOY the dbg right is stored as 0 (24 R604). -/
def State.meeCommit (s : State) (base : Nat) : State :=
  let s1 := s.commitEnds base 0
  if s.secu.lc = 2 then (List.range 32).foldl (fun (t : State) r => t.setFlag F.MEE_REG_RIGHTS_dbg false r) s1 else s1

/-- A commit of a group is asked for: its check runs, and it waits for its safe point or fails. -/
def State.commitAsk (s : State) (base group : Nat) : State :=
  let go := s.commitWaits base group
  match blockOf base, group with
  | 6, 0 => s.schedCommit (windowOf base)
  | 9, 0 => if s.shareBad then s.raise Flt.MEM_SHARE_INVALID else go
  | 12, 0 =>
    match s.nocCalBad with
    | some (r, o) => s.raise Flt.NOC_CAL_INVALID [r, o]
    | none => if s.committed ≠ [] ∧ s.nocCalTaken then s.raise Flt.NOC_CAL_IN_USE else go
  | 13, 0 =>
    if s.portCalBad then s.raise Flt.QM_CAL_INVALID
    else if s.portCalTaken then s.raise Flt.QM_CAL_IN_USE else go
  | 18, 0 =>
    if s.grCalBad then s.raise Flt.GR_CAL_INVALID
    else if s.grCalTaken then s.raise Flt.GR_CAL_IN_USE else go
  | 1, 0 => s.opCommitAsk
  | 1, 1 => s.loopCommitAsk
  | 3, 0 => s.thCommitAsk
  | 5, 0 =>
    let ws := s.stagedAt R.CI_CTRL :: (List.range 6).map fun m => s.stagedAt (R.CI_POLICY + 4 * m)
    (go.ciCommit ws)
  | _, _ => go

/-- A write to a BLK_COMMIT register (00 R11): each bit written 1 and not pending asks for its group. -/
def State.blkCommitWrite (s : State) (off v : Nat) : State :=
  match findReg off with
  | none => s
  | some (d, _) =>
    let ask := d.fields.filter fun f => decide (f.2.2 = .w1s) && bit v f.1
    ask.foldl (fun (t : State) f => if t.commitPends (windowBase off) f.1 then t else t.commitAsk (windowBase off) f.1) s

/-- The safe point of a pending group is reached (00 R11). -/
def State.safePoint (s : State) (base group : Nat) : State :=
  if !s.commitPends base group then s
  else
    match blockOf base, group with
    | 8, _ => if s.vx.bundles.any fun e => e.2.loc.isSome then s else s.commitEnds base group
    | 6, 0 => if s.sec (windowOf base) |>.nextWaits then s.takeTable (windowOf base) else s
    | 6, _ =>
      let k := windowOf base
      if s.flag (F.CTX_STATUS_wb_busy.ctx k) ∨ s.flag (F.CTX_STATUS_restaging.ctx k) ∨ s.flag (F.CTX_STATUS_late_pend.ctx k) then s
      else (s.commitEnds base group).wbLimit k
    | 16, _ => s.meeCommit base
    | 18, _ =>
      (List.range 12).foldl (fun (t : State) b => t.setReg R.GR_HOP_BOUND (BitVec.ofNat 32 (t.hopBound b)) b)
        (s.commitEnds base group)
    | 1, 0 => if s.seqBusy then s else s.opCommit
    | 3, _ => s.thCommits
    | 5, _ => s
    | _, _ => s.commitEnds base group

/-! ## Writes that are commands -/

/-- The state a command answers. -/
def State.via (s : State) (f : State → Result) : State :=
  match f s with
  | .next t => t
  | _ => s

/-- LN_CTRL written (16 R413, R432): its RWH fields while stopped; en and restart act. -/
def State.lnCtrlWrite (s : State) (off : Nat) (d : RegDesc) (v : Nat) : State :=
  let b := windowOf off
  let en := s.flag (F.LN_CTRL_en.win b)
  let s1 := s.writeFields off 0 d v
  if bit v 0 ∧ (!en ∨ bit v 31) then (s1.lnStart b).prmRefresh
  else if en ∧ !bit v 0 then s1.lnDisable b
  else s1

/-- MEE_REG_CFG written (15 R386, R407). -/
def State.regionWrite (s : State) (r : Nat) (d : RegDesc) (v : Nat) : State :=
  let en := s.regEn r
  let s1 := s.writeFields R.MEE_REG_CFG r d (putBit v 31 en)
  if bit v 31 ∧ !en then s1.regionEnable r
  else if !bit v 31 ∧ en then
    (if s.regionHeld r then s1.wrIgnored R.MEE_REG_CFG else s1.setFlag F.MEE_REG_CFG_en false r)
  else s1

/-- MI_CODE written while the column is stopped (06 R186): each bank whose code changes is filled. -/
def State.codeWrite (s : State) (off inst : Nat) (d : RegDesc) (v : Nat) : State :=
  let first := inst * 256 + (off - R.MI_CODE) / 4 * 16
  let s1 := s.writeFields off inst d v
  (List.range 16).foldl (fun (t : State) j => if s.codeOf (first + j) = t.codeOf (first + j) then t else t.startFill (first + j)) s1

/-- FAB_CAP_CTRL written (03 R105, R108). -/
def State.capWrite (s : State) (d : RegDesc) (v : Nat) : State :=
  let s1 := s.writeFields R.FAB_CAP_CTRL 0 d v
  if !bit v 0 then s1
  else if s.capBusy then s1.raise Flt.FAB_CAP_REFUSED
  else if s1.fld F.FAB_CAP_CTRL_src = 1 then s1.setFlag F.FAB_STATUS_cap_pending true
  else s1.capture []

/-- The suspect bits of sensors whose bit of TH_SUSPECT was cleared. -/
def State.suspectClear (s : State) (lo v : Nat) : State :=
  ((onesOf 32 v).foldl (fun (t : State) n => if lo + n < 48 then t.setFlag F.TH_SENSOR_suspect false (lo + n) else t) s).suspectAny

/-- What a write does beside its fields, by register. `s` is the state before the write, `s1` after its fields. -/
def State.afterWrite (s s1 : State) (off inst v : Nat) : State :=
  let o := unwindow off
  match blockOf off with
  | 6 => if o = R.CTX_CMD then s1.ctxCmdWrite (windowOf off) v else s1
  | 10 =>
    if o = R.MI_REMAP_CMD then
      (if bit v 31 then s1.askRemap (s.fld F.MI_COL_SEL_column * 256 + bits v 20 13) (bits v 12 0) else s1)
    else if o = R.MI_SCRUB_CTRL then
      (let s2 := if bit v 30 then s1.scrubAbort else s1
       if bit v 31 then s2.scrubGo else s2)
    else if o = R.MI_RAW_CTRL then (if bit v 31 then s1.rawGo (bits v 30 29) s.released else s1)
    else if o = R.MI_MARCH_CTRL then (if bit v 31 then s1.marchGo v s.released else s1)
    else s1
  | 11 =>
    if o = R.ENG_CMD then
      match bits v 3 0 with
      | 1 => s1.engHalt s.engSelected
      | 2 => s1.engResume s.engSelected
      | 3 => s1.engStep s.engSelected
      | 4 => s1.engReset s.engSelected
      | _ => s1
    else s1
  | 13 =>
    if o = R.QM_Q_CFG4 then s1.levelJudge inst (s.qDepth inst) (s.fld F.QM_Q_CFG4_level inst)
    else if o = R.QM_Q_CMD then (if v % 4 = 1 then s1.queueFlush inst else s1)
    else if o = R.QM_CT_CMD then (if v % 4 = 1 then s1.contractCommit inst else if v % 4 = 2 then s1.ctRemove inst else s1)
    else s1
  | 14 =>
    if o = R.FS_AGE_CTRL then (if bit v 31 then s1.ageStart (bits v 28 28) else s1)
    else if o = R.FS_KILL then (if bit v 31 then s1.via (execFsKill (bit v 20) (bits v 19 0)) else s1)
    else s1
  | 15 =>
    if o = R.LP_CMD then
      (if v % 4 = 1 then s1.via (execLpRetrain (windowOf off)) else if v % 4 = 2 then s1.via (execLpSwitch (windowOf off)) else s1)
    else s1
  | 16 =>
    if o = R.MEE_KEY_CMD then
      (if v / 2 ^ 30 = 1 then s1.via (execKeyLoad (bits v 29 24) (bits v 16 16) (bits v 15 0))
       else if v / 2 ^ 30 = 2 then s1.keyRetire (bits v 29 24) else s1)
    else if o = R.MEE_CMD then
      (match v / 2 ^ 30 with
       | 1 => s1.via (execRekey (bits v 10 6) (bits v 5 0))
       | 2 => s1.via (execMeeInit (bits v 10 6))
       | 3 => s1.via execMeeFlush
       | _ => s1)
    else s1
  | 17 => if o = R.LN_INJ ∧ bit v 31 then s1.inject (windowOf off) (bits v 29 28) else s1
  | 18 => if o = R.GR_CMD ∧ v % 4 = 1 then s1.via (execGraftRetrainCmd inst) else s1
  | 4 => if o = R.CFG_LOAD_CMD ∧ bit v 0 then s1.partialGo else s1
  | 5 =>
    if o = R.CI_CMD then
      (if v / 2 ^ 30 = 1 then s1.ciRestart (bits v 6 0) else if v / 2 ^ 30 = 2 then s1.ciRebuild (bits v 6 0) else s1)
    else s1
  | 2 =>
    if o = R.PM_LAT_TOL then s1.raiseAll.hostTol
    else if o = R.PM_ISL_CTRL then s1.raiseAll
    else if o = R.PM_DEV_CMD then (if v % 4 = 1 then s1.enterD4 else s1)
    else s1
  | 3 => if o = R.TH_SUSPECT_LO then s1.suspectClear 0 v else if o = R.TH_SUSPECT_HI then s1.suspectClear 32 (v % 65536) else s1
  | 21 => if o = R.MB_CTRL ∧ bit v 31 then s1.mbReset else s1
  | 23 =>
    if o = R.BT_CTRL then (if bit v 30 then s1.bistEnd 3 else if bit v 31 then s1.bistGo v true else s1)
    else if o = R.BT_ANA_CTRL then (if bit v 31 then s1.anaGo v else s1)
    else s1
  | 24 => if o = R.SEC_LC_CMD then s1.lcTransition v else if o = R.SEC_CMD then s1.secCmdWrite v else s1
  | _ => s1

/-- A value written to a register of 32 bits (00 R8). An offset with no register ignores it (00 R9); the image stream
window takes it as bytes (19 R496). -/
def State.csrWrite (s : State) (off value : Nat) : State :=
  let v := value % 2 ^ 32
  if off / 0x100000 = 4 ∧ 0x80000 ≤ off % 0x100000 then s.streamWrite (leBytes 4 v)
  else
    match findReg off with
    | none => s
    | some (d, _) =>
      let i := s.instAt off d
      let o := unwindow off
      if d.fields.any fun f => decide (f.2.2 = .w1s) then s.blkCommitWrite off v
      else if o = R.QM_Q_CFG0 then s.queueWrite i v
      else if o = R.QM_FAR_CELLS then s.farCellsWrite i v
      else if o = R.PCI_RING_CFG then s.ringWrite i v
      else if o = R.ETH_MAC_CFG then s.macWrite i v
      else if o = R.MEE_REG_CFG then s.regionWrite i d v
      else if o = R.LN_CTRL then s.lnCtrlWrite off d v
      else if R.MI_CODE ≤ o ∧ o ≤ R.MI_CODE + 0x3C then s.codeWrite off i d v
      else if o = R.FAB_CAP_CTRL then s.capWrite d v
      else if o = R.MEM_RC_CTRL ∧ bit v 31 then s.rowCopyGo (bits v 9 0)
      else if o = R.ETH_TIME_LO then { s with time := { s.time with heldLo := v } }
      else if o = R.ETH_TIME_HI then s.timeStep ((v * 2 ^ 32 + s.time.heldLo : Nat) - (s.time.ns : Int))
      else if o = R.ETH_TIME_STEP then s.timeStep (signed 32 v)
      else if o = R.ETH_STATUS ∧ s.fld F.ETH_TIME_CTRL_src = 1 then
        (s.writeFields off i d v).setFlag F.ETH_STATUS_time_lock (bit v 2)
      else if o = R.CLK_ISL_OP then s.targetWrite i (v % 8)
      else if o = R.MB_CMD_IDX then s.mbPost (v % 65536)
      else if o = R.PCI_LTR then s.via (execLtrSend (v % 65536))
      else s.afterWrite (s.writeFields off i d (clampSel o v)) off i v

/-! ## Commands -/

/-- Whether an access is 32 bits wide and aligned (00 R7). -/
def wholeWord (off size : Nat) : Bool := decide (size = 4) && decide (off % 4 = 0)

/-- REGISTER_WRITE (00 R7, R8): refused with an error response unless whole. -/
def execRegisterWrite (off : Nat) (value : Word) (size : Nat) (s : State) : Result :=
  .next (if wholeWord off size then s.csrWrite off value.toNat else s.answer 0 1)

/-- READ_CLEAR (00 R7, R8). -/
def execReadClear (off size : Nat) (s : State) : Result :=
  .next (if wholeWord off size then
    let r := s.csrRead off
    r.2.answer 0 0 (leBytes 4 r.1)
  else s.answer 0 1)

/-- BLK_COMMIT_WRITE (00 R11). -/
def execBlkCommitWrite (off : Nat) (value : Word) (s : State) : Result := .next (s.blkCommitWrite off value.toNat)

/-- COMMIT_SAFE_POINT (00 R11): of a group of the window that holds `off`. -/
def execCommitSafePoint (off group : Nat) (s : State) : Result := .next (s.safePoint (windowBase off) group)

end Sys2Proof.Machine
end

