-- ==== Sys2Proof/Machine/Target.lean ====
section
/-! DEFINITION. What an access of device addresses does at the targets that answer at once (10 R286; 07 R232; 00 R7;
05 R166): the CSR space, the engine windows, the protected regions, and addresses that nothing holds. -/

namespace Sys2Proof.Machine

/-- Whether a range is of whole aligned words (00 R7). -/
def wholeWords (a n : Nat) : Bool := decide (a % 4 = 0) && decide (n % 4 = 0) && decide (n ≠ 0)

/-- Registers read in ascending order, each with its side effects; none where the access is refused (00 R7). -/
def State.csrRange (s : State) (off n : Nat) (peek : Bool) : Option (List Byte) × State :=
  if !wholeWords off n then (none, s)
  else
    let r := (List.range (n / 4)).foldl (fun (a : List Byte × State) i =>
      let x := a.2.csrRead (off + 4 * i) peek
      (a.1 ++ leBytes 4 x.1, x.2)) ([], s)
    (some r.1, r.2)

/-- Registers written in ascending order; whether the access is taken (00 R7). -/
def State.csrRangePut (s : State) (off : Nat) (data : List Byte) : Bool × State :=
  if !wholeWords off data.length then (false, s)
  else (true, (List.range (data.length / 4)).foldl (fun (t : State) i => t.csrWrite (off + 4 * i) (fieldAt data (4 * i) 4)) s)

/-- The first engine of a range of the engine windows that is not halted; `off` counts from engine 0's window. -/
def State.runningIn (s : State) (off n : Nat) : Option Nat :=
  ((List.range ((off + n - 1) / 65536 + 1 - off / 65536)).map fun i => off / 65536 + i).find? fun e => !(s.engine e).halted

/-- An engine window access refused by the window (07 R232). -/
def State.windowBar (s : State) (off n : Nat) : Option State :=
  if !wholeWords off n then some s
  else (s.runningIn off n).map fun e => s.raise Flt.ENG_WINDOW_REFUSED [e]

/-- Engine windows read. -/
def State.windowRange (s : State) (off n : Nat) : Option (List Byte) × State :=
  match s.windowBar off n with
  | some t => (none, t)
  | none =>
    let r := (List.range (n / 4)).foldl (fun (a : List Byte × State) i =>
      let o := off + 4 * i
      let x := a.2.windowValue (o / 65536) (o % 65536)
      (a.1 ++ leBytes 4 x.1, x.2)) ([], s)
    (some r.1, r.2)

/-- Engine windows written. -/
def State.windowRangePut (s : State) (off : Nat) (data : List Byte) : Bool × State :=
  match s.windowBar off data.length with
  | some t => (false, t)
  | none =>
    (true, (List.range (data.length / 4)).foldl (fun (t : State) i =>
      let o := off + 4 * i
      t.windowPut (o / 65536) (o % 65536) (fieldAt data (4 * i) 4)) s)

/-- An access of a target that no master but its own reaches, or that does not exist: an error response, recorded under
05 R166 for the master, or as unroutable at its source node (10 R286, R306). -/
def State.barred (s : State) (master node : Nat) (t : Target) : State :=
  match t with
  | .flowArray off => s.protectedAccess master 0 (off / 16)
  | .secure off => s.protectedAccess master 1 (off / 16)
  | _ => s.raise Flt.NOC_UNROUTABLE [node]

/-- A read of a target that answers at once: none on an error response. -/
def State.targetRead (s : State) (master node : Nat) (t : Target) (n : Nat) : Option (List Byte) × State :=
  match t with
  | .csr off => s.csrRange off n false
  | .engine e off => s.windowRange (e * 65536 + off) n
  | t => (none, s.barred master node t)

/-- A write of a target that answers at once: whether it was taken. -/
def State.targetPut (s : State) (master node : Nat) (t : Target) (data : List Byte) : Bool × State :=
  match t with
  | .csr off => s.csrRangePut off data
  | .engine e off => s.windowRangePut (e * 65536 + off) data
  | t => (false, s.barred master node t)

/-- Whether the management complex may use the banks of a range: they are owned by class 1 (05 R148, R151). -/
def State.managementOwns (s : State) (off n : Nat) : Bool :=
  (wordsOf off n).all fun w => s.fgAllowed .management (s.locate w).1 false

/-- A bulk read of the management complex, of class 1 (23 R578): none on an error response. -/
def State.bulkRead (s : State) (a n : Nat) : Option (List Byte) × State :=
  match targetOf a with
  | .dram _ => s.devRead 1 a n
  | .bank off => if s.managementOwns off n then s.devRead 1 a n else (none, s.raise Flt.MEM_NOT_OWNER)
  | t => s.targetRead 0 57 t n

/-- A bulk write of the management complex, of class 1 (23 R578): whether it was taken. -/
def State.bulkWrite (s : State) (a : Nat) (data : List Byte) : Bool × State :=
  match targetOf a with
  | .dram _ => s.devWrite 1 a data
  | .bank off => if s.managementOwns off data.length then s.devWrite 1 a data else (false, s.raise Flt.MEM_NOT_OWNER)
  | t => s.targetPut 0 57 t data

end Sys2Proof.Machine
end

