-- ==== Sys2Proof/Machine/Mgmt.lean ====
section
/-! DEFINITION. The management complex (23 R566 to R573): duties and shedding, heartbeat, warm reset; the settings it
writes (19 R490) and the byte strings it returns (23 R579, R589). -/

namespace Sys2Proof.Machine

/-- The complex's state changed. -/
def State.updMgt (s : State) (f : MgtSt → MgtSt) : State := { s with mgt := f s.mgt }

/-- Whether Heartwood runs: not in reset, warm or for good, and not silenced by END or D4. -/
def State.mgtRuns (s : State) : Bool := !s.mgt.warm && !s.stu.hold && !s.stu.ended && !s.pm.off

/-! ## Bytes of BAR2 (R574) -/

/-- Bytes of the rings and channel buffers. -/
def State.bar2Get (s : State) (off n : Nat) : List Byte := (List.range n).map fun i => SMap.get 0 s.mgt.bar2 (off + i)

/-- Bytes written to the rings and channel buffers. -/
def State.bar2Put (s : State) (off : Nat) (data : List Byte) : State :=
  s.updMgt fun m => { m with bar2 := (data.zipIdx).foldl (fun (b : SMap Byte) x => SMap.set 0 b (off + x.2) x.1) m.bar2 }

/-! ## Frames (R568 to R571) -/

/-- The shed level. -/
def State.shed (s : State) : Nat := s.fld F.MB_STATUS_shed

/-- The shed level after a frame (R570): up while work of duties 1 to 4 is left, down after 16 frames that end clean with
100 µs idle. -/
def State.shedMove (s : State) (left : Bool) (idleUs : Nat) : State :=
  if left then
    let s1 := s.updMgt fun m => { m with cleanFrames := 0 }
    if s.shed < 3 then (s1.setFld F.MB_STATUS_shed (s.shed + 1)).raise Flt.MGT_SHED [] 1 else s1
  else if idleUs < 100 then s.updMgt fun m => { m with cleanFrames := 0 }
  else if s.mgt.cleanFrames + 1 < 16 then s.updMgt fun m => { m with cleanFrames := m.cleanFrames + 1 }
  else (s.updMgt fun m => { m with cleanFrames := 0 }).setFld F.MB_STATUS_shed (s.shed - 1)

/-- The statistics of a frame (R568 duty 7): skipped from shed level 1 on. -/
def State.statistics (s : State) (safetyUs busyUs : Nat) : State :=
  if 1 ≤ s.shed then s.count F.MB_SHED_CNT_skipped
  else (s.setFld F.MB_LOAD_safety_us safetyUs).setFld F.MB_LOAD_busy_us busyUs

/-! ## Warm reset (R571 to R573) -/

/-- A warm reset begins: the cores and the SRAM restart, and domains wake. -/
def State.warmStart (s : State) : State :=
  let s1 := s.updMgt fun m =>
    { warm := true, warmTimes := s.time.ns :: m.warmTimes, kicked := m.kicked, executing := m.executing, bar2 := m.bar2,
      i3cAddr := m.i3cAddr }
  ((s1.count F.MB_STATUS_warm_resets).setFld F.MB_STATUS_shed 0).raiseAll

/-- Whether the warm reset in progress is the third within 1 s. -/
def State.thirdReset (s : State) : Bool :=
  match s.mgt.warmTimes with
  | t :: _ :: u :: _ => decide (t ≤ u + 1000000000)
  | _ => false

/-! ## The settings record (19 R488, R490) -/

/-- 4,096 bytes as the device writes them: the sequence number after that of the copy in use, and the CRC. -/
def State.settingsBytes (s : State) (data : List Byte) : List Byte :=
  let seq := match s.stu.settings with
    | some b => (fieldAt b 8 4 + 1) % 2 ^ 32
    | none => 1
  let b := slice data 0 8 ++ leBytes 4 seq ++ slice data 12 4080
  b ++ leBytes 4 (crc32c b)

/-- The copy of the settings record that is not in use, replaced. -/
def State.setOther (s : State) (b : List Byte) : State :=
  if s.stu.settings.isNone ∨ s.flag F.CFG_STATUS_settings_b then { s with stu := { s.stu with setA := some b } }
  else { s with stu := { s.stu with setB := some b } }

/-- The bytes that an abandoned flash write of a copy leaves: any. -/
def State.setSpoilt (s : State) : State := (s.setOther (leBytes 4096 (Config.freeNat s.freeIdx))).takeFree

/-- Settings written (19 R490): 0 done, 2 the magic is not that of a settings record, 7 the flash write failed. -/
def State.settingsWrite (s : State) (data : List Byte) (good : Bool) : Nat × State :=
  if fieldAt data 0 4 ≠ 0x52535A43 then (2, s)
  else if good then (0, s.setOther (s.settingsBytes data))
  else (7, s.setSpoilt)

/-! ## The defect map (R579) -/

/-- A defect map entry as GET_VX_MAP returns it. -/
def mapBytes (e : MapEntry) : List Byte :=
  let kind := match e.kind with
    | .bundle => 0
    | .rowPort => 1
    | .restagePath => 2
  let loc := match e.kind with
    | .bundle => e.unit * 1024 + e.tile
    | _ => e.unit
  leBytes 1 kind ++ leBytes 1 e.spare.isNone.toNat ++ leBytes 1 (e.spare.getD 0) ++ leBytes 1 0 ++ leBytes 4 loc
    ++ leBytes 2 e.wire ++ leBytes 2 0 ++ leBytes 4 (e.time / 2 ^ 30)

/-! ## The capture store (R589, R590) -/

/-- The sectors that the stored capture holds, ascending. -/
def State.capStored (s : State) : List Nat := (List.range 96).filter fun k => (SMap.get {} s.fab.store k).sel

/-- Bytes 0 to 39 of a capture. -/
def State.capHead (s : State) : List Byte :=
  [0x43, 0x5A, 0x43, 0x50] ++ leBytes 2 (s.fld F.FAB_CAP_STAT_seq) ++ leBytes 2 0
    ++ leBytes 8 (s.pair R.FAB_CAP_TIME_LO R.FAB_CAP_TIME_HI) ++ leBytes 12 (maskOf s.capStored)
    ++ leBytes 4 (s.reg R.FAB_CAP_SKEW0).toNat ++ leBytes 4 (s.reg (R.FAB_CAP_SKEW0 + 4)).toNat
    ++ leBytes 4 (s.reg (R.FAB_CAP_SKEW0 + 8)).toNat

/-- A byte of a capture. -/
def State.capByte (s : State) (i : Nat) : Byte :=
  if i < 40 then s.capHead.getD i 0
  else if i < 136 then
    let c := SMap.get {} s.fab.store (i - 40)
    if c.sel then BitVec.ofNat 8 c.plane else 0xFF
  else if i < 512 then 0
  else
    match s.capStored[(i - 512) / 16384]? with
    | none => 0
    | some k =>
      let b := (SMap.get {} s.fab.store k).bits
      BitVec.ofNat 8 (maskOf ((List.range 8).filter fun j => NSet.has b (8 * ((i - 512) % 16384) + j)))

/-- READ_CAPTURE, of the mailbox and of the monitor: the bytes; or 4 refused, 2 a range beyond the capture. -/
def State.capRange (s : State) (off n : Nat) : Except Nat (List Byte) :=
  if s.capBusy ∨ !s.flag F.FAB_CAP_STAT_valid then .error 4
  else if 512 + 16384 * s.capStored.length < off + n then .error 2
  else .ok ((List.range n).map fun i => s.capByte (off + i))

/-! ## Engines (R578, R584) -/

/-- Engines of the device. -/
def engines : Nat := 12288

/-- The pending bit of vector 7 of an engine set (09 R268). -/
def State.engSignal (s : State) (e : Nat) : State := s.updEngine e fun g => { g with mboxPend := true }

/-- Response bytes of the monitor channel, as many as its buffer takes (R574, R580). -/
def State.m2hFlush (s : State) : State :=
  let prod := s.fld F.MON_M2H_IDX_prod
  let used := (prod + 65536 - s.fld F.MON_M2H_IDX_cons) % 65536
  let part := s.mgt.m2h.take (2048 - used)
  let s1 := (part.zipIdx).foldl (fun (t : State) x => t.bar2Put (0x8800 + (prod + x.2) % 2048) [x.1]) s
  (s1.updMgt fun m => { m with m2h := m.m2h.drop part.length }).setFld F.MON_M2H_IDX_prod ((prod + part.length) % 65536)

end Sys2Proof.Machine
end

