-- ==== Sys2Proof/Machine/Mailbox.lean ====
section
/-! DEFINITION. The mailbox (23 R574 to R579) and the management complex's own events (23 R566 to R573). -/

namespace Sys2Proof.Machine

/-! ## The rings (R575, R576) -/

/-- Commands posted and not yet taken. -/
def State.mbWaiting (s : State) : Nat := (s.fld F.MB_CMD_IDX_prod + 65536 - s.fld F.MB_CMD_IDX_cons) % 65536

/-- Whether the complex may take a command: it runs, one waits, the ring has not stopped, a response has a place. -/
def State.mbReady (s : State) : Bool :=
  s.mgtRuns && !s.flag F.MB_STATUS_ring_err && decide (s.mbWaiting ≠ 0)
    && decide ((s.fld F.MB_RSP_IDX_prod + 65536 - s.fld F.MB_RSP_IDX_cons) % 65536 ≠ 256)

/-- The command at the front of the ring. -/
def State.mbEntry (s : State) : List Byte := s.bar2Get (s.fld F.MB_CMD_IDX_cons % 256 * 64) 64

/-- Fields of a command. -/
def mbOpcode (e : List Byte) : Nat := fieldAt e 0 2
def mbTag (e : List Byte) : Nat := fieldAt e 2 2
def mbAddr (e : List Byte) : Nat := fieldAt e 8 8
def mbLen (e : List Byte) : Nat := fieldAt e 16 4
def mbParam (e : List Byte) (off len : Nat) : Nat := fieldAt e (20 + off) len

/-- What a command gives: its status, the bytes written to addr, the result bytes. -/
structure MbAnswer where
  status : Nat
  len : Nat := 0
  result : List Byte := []
deriving DecidableEq, Repr

/-- A response written, and its vector sent. -/
def State.mbRespond (s : State) (opcode tag : Nat) (a : MbAnswer) : State :=
  let prod := s.fld F.MB_RSP_IDX_prod
  let b := leBytes 2 opcode ++ leBytes 2 tag ++ leBytes 1 a.status ++ leBytes 3 0 ++ leBytes 4 a.len ++ slice a.result 0 52
  let s1 := (s.bar2Put (0x4000 + prod % 256 * 64) b).setFld F.MB_RSP_IDX_prod ((prod + 1) % 65536)
  if s1.flag F.MB_CTRL_irq_en then s1.msix 0 (s1.fld F.MB_CTRL_vec) else s1

/-- The front command taken. -/
def State.mbTake (s : State) : State := s.setFld F.MB_CMD_IDX_cons ((s.fld F.MB_CMD_IDX_cons + 1) % 65536)

/-- The front command, of opcode `op` and minor `minor`, taken, carried out and answered (R577, R578). -/
def State.mbRun (s : State) (op minor : Nat) (f : State → List Byte → MbAnswer × State) : State :=
  if !s.mbReady ∨ mbOpcode s.mbEntry ≠ op then s
  else
    let e := s.mbEntry
    let t := s.mbTake
    let r : MbAnswer × State :=
      if op = 1 then f t e
      else if !s.flag F.MB_STATUS_negotiated then ({ status := 3 }, t)
      else if s.fld F.MB_VERSION_minor < minor then ({ status := 1 }, t)
      else f t e
    r.2.mbRespond op (mbTag e) r.1

/-- Bytes written to a command's buffer: BAD_PARAM where it is too small, ADDR_ERROR where the write meets an error. -/
def State.mbBulk (s : State) (e : List Byte) (data : List Byte) (result : List Byte) : MbAnswer × State :=
  if mbLen e < data.length then ({ status := 2 }, s)
  else if data = [] then ({ status := 0, result := result }, s)
  else
    let w := s.bulkWrite (mbAddr e) data
    if w.1 then ({ status := 0, len := data.length, result := result }, w.2) else ({ status := 5 }, w.2)

/-! ## The commands (R577, R578) -/

/-- GET_VERSION. -/
def State.mbVersion (s : State) (e : List Byte) : MbAnswer × State :=
  if mbParam e 0 1 ≠ 2 then ({ status := 4 }, s)
  else
    let m := min (mbParam e 1 1) 2
    ({ status := 0, result := leBytes 1 2 ++ leBytes 1 m ++ leBytes 1 2 },
      ((s.setFld F.MB_VERSION_major 2).setFld F.MB_VERSION_minor m).setFlag F.MB_STATUS_negotiated true)

/-- GET_SETTINGS: the copy in force; refused where there is none. -/
def State.mbSettings (s : State) (e : List Byte) : MbAnswer × State :=
  match s.stu.settings with
  | none => ({ status := 4 }, s)
  | some b => s.mbBulk e b []

/-- SET_SETTINGS. -/
def State.mbSetSettings (good : Bool) (s : State) (e : List Byte) : MbAnswer × State :=
  if mbLen e < 4096 then ({ status := 2 }, s)
  else
    match s.bulkRead (mbAddr e) 4096 with
    | (none, s1) => ({ status := 5 }, s1)
    | (some b, s1) =>
      let r := s1.settingsWrite b good
      ({ status := r.1 }, r.2)

/-- GET_VX_MAP: the generation, how many entries follow, the entries from the first asked for, as many as fit. -/
def State.mbVxMap (s : State) (e : List Byte) : MbAnswer × State :=
  let l := (s.vx.map.drop (mbParam e 0 2)).take ((mbLen e - 8) / 16)
  if mbLen e < 8 then ({ status := 2 }, s)
  else s.mbBulk e (leBytes 4 (s.fld F.VX_MAP_GEN_gen) ++ leBytes 4 l.length ++ l.flatMap mapBytes) []

/-- GET_FAULTS. -/
def State.mbFaults (s : State) (e : List Byte) : MbAnswer × State :=
  s.mbBulk e ((s.faultsFrom (mbParam e 0 4) (mbLen e / 32)).flatMap entryBytes) []

/-- ENG_SIGNAL. -/
def State.mbSignal (s : State) (e : List Byte) : MbAnswer × State :=
  if engines ≤ mbParam e 0 2 then ({ status := 2 }, s) else ({ status := 0 }, s.engSignal (mbParam e 0 2))

/-- The operation and the request in the 128 bytes of a FLOW_OP: head data, then the user area (12 R339). -/
def flowOpOf (b : List Byte) : Nat × FlowReq :=
  let h := leNat (b.take 64)
  (bits h 331 328,
    { key := BitVec.ofNat 320 h, keyLen := bits h 325 320, ret := bit h 336, count := bit h 337, touch := bit h 338,
      learn := bit h 339, target := bits h 343 340, countBytes := bits h 359 344, queue := bits h 371 360,
      eflags := bits h 379 372, opa := bits h 447 384, opb := bits h 511 448, user := some (slice b 64 56), long := false,
      reservedOp := false })

/-- FLOW_OP: the operation is done as one of the store's requests is; with opt.ret, the entry goes to addr. -/
def State.mbFlowOp (s : State) (e : List Byte) : MbAnswer × State :=
  match s.bulkRead (mbParam e 0 8) 128 with
  | (none, s1) => ({ status := 5 }, s1)
  | (some b, s1) =>
    let q := flowOpOf b
    if q.2.ret ∧ mbLen e < 128 then ({ status := 2 }, s1)
    else
      let r := s1.flowOp q.1 q.2
      let head := leBytes 17 r.1.headData
      if q.2.ret ∧ r.1.place.isSome then r.2.mbBulk e (leBytes 128 r.1.entry) head
      else ({ status := 0, result := head }, r.2)

/-- READ_CAPTURE. -/
def State.mbCapture (s : State) (e : List Byte) : MbAnswer × State :=
  match s.capRange (mbParam e 0 4) (mbLen e) with
  | .error code => ({ status := code }, s)
  | .ok b => s.mbBulk e b (leBytes 2 (s.fld F.FAB_CAP_STAT_seq))

/-- Opcodes that the device knows. -/
def mbKnown (op : Nat) : Bool := decide (1 ≤ op) && decide (op ≤ 10)

/-- Commands of unknown opcodes at the front of the ring are taken and answered (R578). -/
def State.mbUnknown (s : State) : Nat → State
  | 0 => s
  | n + 1 =>
    let e := s.mbEntry
    if s.mbReady ∧ !mbKnown (mbOpcode e) then
      let st := if s.flag F.MB_STATUS_negotiated then 1 else 3
      (s.mbTake.mbRespond (mbOpcode e) (mbTag e) { status := st }).mbUnknown n
    else s

/-! ## Events of the complex -/

/-- A frame ends (R568 to R571): `left`, work of duties 1 to 4 is left pending; `done`, duties 1 to 3 finished theirs. -/
def State.mgmtFrame (s : State) (left done : Bool) (idleUs safetyUs busyUs : Nat) : State :=
  if !s.mgtRuns then s
  else
    let s1 := (s.statistics safetyUs busyUs).shedMove left idleUs
    let s2 := if done then s1.updMgt fun m => { m with kicked := s.time.ns } else s1
    (s2.mbUnknown 256).m2hFlush

/-- A mailbox command that was executing when the reset began (R573): it is taken, and gives nothing but its RESET answer;
a settings write in progress is abandoned (R572). -/
def State.interrupted (s : State) : State :=
  let e := s.mbEntry
  let s1 := s.mbTake.updMgt fun m => { m with executing := some (mbOpcode e, mbTag e) }
  if mbOpcode e = 4 ∧ s.flag F.MB_STATUS_negotiated then s1.setSpoilt else s1

/-- A warm reset begins with its fault (R566, R571); `executing`: the front mailbox command was being executed. -/
def State.warmReset (s : State) (f : FaultCode) (executing : Bool) : State :=
  if !s.mgtRuns then s
  else
    let s1 := s.raise f
    (if executing ∧ s1.mbReady then s1.interrupted else s1).warmStart

/-- HEARTWOOD_RESTART (R573): Heartwood runs again, or after a third warm reset within 1 s the complex stays in reset. -/
def State.heartwood (s : State) : State :=
  if !s.mgt.warm ∨ s.flag F.MB_STATUS_dead then s
  else if s.thirdReset then (s.setFlag F.MB_STATUS_dead true).raise Flt.MGT_DEAD
  else
    let s1 := s.updMgt fun m => { m with warm := false, executing := none, kicked := s.time.ns }
    match s.mgt.executing with
    | some (op, tag) => s1.mbRespond op tag { status := 6 }
    | none => s1

/-! ## Commands -/

/-- MGMT_FRAME (R568 to R571). -/
def execMgmtFrame (left done : Bool) (idleUs safetyUs busyUs : Nat) (s : State) : Result :=
  .next (s.mgmtFrame left done idleUs safetyUs busyUs)

/-- HEARTBEAT_MISS (R571). -/
def execHeartbeatMiss (executing : Bool) (s : State) : Result := .next (s.warmReset Flt.MGT_HEARTBEAT executing)

/-- LOCKSTEP_MISMATCH (R566). -/
def execLockstepMismatch (executing : Bool) (s : State) : Result := .next (s.warmReset Flt.MGT_LOCKSTEP executing)

/-- HEARTWOOD_RESTART (R573). -/
def execHeartwoodRestart (s : State) : Result := .next s.heartwood

/-- MB_CMD_POST (R576): a doorbell of the mailbox also wakes the device (22 R547). -/
def execMbCmdPost (prod : Nat) (s : State) : Result := .next (s.mbPost prod).devWake

/-- MB_RESET_RING (R576). -/
def execMbResetRing (s : State) : Result := .next s.mbReset

/-- GET_VERSION (R577). -/
def execGetVersion (s : State) : Result := .next (s.mbRun 1 0 State.mbVersion)

/-- GET_FACTORY (R578). -/
def execGetFactory (s : State) : Result := .next (s.mbRun 2 0 fun t e => t.mbBulk e t.factoryPublic [])

/-- GET_SETTINGS (R578). -/
def execGetSettings (s : State) : Result := .next (s.mbRun 3 0 State.mbSettings)

/-- SET_SETTINGS (R578): `good` whether the flash write succeeds. -/
def execSetSettings (good : Bool) (s : State) : Result := .next (s.mbRun 4 0 (State.mbSetSettings good))

/-- REBOOT (R578): the response is written, then a start-up begins. -/
def execReboot (s : State) : Result :=
  .next (let t := s.mbRun 5 0 fun t _ => ({ status := 0 }, t)
    if s.mbReady ∧ mbOpcode s.mbEntry = 5 ∧ s.flag F.MB_STATUS_negotiated then t.startUp false true else t)

/-- GET_VX_MAP (R578). -/
def execGetVxMap (s : State) : Result := .next (s.mbRun 6 0 State.mbVxMap)

/-- GET_FAULTS (R578). -/
def execGetFaults (s : State) : Result := .next (s.mbRun 7 0 State.mbFaults)

/-- ENG_SIGNAL (R578). -/
def execEngSignal (s : State) : Result := .next (s.mbRun 8 0 State.mbSignal)

/-- FLOW_OP (R578). -/
def execFlowOp (s : State) : Result := .next (s.mbRun 9 1 State.mbFlowOp)

/-- READ_CAPTURE (R578, R590). -/
def execReadCapture (s : State) : Result := .next (s.mbRun 10 2 State.mbCapture)

end Sys2Proof.Machine
end

