-- ==== Sys2Proof/Machine/Monitor.lean ====
section
/-! DEFINITION. The resident monitor (23 R580 to R590). -/

namespace Sys2Proof.Machine

/-! ## Frames (R580 to R582) -/

/-- Bytes from the first sync on; a last byte that may begin one is kept. -/
def huntSync : List Byte → List Byte
  | [] => []
  | [a] => if a = 0xA5 then [a] else []
  | a :: b :: l => if a = 0xA5 ∧ b = 0x5A then a :: b :: l else huntSync (b :: l)

/-- What a receiver makes of bytes: it needs more, discards a frame, or has one. The bytes not yet used follow. -/
inductive MonRx where
  | more (rest : List Byte)
  | bad (rest : List Byte)
  | frame (seq cmd : Nat) (payload rest : List Byte)
deriving DecidableEq, Repr

/-- A receiver over bytes. -/
def monReceive (b : List Byte) : MonRx :=
  let d := huntSync b
  let n := fieldAt d 2 2
  if d.length < 4 then .more d
  else if 1024 < n then .bad (d.drop 4)
  else if d.length < 8 + n then .more d
  else if fieldAt d (6 + n) 2 ≠ crc16 (slice d 2 (4 + n)) then .bad (d.drop (8 + n))
  else .frame (fieldAt d 4 1) (fieldAt d 5 1) (slice d 6 n) (d.drop (8 + n))

/-- A frame with its sync and CRC. -/
def monFrameBytes (seq cmd : Nat) (payload : List Byte) : List Byte :=
  let b := leBytes 2 payload.length ++ leBytes 1 seq ++ leBytes 1 cmd ++ payload
  [0xA5, 0x5A] ++ b ++ leBytes 2 (crc16 b)

/-- Bytes sent over a transport. -/
def State.monSend (s : State) (transport : Nat) (b : List Byte) : State :=
  if transport = 2 then (s.updMgt fun m => { m with m2h := m.m2h ++ b }).m2hFlush else s.emit (.monitor transport b)

/-- A request answered; a BUSY answer is not cached. -/
def State.monRespond (s : State) (r : MonReq) (status : Nat) (data : List Byte) : State :=
  let b := monFrameBytes r.seq (r.cmd + 0x80) (leBytes 1 status ++ data)
  let s1 := s.monSend r.transport b
  if status = 3 then s1
  else s1.updMgt fun m => { m with cache := SMap.set none m.cache r.transport (some ⟨r.seq, r.cmd, b⟩) }

/-- A frame discarded. -/
def State.monDiscard (s : State) (transport : Nat) : State :=
  ((s.count F.MON_CNT_bad).setFlag F.MON_STATUS_frame_err true).raiseFirst Flt.MON_FRAME_ERROR transport s.second [] 1

/-- Command codes of the monitor. -/
def monKnown (cmd : Nat) : Bool := decide (1 ≤ cmd) && decide (cmd ≤ 0x11) && decide (cmd ≠ 0x0F)

/-- A frame accepted: a repeated request gets the cached response, a new one at shed level 2 is answered BUSY, an unknown
one BAD_CMD; any other waits its turn. -/
def State.monAccept (s : State) (r : MonReq) : State :=
  let s1 := s.count F.MON_CNT_ok
  let fresh :=
    if 2 ≤ s.shed then (s1.count F.MB_SHED_CNT_busy).monRespond r 3 []
    else if !monKnown r.cmd then s1.monRespond r 1 []
    else s1.updMgt fun m => { m with requests := m.requests ++ [r] }
  match SMap.get none s.mgt.cache r.transport with
  | some c => if c.seq = r.seq ∧ c.cmd = r.cmd then s1.monSend r.transport c.response else fresh
  | none => fresh

/-- Whether a transport carries frames: the complex runs, and the transport is enabled. -/
def State.monOpen (s : State) (transport : Nat) : Bool :=
  s.mgtRuns && (if transport = 0 then s.flag F.MON_CFG_uart_en else if transport = 1 then s.flag F.MON_CFG_i3c_en else decide (transport = 2))

/-- What a receiver has made of the bytes of a transport. -/
def State.monTake (s : State) (transport : Nat) : MonRx → State
  | .more _ => s
  | .bad _ => s.monDiscard transport
  | .frame seq cmd payload _ => s.monAccept ⟨transport, seq, cmd, payload⟩

/-- Bytes of the mailbox channel that the monitor has not taken. -/
def State.h2m (s : State) : List Byte :=
  let cons := s.fld F.MON_H2M_IDX_cons
  (List.range (min 2048 ((s.fld F.MON_H2M_IDX_prod + 65536 - cons) % 65536))).flatMap fun i => s.bar2Get (0x8000 + (cons + i) % 2048) 1

/-- The bytes a receiver leaves. -/
def MonRx.rest : MonRx → List Byte
  | .more r => r
  | .bad r => r
  | .frame _ _ _ r => r

/-- A frame received over a transport: over the mailbox channel the bytes are those of its buffer. -/
def State.monFrame (s : State) (transport : Nat) (b : List Byte) : State :=
  if !s.monOpen transport then s
  else if transport = 2 then
    let rx := monReceive s.h2m
    let cons := (s.fld F.MON_H2M_IDX_cons + (s.h2m.length - rx.rest.length)) % 65536
    (s.setFld F.MON_H2M_IDX_cons cons).monTake 2 rx
  else s.monTake transport (monReceive b)

/-! ## Requests (R583, R584) -/

/-- The request at the front, of command `cmd` and minor `minor`, executed and answered. A command before HELLO, or above
the minor in force, is BAD_CMD; a payload that is not of `size` bytes is BAD_PARAM. -/
def State.monRun (s : State) (cmd minor : Nat) (size : Nat → Bool) (f : State → List Byte → Nat × List Byte × State) : State :=
  match s.mgt.requests with
  | [] => s
  | r :: l =>
    if !s.mgtRuns ∨ r.cmd ≠ cmd then s
    else
      let t := s.updMgt fun m => { m with requests := l }
      let low := match s.mgt.monMinor with
        | none => decide (cmd ≠ 1)
        | some m => decide (m < minor)
      let a := if low then (1, [], t) else if !size r.payload.length then (2, [], t) else f t r.payload
      (a.2.2.monRespond r a.1 a.2.1).srcSince s 3

/-- HELLO (R583). -/
def State.monHello (s : State) (p : List Byte) : Nat × List Byte × State :=
  if fieldAt p 0 1 ≠ 1 then (4, [], s)
  else
    let m := min (fieldAt p 1 1) 1
    (0, leBytes 1 1 ++ leBytes 1 m ++ leBytes 4 (s.reg R.DEV_ID).toNat, s.updMgt fun g => { g with monMinor := some m })

/-- READ_REG and READ_REG_LIVE (R586). -/
def State.monReadReg (peek : Bool) (s : State) (p : List Byte) : Nat × List Byte × State :=
  let off := fieldAt p 0 4
  let n := fieldAt p 4 1
  if n = 0 ∨ 0x10000000 < off + 4 * n then (2, [], s)
  else
    match s.csrRange off (4 * n) peek with
    | (some b, t) => (0, b, t)
    | (none, t) => (6, [], t)

/-- WRITE_REG. -/
def State.monWriteReg (s : State) (p : List Byte) : Nat × List Byte × State :=
  let off := fieldAt p 0 4
  if 0x10000000 ≤ off then (2, [], s)
  else
    let w := s.csrRangePut off (slice p 4 4)
    (if w.1 then 0 else 6, [], w.2)

/-- Whether a foreground owner of a bank's port is stopped (R585). -/
def State.ownerStopped (s : State) (bank : Nat) (portB : Bool) : Bool :=
  match s.fgOwner bank portB with
  | some (.mover j) =>
    let g := s.engine ((if j < 128 then bank / 256 else bank / 256 + 48) * 128 + j % 128)
    g.halted && !g.mover.busy
  | some _ => false
  | none => true

/-- Whether the monitor may reach a bank (R585). -/
def State.monBank (s : State) (bank : Nat) : Bool :=
  !s.released || (match s.ownerClass bank with
    | 0 => s.held (bank / 256) || (s.ownerStopped bank false && s.ownerStopped bank true)
    | 2 => (List.range 1024).all fun q =>
        let x := bank / 256 / 12 * 1024 + q
        s.flag F.QM_Q_CFG0_far x || s.qStopped x
    | _ => true)

/-- Whether the monitor may reach every bank of a range; a refusal is recorded. -/
def State.monBanks (s : State) (off n : Nat) : Bool := (wordsOf off n).all fun w => s.monBank (s.locate w).1

/-- A read of memory for the monitor (R585). -/
def State.monRead (s : State) (p : List Byte) : Nat × List Byte × State :=
  let a := fieldAt p 0 8
  let n := fieldAt p 8 2
  let done := fun (r : Option (List Byte) × State) => match r with
    | (some b, t) => (0, b, t)
    | (none, t) => (6, [], t)
  if n = 0 ∨ 1023 < n then (2, [], s)
  else
    match targetOf a with
    | .dram _ => done (s.devRead 4 a n)
    | .bank off => if s.monBanks off n then done (s.devRead 4 a n) else (4, [], s.raise Flt.MON_REFUSED)
    | t => done (s.targetRead 2 57 t n)

/-- A write of memory for the monitor (R585). -/
def State.monWrite (s : State) (p : List Byte) : Nat × List Byte × State :=
  let a := fieldAt p 0 8
  let data := p.drop 8
  let done := fun (w : Bool × State) => (if w.1 then 0 else 6, ([] : List Byte), w.2)
  match targetOf a with
  | .dram _ => done (s.devWrite 4 a data)
  | .bank off => if s.monBanks off data.length then done (s.devWrite 4 a data) else (4, [], s.raise Flt.MON_REFUSED)
  | t => done (s.targetPut 2 57 t data)

/-- BREAK (R588). -/
def State.monBreak (s : State) (p : List Byte) : Nat × List Byte × State :=
  let e := fieldAt p 0 2
  let n := fieldAt p 2 1
  let en := fieldAt p 3 1
  let a := fieldAt p 4 2
  if engines ≤ e ∨ 3 < n ∨ 1 < en ∨ 1023 < a then (2, [], s)
  else (0, [], (s.setFlag (F.MON_BP_en.nth n) (decide (en = 1)) e).setFld (F.MON_BP_addr.nth n) a e)

/-- ENG_SIGNAL of the monitor. -/
def State.monSignal (s : State) (p : List Byte) : Nat × List Byte × State :=
  if engines ≤ fieldAt p 0 2 then (2, [], s) else (0, [], s.engSignal (fieldAt p 0 2))

/-- GET_FAULTS of the monitor (25 R623). -/
def State.monFaults (s : State) (p : List Byte) : Nat × List Byte × State :=
  (0, (s.faultsFrom (fieldAt p 0 4) 31).flatMap entryBytes, s)

/-- SETTINGS: `good` whether the flash write of op 1 succeeds. -/
def State.monSettings (good : Bool) (s : State) (p : List Byte) : Nat × List Byte × State :=
  let off := fieldAt p 1 2
  let data := p.drop 3
  match fieldAt p 0 1 with
  | 0 =>
    if 4096 < off + data.length then (2, [], s)
    else
      let buf := (data.zipIdx).foldl (fun (b : SMap Byte) x => SMap.set 0 b (off + x.2) x.1) s.mgt.setBuf
      (0, [], s.updMgt fun m => { m with setBuf := buf })
  | 1 =>
    let r := s.settingsWrite ((List.range 4096).map fun i => SMap.get 0 s.mgt.setBuf i) good
    (if r.1 = 0 then 0 else if r.1 = 2 then 2 else 6, [], r.2)
  | 2 =>
    match s.stu.settings with
    | none => (4, [], s)
    | some b => if 4096 ≤ off then (2, [], s) else (0, (b.drop off).take 1023, s)
  | _ => (2, [], s)

/-- GET_VX_MAP of the monitor. -/
def State.monVxMap (s : State) (p : List Byte) : Nat × List Byte × State :=
  (0, leBytes 4 (s.fld F.VX_MAP_GEN_gen) ++ ((s.vx.map.drop (fieldAt p 0 2)).take 63).flatMap mapBytes, s)

/-- CAPTURE: the masks, src, and go. -/
def State.monCapture (s : State) (p : List Byte) : Nat × List Byte × State :=
  if 1 < fieldAt p 12 1 then (2, [], s)
  else
    let s1 := (List.range 3).foldl (fun (t : State) i => t.csrWrite (R.FAB_CAP_MASK0 + 4 * i) (fieldAt p (4 * i) 4)) s
    let v := putBits 1 F.FAB_CAP_CTRL_src.hi F.FAB_CAP_CTRL_src.lo (fieldAt p 12 1)
    (if s.capBusy then 4 else 0, [], s1.csrWrite R.FAB_CAP_CTRL v)

/-- READ_CAPTURE of the monitor (R590). -/
def State.monReadCapture (s : State) (p : List Byte) : Nat × List Byte × State :=
  let n := fieldAt p 4 2
  if n = 0 ∨ 1021 < n then (2, [], s)
  else
    match s.capRange (fieldAt p 0 4) n with
    | .error code => (code, [], s)
    | .ok b => (0, leBytes 2 (s.fld F.FAB_CAP_STAT_seq) ++ b, s)

/-! ## ENG_CTRL (R587) -/

/-- An engine command given. -/
def State.engOp (s : State) (e op : Nat) : State :=
  match op with
  | 1 => s.engHalt e
  | 2 => s.engResume e
  | 3 => s.engStep e
  | _ => s.engReset e

/-- The ENG_CTRL at the front: its command is written, and answered at once, or for HALT and STEP once the engine has
halted. -/
def State.engCtrl (s : State) : State :=
  match s.mgt.requests with
  | [] => s
  | r :: l =>
    let e := fieldAt r.payload 0 2
    let op := fieldAt r.payload 2 1
    if !s.mgtRuns ∨ r.cmd ≠ 7 then s
    else if r.payload.length ≠ 3 ∨ engines ≤ e ∨ op = 0 ∨ 4 < op ∨ s.mgt.monMinor.isNone then
      s.monRun 7 0 (fun n => decide (n = 3)) fun t _ => (2, [], t)
    else
      let s1 := if s.mgt.ctrlSince.isNone then s.engOp e op else s
      let st := s1.engState e
      if op % 2 = 0 ∨ st % 8 = 1 then
        ((s1.updMgt fun m => { m with requests := l, ctrlSince := none }).monRespond r 0 (leBytes 4 st)).srcSince s 3
      else s1.updMgt fun m => { m with ctrlSince := some (m.ctrlSince.getD s.time.ns) }

/-- A HALT or STEP not done after 1 ms is answered PENDING, and stays in force. -/
def State.engCtrlPending (s : State) : State :=
  match s.mgt.requests with
  | [] => s
  | r :: l =>
    if !s.mgtRuns ∨ s.mgt.ctrlSince.isNone ∨ s.engState (fieldAt r.payload 0 2) % 8 = 1 then s
    else (s.updMgt fun m => { m with requests := l, ctrlSince := none }).monRespond r 5 []

/-! ## Commands -/

/-- MON_FRAME (R582): monitor traffic also wakes the device (22 R547). -/
def execMonFrame (transport : Nat) (bytes : List Byte) (s : State) : Result := .next (s.monFrame transport bytes).devWake

/-- HELLO (R583). -/
def execHello (s : State) : Result := .next (s.monRun 1 0 (fun n => decide (n = 2)) State.monHello)

/-- READ_REG (R586). -/
def execReadReg (s : State) : Result := .next (s.monRun 2 0 (fun n => decide (n = 5)) (State.monReadReg true))

/-- READ_REG_LIVE (R586). -/
def execReadRegLive (s : State) : Result := .next (s.monRun 3 0 (fun n => decide (n = 5)) (State.monReadReg false))

/-- WRITE_REG (R584). -/
def execWriteReg (s : State) : Result := .next (s.monRun 4 0 (fun n => decide (n = 8)) State.monWriteReg)

/-- READ_MEM (R585). -/
def execReadMem (s : State) : Result := .next (s.monRun 5 0 (fun n => decide (n = 10)) State.monRead)

/-- WRITE_MEM (R585): 1 to 1,016 bytes of data. -/
def execWriteMem (s : State) : Result := .next (s.monRun 6 0 (fun n => decide (9 ≤ n)) State.monWrite)

/-- ENG_CTRL (R587). -/
def execEngCtrl (s : State) : Result := .next s.engCtrl

/-- ENG_CTRL_PENDING (R587). -/
def execEngCtrlPending (s : State) : Result := .next s.engCtrlPending

/-- BREAK (R588). -/
def execBreakCmd (s : State) : Result := .next (s.monRun 8 0 (fun n => decide (n = 6)) State.monBreak)

/-- ENG_SIGNAL of the monitor (R584). -/
def execMonEngSignal (s : State) : Result := .next (s.monRun 9 0 (fun n => decide (n = 2)) State.monSignal)

/-- GET_FAULTS of the monitor (25 R623). -/
def execMonGetFaults (s : State) : Result := .next (s.monRun 10 0 (fun n => decide (n = 4)) State.monFaults)

/-- SETTINGS (R584). -/
def execSettings (good : Bool) (s : State) : Result :=
  .next (s.monRun 11 0 (fun n => decide (3 ≤ n)) (State.monSettings good))

/-- GET_FACTORY of the monitor (R584). -/
def execMonGetFactory (s : State) : Result :=
  .next (s.monRun 12 0 (fun n => decide (n = 0)) fun t _ => (0, t.factoryPublic, t))

/-- REBOOT of the monitor (R584): the response is sent, then a start-up begins. -/
def execMonReboot (s : State) : Result :=
  .next (let t := s.monRun 13 0 (fun n => decide (n = 0)) fun t _ => (0, [], t)
    let go := match s.mgt.requests with
      | [] => false
      | r :: _ => decide (r.cmd = 13) && decide (r.payload = []) && s.mgt.monMinor.isSome && s.mgtRuns
    if go then t.startUp false true else t)

/-- GET_VX_MAP of the monitor (R584). -/
def execMonGetVxMap (s : State) : Result := .next (s.monRun 14 0 (fun n => decide (n = 2)) State.monVxMap)

/-- CAPTURE (R584; 03 R105). -/
def execCapture (s : State) : Result := .next (s.monRun 16 1 (fun n => decide (n = 13)) State.monCapture)

/-- READ_CAPTURE of the monitor (R590). -/
def execMonReadCapture (s : State) : Result := .next (s.monRun 17 1 (fun n => decide (n = 6)) State.monReadCapture)

/-- MON_FRAME_GAP_TIMEOUT (R582): the UART's partial frame is discarded. -/
def execMonFrameGapTimeout (s : State) : Result := .next (if s.monOpen 0 then s.monDiscard 0 else s)

/-- I3C_DYNAMIC_ADDRESS (R580). -/
def execI3cDynamicAddress (address : Nat) (s : State) : Result :=
  .next (if s.monOpen 1 then (s.updMgt fun m => { m with i3cAddr := some (address % 128) }).setFlag F.MON_STATUS_i3c_dyn true else s)

end Sys2Proof.Machine
end

