-- ==== Sys2Proof/Machine/Access.lean ====
section
/-! DEFINITION. Packets at their targets (10 R286, R289, R299 to R303) and the accesses of the host (17 R438, R439), with its
resets (17 R448, 19 R484). -/

namespace Sys2Proof.Machine

/-! ## Host reads (17 R439) -/

/-- A host read answered with Unsupported Request. -/
def State.hostUr (s : State) (tag : Nat) : State := (s.count F.PCI_ERR_ur_reads).emit (.hostRead tag 1 [])

/-- A response for a host read: the completion leaves when every part has come. -/
def State.hostGot (s : State) (tag status : Nat) (data : List Byte) : State :=
  match s.pci.reads.find? fun r => r.tags.contains tag with
  | none => s
  | some r =>
    let worst := if status = 1 ∨ status = 2 then 1 else if r.status = 1 then 1 else max r.status status
    let r1 : HostRead := { r with got := SMap.insert r.got tag data, status := worst }
    let others := s.pci.reads.filter fun x => decide (x ≠ r)
    if r1.tags.all fun t => r1.got.any fun e => decide (e.1 = t) then
      let s1 := { s with pci := { s.pci with reads := others } }
      if worst = 1 then s1.hostUr r1.hostTag
      else s1.emit (.hostRead r1.hostTag worst (r1.tags.flatMap fun t => SMap.get [] r1.got t))
    else { s with pci := { s.pci with reads := others ++ [r1] } }

/-! ## Memory-layer accesses by network DMA (05 R141, R152) -/

/-- An access of a range of general banks begun: its words stand in their banks' queues, and the last one answers. -/
def State.dmaBegin (s : State) (j : MemJob) (ops : List (Nat × MemOp)) : State :=
  let key := ((s.mem.jobs.getLast?).map fun e => e.1 + 1).getD 0
  let s1 := { s with mem := { s.mem with jobs := SMap.set none s.mem.jobs key (some { j with left := ops.length }) } }
  (ops.zipIdx).foldl (fun (t : State) x =>
    let bank := x.1.1
    t.bgPush bank { master := .dma, op := x.1.2, born := t.memCycle (bank / 256), job := some key, pos := x.2 }) s1

/-- The word operations of a read. -/
def State.dmaReadOps (s : State) (off n : Nat) : List (Nat × MemOp) :=
  (wordsOf off n).map fun w => ((s.locate w).1, MemOp.readWord (s.locate w).2)

/-- The word operations of a write. -/
def State.dmaWriteOps (s : State) (off : Nat) (data : List Byte) : List (Nat × MemOp) :=
  (wordsOf off data.length).map fun w =>
    let inside := (List.range 16).map fun i => decide (off ≤ 16 * w + i) && decide (16 * w + i < off + data.length)
    let v := leNat ((List.range 16).map fun i => if inside.getD i false then data.getD (16 * w + i - off) 0 else 0)
    ((s.locate w).1, MemOp.writeWord (s.locate w).2 (BitVec.ofNat 128 v) (maskOf ((List.range 16).filter fun i => inside.getD i false)))

/-- The words of a poisoned write take the poison pattern (06 R175): whether the access is allowed. -/
def State.dmaPoison (s : State) (off n : Nat) : Bool × State :=
  let l := (wordsOf off n).map fun w => s.locate w
  if l.any fun p => !s.bgAllowed .dma p.1 (.writeWord 0 0 0) then (false, s.raise Flt.MEM_BG_REFUSED)
  else (true, l.foldl (fun (t : State) p => ((t.setWordBits p.1 p.2 (poisonWord (t.codeOf p.1))).mergeDrop p.1 p.2).cancelRepair p.1 p.2) s)

/-- The lines of a poisoned write take the poison pattern (14 R372): its status. -/
def State.dramPoison (s : State) (cls a n : Nat) : Nat × State :=
  match s.accessRefused cls a n true with
  | some f => (1, s.raiseOpt f cls)
  | none => (0, (linesOf a n).foldl (fun (t : State) l => t.poisonLine l (t.modeAAt l)) s)

/-! ## At the target (R286, R289) -/

/-- The rights class of a request: another device's come by a Graft port (15 R388). -/
def State.classIn (s : State) (h : NocHead) : Nat := if h.srcDev = s.fld F.NOC_GROVE_devnum then classOf h.srcNode h.srcPort else 2

/-- The destination node and port of a target, if it has one. -/
def targetPlace : Target → Option (Nat × Nat)
  | .dram a => some (48 + dramChannel a / 2, dramChannel a % 2)
  | .bank off => some (off / 2 ^ 25, 2)
  | .engine e _ => some (e / 128 % 48, 2)
  | .csr _ => some (57, 1)
  | _ => none

/-- Where the address of a request leads, as its source node decodes it: fitted memory, whole ranges. -/
def State.routeOf (s : State) (a n : Nat) : Target :=
  match targetOf a with
  | .dram x => if (linesOf x n).all fun l => s.dramFits l && decide (l < 2 ^ 38) then .dram x else .nowhere
  | .bank off => if off + n ≤ 0x60000000 then .bank off else .nowhere
  | t => t

/-- A read at its target. The windows of a held island's engines answer with an error (02 R50). -/
def State.readAt (s : State) (h : NocHead) (a n : Nat) : State :=
  let key := s.headKey h
  match s.routeOf a n with
  | .dram x =>
    let r := s.dramRead (s.classIn h) x n
    r.2.2.answer key r.1 (if r.1 = 1 then [] else r.2.1)
  | .bank off => s.dmaBegin { dst := key, read := true, first := off % 16, bytes := n, data := [], left := 0, posted := false, host := false }
      (s.dmaReadOps off n)
  | .engine e off =>
    if s.held (e / 128 % 48) then s.answer key 1
    else
      match s.windowRange (e * 65536 + off) n with
      | (some b, t) => t.answer key 0 b
      | (none, t) => t.answer key 1
  | t =>
    match s.targetRead 1 h.entry t n with
    | (some b, u) => u.answer key 0 b
    | (none, u) => u.answer key 1

/-- Whether a head is of the host port of this device. -/
def State.fromHost (s : State) (h : NocHead) : Bool :=
  decide (h.srcDev = s.fld F.NOC_GROVE_devnum) && decide (h.srcNode = 57) && decide (h.srcPort = 0)

/-- The end of a write with a status: a WRITE is answered; a posted host write that failed is counted (17 R439). -/
def State.writeEnds (s : State) (h : NocHead) (posted : Bool) (status : Nat) : State :=
  if !posted then s.answer (s.headKey h) status
  else if status ≠ 0 ∧ s.fromHost h then s.count F.PCI_ERR_dropped_wr else s

/-- A write at its target. -/
def State.writeAt (s : State) (h : NocHead) (a : Nat) (data : List Byte) (posted : Bool) : State :=
  match s.routeOf a data.length with
  | .dram x =>
    if h.poison then
      let r := s.dramPoison (s.classIn h) x data.length
      r.2.writeEnds h posted r.1
    else
      let r := s.dramWrite (s.classIn h) x data (if posted then 0 else s.headKey h)
      match r.1 with
      | some st => r.2.writeEnds h posted st
      | none => r.2
  | .bank off =>
    if h.poison then
      let r := s.dmaPoison off data.length
      r.2.writeEnds h posted (if r.1 then 0 else 1)
    else
      s.dmaBegin { dst := s.headKey h, read := false, first := 0, bytes := 0, data := [], left := 0, posted := posted,
                   host := s.fromHost h } (s.dmaWriteOps off data)
  | .engine e off =>
    if h.poison ∨ s.held (e / 128 % 48) then s.writeEnds h posted 1
    else
      let r := s.windowRangePut (e * 65536 + off) data
      r.2.writeEnds h posted (if r.1 then 0 else 1)
  | t =>
    if h.poison then s.writeEnds h posted 1
    else
      let r := s.targetPut 1 h.entry t data
      r.2.writeEnds h posted (if r.1 then 0 else 1)

/-- A response at its requester or producer (R289, R300; 11 R321, R322). -/
def State.respAt (s : State) (h : NocHead) (op status : Nat) (data : List Byte) : State :=
  let info := leNat data
  if op = 4 ∧ h.dstNode = 57 ∧ h.dstPort = 0 then s.ringAnswer h.tag (bits info 10 8)
  else if op = 4 ∧ h.dstNode < 48 ∧ h.dstPort < 2 then
    let k := h.dstNode + 48 * h.dstPort
    s.setSp k { s.spOf k with answers := (s.spOf k).answers ++ [(bits info 27 16, bits info 10 8)] }
  else
    match s.response h.dstNode h.dstPort h.tag with
    | (true, s1) => if h.dstNode = 57 ∧ h.dstPort = 0 then s1.hostGot h.tag status data else s1
    | (false, s1) => s1

/-- A STREAM packet at a local port: a slice, a sector's stream port, the host port, or a Graft port. -/
def State.streamAt (s : State) (p : NocPacket) (g : Segment) (descBad : Bool) : State :=
  let h := p.head
  if 56 ≤ h.dstNode ∧ h.dstNode % 2 = 0 then s.streamArrive h g descBad
  else if h.dstNode < 48 ∧ h.dstPort < 2 then
    let k := h.dstNode + 48 * h.dstPort
    let len := if g.pktLen = 0 then (segmentBytes g).length else g.pktLen
    let last := g.payload.length - 1
    let words := g.payload.zipIdx.map fun w =>
      ({ data := w.1, sop := g.sop && decide (w.2 = 0), eop := g.eop && decide (w.2 = last),
         poison := h.poison && g.eop && decide (w.2 = last), queue := g.queue, len := len, cls := h.cls, meta32 := g.meta32 } : SpWord)
    s.setSp k { s.spOf k with rx := (s.spOf k).rx ++ words }
  else
    match graftBundleAt h.dstNode h.dstPort with
    | some b => if s.flag (F.LN_CTRL_mode.win b) ∧ s.grState b ≠ 7 then s.graftSend b p else s.sinkPosted
    | none => s.sinkPosted

/-- Whether a packet needs no answer. -/
def isPosted : NocOp → Bool
  | .write _ _ posted => posted
  | .stream _ => true
  | .resp _ _ _ => true
  | _ => false

/-- A packet at its last router. A held island's node sinks what is addressed to its stream ports (02 R50). -/
def State.packetArrive (s : State) (p : NocPacket) (descBad : Bool) : State :=
  if s.sinks p.head.dstNode p.head.dstPort then s.sinkPosted
  else
    match p.op with
    | .read a n => s.readAt p.head a n
    | .write a data posted => s.writeAt p.head a data posted
    | .stream g => s.streamAt p g descBad
    | .flow fop q => s.flowArrive p.head fop q
    | .resp op st data => s.respAt p.head op st data

/-- The queue of a class-0 stream packet that changed channel or was lost on its way. -/
def State.onTheWay (s : State) (p : NocPacket) : State :=
  match p.op with
  | .stream g => s.routeEvent p.head g.queue
  | _ => s

/-- A packet with no route (R286, R303): a request is answered with an error, a posted packet discarded and counted. -/
def State.unroutable (s : State) (p : NocPacket) : State :=
  let s1 := s.raise Flt.NOC_UNROUTABLE [p.head.entry]
  if !isPosted p.op then s1.answer (s.headKey p.head) 1
  else if s.fromHost p.head then s1.count F.PCI_ERR_dropped_wr
  else s1.sinkPosted

/-- A packet of the network: to another device over its Graft port, or along its route to a local port, where it waits
while the domain behind it sleeps (R302). -/
def State.packetSend (s : State) (p : NocPacket) (descBad : Bool) : State :=
  if p.head.dstDev ≠ s.fld F.NOC_GROVE_devnum then
    (match s.groveSend p with
     | some t => t
     | none => s.unroutable p)
  else
    match s.nocTravel p.head with
    | (none, s1) => s1.onTheWay p
    | (some h, s1) =>
      let s2 := if h.vc ≠ p.head.vc then s1.onTheWay p else s1
      if s2.asleep h.dstNode then s2.holdHead ⟨h, p.op⟩ else s2.packetArrive ⟨h, p.op⟩ descBad

/-- A request that carries a device address enters the network, decoded at its source node (R286). One of this device
takes its space and tag first, unless it is posted (R299). -/
def State.requestSend (s : State) (h : NocHead) (op : NocOp) (a n kind space : Nat) : State :=
  let here := decide (h.dstDev = s.fld F.NOC_GROVE_devnum)
  let issued := if h.srcDev = s.fld F.NOC_GROVE_devnum ∧ !isPosted op then s.issued h.srcNode h.srcPort h.tag kind space else some s
  match issued with
  | none => s
  | some s1 =>
    if !here then s1.packetSend ⟨h, op⟩ false
    else
      match s.routeOf a n with
      | .nowhere => s1.unroutable ⟨h, op⟩
      | t =>
        match targetPlace t with
        | some pl => s1.packetSend ⟨{ h with dstNode := pl.1, dstPort := pl.2 }, op⟩ false
        | none => (s1.barred 1 h.entry t).writeEnds h (isPosted op) 1

/-! ## Waking (R302) -/

/-- The heads held for a node go on once its domain is awake. -/
def State.wakeForward (s : State) (node : Nat) : State :=
  if s.asleep node then s
  else
    let mine := s.noc.held.filter fun w => decide (w.router = node)
    let rest := s.noc.held.filter fun w => decide (w.router ≠ node)
    let s1 := ({ s with noc := { s.noc with held := rest } }).setFlag F.NOC_STATUS_wake_pend (decide (rest ≠ []))
    match mine with
    | [] => s1
    | w :: _ =>
      let took := s.time.ns - w.since
      let s2 := s1.setFld F.NOC_RTR_WAKE_longest_us (min 65535 (max (s1.fld F.NOC_RTR_WAKE_longest_us node) (took / 1000))) node
      let s3 := if w.exit + 1000 < took then s2.raise Flt.NOC_WAKE_SLOW [node] else s2
      mine.foldl (fun (t : State) x => t.packetArrive x.pkt false) s3

/-! ## The host port (17 R438 to R440; 23 R574) -/

/-- The head of a packet that the host port sends. -/
def State.hostHead (s : State) (tag flits : Nat) (poison : Bool) : NocHead :=
  let dev := s.fld F.NOC_GROVE_devnum
  { srcDev := dev, srcNode := 57, srcPort := 0, entry := 57, dstDev := dev, dstNode := 57, dstPort := 0, vc := 1, tag := tag,
    poison := poison, cls := 0, flits := flits, badHead := none, badFlit := none }

/-- A range split at 4,096-byte boundaries. -/
def splitRange (a : Nat) : Nat → Nat → List (Nat × Nat)
  | 0, _ => []
  | fuel + 1, n =>
    if n = 0 then []
    else
      let k := min n (4096 - a % 4096)
      (a, k) :: splitRange (a + k) fuel (n - k)

/-- The device address of an offset of BAR4. -/
def State.windowAddr (s : State) (off : Nat) : Nat := s.fld F.PCI_WIN_BASE_base * 2 ^ 36 + off % 2 ^ 36

/-- Whether BAR4 is served: not in the safe state, nor in test mode (19 R501, 24 R594). -/
def State.windowServed (s : State) : Bool := !s.flag F.DEV_STATUS_safe_state && !s.testMode && !s.stu.ended

/-- A free tag of the host port for a read of `n` bytes. -/
def State.hostTag (s : State) (n : Nat) : Option Nat := (List.range 256).find? fun t => s.canIssue 57 0 t (1 + (n + 63) / 64)

/-- The READs of a host read, as long as each finds a tag and space. -/
def State.hostIssue (s : State) : List (Nat × Nat) → Option (List Nat × State)
  | [] => some ([], s)
  | (a, n) :: l =>
    match s.hostTag n with
    | none => none
    | some t =>
      let s1 := (s.issue 57 0 t 0 (1 + (n + 63) / 64) false).emit (.noc ⟨s.hostHead t 1 false, .read a n⟩)
      (s1.hostIssue l).map fun r => (t :: r.1, r.2)

/-- Bytes of the mailbox as the host reads them (23 R574). -/
def State.mailboxRead (s : State) (off n : Nat) : List Byte :=
  (List.range n).map fun i =>
    let o := off + i
    let view := fun (r : Nat) => BitVec.ofNat 8 ((s.reg r).toNat / 2 ^ (8 * (o % 4)))
    if o < 0x9000 then SMap.get 0 s.mgt.bar2 o
    else
      match o / 4 * 4 with
      | 0xFF00 => view R.MB_CMD_IDX
      | 0xFF04 => view R.MB_RSP_IDX
      | 0xFF08 => view R.MON_H2M_IDX
      | 0xFF0C => view R.MON_M2H_IDX
      | _ => 0

/-- A host read (R438, R439): function, BAR, offset, bytes, the host's tag. -/
def State.hostRead (s : State) (fn bar off n tag : Nat) : State :=
  if s.stu.hold then s
  else
    match bar with
    | 0 =>
      if fn ≠ 0 then s.hostUr tag
      else if s.stu.ended ∧ off ≠ R.DEV_ID ∧ off ≠ R.SEC_STATUS then s.emit (.hostRead tag 0 (List.replicate n 0))
      else
        match s.csrRange off n false with
        | (some b, t) => t.emit (.hostRead tag 0 b)
        | (none, t) => t.hostUr tag
    | 2 => s.emit (.hostRead tag 0 (if fn = 0 ∧ !s.stu.ended then s.mailboxRead off n else List.replicate n 0))
    | _ =>
      if fn ≠ 0 ∨ !s.windowServed then s.hostUr tag
      else
        match s.hostIssue (splitRange (s.windowAddr off) 3 n) with
        | none => s
        | some r => { r.2 with pci := { r.2.pci with reads := r.2.pci.reads ++ [({ hostTag := tag, tags := r.1, got := [], status := 0 } : HostRead)] } }

/-- A host write that goes nowhere. -/
def State.hostDrop (s : State) : State := s.count F.PCI_ERR_dropped_wr

/-- The ring of a VF's doorbell: its `j`-th ring, ascending (R438). -/
def State.vfRing (s : State) (fn j : Nat) : Option Nat :=
  ((List.range 256).filter fun r => decide (s.fld F.PCI_RING_CFG_func r = fn))[j]?

/-- A write to BAR2: the mailbox, its index aliases, doorbells. -/
def State.bar2Write (s : State) (fn off : Nat) (data : List Byte) : State :=
  let v := fieldAt data 0 4
  if fn ≠ 0 then
    (match s.vfRing fn (off / 8) with
     | some r => if off % 8 = 0 ∧ off < 0x10000 then s.doorbell r v else s
     | none => s)
  else if off < 0x9000 then s.bar2Put off (data.take (0x9000 - off))
  else if 0x10000 ≤ off then (if off % 8 = 0 ∧ (off - 0x10000) / 8 < 256 then s.doorbell ((off - 0x10000) / 8) v else s)
  else
    match off with
    | 0xFF00 => (s.csrWrite R.MB_CMD_IDX v).devWake
    | 0xFF04 => s.csrWrite R.MB_RSP_IDX v
    | 0xFF08 => s.csrWrite R.MON_H2M_IDX v
    | 0xFF0C => (s.csrWrite R.MON_M2H_IDX v).m2hFlush
    | _ => s

/-- A host write (R438, R439). -/
def State.hostWrite (s : State) (fn bar off : Nat) (data : List Byte) (poison : Bool) : State :=
  if s.stu.hold ∨ s.stu.ended then s
  else
    match bar with
    | 0 =>
      if fn ≠ 0 ∨ poison ∨ s.flag F.DEV_STATUS_safe_state then s.hostDrop
      else
        let r := s.csrRangePut off data
        if r.1 then r.2 else r.2.hostDrop
    | 2 => if poison then s.hostDrop else s.bar2Write fn off data
    | _ =>
      if fn ≠ 0 ∨ !s.windowServed then s.hostDrop
      else
        let a := s.windowAddr off
        (splitRange a 3 data.length).foldl (fun (t : State) p =>
          t.emit (.noc ⟨t.hostHead 0 (1 + (p.2 + 63) / 64) poison, .write p.1 (slice data (p.1 - a) p.2) true⟩)) s

/-! ## Resets of the host port (17 R448; 23 R576; 19 R484) -/

/-- A function's own host state cleared: its vectors masked; of the PF also the virtual functions and LTR. -/
def PciSt.functionClear (p : PciSt) (fns : List Nat) : PciSt :=
  let q := { p with unmasked := SMap.clear p.unmasked fun k => fns.contains (k / 2048)
                    pend := SMap.clear p.pend fun k => fns.contains (k / 2048) }
  if fns.contains 0 then { q with vfs := 0, ltrOn := false, snoop := 0, noSnoop := 0 } else q

/-- A function-level reset of some functions, or a hot reset or link down, which affects all of them. One of the PF resets
the mailbox rings and the negotiation. -/
def State.functionReset (s : State) (functions : List Nat) (linkDown : Bool) : State :=
  let fns := if linkDown then List.range 33 else functions
  let s1 := s.stopFunctions fns
  let s2 := { s1 with pci := s1.pci.functionClear fns }
  let s3 := if fns.contains 0 then
      (((s2.mbReset).setFlag F.MB_STATUS_negotiated false).setReg R.MB_VERSION 0).hostTol.raiseAll else s2
  if linkDown then
    let s4 := { s3 with pci := { s3.pci with reads := [] } }
    (((s4.setFlag F.PCI_STATUS_up false).setFlag F.PCI_STATUS_l1 false).setFld F.PCI_STATUS_gen 0).prmRefresh
  else s3

/-- PCIE_PERST_N low: the host port alone is reset. -/
def State.perst (s : State) : State :=
  let s1 := s.functionReset [] true
  let mine := fun (k : Nat) => decide (blockOf (k % 2 ^ 28) = 20)
  ({ s1 with csr := SMap.clear s1.csr mine, staged := SMap.clear s1.staged mine, locked := SMap.clear s1.locked mine, pci := {} }).prmRefresh

/-! ## Commands -/

/-- NOC_READ (10 R289). -/
def execNocRead (head : NocHead) (addr bytes : Nat) (s : State) : Result :=
  .next (s.requestSend head (.read addr bytes) addr bytes 0 (1 + (bytes + 63) / 64))

/-- NOC_WRITE (10 R289). -/
def execNocWrite (head : NocHead) (addr : Nat) (data : List Byte) (s : State) : Result :=
  .next (s.requestSend head (.write addr data false) addr data.length 1 1)

/-- WRITE_POSTED (10 R289). -/
def execWritePosted (head : NocHead) (addr : Nat) (data : List Byte) (s : State) : Result :=
  .next (s.requestSend head (.write addr data true) addr data.length 0 0)

/-- READ_RESP (10 R289, R300). -/
def execReadResp (head : NocHead) (status : Nat) (data : List Byte) (s : State) : Result :=
  .next (s.packetSend ⟨head, .resp 3 status data⟩ false)

/-- WRITE_ACK (10 R289; 11 R321): `info` is the head data, with the code and queue of a producer's answer. -/
def execWriteAck (head : NocHead) (status info : Nat) (s : State) : Result :=
  .next (s.packetSend ⟨head, .resp 4 status (leBytes 8 info)⟩ false)

/-- STREAM_SEGMENT (11 R315). -/
def execStreamSegment (head : NocHead) (seg : Segment) (descBad : Bool) (s : State) : Result :=
  .next (s.packetSend ⟨head, .stream seg⟩ descBad)

/-- RESP_TIMEOUT (10 R300): a host read has its part answered with status 2, and a fabric lookup its response. -/
def execRespTimeout (node port tag : Nat) (s : State) : Result :=
  .next (let t := s.respTimeout node port tag
    if node = 57 ∧ port = 0 ∧ s.noc.reqs ≠ t.noc.reqs then t.hostGot tag 2 []
    else if s.noc.reqs ≠ t.noc.reqs then t.flAnswered node port tag 2 [] else t)

/-- WAKE_FORWARD (10 R302). -/
def execWakeForward (node : Nat) (s : State) : Result := .next (s.wakeForward node)

/-- HOST_READ (17 R439). -/
def execHostRead (function bar off bytes tag : Nat) (s : State) : Result := .next (s.hostRead function bar off bytes tag)

/-- HOST_WRITE (17 R439). -/
def execHostWrite (function bar off : Nat) (data : List Byte) (poison : Bool) (s : State) : Result :=
  .next (s.hostWrite function bar off data poison)

/-- PCIE_FUNCTION_RESET (17 R448; 23 R576). -/
def execPcieFunctionReset (functions : List Nat) (linkDown : Bool) (s : State) : Result :=
  .next (s.functionReset functions linkDown)

/-- PCIE_PERST (19 R484). -/
def execPciePerst (s : State) : Result := .next s.perst

end Sys2Proof.Machine
end

