-- ==== Sys2Proof/Machine/Edge.lean ====
section
/-! DEFINITION. The fabric's clock edge (03 R70 to R78, R83, R85, R89, R93 to R97, R101 to R103): what every cell shows,
what flip-flops, memory clusters and landing buffers take, and what the ports that have no command of their own do. -/

namespace Sys2Proof.Machine

/-! ## Signals -/

/-- A signal of the fabric: a multiplexer of a tile (03 R83), a Z wire of an island's bundle, or an output of a cell:
0 LF, 1 LH, 2 S, 3 CO, 4 QA, 5 QB. -/
inductive FabNode where
  | mux (sector tile m : Nat)
  | zWire (island tile z : Nat)
  | out (sector tile cell o : Nat)
deriving DecidableEq, Repr

/-- A number for each signal. -/
def FabNode.number : FabNode → Nat
  | .mux k t m => ((k * 1024 + t) * 1024 + m) * 3
  | .zWire k t z => ((k * 1024 + t) * 1024 + z) * 3 + 1
  | .out k t c o => ((k * 1024 + t) * 1024 + c * 8 + o) * 3 + 2

/-- Values side by side, each with its width, the first lowest. -/
def packBits : List (Nat × Nat) → Nat
  | [] => 0
  | (v, w) :: l => v % 2 ^ w + 2 ^ w * packBits l

/-- A truth value as a field of one bit. -/
def oneBit (b : Bool) : Nat × Nat := (b.toNat, 1)

/-- The tile `n` tiles against the direction (0 N, 1 E, 2 S, 3 W) of a wire that reaches a tile, within its sector
(03 R81, R82); north is towards the higher row (DEDUCED). -/
def upstream (tile n dir : Nat) : Option Nat :=
  let c := tile % 32
  let r := tile / 32
  match dir with
  | 0 => if n ≤ r then some (tile - 32 * n) else none
  | 1 => if n ≤ c then some (tile - n) else none
  | 2 => if r + n < 32 then some (tile + 32 * n) else none
  | _ => if c + n < 32 then some (tile + n) else none

/-- The direction of the wire of driver `d`, 0 to 319 (03 R81). -/
def driverDir (d : Nat) : Nat := if d < 128 then d / 32 else if d < 256 then (d - 128) / 32 else (d - 256) / 16 % 4

/-! ## What the ports show the fabric (03 R103) -/

/-- An engine's 73 to-fabric bits (07 R223). -/
def Engine.toFabric (g : Engine) : Nat :=
  packBits [(g.out0.headD 0, 32), oneBit (decide (g.out0 ≠ [])), (g.out1.headD 0, 32), oneBit (decide (g.out1 ≠ [])),
    oneBit (decide (g.in0.length < 16)), oneBit (decide (g.in1.length < 16)), (g.sigOut, 4), oneBit g.halted]

/-- Whether a stream port takes a word (11 R322, 19 R492): it has room in the segment it gathers. -/
def State.spReady (s : State) (sector : Nat) : Bool :=
  s.stu.writesEnabled && match (s.spOf sector).tx with
  | none => true
  | some t => decide (t.words.length < 64) && !t.eop && !t.abort

/-- The stream port's to-fabric bits. -/
def State.spToFabric (s : State) (sector : Nat) : Nat :=
  let p := s.spOf sector
  let x := p.rx.headD ⟨0, false, false, false, 0, 0, 0, 0⟩
  let a := p.answers.headD (0, 0)
  packBits [oneBit (s.spReady sector), oneBit (decide (p.rx ≠ [])), (x.data.toNat, 512), oneBit x.sop, oneBit x.eop,
    oneBit x.poison, (x.queue, 12), (x.len, 15), (x.cls, 2), (x.meta32, 32), oneBit (decide (p.answers ≠ [])), (a.1, 12), (a.2, 3)]

/-- The flow lookup port's to-fabric bits (12 R348). -/
def State.flToFabric (s : State) (sector : Nat) : Nat :=
  let p := s.flPort (sector / 3)
  let x := p.rsp.headD (0, [])
  packBits [oneBit (decide (p.waiting.length < 32)), oneBit (decide (p.rsp ≠ [])), (x.1, 136), (leNat x.2, 1024)]

/-- Words that wait for a sector in an edge channel. -/
def State.edgeFifo (s : State) (sector edge channel : Nat) : List Half := SMap.get [] s.fab.edges (edgeKey sector edge channel)

/-- The 18 to-fabric bits of each of the eight channels across an edge (03 R84). -/
def State.edgeToFabric (s : State) (sector edge : Nat) : Nat :=
  packBits ((List.range 8).flatMap fun m =>
    let l := s.edgeFifo sector edge m
    let room := match neighbour sector edge with
      | none => false
      | some n => decide ((s.edgeFifo n (oppositeEdge edge) m).length < 16)
    [((l.headD 0).toNat, 16), oneBit (decide (l ≠ [])), oneBit room])

/-- The oscillator inputs as an island's sectors see them. -/
def State.oscOf (s : State) (island : Nat) : OscSync := SMap.get {} s.fab.osc island

/-- The control segment's to-fabric bits (04 R124, 22 R544, 03 R97). -/
def State.ctlToFabric (s : State) (k : Nat) : Nat :=
  let o := s.oscOf (islandOf k)
  let sp := s.fld (F.CTX_STATUS_staged_plane.ctx k)
  packBits [(s.livePlane k, 3), (sp, 3), oneBit (s.stagedValid k sp), oneBit (s.ctxBusy k), oneBit (s.sec k).switched,
    oneBit (NSet.has s.pm.woke (islandOf k)), oneBit o.slow, (o.fast, 16)]

/-- The fault port's to-fabric bits (25 R626): a location is four items of 16 bits. -/
def State.fltToFabric (s : State) (k : Nat) : Nat :=
  match SMap.get none s.flt.shown k with
  | none => 0
  | some r => packBits [(1, 1), (r.fault.code, 16), (r.fault.sev, 3), (ungroups 16 (r.fault.loc.take 4), 64), (r.index, 32)]

/-- The hard serial or flash port of a sector (03 R98): 10 is the flash port. -/
def serialOf (sector : Nat) : Option Nat := (serialSectors.find? fun p => decide (p.1 = sector)).map (·.2)

/-- A port's receive FIFO. -/
def State.serialRx (s : State) (p : Nat) : List Half := if p = 10 then s.fab.flashRx else (s.serialPort p).rx

/-- The hard serial or flash port's to-fabric bits. -/
def State.hspToFabric (s : State) (sector : Nat) : Nat :=
  match serialOf sector with
  | none => 0
  | some p =>
    let l := s.serialRx p
    packBits [((l.headD 0).toNat, 16), oneBit (decide (l ≠ [])), oneBit (decide ((s.serialPort p).tx.length < 64))]

/-- The landing attachment's to-fabric bits (03 R91 to R96). -/
def State.landToFabric (s : State) (sector tile : Nat) : Nat :=
  let l := s.land (bankUnder (islandOf sector) tile)
  let word := fun (n : Nat) => ((l.portData.getD n 0).toNat, 16)
  if sector < 48 then
    let busy := match l.cmd with
      | some c => !c.fresh
      | none => false
    packBits [word 0, oneBit busy, oneBit l.done, oneBit l.refused, oneBit l.err, (0, 12), word 1, (0, 16), word 2, (0, 16),
      word 3, (0, 16), (l.errMask, 16)]
  else
    let d := match l.burst with
      | some u => if !u.write && decide (4 ≤ u.cycle) then u.got[u.cycle - 4]? else none
      | none => none
    packBits [((d.getD 0).toNat, 256), oneBit d.isSome, oneBit l.landErr]

/-- The to-fabric bits of the port segment attached at a tile (03 R102, R103). -/
def State.toFabric (s : State) (sector tile att : Nat) : Nat :=
  if att ≤ 0x20 then
    packBits ((List.range 4).map fun i => ((s.engine (128 * sector + 4 * (att - 1) + i)).toFabric, 80))
  else if att ≤ 0x22 then s.spToFabric sector / 2 ^ (320 * (att - 0x21))
  else if att ≤ 0x26 then s.flToFabric sector / 2 ^ (320 * (att - 0x23))
  else if att ≤ 0x2A then s.edgeToFabric sector (att - 0x27)
  else if att = 0x2B then s.ctlToFabric sector
  else if att = 0x2C then s.fltToFabric sector
  else if att = 0x2D then s.hspToFabric sector
  else if att = 0xFF then s.landToFabric sector tile
  else 0

/-! ## What every signal is worth in a cycle -/

/-- What a multiplexer of a tile with select `v` shows (03 R83), given the other signals. -/
def selVal (r : FabNode → Bool) (sector tile m v : Nat) : Bool :=
  match zOfSel m v with
  | some z => r (.zWire (islandOf sector) tile z)
  | none =>
    match Config.routeSource m v with
    | .cell c o => r (.out sector tile c o)
    | .wire back d =>
      match upstream tile back (driverDir d) with
      | some t => r (.mux sector t (548 + d % 320))
      | none => false

/-- What a Z wire carries (03 R85, R89, R95): the lower end prevails; undriven it reads 0; in landing mode it carries the
upper path, and what a select of it shows is free. -/
def State.zVal (s : State) (r : FabNode → Bool) (island tile z : Nat) : Bool :=
  let lo := tileBits (s.liveOf island) tile
  let hi := tileBits (s.liveOf (island + 48)) tile
  if landEn lo && landEn hi then Config.loopValue s.freeIdx (FabNode.zWire island tile z).number
  else if zDrv lo z then selVal r island tile (868 + z) (zSrc lo z)
  else if zDrv hi z then selVal r (island + 48) tile (868 + z) (zSrc hi z)
  else false

/-- The stored bit of a flip-flop: 0 for QA, 1 for QB. -/
def State.ffBit (s : State) (sector tile c q : Nat) : Bool := NSet.has (SMap.get [] s.fab.ff sector) (128 * tile + 2 * c + q)

/-- Fields of flip-flop `q` of a cell's bits (03 R71): dsel, obeys CE, obeys SR, srval. -/
def ffDsel (b q : Nat) : Nat := bits b (67 + 6 * q) (66 + 6 * q)
def ffCe (b q : Nat) : Bool := bit b (69 + 6 * q)
def ffSr (b q : Nat) : Bool := bit b (70 + 6 * q)
def ffSrval (b q : Nat) : Bool := bit b (71 + 6 * q)

/-- The table index of a cell's inputs I1 to I`n` (03 R70). -/
def lutIndex (r : FabNode → Bool) (sector tile c n : Nat) : Nat :=
  ((List.range n).map fun i => (r (.mux sector tile (inputMux c i))).toNat * 2 ^ i).sum

/-- The carry input of a cell (03 R71, R78). -/
def carryIn (r : FabNode → Bool) (sector tile c b : Nat) : Bool :=
  match bits b 79 78 with
  | 0 => if 0 < c then r (.out sector tile (c - 1) 3) else if tile < 32 then false else r (.out sector (tile - 32) 63 3)
  | 1 => false
  | 2 => true
  | _ => r (.mux sector tile (inputMux c 6))

/-- A cell's LF, LH, S or CO (03 R72, R76); `free` is LH of a shift register, which no rule states. -/
def cellVal (r : FabNode → Bool) (free : Bool) (sector tile tb c o : Nat) : Bool :=
  let b := cellBits tb c
  let i5 := lutIndex r sector tile c 5
  let i6 := lutIndex r sector tile c 6
  let ci := carryIn r sector tile c b
  let mode := bits b 65 64
  match memMode tb (c / 16), o with
  | 0, 0 => if mode = 1 ∨ mode = 2 then bit b (32 + i5) else bit b i6
  | 0, 1 => bit b i5
  | 0, 2 => decide (mode = 2) && (bit b (32 + i5) != ci)
  | 0, _ => if mode = 2 && !bit b (32 + i5) then bit b i5 else ci
  | 2, 0 => bit b (32 + i5)
  | _, 0 => bit b i6
  | 3, 1 => free
  | _, 1 => bit b i5
  | _, 2 => false
  | _, _ => ci

/-- A flip-flop's output: asynchronously it shows its srval while SR is 1 (03 R73). -/
def State.ffOut (s : State) (r : FabNode → Bool) (sector tile tb c q : Nat) : Bool :=
  let b := cellBits tb c
  if ffSr b q && !srSync tb (c / 16) && r (.mux sector tile (ctrlMux (c / 16) 1)) then ffSrval b q else s.ffBit sector tile c q

/-- The to-fabric bit that an output of an attached tile's cell shows (03 R101); CO shows none. -/
def toFabricBit (c o : Nat) : Option Nat :=
  match o with
  | 0 => some (2 * c)
  | 1 => some (2 * c + 1)
  | 2 => some (256 + c)
  | 3 => none
  | 4 => some (128 + 2 * c)
  | _ => some (129 + 2 * c)

/-- What a cell's output shows. -/
def State.outVal (s : State) (r : FabNode → Bool) (sector tile c o : Nat) : Bool :=
  let tb := tileBits (s.liveOf sector) tile
  if attOf tb ≠ 0 then
    match toFabricBit c o with
    | some n => bit (s.toFabric sector tile (attOf tb)) n
    | none => false
  else if o < 4 then cellVal r (Config.loopValue s.freeIdx (FabNode.out sector tile c o).number) sector tile tb c o
  else s.ffOut r sector tile tb c (o - 4)

/-- A signal's value from the signals it depends on. -/
def State.nodeVal (s : State) (r : FabNode → Bool) : FabNode → Bool
  | .mux k t m =>
    let v := muxSel (tileBits (s.liveOf k) t) m
    if v = 0 then false else selVal r k t m v
  | .zWire k t z => s.zVal r k t z
  | .out k t c o => s.outVal r k t c o

/-- A signal's value in this cycle, followed back at most `fuel` signals: deeper than any path without a loop, so that a
value not settled then is that of a combinational loop, and free. -/
def State.sig (s : State) : Nat → FabNode → Bool
  | 0, n => Config.loopValue s.freeIdx n.number
  | fuel + 1, n => s.nodeVal (State.sig s fuel) n

/-- More signals than the two sectors of an island have. -/
def fabFuel : Nat := 2 ^ 22

/-! ## Flip-flops and memory clusters -/

/-- What a flip-flop holds after the edge (03 R73). -/
def State.ffNext (s : State) (r : FabNode → Bool) (sector tile tb c q : Nat) : Bool :=
  let b := cellBits tb c
  if ffSr b q && r (.mux sector tile (ctrlMux (c / 16) 1)) then ffSrval b q
  else if ffCe b q && !r (.mux sector tile (ctrlMux (c / 16) 0)) then s.ffBit sector tile c q
  else
    match ffDsel b q with
    | 0 => r (.out sector tile c q)
    | 1 => r (.out sector tile c (1 - q))
    | 2 => r (.out sector tile c (2 + q))
    | _ => r (.mux sector tile (inputMux c (6 + q)))

/-- The flip-flops of a sector after the edge; those of an attached tile hold 0 (03 R101), and so do those of a tile whose
bits are all 0. -/
def State.ffEdge (s : State) (r : FabNode → Bool) (sector : Nat) : NSet :=
  (tilesOf (s.liveOf sector)).foldl (fun (m : NSet) t =>
    let tb := tileBits (s.liveOf sector) t
    if attOf tb ≠ 0 then m
    else (List.range 128).foldl (fun (m : NSet) n => m.put (128 * t + n) (s.ffNext r sector t tb (n / 2) (n % 2))) m) []

/-- The table of a memory cell after a write (03 R76). -/
def memWrite (mode wa table : Nat) (bp0 bp1 : Bool) : Nat :=
  match mode with
  | 1 => putBit table wa bp0
  | 2 => putBit (putBit table (wa % 32) bp0) (32 + wa % 32) bp1
  | 3 => (table * 2 + bp0.toNat) % 2 ^ 64
  | _ => table

/-- A tile's bits after the writes of its memory clusters. -/
def memTile (r : FabNode → Bool) (sector tile tb : Nat) : Nat :=
  (List.range 4).foldl (fun v k =>
    let ctl := fun (i : Nat) => r (.mux sector tile (ctrlMux k i))
    if memMode tb k = 0 || !ctl 2 then v
    else
      let wa := ((List.range 6).map fun i => (ctl (3 + i)).toNat * 2 ^ i).sum
      (List.range 16).foldl (fun v n =>
        let c := 16 * k + n
        putBits v (96 * c + 63) (96 * c) (memWrite (memMode tb k) wa (cellBits tb c % 2 ^ 64)
          (r (.mux sector tile (inputMux c 6))) (r (.mux sector tile (inputMux c 7))))) v) tb

/-- A sector's live context after the edge: before ENABLE_WRITES memory clusters take nothing (19 R492). -/
def State.memEdge (s : State) (r : FabNode → Bool) (sector : Nat) : Frames :=
  if !s.stu.writesEnabled then s.liveOf sector
  else (tilesOf (s.liveOf sector)).foldl (fun (fr : Frames) t =>
    let tb := tileBits (s.liveOf sector) t
    let v := memTile r sector t tb
    if attOf tb ≠ 0 ∨ v = tb then fr else putTile fr t v) (s.liveOf sector)

/-! ## Ports (03 R101 to R103) -/

/-- The segments that a sector's live context attaches, with their tiles. -/
def State.attTiles (s : State) (sector : Nat) : List (Nat × Nat) :=
  ((tilesOf (s.liveOf sector)).map fun t => (attOf (tileBits (s.liveOf sector) t), t)).filter fun p => decide (p.1 ≠ 0)

/-- From-fabric bits `[lo, lo+w)` of the port whose first segment is `att`; a bit that no tile attaches reads 0. -/
def pinsOf (r : FabNode → Bool) (sector : Nat) (atts : List (Nat × Nat)) (att lo w : Nat) : Nat :=
  ((List.range w).map fun i =>
    let n := lo + i
    match atts.find? fun p => decide (p.1 = att + n / 384) with
    | none => 0
    | some p => (r (.mux sector p.2 (inputMux (n % 384 / 6) (n % 384 % 6)))).toNat * 2 ^ i).sum

/-- The engines of a sector: their event lines as sampled, and sig_out at its end (07 R223). -/
def State.engEdge (s : State) (pins : Nat → Nat → Nat → Nat) (sector : Nat) (atts : List (Nat × Nat)) : State :=
  let listed := (s.eng.map (·.1)).filter fun e => decide (e / 128 = sector)
  let driven := (atts.filter fun p => decide (p.1 ≤ 0x20)).flatMap fun p =>
    (List.range 4).map fun i => 128 * sector + 4 * (p.1 - 1) + i
  (listed ++ driven).dedup.foldl (fun (t : State) e =>
    t.updEngine e fun g => { g with evt := pins (engAtt e) (96 * (e % 4) + 68) 4, sigOut := 0 }) s

/-- A word that a stream port takes (11 R322): with sop it opens a packet, one open before it ending its segment there; a word
without sop and no packet open is dropped (DESIGN CHOICE). -/
def State.spTake (s : State) (sector : Nat) (pins : Nat → Nat → Nat) : State :=
  let one := fun (n : Nat) => decide (pins n 1 = 1)
  let fill := fun (t : SpOpen) =>
    { t with words := t.words ++ [BitVec.ofNat 512 (pins 2 512)], eop := one 515, abort := one 516
             lastBytes := if one 515 then pins 583 6 else t.lastBytes }
  let put := fun (u : State) (t : SpOpen) => u.setSp sector { u.spOf sector with tx := some (fill t) }
  if one 514 then
    let fresh : SpOpen :=
      { queue := pins 517 12, dev := pins 529 4, vc := pins 533 2, len := pins 535 15, meta32 := pins 550 32, ack := one 582, flits := 0 }
    match (s.spOf sector).tx with
    | some t => put (if t.words = [] then s else s.spInject sector t) fresh
    | none => put s fresh
  else
    match (s.spOf sector).tx with
    | some t => put s t
    | none => s

/-- A stream port at the edge: a delivered word is taken, the answer shown has had its cycle, and a word moves in. -/
def State.spEdge (s : State) (pins : Nat → Nat → Nat) (sector : Nat) : State :=
  let p := s.spOf sector
  let take := decide (pins 0 1 = 1) && s.spReady sector
  let s1 := s.setSp sector { p with
    rx := if pins 1 1 = 1 then p.rx.tail else p.rx
    answers := p.answers.tail }
  if take then s1.spTake sector pins else s1

/-- A flow lookup port at the edge: a response is taken where the fabric is ready. -/
def State.flEdge (s : State) (pins : Nat → Nat → Nat) (sector : Nat) : State :=
  if sector < 48 ∧ sector % 3 = 0 ∧ pins 1 1 = 1 then
    let p := s.flPort (sector / 3)
    s.setFlPort (sector / 3) { p with rsp := p.rsp.tail }
  else s

/-- Edge channels at the edge: a word is taken where the fabric is ready (03 R84). -/
def State.channelEdge (s : State) (pins : Nat → Nat → Nat → Nat) (sector : Nat) : State :=
  (List.range 32).foldl (fun (t : State) n =>
    if pins (0x27 + n / 8) (18 * (n % 8) + 17) 1 = 1 then
      { t with fab := { t.fab with edges := SMap.upd [] t.fab.edges (edgeKey sector (n / 8) (n % 8)) List.tail } }
    else t) s

/-- A hard serial or flash port at the edge (03 R103): a received word is taken, a transmit word enters. -/
def State.serialEdge (s : State) (pins : Nat → Nat → Nat) (sector : Nat) : State :=
  match serialOf sector with
  | none => s
  | some p =>
    let q := s.serialPort p
    let tx := if pins 17 1 = 1 ∧ q.tx.length < 64 then q.tx ++ [(BitVec.ofNat 16 (pins 0 16), decide (pins 16 1 = 1))] else q.tx
    let take := decide (pins 18 1 = 1)
    let s1 := s.setSerialPort p { q with tx := tx, rx := if take then q.rx.tail else q.rx }
    if take ∧ p = 10 then { s1 with fab := { s1.fab with flashRx := s1.fab.flashRx.tail } } else s1

/-! ## Landing buffers (03 R93 to R96) -/

/-- A landing buffer after the fabric's writes of an edge: the upper path's first, then word ports 0 to 3, a later one
prevailing (03 R94). A port is its address, data and write enable. -/
def landWrites (l : Landing) (ports : List (Nat × Half × Bool)) : RowBits :=
  let up := match l.burst with
    | some u => if u.write && decide (2 ≤ u.cycle) && decide (u.cycle - 2 < u.count) then (burstGroup l.buffer u (u.cycle - 2)).1 else l.buffer
    | none => l.buffer
  ports.foldl (fun (b : RowBits) (p : Nat × Half × Bool) => if p.2.2 then putBufWord b p.1 p.2.1 else b) up

/-- Fabric writes of an edge: one for each enabled port, and one for each word the upper path writes. -/
def landWriteCount (l : Landing) (ports : List (Nat × Half × Bool)) : Nat :=
  (ports.filter fun p => p.2.2).length + match l.burst with
    | some u => if u.write && decide (2 ≤ u.cycle) && decide (u.cycle - 2 < u.count) then popCount 16 u.mask else 0
    | none => 0

/-- A burst one edge on: the group of this edge read as the buffer stands after it, and the end of the burst. -/
def burstEdge (buffer : RowBits) (u : Burst) : Option Burst :=
  let crosses := decide (2 ≤ u.cycle) && decide (u.cycle - 2 < u.count)
  let v := if crosses && !u.write then (burstGroup buffer u (u.cycle - 2)).2 else u
  let w := { v with cycle := u.cycle + 1 }
  if (if w.write then 2 else 4) + w.count ≤ w.cycle then none else some w

/-- A landing tile after an edge. -/
def Landing.edge (l : Landing) (ports : List (Nat × Half × Bool)) : Landing :=
  let buffer := landWrites l ports
  { buffer := buffer
    cmd := l.cmd.map fun c => if c.fresh then { c with data := if c.store then buffer else c.data, fresh := false } else c
    portAddr := ports.map (·.1)
    portData := ports.map fun p => bufWord buffer p.1
    lastWrites := landWriteCount l ports
    burst := l.burst.bind (burstEdge buffer) }

/-- The word ports of a lower landing tile as sampled (03 R103): none are driven where it is not attached. -/
def State.landPorts (s : State) (r : FabNode → Bool) (island tile : Nat) : List (Nat × Half × Bool) :=
  if attOf (tileBits (s.liveOf island) tile) = 0xFF then
    (List.range 4).map fun k =>
      let p := pinsOf r island [(0xFF, tile)] 0xFF
      (p (96 * k) 7, BitVec.ofNat 16 (p (96 * k + 7) 16), decide (p (96 * k + 23) 1 = 1))
  else []

/-- The tile over a bank of its island (01 R25). -/
def tileOver (bank : Nat) : Nat := bank % 256 / 8 * 32 + bank % 8 * 4

/-- The landing tiles of an island after an edge: those attached, and those that hold anything. -/
def State.landEdge (s : State) (r : FabNode → Bool) (island : Nat) : State :=
  let listed := (s.fab.landing.map (·.1)).filter fun b => decide (b / 256 = island)
  let driven := ((s.attTiles island).filter fun p => decide (p.1 = 0xFF)).map fun p => bankUnder island p.2
  (listed ++ driven).dedup.foldl (fun (t : State) b =>
    t.setLand b ((s.land b).edge (s.landPorts r island (tileOver b)))) s

/-! ## The edge -/

/-- The ports of a sector at an edge. Every port samples what the fabric showed in the cycle the edge ends. -/
def State.portsEdge (s : State) (r : FabNode → Bool) (sector : Nat) (atts : List (Nat × Nat)) : State :=
  let pins := pinsOf r sector atts
  ((((s.engEdge pins sector atts).spEdge (pins 0x21) sector).flEdge (pins 0x23) sector).channelEdge pins sector).serialEdge
    (pins 0x2D) sector

/-- A sector's context signals at an edge: ctx_switched has had its cycle, and a running entry's dwell counts (04 R124,
R127). -/
def State.ctxEdge (s : State) (k : Nat) : State :=
  let c := s.sec k
  let runs := s.flag (F.CTX_STATUS_sched_run.ctx k) && !s.flag (F.CTX_STATUS_sched_wait.ctx k) && c.want.isNone
  s.setSec k { c with switched := false, dwell := if runs then c.dwell - 1 else c.dwell }

/-- A sector at an edge. `s` is the state the signals are taken from. -/
def State.sectorEdge (s : State) (r : FabNode → Bool) (t : State) (sector : Nat) : State :=
  let fab := { t.fab with
    ff := SMap.set [] t.fab.ff sector (s.ffEdge r sector)
    live := SMap.set [] t.fab.live sector (s.memEdge r sector) }
  let t1 := ({ t with fab := fab }.portsEdge r sector (s.attTiles sector)).ctxEdge sector
  { t1 with flt := { t1.flt with shown := SMap.set none t1.flt.shown sector none } }

/-- The oscillator inputs one edge on (03 R97): the fast count is Gray-coded. -/
def OscSync.edge (o : OscSync) (slow : Bool) (fast : Nat) : OscSync :=
  { slow1 := slow, fast1 := fast % 65536 ^^^ (fast % 65536 / 2), slow := o.slow1, fast := o.fast1 }

/-- A fabric clock edge of an island (03 R73), with the signals of the cycle before it. -/
def State.edgeWith (s : State) (r : FabNode → Bool) (island : Nat) (slow : Bool) (fast : Nat) : State :=
  let s1 := ([island, island + 48].foldl (State.sectorEdge s r) s).landEdge r island
  let s2 := { s1 with
    fab := { s1.fab with osc := SMap.set {} s1.fab.osc island ((s.oscOf island).edge slow fast) }
    vx := { s1.vx with cycles := SMap.upd 0 s1.vx.cycles island (· + 1) }
    pm := { s1.pm with woke := NSet.put s1.pm.woke island false } }
  s2.takeFree

/-- A fabric clock edge of an island (03 R73). -/
def State.fabEdge (s : State) (island : Nat) (slow : Bool) (fast : Nat) : State :=
  s.edgeWith (s.sig fabFuel) island slow fast

/-- FABRIC_CLOCK_EDGE (03 R73, R76, R93): `slow` is whether a period of the slow oscillator has ended in the cycle, and `fast`
the number of fast oscillator periods so far (03 R97). An island whose clock does not run has no edge. -/
def execFabricClockEdge (island : Nat) (slow : Bool) (fast : Nat) (s : State) : Result :=
  .next (if island < 48 ∧ s.clocked island then s.fabEdge island slow fast else s)

end Sys2Proof.Machine
end

