-- ==== Sys2Proof/Machine/ImageRead.lean ====
section
/-! DEFINITION. How an image is read (18 R459 to R468, R471 to R473, R478): frame addresses, the header, record heads, tokens,
and where the bytes come from. -/

namespace Sys2Proof.Machine

/-! ## Frame addresses (R459, R460) -/

/-- A frame address: its block type, the sector it names (for type 3 the column), the plane, the frame within the block
(for type 3 the frame number n), and the 32 bits. -/
structure FAddr where
  kind : Nat
  sector : Nat
  plane : Nat
  frame : Nat
  raw : Nat
deriving DecidableEq, Repr

/-- Frames of a block of a type. -/
def blockFrames (kind : Nat) : Nat := match kind with | 0 => 6144 | 1 => 2048 | 2 => 8192 | _ => 131072

/-- A frame address read; none where it is invalid. -/
def frameAddr (v : Nat) : Option FAddr :=
  let kind := bits v 26 23
  let plane := bits v 22 20
  let layer := bits v 19 19
  let column := bits v 18 17 * 12 + bits v 16 13
  let f := bits v 12 0
  if 2 ^ 27 ≤ v ∨ 4 ≤ kind ∨ 12 ≤ bits v 16 13 then none
  else if kind = 3 then some { kind := 3, sector := column, plane := 0, frame := layer * 2 ^ 16 + plane * 2 ^ 13 + f, raw := v }
  else if (kind ≠ 0 ∧ plane ≠ 0) ∨ blockFrames kind ≤ f then none
  else some { kind := kind, sector := layer * 48 + column, plane := plane, frame := f, raw := v }

/-- Whether a run of frames is empty or passes the last frame of its block (R465). -/
def runBad (a : FAddr) (count : Nat) : Bool := decide (count = 0) || decide (blockFrames a.kind < a.frame + count)

/-! ## The header (R461 to R463) -/

/-- A field of the image as stored. -/
def State.imgField (s : State) (start len : Nat) : Nat := fieldAt s.stu.load.image start len

def State.imgFlags (s : State) : Nat := s.imgField 12 4
def State.imgEncrypted (s : State) : Bool := bit s.imgFlags 0
def State.imgPartial (s : State) : Bool := bit s.imgFlags 1
def State.imgLimit (s : State) : Nat := 64 + s.imgField 20 4
def State.imgMapGen (s : State) : Nat := s.imgField 24 4

/-- The format version, major above minor. -/
def State.imgVersion (s : State) : Nat := s.imgField 5 1 * 256 + s.imgField 4 1

/-- Versions the device accepts (R463). -/
def versionOk (v : Nat) : Bool := decide (v / 256 = 2) || decide (v / 256 = 3 ∧ v % 256 ≤ 2)

/-- Whether a version has a record type (R463). -/
def typeInVersion (v kind : Nat) : Bool := (decide (kind ≠ 3) || decide (0x300 ≤ v)) && (decide (kind ≠ 4) || decide (0x301 ≤ v))

/-- Whether a version has a table kind (R463, R469). -/
def kindInVersion (v kind : Nat) : Bool := decide (1 ≤ kind) && decide (kind ≤ 0x11) && (decide (kind < 0x10) || decide (0x302 ≤ v))

/-- The payload key of an encrypted image (R475): none where the key store does not hold the label. -/
def State.imgKey (s : State) : Option Nat := (SMap.get none s.secu.secrets (s.imgField 28 2)).map Config.imageKey

/-- Bytes of the payload deciphered (R475): AES-256-GCM counts its 16-byte blocks from 2. -/
def gcmPlain (key iv pos : Nat) (b : List Byte) : List Byte :=
  b.zipIdx.map fun e =>
    let i := pos + e.2
    e.1 ^^^ (beBytes 16 (Config.aes256 key (iv * 2 ^ 32 + i / 16 + 2))).getD (i % 16) 0

/-- Bytes of the payload at a place as records. -/
def State.imgPlain (s : State) (pos : Nat) (b : List Byte) : List Byte :=
  if s.imgEncrypted then gcmPlain (s.imgKey.getD 0) (beNat (slice s.stu.load.image 32 12)) pos b else b

/-! ## The source (19 R494 to R497, R504) -/

/-- A byte of the embedded flash user area. -/
def State.flashByte (s : State) (a : Nat) : Byte := BitVec.ofNat 8 ((s.flashWord (a / 2)).toNat / 2 ^ (8 * (a % 2)))

/-- Bytes that a command brings, taken from the source of the load: none where the source does not hold them there; otherwise
whether the source could be read so far, and the state with them read. What an external flash or a leading device holds
is the command's to say. -/
def State.srcTake (s : State) (b : List Byte) : Option (Bool × State) :=
  let l := s.stu.load
  let a := l.addr + l.image.length
  let got := fun (t : State) =>
    { t with stu := { t.stu with load := { l with
      image := l.image ++ b, first := if l.first.isNone then some s.time.ns else l.first } } }
  match l.src with
  | 0 =>
    if s.stu.stream.take b.length = b then
      some (true, got { s with stu := { s.stu with stream := s.stu.stream.drop b.length } })
    else none
  | 1 =>
    match s.devRead 1 a b.length with
    | (some d, t) => if d = b then some (true, got t) else none
    | (none, t) => some (false, t)
  | 3 =>
    if 0x400000 < a + b.length then some (false, s)
    else if ((List.range b.length).map fun i => s.flashByte (a + i)) = b then some (true, got s) else none
  | _ => some (true, got s)

/-- Whether the source ends before a length (R462). -/
def State.srcShort (s : State) (n : Nat) : Bool :=
  match s.stu.load.avail with
  | some a => decide (a < n)
  | none => false

/-- The header's checks, in their order (R462, R463, R475, R504). -/
def State.headerCheck (s : State) : State :=
  let z := fun (start len : Nat) => decide (s.imgField start len = 0)
  let l := s.stu.load
  if s.imgField 0 4 ≠ 0x4D495A43 ∨ s.imgField 6 2 ≠ 64 ∨ s.imgField 60 4 ≠ crc32c (l.image.take 60) ∨ 4 ≤ s.imgFlags ∨ !z 30 2
      ∨ !z 44 16 ∨ s.imgField 20 4 % 4 ≠ 0 then
    s.loadFail Flt.IMG_HEADER
  else if !versionOk s.imgVersion then s.loadFail Flt.IMG_VERSION
  else if s.imgField 8 4 ≠ 0x9608 then s.loadFail Flt.IMG_PART
  else if l.running ∧ !s.imgPartial then s.loadFail Flt.STU_LOAD_REFUSED
  else if !l.running ∧ s.imgPartial then s.loadFail Flt.IMG_HEADER
  else if s.srcShort (s.imgLimit + 224) then s.loadFail Flt.IMG_HEADER
  else if s.imgEncrypted ∧ s.imgKey.isNone then s.loadFail Flt.IMG_DECRYPT
  else s

/-- The header is read (R462). -/
def State.headerRead (s : State) (b : List Byte) : State :=
  let l := s.stu.load
  if !l.active ∨ l.image ≠ [] ∨ b.length ≠ 64 then s
  else if s.srcShort 64 then s.loadFail Flt.IMG_HEADER
  else
    match s.srcTake b with
    | none => s
    | some (ok, t) =>
      let t1 := t.setFlag F.CFG_LOAD_STAT_busy true
      if ok then t1.headerCheck else t1.loadFail Flt.IMG_HEADER

/-! ## Records (R464 to R466) -/

/-- A record as read: type, flags, body without its padding, its offset in the image, and its stored length. -/
structure ImgRec where
  kind : Nat
  rflags : Nat
  body : List Byte
  off : Nat
  size : Nat
deriving DecidableEq, Repr

/-- Whether a record's frame data are tokens. -/
def ImgRec.packed (r : ImgRec) : Bool := bit r.rflags 0

/-- A 32-bit field of a body. -/
def ImgRec.word (r : ImgRec) (i : Nat) : Nat := fieldAt r.body (4 * i) 4

/-- Whether a record type carries frame data (R465). -/
def hasFrames (kind : Nat) : Bool := [1, 2, 3, 5, 6, 7].contains kind

/-- Where the frame data of a record begin, and how many frames they are. -/
def ImgRec.dataAt (r : ImgRec) : Nat × Nat :=
  match r.kind with
  | 1 => (4, 1)
  | 3 => (8 + 4 * r.word 1, r.word 0)
  | _ => (8, r.word 1)

/-- Whether a body's length is one that its type allows (R465). -/
def ImgRec.lenOk (r : ImgRec) : Bool :=
  let n := r.body.length
  if hasFrames r.kind then
    let d := r.dataAt
    decide (d.1 ≤ n) && (if r.packed then decide ((n - d.1) % 2 = 0) else decide (n = d.1 + 256 * d.2))
  else
    match r.kind with
    | 4 => decide (n = 12)
    | 8 => decide (4 ≤ n)
    | 9 => decide (n % 8 = 0)
    | 10 => decide (n = 8 + 4 * r.word 1)
    | 11 => decide (4 ≤ n) && decide (n = 4 + 4 * r.word 0)
    | 12 => true
    | _ => decide (n = 0)

/-- Whether a record stands where it may not (R466): `k` is its number, from 1. -/
def State.recMisplaced (s : State) (r : ImgRec) (k : Nat) : Bool :=
  let n := s.imgField 16 4
  decide ((r.kind = 13) ≠ (k = n)) || decide (r.kind = 13 ∧ r.off + r.size ≠ s.imgLimit) || decide (r.kind = 12 ∧ k + 1 ≠ n)
    || (if s.imgPartial then decide ((r.kind = 11) ≠ (k = 1)) else decide (r.kind = 11))

/-- Whether a record is malformed, misplaced or not in the version (R463 to R466). -/
def State.recBad (s : State) (r : ImgRec) (head : List Byte) (k : Nat) : Bool :=
  decide (r.kind = 0) || decide (13 < r.kind) || decide (2 ≤ r.rflags) || (r.packed && !hasFrames r.kind)
    || decide (fieldAt head 2 2 ≠ 0) || !r.lenOk || !typeInVersion s.imgVersion r.kind || s.recMisplaced r k

/-- A record of type `want` is read: the record and the state after it, or the state that the command answers, unchanged
where the bytes are not such a record at this place, or with the load ended. -/
def State.recordTake (s : State) (want : Nat) (b : List Byte) : Except State (ImgRec × State) :=
  let l := s.stu.load
  let off := l.image.length
  let plain := s.imgPlain (off - 64) b
  let kind := fieldAt plain 0 1
  let len := fieldAt plain 4 4
  let n := 12 + (len + 3) / 4 * 4
  if !l.active ∨ off < 64 ∨ b.length < 8 ∨ (kind ≠ want ∧ 1 ≤ kind ∧ kind ≤ 13) then .error s
  else if s.imgLimit < off + n then
    match s.srcTake (b.take 8) with
    | none => .error s
    | some (_, t) => .error (t.loadFail Flt.IMG_RECORD)
  else if b.length ≠ n then .error s
  else
    match s.srcTake b with
    | none => .error s
    | some (false, t) => .error (t.loadFail Flt.IMG_HEADER)
    | some (true, t) =>
      let r : ImgRec := { kind := kind, rflags := fieldAt plain 1 1, body := slice plain 8 len, off := off, size := n }
      let k := l.count + 1
      let t1 := { t with stu := { t.stu with load := { t.stu.load with count := k } } }
      if crc32c (plain.take (n - 4)) ≠ fieldAt plain (n - 4) 4 then .error (t1.loadFail Flt.IMG_RECORD_CRC)
      else if t1.recBad r plain k then .error (t1.loadFail Flt.IMG_RECORD)
      else .ok (r, t1)

/-- What a command of a record type does with the record it brings. -/
def State.withRecord (s : State) (want : Nat) (b : List Byte) (f : ImgRec → State → State) : State :=
  match s.recordTake want b with
  | .error t => t
  | .ok (r, t) => f r t

/-- A record of a partial load held in the 4 MiB staging buffer (R477); `keep` says whether it is applied later. -/
def State.holdRecord (s : State) (r : ImgRec) (keep : Bool) : State :=
  let l := s.stu.load
  if 0x400000 < l.held + r.size then s.loadFail Flt.IMG_STAGE_FULL
  else
    let body := BitVec.ofNat 8 r.kind :: BitVec.ofNat 8 r.rflags :: r.body
    { s with stu := { s.stu with load := { l with held := l.held + r.size, kept := if keep then l.kept ++ [(r.off, body)] else l.kept } } }

/-- A kept record read back. -/
def keptRec (e : Nat × List Byte) : ImgRec :=
  { kind := fieldAt e.2 0 1, rflags := fieldAt e.2 1 1, body := e.2.drop 2, off := e.1, size := 0 }

/-! ## Tokens (R467, R468) -/

/-- One more word copied from the frame before, 128 words back; `out` holds the words decoded, newest first. -/
def copyWords : Nat → List Nat → List Nat
  | 0, out => out
  | n + 1, out => copyWords n (out.getD 127 0 :: out)

/-- A token stream decoded: `lit` words of a literal are still to come; `out` holds the words decoded, newest first, `len`
of them. None where the stream is bad. -/
def tokenWords : List Nat → Nat → List Nat → Nat → Option (List Nat)
  | [], 0, out, _ => some out
  | [], _ + 1, _, _ => none
  | w :: l, lit + 1, out, len => tokenWords l lit (w :: out) (len + 1)
  | w :: l, 0, out, len =>
    let n := w % 2 ^ 14 + 1
    match w / 2 ^ 14 with
    | 0 => tokenWords l n out len
    | 1 => tokenWords l 0 (List.replicate n 0 ++ out) (len + n)
    | 2 => if len < 128 then none else tokenWords l 0 (copyWords n out) (len + n)
    | _ => none

/-- The 16-bit words of bytes. -/
def wordsOfBytes (b : List Byte) : List Nat := (List.range (b.length / 2)).map fun i => fieldAt b (2 * i) 2

/-- The frames of a record's frame data; none where its tokens are bad. -/
def ImgRec.frames (r : ImgRec) : Option (List RowBits) :=
  let d := r.dataAt
  let data := r.body.drop d.1
  if r.packed then
    match tokenWords (wordsOfBytes data) 0 [] 0 with
    | none => none
    | some out =>
      let ws := out.reverse
      if ws.length ≠ 128 * d.2 then none
      else some ((List.range d.2).map fun i => BitVec.ofNat 2048 (ungroups 16 ((ws.drop (128 * i)).take 128)))
  else some ((List.range d.2).map fun i => BitVec.ofNat 2048 (fieldAt data (256 * i) 256))

/-! ## Frames written (R460, R465, R480) -/

/-- A frame written where its address says; `f` is the frame in its block. A fabric frame is noted for its signature, and
an engine that gets a program is noted. -/
def State.putFrame (s : State) (kind sector plane f : Nat) (v : RowBits) : State :=
  match kind with
  | 0 =>
    let s1 := s.setPlane sector plane (SMap.set 0 (s.plane sector plane) f v)
    let l := s1.stu.load
    let key := sector * 8 + plane
    { s1 with stu := { s1.stu with load := { l with
      planes := NSet.put l.planes key true, written := SMap.set 0 l.written (key * 6144 + f) (crc32 (leBytes 256 v.toNat) + 1) } } }
  | 1 =>
    let e := sector * 128 + f / 16
    let s1 := s.updEngine e fun g =>
      { g with pmem := (List.range 64).foldl (fun m k => SMap.set 0 m (64 * (f % 16) + k) (pmemCode (v.toNat / 2 ^ (32 * k)))) g.pmem }
    { s1 with stu := { s1.stu with load := { s1.stu.load with programs := NSet.put s1.stu.load.programs e true } } }
  | 2 =>
    s.updEngine (sector * 128 + f / 64) fun g =>
      { g with dmem := (List.range 64).foldl (fun m k => SMap.set 0 m (64 * (f % 64) + k) (dmemCode (v.toNat / 2 ^ (32 * k)))) g.dmem }
  | _ => s.writeRow (sector * 256 + f / 512) (f % 512) v

/-- The staged latches that hold a plane become stale at the first write of a partial load to it (R479, 04 R135). -/
def State.stagedStale (s : State) (k p : Nat) : State :=
  if s.stagedValid k p then (s.setFld (F.CTX_STATUS_staged_state.ctx k) 3).raise Flt.CTX_STAGE_STALE else s

/-- A run of frames written. -/
def State.putRun (s : State) (a : FAddr) (fs : List RowBits) : State :=
  let s0 := if s.stu.load.running ∧ a.kind = 0 then s.stagedStale a.sector a.plane else s
  fs.zipIdx.foldl (fun (t : State) e => t.putFrame a.kind a.sector a.plane (a.frame + e.2) e.1) s0

/-- Whether a frame address lies in the region of the partial image (R480). -/
def State.inRegion (s : State) (a : FAddr) : Bool :=
  (s.stu.load.region.getD []).any fun e => decide (e.1 = a.sector) && (decide (a.kind ≠ 0) || bit e.2 a.plane)

/-- The addresses of a frame record (R465). -/
def ImgRec.addrs (r : ImgRec) : List Nat := if r.kind = 3 then (List.range (r.word 1)).map fun i => r.word (2 + i) else [r.word 0]

/-- How many frames each address starts, as the record says it. -/
def ImgRec.count (r : ImgRec) : Nat := if r.kind = 1 then 1 else if r.kind = 3 then r.word 0 else r.word 1

/-- The block types a record takes (R465). -/
def kindsOf (rec : Nat) : List Nat :=
  match rec with
  | 3 => [0, 1, 2]
  | 4 => [0, 1, 2, 3]
  | 5 => [1]
  | 6 => [2]
  | 7 => [3]
  | _ => [0]

/-- The frames a record writes: as decoded, or for FILL its pattern 64 times over in each. -/
def ImgRec.content (r : ImgRec) : Option (List RowBits) :=
  if r.kind = 4 then some (List.replicate r.count (BitVec.ofNat 2048 (ungroups 32 (List.replicate 64 (r.word 2))))) else r.frames

/-- The runs of a frame record; none where an address or a run is invalid (R465). -/
def ImgRec.runs (r : ImgRec) : Option (List FAddr) :=
  let l := r.addrs.map frameAddr
  match l with
  | some a :: _ =>
    if l.all fun x =>
      match x with
      | some y => decide (y.kind = a.kind) && (kindsOf r.kind).contains y.kind && !runBad y r.count
      | none => false
    then some (l.filterMap id) else none
  | _ => none

/-- The frames of a record written at every address. -/
def State.putRecord (s : State) (runs : List FAddr) (fs : List RowBits) : State :=
  runs.foldl (fun (t : State) a => t.putRun a fs) s

/-- A frame record (R465 to R468, R476, R477, R480): its addresses, its region, its tokens, then its frames, which a partial
image writes only to planes and holds for the rest. -/
def State.frameRecord (r : ImgRec) (s : State) : State :=
  match r.runs with
  | none => s.loadFail Flt.IMG_ADDRESS
  | some runs =>
    match if s.stu.load.running then runs.find? (fun a => !s.inRegion a) else none with
    | some a => s.loadFail Flt.IMG_REGION (loc32 r.off ++ loc32 a.raw)
    | none =>
      match r.content with
      | none => s.loadFail Flt.IMG_TOKEN
      | some fs =>
        if s.stu.load.running ∧ (runs.any fun a => decide (a.kind ≠ 0)) then s.holdRecord r true else s.putRecord runs fs

end Sys2Proof.Machine
end

