-- ==== Sys2Proof/Machine/ImageTables.lean ====
section
/-! DEFINITION. The tables of an image (18 R469, R470, R493; 05 R145; 06 R170): their form, their checks, and what each does
when it takes effect. -/

namespace Sys2Proof.Machine

/-! ## Form (R469) -/

/-- The size of a table in bytes. -/
def tableSize (kind : Nat) : Nat :=
  match kind with
  | 0x01 => 16
  | 0x02 => 256
  | 0x03 => 1088
  | 0x04 => 196
  | 0x05 => 12
  | 0x06 => 256
  | 0x07 => 24
  | 0x08 => 132
  | 0x09 => 24
  | 0x0A => 16
  | 0x0B => 64
  | 0x0C => 80
  | 0x0D => 64
  | 0x0E => 64
  | 0x0F => 20
  | 0x10 => 12
  | _ => 64

/-- Whether a scope lies in range. -/
def scopeOk (kind scope : Nat) : Bool :=
  match kind with
  | 0x01 => decide (scope < 96)
  | 0x02 => decide (scope < 96)
  | 0x03 => decide (scope < 48)
  | 0x05 => decide (scope < 64)
  | 0x06 => decide (scope < 64)
  | 0x07 => decide (scope < 4096)
  | 0x08 => decide (scope < 128) && decide (scope % 32 < 28)
  | 0x09 => decide (scope < 4096)
  | 0x0F => decide (scope < 32)
  | 0x10 => decide (scope < 12)
  | _ => decide (scope = 0)

/-- The registers that the words of a table name, in order. -/
def tableRegs (kind scope : Nat) : List Nat :=
  let run := fun (base n : Nat) => (List.range n).map fun i => base + 4 * i
  match kind with
  | 0x02 => run (R.CTX_SCHED_NEXT + 0x1000 * scope) 64
  | 0x03 => run R.MEM_BANK_CFG 256 ++ run R.MI_CODE 16
  | 0x04 => R.MEM_ROW_BURST :: run R.MEM_ROW_SHARE 48
  | 0x05 => [R.NOC_LINK_CFG, R.NOC_WEIGHT0, R.NOC_WEIGHT1]
  | 0x06 => run R.NOC_CAL 64
  | 0x07 => [R.QM_Q_CFG0, R.QM_Q_CFG1, R.QM_Q_CFG2, R.QM_Q_CFG3, R.QM_Q_CFG4, R.QM_Q_CFG5]
  | 0x08 => R.QM_PORT_CFG :: run R.QM_PORT_CAL 32
  | 0x09 => [R.QM_CT_RATE, R.QM_CT_BURST, R.QM_CT_PKT, R.QM_CT_OP, R.QM_CT_ISL_LO, R.QM_CT_ISL_HI]
  | 0x0B => run R.TH_CURVE 16
  | 0x0C => (List.range 5).flatMap fun n => [R.TH_BAND_A + 16 * n, R.TH_BAND_B + 16 * n, R.TH_BAND_C + 16 * n, 0]
  | 0x0D => (List.range 8).flatMap fun n => [R.CLK_OP_A + 4 * n, R.CLK_OP_B + 4 * n]
  | 0x0F => [R.MEE_REG_BASE, R.MEE_REG_LIMIT, R.MEE_REG_CFG, R.MEE_REG_RIGHTS]
  | 0x10 => [R.GR_CAL_LO, R.GR_CAL_HI, R.GR_VC0_MAX]
  | 0x11 => run R.NOC_GROVE_ROUTE 16
  | _ => []

/-- The copy of those registers. -/
def tableInst (kind scope : Nat) : Nat := if [0x03, 0x05, 0x06, 0x07, 0x08, 0x09, 0x0F, 0x10].contains kind then scope else 0

/-- A word of a table. -/
def tw (b : List Byte) (i : Nat) : Nat := fieldAt b (4 * i) 4

/-- The bits of a register that a table may set; none for offset 0, which stands for a reserved word. -/
def settable (off : Nat) : Nat :=
  if off = 0 then 0
  else
    match findReg off with
    | some (d, _) => accMask d fun a => decide (a ≠ .ro)
    | none => 0

/-- Whether a value sets no bit outside a mask. -/
def fitsMask (v mask : Nat) : Bool := decide (v &&& mask = v)

/-- Whether every field of a table lies in the range its register allows. -/
def fieldsOk (kind scope : Nat) (b : List Byte) : Bool :=
  (((tableRegs kind scope).zipIdx).all fun e => fitsMask (tw b e.2) (settable e.1)) &&
    (match kind with
     | 0x01 =>
       decide (fieldAt b 0 1 ≤ 7) && (decide (fieldAt b 1 1 ≤ 7) || decide (fieldAt b 1 1 = 0xFF)) && decide (fieldAt b 2 2 ≤ 1)
         && fitsMask (tw b 1) (settable R.CTX_CTRL) && decide (tw b 3 = 0)
     | 0x0A => decide (fieldAt b 6 10 < 2 ^ 36)
     | 0x0E => (List.range 16).all fun i => decide (fieldAt b (4 * i + 1) 1 = 0)
     | 0x0F => decide (tw b 4 ≤ 1)
     | _ => true)

/-- Whether a table's form is good. -/
def tableOk (kind scope : Nat) (b : List Byte) : Bool :=
  decide (b.length = tableSize kind) && scopeOk kind scope && fieldsOk kind scope b

/-! ## The checks of a memory layout (05 R143 to R145, R163; 06 R170) -/

/-- The size of the set a bank's word names. -/
def setSize (w : Nat) : Nat := match bits w 15 14 with | 1 => 4 | 2 => 8 | _ => 0

/-- The class a bank's word names: 4 to 7 are 3. -/
def classOfWord (w : Nat) : Nat := min 3 (bits w 11 9)

/-- Whether the set layout of a column fails: `cfg` is the MEM_BANK_CFG word of each bank. -/
def setBad (cfg : Nat → Nat) : Bool :=
  (List.range 256).any fun b =>
    let n := setSize (cfg b)
    if n = 0 then decide (classOfWord (cfg b) = 2)
    else
      let first := b - b % n
      decide (b < 8) || decide (classOfWord (cfg b) = 0)
        || (List.range n).any fun j => decide (setSize (cfg (first + j)) ≠ n) || decide (classOfWord (cfg (first + j)) ≠ classOfWord (cfg b))

/-- Whether the banks of a set of a column have different codes. -/
def codeBad (cfg : Nat → Nat) (code : Nat → Nat) : Bool :=
  (List.range 256).any fun b =>
    let n := setSize (cfg b)
    decide (n ≠ 0) && (List.range n).any fun j => decide (code (b - b % n + j) ≠ code b)

/-- The code that MI_CODE words name for a bank: 3 is 0. -/
def codeIn (w : Nat → Nat) (bank : Nat) : Nat :=
  let c := bits (w (bank / 16)) (2 * (bank % 16) + 1) (2 * (bank % 16))
  if c = 3 then 0 else c

/-- The first check that the layout of a column fails, given its words and its codes. -/
def State.layoutFault (s : State) (col : Nat) (cfg code : Nat → Nat) : Option FaultCode :=
  let near := (List.range 12).map fun j =>
    let c := col / 12 * 12 + j
    ((List.range 256).filter fun b =>
      decide (classOfWord (if c = col then cfg b else (s.reg (R.MEM_BANK_CFG + 4 * b) c).toNat) = 2)).length
  if setBad cfg then some Flt.MEM_SET_INVALID
  else if 2048 < near.sum then some Flt.MEM_NEAR_LIMIT
  else if codeBad cfg code then some Flt.MI_CODE_INVALID
  else none

/-- The check of a memory-layout table. -/
def State.layoutTableFault (s : State) (col : Nat) (b : List Byte) : Option FaultCode :=
  s.layoutFault col (tw b) (codeIn fun m => tw b (256 + m))

/-- The check of a column's layout as it stands. -/
def State.columnFault (s : State) (col : Nat) : Option FaultCode :=
  s.layoutFault col (fun b => (s.reg (R.MEM_BANK_CFG + 4 * b) col).toNat) (codeIn fun m => (s.reg (R.MI_CODE + 4 * m) col).toNat)

/-- A memory-layout table takes effect on a stopped column: banks whose code changes are filled (06 R186). -/
def State.layoutApply (s : State) (col : Nat) (b : List Byte) : State :=
  let s1 := ((tableRegs 0x03 col).zipIdx).foldl (fun (t : State) e => t.setReg e.1 (BitVec.ofNat 32 (tw b e.2)) col) s
  (List.range 256).foldl (fun (t : State) j =>
    if s.codeOf (col * 256 + j) = s1.codeOf (col * 256 + j) then t else t.zeroBank (col * 256 + j)) s1

/-! ## Other checks -/

/-- The start-up sequence of a table of kind 0x0E: its steps up to the last that is not all zero. -/
def seqOf (b : List Byte) : List (Nat × Nat) :=
  let l := (List.range 16).map fun i => (fieldAt b (4 * i) 1, fieldAt b (4 * i + 2) 2)
  (l.reverse.dropWhile fun e => decide (e = (0, 0))).reverse

/-- Whether a start-up sequence fails its check (19 R493). -/
def seqBad (l : List (Nat × Nat)) : Bool :=
  let ops := l.map fun e => e.1
  let at' := fun (op : Nat) => ops.idxOf op
  ((List.range 5).any fun i => decide (ops.count (i + 1) ≠ 1)) || (ops.any fun o => decide (5 < o) || decide (o = 0))
    || decide (at' 2 < at' 1) || decide (at' 4 < at' 1) || decide (at' 3 < at' 2) || decide (at' 5 + 1 ≠ ops.length)

/-- The default order (19 R492). -/
def defaultSeq : List (Nat × Nat) := [(1, 0), (2, 0), (3, 0), (4, 0), (5, 0)]

/-! ## What a table does (R470) -/

/-- A value written to a register as firmware writes it. -/
def State.fwWrite (s : State) (off inst v : Nat) : State :=
  match findReg off with
  | some (d, _) => s.writeFields off inst d v
  | none => s

/-- The words of a table written to their registers. -/
def State.tableWrites (s : State) (kind scope : Nat) (b : List Byte) : State :=
  ((tableRegs kind scope).zipIdx).foldl (fun (t : State) e => if e.1 = 0 then t else t.fwWrite e.1 (tableInst kind scope) (tw b e.2)) s

/-- A commit after its checks: at once while the device is not released, otherwise at its safe point. -/
def State.tableCommit (s : State) (base group : Nat) : State :=
  let s1 := s.commitWaits base group
  if s.stu.released then s1 else s1.safePoint base group

/-- A table of guaranteed marking written (22 R548). -/
def State.guarTable (s : State) (b : List Byte) : State :=
  (((s.fwWrite R.PM_GUAR_ISL_LO 0 (fieldAt b 0 4)).fwWrite R.PM_GUAR_ISL_HI 0 (fieldAt b 4 2)).fwWrite R.PM_GUAR_BLK_LO 0
    (fieldAt b 6 4)).fwWrite R.PM_GUAR_BLK_HI 0 (fieldAt b 10 6)

/-- A table takes effect; none where a check fails. `wb` gives the wb_mask that a sector's schedule is checked with (04
R130). Sector-start and memory-layout tables act elsewhere. -/
def State.tableApply (s : State) (wb : Nat → Nat) (kind scope : Nat) (b : List Byte) : Option State :=
  let s1 := s.tableWrites kind scope b
  let orFail := fun (bad : Bool) (t : State) => if bad then none else some t
  match kind with
  | 0x02 =>
    let entry := fun (i : Nat) => tw b i
    match schedCheck entry (s.planeLoaded scope) (wb scope) with
    | some _ => none
    | none =>
      if s1.flag (F.CTX_STATUS_sched_run.ctx scope) then
        some ((s1.setFlag (F.CTX_BLK_COMMIT_grp0.ctx scope) true).setSec scope { s1.sec scope with nextWaits := true })
      else some (s1.takeTable scope)
  | 0x04 => orFail s1.shareBad (s1.tableCommit 0x900000 0)
  | 0x05 => orFail s1.nocCalBad.isSome (s1.tableCommit 0xC00000 0)
  | 0x06 =>
    orFail (s1.nocCalBad.isSome || (decide (s1.committed ≠ []) && s1.nocCalTaken)) (s1.tableCommit 0xC00000 0)
  | 0x07 =>
    let s2 := ((List.range 5).foldl (fun (t : State) i => t.fwWrite (R.QM_Q_CFG0 + 4 * (i + 1)) scope (tw b (i + 1))) s)
    let s3 := (s2.levelJudge scope (s.qDepth scope) (s.fld F.QM_Q_CFG4_level scope)).queueWrite scope (tw b 0)
    orFail (bit (tw b 0) 31 && !s3.flag F.QM_Q_CFG0_en scope) s3
  | 0x08 => orFail (s1.portCalBad || s1.portCalTaken) (s1.tableCommit 0xD00000 0)
  | 0x09 => orFail (decide (s1.ctCheck scope ≠ 0)) (s1.contractCommit scope)
  | 0x0A => some (s.guarTable b)
  | 0x0B => orFail (curveBad s1.curveStaged) (if s.stu.released then s1.commitWaits thBase 0 else s1.thCommit0)
  | 0x0C => orFail (curveBad s1.curveStaged) (if s.stu.released then s1.commitWaits thBase 0 else s1.thCommit0)
  | 0x0D => orFail (opTableBad s1.opStaged) (if s1.seqBusy then s1.commitWaits clkBase 0 else s1.opCommit)
  | 0x0E => orFail (seqBad (seqOf b)) s
  | 0x0F =>
    let s2 := ((s.fwWrite R.MEE_REG_BASE scope (tw b 0)).fwWrite R.MEE_REG_LIMIT scope (tw b 1)).fwWrite R.MEE_REG_RIGHTS scope (tw b 3)
    let s3 := match findReg R.MEE_REG_CFG with
      | some (d, _) => s2.regionWrite scope d (tw b 2)
      | none => s2
    let s4 := s3.tableCommit 0x1000000 0
    let fill := bit (tw b 4) 0 && !s.stu.released
    orFail (bit (tw b 2) 31 && !s3.regEn scope)
      { s4 with stu := { s4.stu with fills := NSet.put s4.stu.fills scope (fill || NSet.has s4.stu.fills scope) } }
  | 0x10 => orFail (s1.grCalBad || s1.grCalTaken) (s1.tableCommit 0x1200000 0)
  | 0x11 => some (s1.tableCommit 0xC00000 2)
  | _ => some s

/-- The order in which the tables of a full image take effect: stopped blocks first, commit groups last, contracts after
the queues and calendars they rest on, schedules last. -/
def tableOrder : List Nat :=
  [0x0E, 0x0A, 0x05, 0x07, 0x0F, 0x0B, 0x0C, 0x0D, 0x04, 0x06, 0x08, 0x10, 0x11, 0x09, 0x02]

/-- A table of an image: its kind, scope and contents. -/
structure ImgTable where
  kind : Nat
  scope : Nat
  data : List Byte
deriving DecidableEq, Repr

/-- A TABLE record's table. -/
def ImgRec.table (r : ImgRec) : ImgTable := { kind := fieldAt r.body 0 2, scope := fieldAt r.body 2 2, data := r.body.drop 4 }

/-- The tables of the kept records; a later one of the same kind and scope replaces an earlier one. -/
def State.imgTables (s : State) : List ImgTable :=
  let l := (s.stu.load.kept.map keptRec).filterMap fun r => if r.kind = 8 then some r.table else none
  l.foldr (fun t acc => if acc.any fun x => decide (x.kind = t.kind) && decide (x.scope = t.scope) then acc else t :: acc) []

/-- Tables applied in turn: the state, or the table whose check fails. -/
def State.tablesApply (s : State) (wb : Nat → Nat) : List ImgTable → Except ImgTable State
  | [] => .ok s
  | t :: l =>
    match s.tableApply wb t.kind t.scope t.data with
    | some s1 => s1.tablesApply wb l
    | none => .error t

end Sys2Proof.Machine
end

