-- ==== Sys2Proof/Machine/Images.lean ====
section
/-! DEFINITION. The records of an image and its acceptance (18 R465 to R482): full images in the start-up, partial images while
the device runs. -/

namespace Sys2Proof.Machine

/-! ## Tables, register writes, signatures, regions, chains -/

/-- A TABLE record (R469, R470, R480). -/
def State.tableRead (r : ImgRec) (s : State) : State :=
  let t := r.table
  let region := s.stu.load.region.getD []
  if !kindInVersion s.imgVersion t.kind then s.loadFail Flt.IMG_RECORD
  else if !tableOk t.kind t.scope t.data then s.loadFail Flt.IMG_TABLE [t.kind, t.scope]
  else if s.stu.load.running then
    if (t.kind = 1 ∨ t.kind = 2) ∧ !(region.any fun e => decide (e.1 = t.scope)) then s.loadFail Flt.IMG_REGION (loc32 r.off)
    else s.holdRecord r true
  else if t.kind = 3 then
    match s.layoutTableFault t.scope t.data with
    | some f => s.loadFail f
    | none => s.layoutApply t.scope t.data
  else
    let l := s.stu.load
    let body := BitVec.ofNat 8 r.kind :: BitVec.ofNat 8 r.rflags :: r.body
    { s with stu := { s.stu with load := { l with kept := l.kept ++ [(r.off, body)] } } }

/-- The pairs of a CSR record. -/
def ImgRec.pairs (r : ImgRec) : List (Nat × Nat) := (List.range (r.body.length / 8)).map fun i => (r.word (2 * i), r.word (2 * i + 1))

/-- Register writes in order. -/
def State.csrWrites (s : State) (l : List (Nat × Nat)) : State := l.foldl (fun (t : State) e => t.csrWrite e.1 e.2) s

/-- A CSR record (R471). -/
def State.csrRun (r : ImgRec) (s : State) : State :=
  if r.pairs.any fun e => decide (e.1 % 4 ≠ 0) || decide (0x10000000 ≤ e.1) then s.loadFail Flt.IMG_RECORD
  else if s.stu.load.running then s.holdRecord r true
  else s.csrWrites r.pairs

/-- A SIGNATURES record (R472). -/
def State.signaturesRead (r : ImgRec) (s : State) : State :=
  match r.runs with
  | some (a :: _) =>
    let sup := (List.range r.count).foldl (fun m i =>
      SMap.set 0 m ((a.sector * 8 + a.plane) * 6144 + a.frame + i) (r.word (2 + i) + 1)) s.stu.load.supplied
    let s1 := { s with stu := { s.stu with load := { s.stu.load with supplied := sup } } }
    if s.stu.load.running then s1.holdRecord r false else s1
  | _ => s.loadFail Flt.IMG_ADDRESS

/-- A REGION record (R478, R479). -/
def State.regionRead (r : ImgRec) (s : State) : State :=
  let es := (List.range (r.word 0)).map fun i => r.word (1 + i)
  let region := es.map fun e => (bits e 6 0, bits e 15 8)
  let ks := region.map fun e => e.1
  if es.any fun e => bit e 7 || decide (2 ^ 16 ≤ e) then s.loadFail Flt.IMG_RECORD
  else if (ks.any fun k => decide (96 ≤ k) || decide (1 < ks.count k))
      || (region.any fun e => decide (s.livePlane e.1 < 8) && bit e.2 (s.livePlane e.1)) then
    s.loadFail Flt.IMG_REGION
  else
    let s1 := { s with stu := { s.stu with load := { s.stu.load with region := some region } } }
    s1.regionUnload.holdRecord r false

/-- Whether a channel is in training: a CHAIN waits for its end (19 R502). -/
def State.training (s : State) : Bool := (List.range 16).any fun c => decide (s.lpState c = 1)

/-- Bytes written to LPDDR6 from DRAM-window address 0 with no region applied (19 R502). -/
def State.chainBuffer (s : State) (b : List Byte) : State :=
  (List.range ((b.length + 63) / 64)).foldl (fun (t : State) i => t.writeLine (64 * i) (encodeE (BitVec.ofNat 512 (fieldAt b (64 * i) 64)))) s

/-- A CHAIN record (R482, 19 R502): its body is buffered for the next device. A partial image's is held and goes no further:
the path to the buffer has closed. -/
def State.chainRead (r : ImgRec) (s : State) : State :=
  if s.stu.load.running then s.holdRecord r false
  else ({ s with stu := { s.stu with chain := { body := r.body } } }).chainBuffer r.body

/-! ## The checks at the end of the payload (R472 to R475) -/

/-- The check of the authentication block (R473, R474). -/
def State.authOk (s : State) (auth : List Byte) : Bool :=
  let slot := fieldAt auth 4 1
  let key := slice auth 8 97
  let z := fun (start len : Nat) => decide (fieldAt auth start len = 0)
  let signed := s.stu.load.image.take s.imgLimit ++ auth.take 128
  decide (fieldAt auth 0 4 = 0x55415A43) && decide (slot < 4) && z 5 3 && z 105 7 && NSet.has s.secu.slotProg slot
    && !NSet.has s.secu.slotRev slot && decide (Config.sha384 key % 2 ^ 384 = SMap.get 0 s.secu.slotHash slot)
    && Config.ecdsaVerify key (beNat (slice auth 128 48)) (beNat (slice auth 176 48)) (Config.sha384 signed)

/-- The check of the GCM tag (R475). -/
def State.tagOk (s : State) (auth : List Byte) : Bool :=
  let img := s.stu.load.image
  !s.imgEncrypted || decide (fieldAt auth 112 16
    = Config.gcmTag (s.imgKey.getD 0) (beNat (slice img 32 12)) (img.take 64) (slice img 64 (s.imgLimit - 64)) % 2 ^ 128)

/-- The check of the golden signatures (R472). -/
def State.goldenFault (s : State) : Option FaultCode :=
  let l := s.stu.load
  if l.supplied.any fun e => decide (SMap.get 0 l.written e.1 = 0) then some Flt.IMG_ADDRESS
  else if l.supplied.any fun e => decide (SMap.get 0 l.written e.1 ≠ e.2) then some Flt.IMG_SIGNATURE
  else none

/-- The first of these checks that fails. -/
def State.endFault (s : State) (auth : List Byte) : Option FaultCode :=
  if !s.authOk auth then some Flt.IMG_AUTH else if !s.tagOk auth then some Flt.IMG_DECRYPT else s.goldenFault

/-! ## Planes taken into the configuration (R470, R476, R481; 02 R54, R58; 05 R150) -/

/-- A sector-start table (R469). -/
structure StartTable where
  sector : Nat
  live : Nat
  staged : Option Nat
  start : Bool
  ctrl : Nat
  tick : Nat
deriving DecidableEq, Repr

/-- The sector-start tables among the tables of an image. -/
def startTables (l : List ImgTable) : List StartTable :=
  (l.filter fun t => decide (t.kind = 1)).map fun t =>
    { sector := t.scope, live := fieldAt t.data 0 1, staged := if fieldAt t.data 1 1 = 0xFF then none else some (fieldAt t.data 1 1)
      start := bit (fieldAt t.data 2 1) 0, ctrl := tw t.data 1, tick := tw t.data 2 }

/-- The start table of a sector. -/
def startOf (l : List StartTable) (k : Nat) : Option StartTable := l.find? fun t => decide (t.sector = k)

/-- The wb_mask that a sector's schedule table is checked with: the image's own, or the one in force. -/
def State.wbOf (s : State) (l : List StartTable) (k : Nat) : Nat :=
  match startOf l k with
  | some t => bits t.ctrl 31 24
  | none => s.fld (F.CTX_CTRL_wb_mask.ctx k)

/-- The fault of a plane that is not stored: it uses a dead resource, or fails its owner check (02 R54, R56, R58; 05 R150). -/
def State.planeFault (s : State) (k p : Nat) : Option FaultEntry :=
  let fr := s.plane k p
  if (s.path k).dead || s.usesDead k fr then some Flt.VX_PLANE_DEAD_WIRE.entry
  else (s.ownerFail k fr).map fun t => Flt.MEM_OWNER_CONFLICT.entry [k, t, bankUnder k t]

/-- The planes the image writes that are not stored, with their faults. -/
def State.badPlanes (s : State) : List (Nat × FaultEntry) :=
  (NSet.members s.stu.load.planes).filterMap fun key => (s.planeFault (key / 8) (key % 8)).map fun f => (key, f)

/-- Those planes' faults recorded, and the planes counted as not written. -/
def State.planesDrop (s : State) (bad : List (Nat × FaultEntry)) : State :=
  let s1 := bad.foldl (fun (t : State) e => t.raiseGroup [e.2]) s
  { s1 with stu := { s1.stu with load := { s1.stu.load with
    planes := SMap.clear s1.stu.load.planes fun k => bad.any fun e => decide (e.1 = k) } } }

/-- The scan signatures of the frames of every tile the image writes (20 R507). -/
def State.imageSigs (s : State) : State :=
  let tiles := ((s.stu.load.written.map fun e => e.1 / 6).dedup)
  tiles.foldl (fun (t : State) n =>
    let key := n / 1024
    let fr := t.plane (key / 8) (key % 8)
    (List.range 6).foldl (fun (u : State) i =>
      let f := n % 1024 * 6 + i
      u.setScanSig (key / 8) (key % 8) f (frameSig (frameMask fr f) (frame fr f).toNat)) t) s

/-- A plane marked loaded, with its mem_frames (04 R113, R117). -/
def State.planeLoad (s : State) (k p : Nat) : State :=
  let s1 := (s.setFlag ((F.CTX_PLANE_INFO_loaded.nth p).ctx k) true).setFld ((F.CTX_PLANE_INFO_mem_frames.nth p).ctx k)
    (memFrames (s.plane k p))
  s1.setFld F.CI_SEC_STAT_plane_bad (putBit (s1.fld F.CI_SEC_STAT_plane_bad k) p false) k

/-- The faults of a start-up context against contexts of the partner sector (02 R88; 03 R86, R104). -/
def startFaults (k p : Nat) (fr : Frames) (others : List Frames) : List FaultEntry :=
  let z := others.flatMap (zCheck fr)
  let first := fun (f : FaultCode) => (z.filter fun x => decide (x.1 = f)).head?
  ((first Flt.FAB_DOUBLE_DRIVER).toList ++ (first Flt.FAB_LANDING_MISMATCH).toList).map
      (fun x => x.1.entry [k * 8 + p, islandOf k, x.2.1, x.2.2])
    ++ (attachFail k fr).toList.map fun t => Flt.FAB_ATTACH_INVALID.entry [k * 8 + p, t]

/-- The start-up contexts of a sector that are stored: plane and frames. -/
def State.startContexts (s : State) (l : List StartTable) (k : Nat) : List (Nat × Frames) :=
  match startOf l k with
  | some t =>
    let st := match t.staged with
      | some p => if s.planeLoaded k p || NSet.has s.stu.load.planes (k * 8 + p) then [(p, s.plane k p)] else []
      | none => []
    (t.live, s.plane k t.live) :: st
  | none => []

/-- The failures of R88 over the sectors of an image's start tables; a sector of a full image without one has all-zero
live latches, and in a partial image an island is judged when both its sectors are named. -/
def State.startPairs (s : State) (l : List StartTable) (full : Bool) : List FaultEntry :=
  l.flatMap fun t =>
    let q := partner t.sector
    let others := (s.startContexts l q).map fun c => c.2
    if !full ∧ others = [] then (s.startContexts l t.sector).flatMap fun c => startFaults t.sector c.1 c.2 []
    else (s.startContexts l t.sector).flatMap fun c => startFaults t.sector c.1 c.2 (if others = [] then [[]] else others)

/-- The first sector-start table that names a plane which is not loaded (R470), or starts a schedule without a table (04
R129). A staged plane that was not stored leaves the staged latches empty (02 R54). -/
def State.startBad (s : State) (starts : List StartTable) (tables : List ImgTable) (bad : List (Nat × FaultEntry)) : Option Nat :=
  let ok := fun (k p : Nat) => NSet.has s.stu.load.planes (k * 8 + p)
    || (s.stu.load.running && s.planeLoaded k p
        && !((s.stu.load.region.getD []).any fun e => decide (e.1 = k) && bit e.2 p))
  (starts.find? fun t =>
    !ok t.sector t.live
      || (match t.staged with
          | some p => !ok t.sector p && !(bad.any fun e => decide (e.1 = t.sector * 8 + p))
          | none => false)
      || (t.start && !(tables.any fun x => decide (x.kind = 2) && decide (x.scope = t.sector)))).map fun t => t.sector

/-! ## A full image (R476) -/

/-- A sector-start table of a full image: live and staged latches, CTX_CTRL and CTX_TICK, and the schedule to start. -/
def State.startFull (s : State) (t : StartTable) : State :=
  let k := t.sector
  let s1 := (s.setLive k (s.plane k t.live)).setFld (F.CTX_STATUS_live_plane.ctx k) t.live
  let s2 := s1.setSec k { s1.sec k with live := true }
  let s3 := match t.staged with
    | some p =>
      if s2.planeLoaded k p then
        ((s2.setStaged k (s2.plane k p)).setFld (F.CTX_STATUS_staged_plane.ctx k) p).setFld (F.CTX_STATUS_staged_state.ctx k) 1
      else s2
    | none => s2
  let s4 := ((s3.setReg (R.CTX_CTRL + 0x1000 * k) (BitVec.ofNat 32 t.ctrl)).setReg (R.CTX_TICK + 0x1000 * k)
    (BitVec.ofNat 32 t.tick)).wbLimit k
  { s4 with stu := { s4.stu with starts := NSet.put s4.stu.starts k t.start } }

/-- What is loaded when an image is: the location of IMG_LOADED is full or partial and map_gen (R483). -/
def State.imgLoaded (s : State) (part gen : Nat) : State := s.raise Flt.IMG_LOADED (part :: loc32 gen)

/-- The full image becomes the device's configuration, and the slot that authenticated it is in use (R476, 19 R491 stage 4; 24
R615). -/
def State.fullAccept (s : State) (tables : List ImgTable) (starts : List StartTable) : State :=
  let l := s.stu.load
  let gen := s.imgMapGen
  let s1 := starts.foldl State.startFull s
  let seq := match tables.find? fun t => decide (t.kind = 0x0E) with
    | some t => seqOf t.data
    | none => defaultSeq
  let s2 := { s1 with stu := { s1.stu with load := {}, programs := l.programs, seq := seq } }
  let slot := s.imgField (s.imgLimit + 4) 1
  let s3 := (List.range 4).foldl (fun (t : State) n => t.setFlag (F.SEC_SLOT_in_use.nth n) (decide (n = slot))) s2.streamLeft
  ((s3.setFld F.CFG_STATUS_stage 4).setFlag F.CFG_LOAD_STAT_busy false).imgLoaded 0 gen

/-- The end of a full image whose checks have passed: its planes, its tables, its sector starts. -/
def State.fullEnd (s : State) : State :=
  let tables := s.imgTables
  let starts := startTables tables
  let bad := s.badPlanes
  let s1 := s.planesDrop bad
  match bad.find? fun e => starts.any fun t => decide (t.sector * 8 + t.live = e.1) with
  | some e => s1.loadEnds e.2.code
  | none =>
    match s1.startBad starts tables bad with
    | some k => s1.loadFail Flt.IMG_TABLE [1, k]
    | none =>
      match s1.startPairs starts true with
      | f :: _ => (s1.raiseGroup [f]).loadEnds f.code
      | [] =>
        let s2 := ((NSet.members s1.stu.load.planes).foldl (fun (t : State) key => t.planeLoad (key / 8) (key % 8)) s1).imageSigs
        let order := tableOrder.flatMap fun k => tables.filter fun t => decide (t.kind = k)
        match s2.tablesApply (s2.wbOf starts) order with
        | .error t => s1.loadFail Flt.IMG_TABLE [t.kind, t.scope]
        | .ok s3 => s3.fullAccept tables starts

/-! ## A partial image (R477 to R481) -/

/-- The kept records of a partial load. -/
def State.keptRecs (s : State) : List ImgRec := s.stu.load.kept.map keptRec

/-- Whether what a kept record would change is in use (R477). -/
def State.targetBusy (s : State) (r : ImgRec) : Bool :=
  if r.kind = 8 then decide (r.table.kind = 3) && !s.colStopped r.table.scope s.stu.released
  else
    (r.runs.getD []).any fun a =>
      (List.range r.count).any fun i =>
        let f := a.frame + i
        let engine := fun (e : Nat) => !(s.engine e).halted && !s.held (islandOf a.sector)
        match a.kind with
        | 1 => engine (a.sector * 128 + f / 16)
        | 2 => engine (a.sector * 128 + f / 64)
        | 3 => decide (min 3 (s.ownerClass (a.sector * 256 + f / 512)) ≠ 3) && !s.colStopped a.sector s.stu.released
        | _ => false

/-- A kept record applied (R477, R481); none where a table's check fails. Sector-start tables act later. -/
def State.keptApply (s : State) (wb : Nat → Nat) (r : ImgRec) : Option State :=
  match r.kind with
  | 8 =>
    let t := r.table
    if t.kind = 1 then some s
    else if t.kind = 3 then some (s.layoutApply t.scope t.data)
    else s.tableApply wb t.kind t.scope t.data
  | 9 => some (s.csrWrites r.pairs)
  | _ => some (s.putRecord (r.runs.getD []) (r.content.getD []))

/-- The kept records applied in payload order: the state, or the record whose table's check fails. -/
def State.keptApplyAll (s : State) (wb : Nat → Nat) : List ImgRec → Except ImgRec State
  | [] => .ok s
  | r :: l =>
    match s.keptApply wb r with
    | some s1 => s1.keptApplyAll wb l
    | none => .error r

/-- Whether a partial image meets the conditions of 02 R52 for an island: its region and its map generation. -/
def State.releaseRegion (s : State) (k : Nat) : Bool :=
  let region := (s.stu.load.region.getD []).map fun e => e.1
  let gen := if s.held k then SMap.get 0 s.vx.heldGen k else s.fld F.VX_MAP_GEN_gen
  region.contains k && region.contains (k + 48) && decide (gen ≤ s.imgMapGen)

/-- The context of a sector after the load: that of its start table, or the live one (02 R52, 04 R135). -/
def State.newLive (s : State) (starts : List StartTable) (k : Nat) : Frames :=
  match startOf starts k with
  | some t => s.plane k t.live
  | none => s.liveOf k

/-- The held islands that the load releases (02 R52). -/
def State.releases (s : State) (starts : List StartTable) : List Nat :=
  (List.range 48).filter fun k =>
    s.held k && s.releaseRegion k && [k, k + 48].all fun q => (s.deadWireUsed q (s.newLive starts q)).isNone

/-- An engine that starts from its program at pc 0 (02 R52, 19 R492). -/
def Engine.boot (g : Engine) : Engine := ({ dmem := g.dmem, pmem := g.pmem, evt := g.evt } : Engine).start false

/-- A held island is released (02 R52): its flip-flops take their initial values, its semaphores are cleared, its engines start
from their programs, its scanners scan again. -/
def State.islandRelease (s : State) (starts : List StartTable) (k : Nat) : State :=
  let s1 := s.setHeld k false
  let s2 := { s1 with vx := { s1.vx with heldGen := SMap.set 0 s1.vx.heldGen k 0 } }
  let s3 := [k, k + 48].foldl (fun (t : State) q =>
    let live := t.liveOf q
    let t1 := ((t.setLive q (t.newLive starts q)).initFlops q).setLive q live
    let t2 := { t1 with sems := SMap.clear t1.sems fun n => decide (n / 64 = q) }
    (List.range 128).foldl (fun (u : State) i =>
      let e := q * 128 + i
      if NSet.has u.stu.programs e || NSet.has u.stu.load.programs e || !(u.engine e).halted then u.updEngine e Engine.boot else u) t2) s2
  (s3.ciRelease k).raise Flt.VX_RELEASED

/-- Dead row ports that leave that state at a load that meets 02 R52 and gives the bank no owner (02 R56). -/
def State.rowPortsFree (s : State) (k : Nat) : State :=
  if s.releaseRegion k then
    let owned := fun (bank : Nat) => (List.range 8).any fun p =>
      s.planeLoaded k p && ownsBank bank (tileBits (s.plane k p) (tileOfBank bank))
    let free := s.vx.rowPorts.filter fun e => decide (e.1 / 256 = k) && e.2.dead && !owned e.1
    let ports := free.foldl (fun m e => SMap.set {} m e.1 { e.2 with dead := false }) s.vx.rowPorts
    { s with vx := { s.vx with rowPorts := ports } }
  else s

/-- A sector-start table of a partial image (R481): the schedule stops, CTX_CTRL and CTX_TICK are committed, and the steps
follow as ctx_busy allows. -/
def State.startPartial (s : State) (t : StartTable) : State :=
  let k := t.sector
  let s1 := s.schedStopCmd k
  let s2 := (((s1.fwWrite (R.CTX_CTRL + 0x1000 * k) 0 t.ctrl).fwWrite (R.CTX_TICK + 0x1000 * k) 0 t.tick).commitWaits
    (windowBase (R.CTX_CTRL + 0x1000 * k)) 1).safePoint (windowBase (R.CTX_CTRL + 0x1000 * k)) 1
  let x : SectorStart := { live := t.live, staged := t.staged, start := t.start }
  ({ s2 with stu := { s2.stu with starting := SMap.set none s2.stu.starting k (some x) } }).startProceed k

/-- The end of a partial load that completes (R481). -/
def State.partialAccept (s : State) (starts : List StartTable) (rel : List Nat) : State :=
  let gen := s.imgMapGen
  let l := s.stu.load
  let s1 := (List.range 48).foldl State.rowPortsFree s
  let s2 := rel.foldl (fun (t : State) k => t.islandRelease starts k) s1
  let progs := (NSet.members l.programs).foldl (fun m e => NSet.put m e true) s2.stu.programs
  let s3 := ({ s2 with stu := { s2.stu with load := {}, programs := progs } }).streamLeft
  (((starts.foldl State.startPartial s3).loadStat false true 0).imgLoaded 1 gen).prmRefresh

/-- The end of a partial image whose checks have passed. A check that fails leaves every held record unapplied. -/
def State.partialEnd (s : State) : State :=
  let tables := s.imgTables
  let starts := startTables tables
  let bad := s.badPlanes
  let s1 := s.planesDrop bad
  let rel := s1.releases starts
  let layout := (tables.filter fun t => decide (t.kind = 3)).filterMap fun t => s1.layoutTableFault t.scope t.data
  let standing := (rel.filter fun k => !(tables.any fun t => decide (t.kind = 3) && decide (t.scope = k))).filterMap s1.columnFault
  match bad.find? fun e => starts.any fun t => decide (t.sector * 8 + t.live = e.1) with
  | some e => s1.loadEnds e.2.code
  | none =>
    if s1.keptRecs.any s1.targetBusy then s1.loadFail Flt.IMG_TARGET_BUSY
    else
      match layout ++ standing with
      | f :: _ => s1.loadFail f
      | [] =>
        match s1.startBad starts tables bad with
        | some k => s1.loadFail Flt.IMG_TABLE [1, k]
        | none =>
          match s1.startPairs starts false with
          | f :: _ => (s1.raiseGroup [f]).loadEnds f.code
          | [] =>
            let declared := (s1.stu.load.region.getD []).flatMap fun e => (onesOf 8 e.2).map fun p => e.1 * 8 + p
            let good := declared.filter fun key => !(bad.any fun e => decide (e.1 = key))
            let s2 := (good.foldl (fun (t : State) key => t.planeLoad (key / 8) (key % 8)) s1).imageSigs
            match s2.keptApplyAll (s2.wbOf starts) s2.keptRecs with
            | .error r => s1.loadFail Flt.IMG_TABLE [r.table.kind, r.table.scope]
            | .ok s3 => s3.partialAccept starts rel

/-! ## The END record (R466, R472 to R475) -/

/-- The END record and the authentication block behind it. -/
def State.endRead (s : State) (b auth : List Byte) : State :=
  match s.recordTake 13 b with
  | .error t => t
  | .ok (_, t) =>
    if auth.length ≠ 224 then s
    else
      match t.srcTake auth with
      | none => s
      | some (false, u) => u.loadFail Flt.IMG_HEADER
      | some (true, u) =>
        match u.endFault auth with
        | some f => u.loadFail f
        | none => if u.stu.load.running then u.partialEnd else u.fullEnd

/-! ## Commands -/

/-- IMAGE_HEADER (R461 to R463, R475; 19 R497, R499, R504). -/
def execImageHeader (bytes : List Byte) (s : State) : Result := .next ((s.headerRead bytes).srcSince s 2)

/-- FRAME (R465). -/
def execFrameRecord (bytes : List Byte) (s : State) : Result := .next ((s.withRecord 1 bytes State.frameRecord).srcSince s 2)

/-- RANGE (R465). -/
def execRangeRecord (bytes : List Byte) (s : State) : Result := .next ((s.withRecord 2 bytes State.frameRecord).srcSince s 2)

/-- REPEAT (R465). -/
def execRepeatRecord (bytes : List Byte) (s : State) : Result := .next ((s.withRecord 3 bytes State.frameRecord).srcSince s 2)

/-- FILL (R465). -/
def execFillRecord (bytes : List Byte) (s : State) : Result := .next ((s.withRecord 4 bytes State.frameRecord).srcSince s 2)

/-- ENGINE_PROG (R465, R477). -/
def execEngineProgRecord (bytes : List Byte) (s : State) : Result := .next ((s.withRecord 5 bytes State.frameRecord).srcSince s 2)

/-- ENGINE_DATA (R465, R477). -/
def execEngineDataRecord (bytes : List Byte) (s : State) : Result := .next ((s.withRecord 6 bytes State.frameRecord).srcSince s 2)

/-- MEMINIT (R465, R477). -/
def execMeminitRecord (bytes : List Byte) (s : State) : Result := .next ((s.withRecord 7 bytes State.frameRecord).srcSince s 2)

/-- TABLE (R469, R470). -/
def execTableRecord (bytes : List Byte) (s : State) : Result := .next ((s.withRecord 8 bytes State.tableRead).srcSince s 2)

/-- CSR (R471). -/
def execCsrRecord (bytes : List Byte) (s : State) : Result := .next ((s.withRecord 9 bytes State.csrRun).srcSince s 2)

/-- SIGNATURES (R472). -/
def execSignaturesRecord (bytes : List Byte) (s : State) : Result := .next ((s.withRecord 10 bytes State.signaturesRead).srcSince s 2)

/-- REGION (R478, R479). -/
def execRegionRecord (bytes : List Byte) (s : State) : Result := .next ((s.withRecord 11 bytes State.regionRead).srcSince s 2)

/-- CHAIN (R482; 19 R502): the loader waits for training at the record. -/
def execChainRecord (bytes : List Byte) (s : State) : Result :=
  .next (if s.training && !s.stu.load.running then s else (s.withRecord 12 bytes State.chainRead).srcSince s 2)

/-- END (R466, R470 to R481). -/
def execEndRecord (bytes auth : List Byte) (s : State) : Result := .next ((s.endRead bytes auth).srcSince s 2)

/-- IMAGE_STREAM_WRITE (19 R496). -/
def execImageStreamWrite (data : List Byte) (s : State) : Result := .next (s.streamWrite data)

end Sys2Proof.Machine
end

