-- ==== Sys2Proof/Machine/Startup.lean ====
section
/-! DEFINITION. From POR release to DONE (19 R484 to R493), time limits (R492, R498), chains (R502, R503), and the go of a
partial load (R504). -/

namespace Sys2Proof.Machine

/-! ## Stages 0 and 1 -/

/-- POR release (R484, R485; 26 R638): every block takes its reset values, MODE and SLEW_SEL are sampled. After a thermal
shutdown the device stays in reset while a base-layer sensor reads above 100 °C (22 R560). -/
def State.porRelease (s : State) (mode : Nat) (slew hot : Bool) : State :=
  if !s.stu.hold ∨ (s.th.shutdown ∧ hot) then s
  else
    let s1 := s.afterReset.setFld F.CFG_STATUS_mode mode
    let s2 := { s1 with stu := { s1.stu with slew := slew } }
    if mode % 8 = 5 ∨ mode % 8 = 6 then (s2.raise Flt.STU_MODE_INVALID).safeState else s2

/-- A tamper event latched in D4 is reported, with its erase if enabled (24 R607). -/
def State.latchedTamper (s : State) : State :=
  if s.secu.latched = 0 then s
  else
    let s1 := ({ s with secu := { s.secu with latched := 0 } }).setFld F.SEC_TAMPER_STAT_fired s.secu.latched
    let s2 := s1.raise Flt.SEC_TAMPER
    if s2.flag F.SEC_TAMPER_CFG_erase then s2.killAll else s2

/-- Stage 1 (R487 to R489): the factory record is checked, the settings record chosen, every S field set. -/
def State.recordsDone (s : State) : State :=
  if !s.factoryOk then (s.raise Flt.STU_FACTORY_BAD).safeState
  else
    let c := s.settingsChoice
    let inForce := match c with
      | some true => s.stu.setB
      | some false => s.stu.setA
      | none => none
    let s1 := { s with stu := { s.stu with settings := inForce } }
    let s2 := (s1.setFlag F.CFG_STATUS_settings_b (decide (c = some true))).setFlag F.CFG_STATUS_settings_dflt c.isNone
    let s3 := if c.isNone then s2.raise Flt.STU_SETTINGS_INVALID else s2
    let s4 := (s3.settingLimits.foldl (fun (t : State) off => t.raise Flt.STU_SETTING_LIMIT (loc32 off)) s3).applySettings.latchedTamper
    if s4.secu.lc = 4 then { s4 with stu := { s4.stu with ended := true } } else s4

/-! ## Stage 2 (02 R59, R64; 06 R185; 14 R378; 15 R404) -/

/-- A repair or dead mark of the defect map applied (02 R64). -/
def State.mapApply (s : State) (e : MapEntry) : State :=
  match e.kind with
  | .bundle =>
    let b := s.bundle e.unit e.tile
    match e.spare with
    | some i =>
      s.setBundle e.unit e.tile { b with spares := (b.spares.map fun x => if x = .wire e.wire then Spare.failed else x).set i (.wire e.wire) }
    | none => if e.wire ∈ b.dead then s else s.setBundle e.unit e.tile { b with dead := b.dead ++ [e.wire] }
  | .rowPort =>
    let p := s.rowPort e.unit
    match e.spare with
    | some g => s.setRowPort e.unit { p with steered := p.steered ++ [(g, e.wire)] }
    | none => s.setRowPort e.unit { p with dead := true }
  | .restagePath =>
    let p := s.path e.unit
    match e.spare with
    | some g => s.setPath e.unit { p with steered := p.steered ++ [(g, e.wire)] }
    | none => s.setPath e.unit { p with dead := true }

/-- A delay line swept (02 R59): set to the centre of its passing window; keyed island * 65536 + line. -/
def State.lineSwept (s : State) (w : Nat × Nat × Nat) : State :=
  let c := (w.2.1 + w.2.2) / 2
  { s with vx := { s.vx with lines := SMap.set {} s.vx.lines w.1 { pos := c, centre := c, target := c } } }

/-- Remap entries held in embedded flash applied, column by column (06 R185 step 2). -/
def State.remapApply (s : State) : State :=
  s.mem.remapFlash.foldl (fun (t : State) e =>
    let table := SMap.get [] t.mem.remap e.1
    if e.2 ∈ table ∨ 64 ≤ table.length then t
    else
      ({ t with mem := { t.mem with remap := SMap.set [] t.mem.remap e.1 (table ++ [e.2]) } }).setFld F.MI_REPAIR_STAT_remap_used
        (table.length + 1) e.1) s

/-- The start of stage 2: what begins with it. -/
def State.prepare (s : State) : State := (List.range 16).foldl State.lpTrain (s.setFld F.CFG_STATUS_stage 2)

/-- The end of stage 2: delay lines swept, the defect map and the remap tables applied, the march test of the settings run,
the memory layer filled, the start-up epoch raised. `marchFails` are the words at which the memory failed. -/
def State.prepareDone (s : State) (windows : List (Nat × Nat × Nat)) (marchFails : List (Nat × Nat)) : State :=
  let s1 := (s.vx.map.foldl State.mapApply (windows.foldl State.lineSwept s)).remapApply
  let s2 := if s.stMarch then marchFails.foldl (fun (t : State) f => t.marchFail f.1 f.2) s1 else s1
  let s3 := { s2 with mem := { s2.mem with words := [], spares := [], secure := [] }
                      mee := { s2.mee with epoch := s2.mee.epoch + 1 } }
  if s.fld F.CFG_STATUS_mode = 7 then s3.setFld F.CFG_STATUS_stage 8 else s3.beginLoad

/-! ## Stage 4 and the start-up sequence (R491, R492) -/

/-- The end of stage 4: after training, the regions with fill_at_start are filled (06 R187), and the sequence starts. -/
def State.finishDone (s : State) : State :=
  if s.stu.fills ≠ [] ∧ s.training then s
  else
    let s1 := (NSet.members s.stu.fills).foldl State.initRegion s
    ({ s1 with stu := { s1.stu with fills := [] } }).setFld F.CFG_STATUS_stage 5

/-- A start-up stage completes and the next starts (R491). Stage 3 ends with its image, stage 5 with its sequence. -/
def State.stageDone (s : State) (windows : List (Nat × Nat × Nat)) (marchFails : List (Nat × Nat)) : State :=
  if s.stu.hold ∨ s.stu.ended then s
  else
    match s.fld F.CFG_STATUS_stage with
    | 0 => s.setFld F.CFG_STATUS_stage 1
    | 1 =>
      let t := s.recordsDone
      if t.fld F.CFG_STATUS_stage = 7 ∨ t.stu.ended then t else t.prepare
    | 2 => s.prepareDone windows marchFails
    | 4 => s.finishDone
    | _ => s

/-- Whether WAIT_LOCK is satisfied (R492): every system loop and island generator reports lock, no sequencer is in
transition; `dram` says the same of the LPDDR6 loops in use. -/
def State.allLocked (s : State) (dram : Bool) : Bool :=
  dram && decide (s.fld F.CLK_STATUS_loop_locked % 2 ^ 12 = 2 ^ 12 - 1)
    && ((List.range 48).all fun k => s.flag F.CLK_ISL_STAT_locked k) && !s.seqBusy

/-- RELEASE_STATE (R492; 03 R74, 05 R159, 08 R260): clocks start, flip-flops take their initial values, semaphores are
cleared, row buckets are full, schedules that the image starts start. -/
def State.releaseState (s : State) : State :=
  let s1 := { s with stu := { s.stu with released := true }, sems := [], mem := { s.mem with spent := [] } }
  let s2 := (List.range 96).foldl State.initFlops s1
  (NSet.members s2.stu.starts).foldl State.schedStartCmd s2

/-- ENABLE_WRITES (R492): clusters accept writes, row commands are accepted, engines whose program the image carries leave
halt at pc 0. -/
def State.enableWrites (s : State) : State :=
  let s1 := { s with stu := { s.stu with writesEnabled := true } }
  (NSet.members s.stu.programs).foldl (fun (t : State) e => t.updEngine e Engine.boot) s1

/-- RELEASE_IO (R492): pins are driven, and the bundles enabled by the image begin bring-up (16 R413); a MAC's link comes up
with its lanes. -/
def State.releaseIo (s : State) : State :=
  let s1 := { s with stu := { s.stu with ioReleased := true } }
  (List.range 12).foldl (fun (t : State) b =>
    if t.flag (F.LN_CTRL_en.win b) ∧ t.lnState b ≠ 7 then t.lnStart b else t) s1

/-- DONE (R492): the line is released, DEV_STATUS.done is set, CFG_BOOT_TIME is written. -/
def State.doneStep (s : State) : State :=
  let s1 := (s.setFlag F.DEV_STATUS_done true).setFlag F.CFG_STATUS_done_pin true
  ((s1.setFld F.CFG_STATUS_stage 6).setFld F.CFG_BOOT_TIME_us (s.time.ns / 1000)).prmRefresh

/-- A step of the sequence carried out (R492); WAIT_LOCK waits. -/
def State.seqStep (s : State) (dram : Bool) : State :=
  if s.fld F.CFG_STATUS_stage ≠ 5 then s
  else
    match s.stu.seq with
    | [] => s
    | (op, _) :: rest =>
      let t := { s with stu := { s.stu with seq := rest } }
      match op with
      | 1 => if s.allLocked dram then t else s
      | 2 => t.releaseState
      | 3 => t.enableWrites
      | 4 => t.releaseIo
      | 5 => t.doneStep
      | _ => t

/-! ## Time limits (R492, R496, R498) -/

/-- WAIT_LOCK has waited 10 ms: the attempt ends. -/
def State.lockTimeout (s : State) : State :=
  match s.stu.seq with
  | (1, _) :: _ =>
    if s.fld F.CFG_STATUS_stage = 5 then (s.raise Flt.STU_LOCK_TIMEOUT).attemptFail Flt.STU_LOCK_TIMEOUT.code else s
  | _ => s

/-- The limit of an attempt has passed: from its first byte, for a retry through the window from its start, and in MODE 011
while the link is not active. -/
def State.loadTimeout (s : State) : State :=
  let l := s.stu.load
  let link := decide (s.fld F.CFG_STATUS_mode = 3) && !s.grActive s.stGraftBundle
  if !l.active ∨ l.running then s
  else if l.first.isSome ∨ (l.src = 0 ∧ (s.fld F.CFG_STATUS_attempt ≠ 0 ∨ link)) then s.loadFail Flt.STU_LOAD_TIMEOUT
  else s

/-! ## Chains (R502, R503) -/

/-- What goes over CFG_DOUT: 16 cycles of ones, the sync, the body; the low nibble of a byte at the rising edge. -/
def ChainSt.bytes (c : ChainSt) : List Byte := List.replicate 16 0xFF ++ [0x5A, 0xC3, 0x3C, 0xA5] ++ c.body

/-- Whether a CHAIN stands to be forwarded: the leading image has been accepted. -/
def State.chainReady (s : State) : Bool :=
  let st := s.fld F.CFG_STATUS_stage
  decide (s.stu.chain.body ≠ []) && (decide (st = 4) || decide (st = 5) || decide (st = 6))

/-- The leader forwards up to `count` bytes while CFG_FRDY is high; after the last it writes zeros over the buffer (R502). -/
def State.chainForward (s : State) (frdy : Bool) (count : Nat) : State :=
  let s0 := s.setFlag F.CFG_STATUS_frdy frdy
  let c := s.stu.chain
  if !frdy ∨ !s.chainReady ∨ c.sentAt.isSome then s0
  else
    let part := (c.bytes.drop c.done).take count
    let n := c.done + part.length
    let s1 := s0.emit (.chain part)
    if n < c.bytes.length then { s1 with stu := { s1.stu with chain := { c with sending := true, done := n } } }
    else
      let s2 := { s1 with stu := { s1.stu with chain := { c with sending := false, done := n, sentAt := some s.time.ns } } }
      s2.chainBuffer (List.replicate c.body.length 0)

/-- CFG_FRDY has not been high within 100 ms (R502): the CHAIN is given up. -/
def State.chainTimeout (s : State) : State :=
  if s.chainReady ∧ s.stu.chain.done = 0 then
    ({ s with stu := { s.stu with chain := {} } }).raise Flt.STU_CHAIN_TIMEOUT
  else s

/-- A resend request seen within 100 ms of the last byte (R503): forwarding starts again once, from the sync. -/
def State.resendRequest (s : State) : State :=
  let c := s.stu.chain
  if c.sentAt.isNone then s
  else if c.resent then ({ s with stu := { s.stu with chain := {} } }).raise Flt.STU_CHAIN_FAIL
  else { s with stu := { s.stu with chain := { c with done := 0, sentAt := none, resent := true } } }

/-! ## Commands -/

/-- POR_RELEASE (R484, R485). -/
def execPorRelease (mode : Nat) (slew hot : Bool) (s : State) : Result := .next (s.porRelease mode slew hot)

/-- STARTUP_STAGE_DONE (R491). -/
def execStartupStageDone (windows : List (Nat × Nat × Nat)) (marchFails : List (Nat × Nat)) (s : State) : Result :=
  .next (s.stageDone windows marchFails)

/-- SEQ_STEP (R492). -/
def execSeqStep (dramLocked : Bool) (s : State) : Result := .next (s.seqStep dramLocked)

/-- LOCK_TIMEOUT (R492, R499). -/
def execLockTimeout (s : State) : Result := .next s.lockTimeout

/-- LOAD_TIMEOUT (R496, R498, R499). -/
def execLoadTimeout (s : State) : Result := .next (s.loadTimeout.srcSince s 2)

/-- CHAIN_FORWARD (R502). -/
def execChainForward (frdy : Bool) (count : Nat) (s : State) : Result := .next (s.chainForward frdy count)

/-- CHAIN_FRDY_TIMEOUT (R502). -/
def execChainFrdyTimeout (s : State) : Result := .next s.chainTimeout

/-- RESEND_REQUEST (R503). -/
def execResendRequest (s : State) : Result := .next s.resendRequest

/-- PARTIAL_LOAD_GO (R504). -/
def execPartialLoadGo (s : State) : Result := .next s.partialGo

end Sys2Proof.Machine
end

