-- ==== Sys2Proof/Machine/Dispatch.lean ====
section
/-! DEFINITION. One arm per command: the meaning it calls. -/

namespace Sys2Proof.Machine

def exec (i : Instr) (s : State) : Host.Outcome State Fault Refusal :=
  match i with
  | .registerWrite off value size => Sys2Proof.Machine.execRegisterWrite off value size s
  | .readClear off size => Sys2Proof.Machine.execReadClear off size s
  | .blkCommitWrite off value => Sys2Proof.Machine.execBlkCommitWrite off value s
  | .commitSafePoint off group => Sys2Proof.Machine.execCommitSafePoint off group s
  | .riserBeatError trunk unit double control => Sys2Proof.Machine.execRiserBeatError trunk unit double control s
  | .parityMismatch island tile idleFailing wire => Sys2Proof.Machine.execParityMismatch island tile idleFailing wire s
  | .bgtestVisitEnd island tile wires spares bank rowBits => Sys2Proof.Machine.execBgtestVisitEnd island tile wires spares bank rowBits s
  | .locWindowEnd island tile spareMismatch parityMismatch => Sys2Proof.Machine.execLocWindowEnd island tile spareMismatch parityMismatch s
  | .restagePathTestDone sector wire => Sys2Proof.Machine.execRestagePathTestDone sector wire s
  | .retuneStep island line window last => Sys2Proof.Machine.execRetuneStep island line window last s
  | .restagePathRetuneDone sector => Sys2Proof.Machine.execRestagePathRetuneDone sector s
  | .mapWriteDone => Sys2Proof.Machine.execMapWriteDone s
  | .rowLoad sector tile row => Sys2Proof.Machine.execRowLoad sector tile row s
  | .rowStore sector tile row => Sys2Proof.Machine.execRowStore sector tile row s
  | .rowCmdDone sector tile errors => Sys2Proof.Machine.execRowCmdDone sector tile errors s
  | .upperRead sector tile group count => Sys2Proof.Machine.execUpperRead sector tile group count s
  | .upperWrite sector tile group mask data => Sys2Proof.Machine.execUpperWrite sector tile group mask data s
  | .upperBurstDone sector tile => Sys2Proof.Machine.execUpperBurstDone sector tile s
  | .zConflict island tile wire upper => Sys2Proof.Machine.execZConflict island tile wire upper s
  | .edgeChannelWord sector edge channel word => Sys2Proof.Machine.execEdgeChannelWord sector edge channel word s
  | .serialSettingsWord port word => Sys2Proof.Machine.execSerialSettingsWord port word s
  | .serialDataWord port word received => Sys2Proof.Machine.execSerialDataWord port word received s
  | .flashUserRead address => Sys2Proof.Machine.execFlashUserRead address s
  | .flashUserProgram address word => Sys2Proof.Machine.execFlashUserProgram address word s
  | .flashUserErase address => Sys2Proof.Machine.execFlashUserErase address s
  | .captureGoCommand edges => Sys2Proof.Machine.execCaptureGoCommand edges s
  | .captureArm => Sys2Proof.Machine.execCaptureArm s
  | .captureFabricTrigger sector edges => Sys2Proof.Machine.execCaptureFabricTrigger sector edges s
  | .captureDrainDone => Sys2Proof.Machine.execCaptureDrainDone s
  | .restageAccept sector => Sys2Proof.Machine.execRestageAccept sector s
  | .writeBackDone sector => Sys2Proof.Machine.execWriteBackDone sector s
  | .restageDone sector badWire => Sys2Proof.Machine.execRestageDone sector badWire s
  | .ctxStrobe sector plane => Sys2Proof.Machine.execCtxStrobe sector plane s
  | .switch sector plane => Sys2Proof.Machine.execSwitch sector plane s
  | .stage sector plane => Sys2Proof.Machine.execStage sector plane s
  | .schedStart sector => Sys2Proof.Machine.execSchedStart sector s
  | .schedStop sector => Sys2Proof.Machine.execSchedStop sector s
  | .event sector => Sys2Proof.Machine.execEvent sector s
  | .ctxCmdInvalid sector op => Sys2Proof.Machine.execCtxCmdInvalid sector op s
  | .schedStartTime sector => Sys2Proof.Machine.execSchedStartTime sector s
  | .schedDwellEnd sector => Sys2Proof.Machine.execSchedDwellEnd sector s
  | .schedEvtIn sector => Sys2Proof.Machine.execSchedEvtIn sector s
  | .ctxTick sector => Sys2Proof.Machine.execCtxTick sector s
  | .schedTableTake sector => Sys2Proof.Machine.execSchedTableTake sector s
  | .memForegroundRequest master bank portB op other upsets => Sys2Proof.Machine.execMemForegroundRequest master bank portB op other upsets s
  | .memBackgroundGrant bank other => Sys2Proof.Machine.execMemBackgroundGrant bank other s
  | .bgStarved bank master => Sys2Proof.Machine.execBgStarved bank master s
  | .rowTokenGrant island => Sys2Proof.Machine.execRowTokenGrant island s
  | .rowCopyGo count => Sys2Proof.Machine.execRowCopyGo count s
  | .rowCopyDone column => Sys2Proof.Machine.execRowCopyDone column s
  | .repairWriteback column => Sys2Proof.Machine.execRepairWriteback column s
  | .narrowWrite master bank word data mask => Sys2Proof.Machine.execNarrowWrite master bank word data mask s
  | .mergeDrain column upsets => Sys2Proof.Machine.execMergeDrain column upsets s
  | .bankFillDone bank => Sys2Proof.Machine.execBankFillDone bank s
  | .lapScrubRead bank upsets => Sys2Proof.Machine.execLapScrubRead bank upsets s
  | .lapEnd => Sys2Proof.Machine.execLapEnd s
  | .scrubPassGo => Sys2Proof.Machine.execScrubPassGo s
  | .scrubPassAbort => Sys2Proof.Machine.execScrubPassAbort s
  | .scrubPassRead upsets => Sys2Proof.Machine.execScrubPassRead upsets s
  | .scrubPassDone => Sys2Proof.Machine.execScrubPassDone s
  | .remapCmd bank word => Sys2Proof.Machine.execRemapCmd bank word s
  | .remapDone => Sys2Proof.Machine.execRemapDone s
  | .remapFlashWrite => Sys2Proof.Machine.execRemapFlashWrite s
  | .rawRead => Sys2Proof.Machine.execRawRead s
  | .rawWrite => Sys2Proof.Machine.execRawWrite s
  | .codedRead => Sys2Proof.Machine.execCodedRead s
  | .marchGo value => Sys2Proof.Machine.execMarchGo value s
  | .marchDone fails => Sys2Proof.Machine.execMarchDone fails s
  | .transparentTestRow column fails => Sys2Proof.Machine.execTransparentTestRow column fails s
  | .nopa e upsets => Sys2Proof.Machine.execNopa e upsets s
  | .mpy e upsets => Sys2Proof.Machine.execMpy e upsets s
  | .mac e upsets => Sys2Proof.Machine.execMac e upsets s
  | .msu e upsets => Sys2Proof.Machine.execMsu e upsets s
  | .mpyr e upsets => Sys2Proof.Machine.execMpyr e upsets s
  | .macr e upsets => Sys2Proof.Machine.execMacr e upsets s
  | .msur e upsets => Sys2Proof.Machine.execMsur e upsets s
  | .addx e upsets => Sys2Proof.Machine.execAddx e upsets s
  | .subx e upsets => Sys2Proof.Machine.execSubx e upsets s
  | .clr e upsets => Sys2Proof.Machine.execClr e upsets s
  | .cpya e upsets => Sys2Proof.Machine.execCpya e upsets s
  | .negAcc e upsets => Sys2Proof.Machine.execNegAcc e upsets s
  | .absAcc e upsets => Sys2Proof.Machine.execAbsAcc e upsets s
  | .asl1 e upsets => Sys2Proof.Machine.execAsl1 e upsets s
  | .asr1 e upsets => Sys2Proof.Machine.execAsr1 e upsets s
  | .rnd e upsets => Sys2Proof.Machine.execRnd e upsets s
  | .nop e upsets => Sys2Proof.Machine.execNop e upsets s
  | .ldi e upsets => Sys2Proof.Machine.execLdi e upsets s
  | .ldih e upsets => Sys2Proof.Machine.execLdih e upsets s
  | .mov e upsets => Sys2Proof.Machine.execMov e upsets s
  | .ldd e upsets => Sys2Proof.Machine.execLdd e upsets s
  | .std e upsets => Sys2Proof.Machine.execStd e upsets s
  | .bra e upsets => Sys2Proof.Machine.execBra e upsets s
  | .bcc e upsets => Sys2Proof.Machine.execBcc e upsets s
  | .call e upsets => Sys2Proof.Machine.execCall e upsets s
  | .ret e upsets => Sys2Proof.Machine.execRet e upsets s
  | .rti e upsets => Sys2Proof.Machine.execRti e upsets s
  | .dbnz e upsets => Sys2Proof.Machine.execDbnz e upsets s
  | .rep e upsets => Sys2Proof.Machine.execRep e upsets s
  | .exp e upsets => Sys2Proof.Machine.execExp e upsets s
  | .norm e upsets => Sys2Proof.Machine.execNorm e upsets s
  | .shl e upsets => Sys2Proof.Machine.execShl e upsets s
  | .shr e upsets => Sys2Proof.Machine.execShr e upsets s
  | .sat e upsets => Sys2Proof.Machine.execSat e upsets s
  | .andOp e upsets => Sys2Proof.Machine.execAndOp e upsets s
  | .orOp e upsets => Sys2Proof.Machine.execOrOp e upsets s
  | .xorOp e upsets => Sys2Proof.Machine.execXorOp e upsets s
  | .inPort e upsets => Sys2Proof.Machine.execInPort e upsets s
  | .outPort e upsets => Sys2Proof.Machine.execOutPort e upsets s
  | .wait e upsets => Sys2Proof.Machine.execWait e upsets s
  | .sig e upsets => Sys2Proof.Machine.execSig e upsets s
  | .xfer e upsets => Sys2Proof.Machine.execXfer e upsets s
  | .ei e upsets => Sys2Proof.Machine.execEi e upsets s
  | .di e upsets => Sys2Proof.Machine.execDi e upsets s
  | .lock e upsets => Sys2Proof.Machine.execLock e upsets s
  | .unlock e upsets => Sys2Proof.Machine.execUnlock e upsets s
  | .kick e upsets => Sys2Proof.Machine.execKick e upsets s
  | .tas e upsets => Sys2Proof.Machine.execTas e upsets s
  | .halt e upsets => Sys2Proof.Machine.execHalt e upsets s
  | .trap e upsets => Sys2Proof.Machine.execTrap e upsets s
  | .dmemRewrite e => Sys2Proof.Machine.execDmemRewrite e s
  | .timerReload e => Sys2Proof.Machine.execTimerReload e s
  | .watchdogExpire e => Sys2Proof.Machine.execWatchdogExpire e s
  | .interruptEntry e upsets => Sys2Proof.Machine.execInterruptEntry e upsets s
  | .engPortPush e port word => Sys2Proof.Machine.execEngPortPush e port word s
  | .engStallEnd e cycles => Sys2Proof.Machine.execEngStallEnd e cycles s
  | .sigPulseDelivered e line => Sys2Proof.Machine.execSigPulseDelivered e line s
  | .moverBankWord e upsets bankUpsets => Sys2Proof.Machine.execMoverBankWord e upsets bankUpsets s
  | .moverDone e => Sys2Proof.Machine.execMoverDone e s
  | .engCmdHalt => Sys2Proof.Machine.execEngCmdHalt s
  | .engCmdResume => Sys2Proof.Machine.execEngCmdResume s
  | .engCmdStep => Sys2Proof.Machine.execEngCmdStep s
  | .engCmdReset => Sys2Proof.Machine.execEngCmdReset s
  | .boundaryHalt e => Sys2Proof.Machine.execBoundaryHalt e s
  | .breakpoint e => Sys2Proof.Machine.execBreakpoint e s
  | .engineWindowRead e off size => Sys2Proof.Machine.execEngineWindowRead e off size s
  | .engineWindowWrite e off size value => Sys2Proof.Machine.execEngineWindowWrite e off size value s
  | .nocRead head addr bytes => Sys2Proof.Machine.execNocRead head addr bytes s
  | .nocWrite head addr data => Sys2Proof.Machine.execNocWrite head addr data s
  | .writePosted head addr data => Sys2Proof.Machine.execWritePosted head addr data s
  | .readResp head status data => Sys2Proof.Machine.execReadResp head status data s
  | .writeAck head status info => Sys2Proof.Machine.execWriteAck head status info s
  | .respTimeout node port tag => Sys2Proof.Machine.execRespTimeout node port tag s
  | .wakeForward node => Sys2Proof.Machine.execWakeForward node s
  | .streamSegment head seg descBad => Sys2Proof.Machine.execStreamSegment head seg descBad s
  | .farCellAck q descBad => Sys2Proof.Machine.execFarCellAck q descBad s
  | .openTimeout q => Sys2Proof.Machine.execOpenTimeout q s
  | .spSegmentInject sector => Sys2Proof.Machine.execSpSegmentInject sector s
  | .spIdleTimeout sector => Sys2Proof.Machine.execSpIdleTimeout sector s
  | .frameReceive mac data fecCorrected fecUncorr descBad => Sys2Proof.Machine.execFrameReceive mac data fecCorrected fecUncorr descBad s
  | .portSlotStart slice port dry descBad => Sys2Proof.Machine.execPortSlotStart slice port dry descBad s
  | .portPacketDone slice port dry descBad => Sys2Proof.Machine.execPortPacketDone slice port dry descBad s
  | .queueEnable q value => Sys2Proof.Machine.execQueueEnable q value s
  | .queueDisable q value => Sys2Proof.Machine.execQueueDisable q value s
  | .queueFlush q => Sys2Proof.Machine.execQueueFlush q s
  | .farCellsWrite slice n => Sys2Proof.Machine.execFarCellsWrite slice n s
  | .flowLookup head req flips => Sys2Proof.Machine.execFlowLookup head req flips s
  | .flowInsert head req flips => Sys2Proof.Machine.execFlowInsert head req flips s
  | .flowDelete head req flips => Sys2Proof.Machine.execFlowDelete head req flips s
  | .flowAdd head req flips => Sys2Proof.Machine.execFlowAdd head req flips s
  | .flowCas head req flips => Sys2Proof.Machine.execFlowCas head req flips s
  | .flowResp node port tag headData entry => Sys2Proof.Machine.execFlowResp node port tag headData entry s
  | .relocate => Sys2Proof.Machine.execRelocate s
  | .ageScanStart action => Sys2Proof.Machine.execAgeScanStart action s
  | .ageScanVisit => Sys2Proof.Machine.execAgeScanVisit s
  | .ageScanDone => Sys2Proof.Machine.execAgeScanDone s
  | .fsKill stash index => Sys2Proof.Machine.execFsKill stash index s
  | .contractCommit q => Sys2Proof.Machine.execContractCommit q s
  | .contractRemove q => Sys2Proof.Machine.execContractRemove q s
  | .promiseResume q => Sys2Proof.Machine.execPromiseResume q s
  | .dramLineRead cls addr flips => Sys2Proof.Machine.execDramLineRead cls addr flips s
  | .dramLineWrite cls addr data => Sys2Proof.Machine.execDramLineWrite cls addr data s
  | .lineRewrite ch line => Sys2Proof.Machine.execLineRewrite ch line s
  | .perBankRefresh ch => Sys2Proof.Machine.execPerBankRefresh ch s
  | .mr4Read ch code mult above => Sys2Proof.Machine.execMr4Read ch code mult above s
  | .trainingStepDone ch ok unfit => Sys2Proof.Machine.execTrainingStepDone ch ok unfit s
  | .trackingRead ch drift beyond => Sys2Proof.Machine.execTrackingRead ch drift beyond s
  | .lpRetrain ch => Sys2Proof.Machine.execLpRetrain ch s
  | .lpSwitch ch => Sys2Proof.Machine.execLpSwitch ch s
  | .lpPowerDownEntry ch => Sys2Proof.Machine.execLpPowerDownEntry ch s
  | .regionEnable value => Sys2Proof.Machine.execRegionEnable value s
  | .meePartialWrite cls addr data => Sys2Proof.Machine.execMeePartialWrite cls addr data s
  | .reencWalkStart => Sys2Proof.Machine.execReencWalkStart s
  | .reencWalkDone page => Sys2Proof.Machine.execReencWalkDone page s
  | .keyLoad slot src label => Sys2Proof.Machine.execKeyLoad slot src label s
  | .keyRetire slot => Sys2Proof.Machine.execKeyRetire slot s
  | .rekey region key => Sys2Proof.Machine.execRekey region key s
  | .meeInit region => Sys2Proof.Machine.execMeeInit region s
  | .meeFlush => Sys2Proof.Machine.execMeeFlush s
  | .meeWalkDone => Sys2Proof.Machine.execMeeWalkDone s
  | .bringupStart bundle => Sys2Proof.Machine.execBringupStart bundle s
  | .bringupStageDone bundle lane inverted numbers skew => Sys2Proof.Machine.execBringupStageDone bundle lane inverted numbers skew s
  | .bringupStageTimeout bundle => Sys2Proof.Machine.execBringupStageTimeout bundle s
  | .laneLockLost bundle lane => Sys2Proof.Machine.execLaneLockLost bundle lane s
  | .prbsCheckerLock bundle lane lock errors => Sys2Proof.Machine.execPrbsCheckerLock bundle lane lock errors s
  | .injectSingle bundle value => Sys2Proof.Machine.execInjectSingle bundle value s
  | .injectBurst bundle value => Sys2Proof.Machine.execInjectBurst bundle value s
  | .injectRate bundle value => Sys2Proof.Machine.execInjectRate bundle value s
  | .injectOff bundle value => Sys2Proof.Machine.execInjectOff bundle value s
  | .graftFlitReceive bundle wire misaligned => Sys2Proof.Machine.execGraftFlitReceive bundle wire misaligned s
  | .graftCapability bundle word => Sys2Proof.Machine.execGraftCapability bundle word s
  | .echo bundle t1 => Sys2Proof.Machine.execEcho bundle t1 s
  | .latencyMeasure bundle t1 t2 t3 t4 => Sys2Proof.Machine.execLatencyMeasure bundle t1 t2 t3 t4 s
  | .replayTimeout bundle => Sys2Proof.Machine.execReplayTimeout bundle s
  | .graftRetrainCmd bundle => Sys2Proof.Machine.execGraftRetrainCmd bundle s
  | .timeSend bundle => Sys2Proof.Machine.execTimeSend bundle s
  | .timeReceive bundle stamp => Sys2Proof.Machine.execTimeReceive bundle stamp s
  | .grTimeLost => Sys2Proof.Machine.execGrTimeLost s
  | .hostRead function bar off bytes tag => Sys2Proof.Machine.execHostRead function bar off bytes tag s
  | .hostWrite function bar off data poison => Sys2Proof.Machine.execHostWrite function bar off data poison s
  | .ringEnable ring value => Sys2Proof.Machine.execRingEnable ring value s
  | .doorbell ring index => Sys2Proof.Machine.execDoorbell ring index s
  | .fromHostFetch ring desc data fail => Sys2Proof.Machine.execFromHostFetch ring desc data fail s
  | .ringCompletion ring addr bufLen fail => Sys2Proof.Machine.execRingCompletion ring addr bufLen fail s
  | .pcieFunctionReset functions linkDown => Sys2Proof.Machine.execPcieFunctionReset functions linkDown s
  | .pciePerst => Sys2Proof.Machine.execPciePerst s
  | .msixUnmask fn vec => Sys2Proof.Machine.execMsixUnmask fn vec s
  | .ltrUpdate on snoop noSnoop => Sys2Proof.Machine.execLtrUpdate on snoop noSnoop s
  | .ltrSend value => Sys2Proof.Machine.execLtrSend value s
  | .macEnable mac value => Sys2Proof.Machine.execMacEnable mac value s
  | .macLinkDown mac => Sys2Proof.Machine.execMacLinkDown mac s
  | .pfcPauseReceive mac pri stop => Sys2Proof.Machine.execPfcPauseReceive mac pri stop s
  | .timePpsEdge => Sys2Proof.Machine.execTimePpsEdge s
  | .ppsLost => Sys2Proof.Machine.execPpsLost s
  | .ethTimeHiWrite value => Sys2Proof.Machine.execEthTimeHiWrite value s
  | .ethTimeLoWrite value => Sys2Proof.Machine.execEthTimeLoWrite value s
  | .ethTimeLoRead => Sys2Proof.Machine.execEthTimeLoRead s
  | .ethTimeStep value => Sys2Proof.Machine.execEthTimeStep value s
  | .timeSlewStep => Sys2Proof.Machine.execTimeSlewStep s
  | .ethTxtsTagRead => Sys2Proof.Machine.execEthTxtsTagRead s
  | .imageHeader bytes => Sys2Proof.Machine.execImageHeader bytes s
  | .frameRecord bytes => Sys2Proof.Machine.execFrameRecord bytes s
  | .rangeRecord bytes => Sys2Proof.Machine.execRangeRecord bytes s
  | .repeatRecord bytes => Sys2Proof.Machine.execRepeatRecord bytes s
  | .fillRecord bytes => Sys2Proof.Machine.execFillRecord bytes s
  | .engineProgRecord bytes => Sys2Proof.Machine.execEngineProgRecord bytes s
  | .engineDataRecord bytes => Sys2Proof.Machine.execEngineDataRecord bytes s
  | .meminitRecord bytes => Sys2Proof.Machine.execMeminitRecord bytes s
  | .tableRecord bytes => Sys2Proof.Machine.execTableRecord bytes s
  | .csrRecord bytes => Sys2Proof.Machine.execCsrRecord bytes s
  | .signaturesRecord bytes => Sys2Proof.Machine.execSignaturesRecord bytes s
  | .regionRecord bytes => Sys2Proof.Machine.execRegionRecord bytes s
  | .chainRecord bytes => Sys2Proof.Machine.execChainRecord bytes s
  | .endRecord bytes auth => Sys2Proof.Machine.execEndRecord bytes auth s
  | .imageStreamWrite data => Sys2Proof.Machine.execImageStreamWrite data s
  | .powerOn => Sys2Proof.Machine.execPowerOn s
  | .resetNLow => Sys2Proof.Machine.execResetNLow s
  | .porRelease mode slew hot => Sys2Proof.Machine.execPorRelease mode slew hot s
  | .startupStageDone windows marchFails => Sys2Proof.Machine.execStartupStageDone windows marchFails s
  | .seqStep dramLocked => Sys2Proof.Machine.execSeqStep dramLocked s
  | .lockTimeout => Sys2Proof.Machine.execLockTimeout s
  | .loadTimeout => Sys2Proof.Machine.execLoadTimeout s
  | .chainForward frdy count => Sys2Proof.Machine.execChainForward frdy count s
  | .chainFrdyTimeout => Sys2Proof.Machine.execChainFrdyTimeout s
  | .resendRequest => Sys2Proof.Machine.execResendRequest s
  | .partialLoadGo => Sys2Proof.Machine.execPartialLoadGo s
  | .scanFrameRead sector place plane frame flips sigBad => Sys2Proof.Machine.execScanFrameRead sector place plane frame flips sigBad s
  | .latchRepair sector flips again => Sys2Proof.Machine.execLatchRepair sector flips again s
  | .sectorReload sector => Sys2Proof.Machine.execSectorReload sector s
  | .scanLapEnd sector listBad => Sys2Proof.Machine.execScanLapEnd sector listBad s
  | .voteCorrection => Sys2Proof.Machine.execVoteCorrection s
  | .scanStall sector => Sys2Proof.Machine.execScanStall sector s
  | .restart sector => Sys2Proof.Machine.execRestart sector s
  | .rebuild sector => Sys2Proof.Machine.execRebuild sector s
  | .trimWindowEnd err absent => Sys2Proof.Machine.execTrimWindowEnd err absent s
  | .loopLock island n => Sys2Proof.Machine.execLoopLock island n s
  | .opTargetWrite island target => Sys2Proof.Machine.execOpTargetWrite island target s
  | .branchSwitch island => Sys2Proof.Machine.execBranchSwitch island s
  | .opTransitionEnd island => Sys2Proof.Machine.execOpTransitionEnd island s
  | .opTimeout island => Sys2Proof.Machine.execOpTimeout island s
  | .generatorUnlock island => Sys2Proof.Machine.execGeneratorUnlock island s
  | .missingClock clock => Sys2Proof.Machine.execMissingClock clock s
  | .freqMonitorWindow clock ppm => Sys2Proof.Machine.execFreqMonitorWindow clock ppm s
  | .regulatorFault rail unit => Sys2Proof.Machine.execRegulatorFault rail unit s
  | .governorEval idle => Sys2Proof.Machine.execGovernorEval idle s
  | .islandWake island => Sys2Proof.Machine.execIslandWake island s
  | .islandWakeDone island => Sys2Proof.Machine.execIslandWakeDone island s
  | .deviceWake => Sys2Proof.Machine.execDeviceWake s
  | .pmOff => Sys2Proof.Machine.execPmOff s
  | .sensorSample readings activity dw => Sys2Proof.Machine.execSensorSample readings activity dw s
  | .mgmtFrame left done idleUs safetyUs busyUs => Sys2Proof.Machine.execMgmtFrame left done idleUs safetyUs busyUs s
  | .heartbeatMiss executing => Sys2Proof.Machine.execHeartbeatMiss executing s
  | .lockstepMismatch executing => Sys2Proof.Machine.execLockstepMismatch executing s
  | .heartwoodRestart => Sys2Proof.Machine.execHeartwoodRestart s
  | .mbCmdPost prod => Sys2Proof.Machine.execMbCmdPost prod s
  | .mbResetRing => Sys2Proof.Machine.execMbResetRing s
  | .getVersion => Sys2Proof.Machine.execGetVersion s
  | .getFactory => Sys2Proof.Machine.execGetFactory s
  | .getSettings => Sys2Proof.Machine.execGetSettings s
  | .setSettings good => Sys2Proof.Machine.execSetSettings good s
  | .reboot => Sys2Proof.Machine.execReboot s
  | .getVxMap => Sys2Proof.Machine.execGetVxMap s
  | .getFaults => Sys2Proof.Machine.execGetFaults s
  | .engSignal => Sys2Proof.Machine.execEngSignal s
  | .flowOp => Sys2Proof.Machine.execFlowOp s
  | .readCapture => Sys2Proof.Machine.execReadCapture s
  | .monFrame transport bytes => Sys2Proof.Machine.execMonFrame transport bytes s
  | .hello => Sys2Proof.Machine.execHello s
  | .readReg => Sys2Proof.Machine.execReadReg s
  | .readRegLive => Sys2Proof.Machine.execReadRegLive s
  | .writeReg => Sys2Proof.Machine.execWriteReg s
  | .readMem => Sys2Proof.Machine.execReadMem s
  | .writeMem => Sys2Proof.Machine.execWriteMem s
  | .engCtrl => Sys2Proof.Machine.execEngCtrl s
  | .engCtrlPending => Sys2Proof.Machine.execEngCtrlPending s
  | .breakCmd => Sys2Proof.Machine.execBreakCmd s
  | .monEngSignal => Sys2Proof.Machine.execMonEngSignal s
  | .monGetFaults => Sys2Proof.Machine.execMonGetFaults s
  | .settings good => Sys2Proof.Machine.execSettings good s
  | .monGetFactory => Sys2Proof.Machine.execMonGetFactory s
  | .monReboot => Sys2Proof.Machine.execMonReboot s
  | .monGetVxMap => Sys2Proof.Machine.execMonGetVxMap s
  | .capture => Sys2Proof.Machine.execCapture s
  | .monReadCapture => Sys2Proof.Machine.execMonReadCapture s
  | .bistGo value baseOk => Sys2Proof.Machine.execBistGo value baseOk s
  | .bistAbort => Sys2Proof.Machine.execBistAbort s
  | .bistRunDone misr expected restoreBad => Sys2Proof.Machine.execBistRunDone misr expected restoreBad s
  | .analogueCheckGo value => Sys2Proof.Machine.execAnalogueCheckGo value s
  | .analogueCheckDone worstItem worst fail sensors => Sys2Proof.Machine.execAnalogueCheckDone worstItem worst fail sensors s
  | .tapUpdateIr op => Sys2Proof.Machine.execTapUpdateIr op s
  | .tapReset => Sys2Proof.Machine.execTapReset s
  | .lcTransition value => Sys2Proof.Machine.execLcTransition value s
  | .fuseBurnDone good => Sys2Proof.Machine.execFuseBurnDone good s
  | .wipeDone => Sys2Proof.Machine.execWipeDone s
  | .tamper mask => Sys2Proof.Machine.execTamper mask s
  | .progSlot slot good => Sys2Proof.Machine.execProgSlot slot good s
  | .revoke slot good => Sys2Proof.Machine.execRevoke slot good s
  | .provision label good => Sys2Proof.Machine.execProvision label good s
  | .kill label good => Sys2Proof.Machine.execKill label good s
  | .getDevpub => Sys2Proof.Machine.execGetDevpub s
  | .secWipeCmd => Sys2Proof.Machine.execSecWipeCmd s
  | .factoryWrite good => Sys2Proof.Machine.execFactoryWrite good s
  | .trngHealthFail => Sys2Proof.Machine.execTrngHealthFail s
  | .faultTake => Sys2Proof.Machine.execFaultTake s
  | .faultGroupOffer => Sys2Proof.Machine.execFaultGroupOffer s
  | .flashLogWrite => Sys2Proof.Machine.execFlashLogWrite s
  | .faultPortDeliver sector => Sys2Proof.Machine.execFaultPortDeliver sector s
  | .fltPendClear value => Sys2Proof.Machine.execFltPendClear value s
  | .fabricClockEdge island slow fast => Sys2Proof.Machine.execFabricClockEdge island slow fast s
  | .macLinkUp mac => Sys2Proof.Machine.execMacLinkUp mac s
  | .pcieLinkUp gen width => Sys2Proof.Machine.execPcieLinkUp gen width s
  | .pcieL1Entry => Sys2Proof.Machine.execPcieL1Entry s
  | .pcieL1Exit => Sys2Proof.Machine.execPcieL1Exit s
  | .pcieCompletionTimeout ring => Sys2Proof.Machine.execPcieCompletionTimeout ring s
  | .pfcPauseExpire mac pri => Sys2Proof.Machine.execPfcPauseExpire mac pri s
  | .monFrameGapTimeout => Sys2Proof.Machine.execMonFrameGapTimeout s
  | .i3cDynamicAddress address => Sys2Proof.Machine.execI3cDynamicAddress address s
  | .trngHealthRecover => Sys2Proof.Machine.execTrngHealthRecover s
  | .deviceWakeDone => Sys2Proof.Machine.execDeviceWakeDone s
  | .sleepEntryDone device island => Sys2Proof.Machine.execSleepEntryDone device island s
  | .ringHoldoffExpire ring => Sys2Proof.Machine.execRingHoldoffExpire ring s

end Sys2Proof.Machine
end

