-- ==== Sys2Proof/WellFormed.lean ====
section
/-! DEFINITION. The commands that the manual lets come: every operand within the range of what it names (01 R21 to R27 and each
chapter's own counts). exec gives every command a meaning; what is outside these ranges names nothing of the device. -/

namespace Sys2Proof

/-- A master of the memory layer that exists (05 R149): an island has 256 engine movers, and there are four slices. -/
def MemMaster.wf : MemMaster → Bool
  | .mover j => decide (j < 256)
  | .slice q => decide (q < 4)
  | .fabric | .management | .dma | .rowCopy | .test | .scrubber | .repair | .raw => true

/-- An operation within a bank's 512 rows of 16 words (05 R139). -/
def MemOp.wf : MemOp → Bool
  | .readWord w => decide (w < 8192)
  | .writeWord w _ m => decide (w < 8192 ∧ m < 2 ^ 16)
  | .readRow r => decide (r < 512)
  | .writeRow r _ => decide (r < 512)

/-- A packet head within its fields (10 R287). -/
def NocHead.wf (h : NocHead) : Bool :=
  decide (h.srcDev < 16 ∧ h.srcNode < 64 ∧ h.srcPort < 4 ∧ h.entry < 64 ∧ h.dstDev < 16 ∧ h.dstNode < 64 ∧ h.dstPort < 4
    ∧ h.vc < 4 ∧ h.tag < 256)

/-- A segment within its descriptor's fields (11 R315). -/
def Segment.wf (g : Segment) : Bool :=
  decide (g.queue < 4096 ∧ g.pktLen < 2 ^ 15 ∧ g.lastBytes < 64 ∧ g.meta32 < 2 ^ 32 ∧ g.payload.length ≤ 64)

/-- A well-formed command. -/
def Instr.wf : Instr → Bool
  | .registerWrite off _ size | .readClear off size =>
    decide (off < 2 ^ 25 ∧ (size = 1 ∨ size = 2 ∨ size = 4))
  | .blkCommitWrite off _ =>
    decide (off % 4 = 0 ∧ off < 2 ^ 25)
  | .commitSafePoint off group =>
    decide (off % 4 = 0 ∧ off < 2 ^ 25 ∧ group < 32)
  | .riserBeatError _ _ _ _ | .mapWriteDone | .captureArm | .captureDrainDone | .rowCopyGo _ | .lapEnd
  | .scrubPassGo | .scrubPassAbort | .scrubPassRead _ | .scrubPassDone | .remapDone | .remapFlashWrite
  | .rawRead | .rawWrite | .codedRead | .marchGo _ | .marchDone _ | .engCmdHalt | .engCmdResume | .engCmdStep
  | .engCmdReset | .relocate | .ageScanStart _ | .ageScanVisit | .ageScanDone | .regionEnable _
  | .reencWalkStart | .reencWalkDone _ | .meeFlush | .meeWalkDone | .grTimeLost | .pciePerst | .ltrUpdate _ _ _
  | .ltrSend _ | .timePpsEdge | .ppsLost | .ethTimeHiWrite _ | .ethTimeLoWrite _ | .ethTimeLoRead
  | .ethTimeStep _ | .timeSlewStep | .ethTxtsTagRead | .imageHeader _ | .frameRecord _ | .rangeRecord _
  | .repeatRecord _ | .fillRecord _ | .engineProgRecord _ | .engineDataRecord _ | .meminitRecord _
  | .tableRecord _ | .csrRecord _ | .signaturesRecord _ | .regionRecord _ | .chainRecord _ | .endRecord _ _
  | .powerOn | .resetNLow | .startupStageDone _ _ | .seqStep _ | .lockTimeout | .loadTimeout | .chainForward _ _
  | .chainFrdyTimeout | .resendRequest | .partialLoadGo | .voteCorrection | .trimWindowEnd _ _
  | .regulatorFault _ _ | .governorEval _ | .deviceWake | .pmOff | .sensorSample _ _ _ | .mgmtFrame _ _ _ _ _
  | .heartbeatMiss _ | .lockstepMismatch _ | .heartwoodRestart | .mbResetRing | .getVersion | .getFactory
  | .getSettings | .setSettings _ | .reboot | .getVxMap | .getFaults | .engSignal | .flowOp | .readCapture
  | .hello | .readReg | .readRegLive | .writeReg | .readMem | .writeMem | .engCtrl | .engCtrlPending | .breakCmd
  | .monEngSignal | .monGetFaults | .settings _ | .monGetFactory | .monReboot | .monGetVxMap | .capture
  | .monReadCapture | .bistGo _ _ | .bistAbort | .bistRunDone _ _ _ | .analogueCheckGo _
  | .analogueCheckDone _ _ _ _ | .tapUpdateIr _ | .tapReset | .lcTransition _ | .fuseBurnDone _ | .wipeDone
  | .tamper _ | .provision _ _ | .kill _ _ | .getDevpub | .secWipeCmd | .factoryWrite _ | .trngHealthFail
  | .faultTake | .faultGroupOffer | .flashLogWrite | .fltPendClear _ | .pcieLinkUp _ _ | .pcieL1Entry
  | .pcieL1Exit | .monFrameGapTimeout | .trngHealthRecover | .deviceWakeDone =>
    true
  | .parityMismatch island tile _ wire =>
    decide (island < 48 ∧ tile < 1024 ∧ wire ≤ 64)
  | .bgtestVisitEnd island tile _ _ bank _ =>
    decide (island < 48 ∧ tile < 1024 ∧ bank < 12288)
  | .locWindowEnd island tile _ _ =>
    decide (island < 48 ∧ tile < 1024)
  | .restagePathTestDone sector wire =>
    decide (sector < 96 ∧ wire < 12288)
  | .retuneStep island _ _ _ | .rowTokenGrant island | .branchSwitch island | .opTransitionEnd island
  | .opTimeout island | .generatorUnlock island | .islandWake island | .islandWakeDone island
  | .fabricClockEdge island _ _ | .sleepEntryDone _ island =>
    decide (island < 48)
  | .restagePathRetuneDone sector | .restageAccept sector | .writeBackDone sector | .restageDone sector _
  | .schedStart sector | .schedStop sector | .event sector | .schedStartTime sector | .schedDwellEnd sector
  | .schedEvtIn sector | .ctxTick sector | .schedTableTake sector | .spSegmentInject sector
  | .spIdleTimeout sector | .latchRepair sector _ _ | .sectorReload sector | .scanLapEnd sector _
  | .scanStall sector | .restart sector | .rebuild sector | .faultPortDeliver sector =>
    decide (sector < 96)
  | .rowLoad sector tile row | .rowStore sector tile row =>
    decide (sector < 96 ∧ tile < 1024 ∧ row < 512)
  | .rowCmdDone sector tile _ | .upperBurstDone sector tile =>
    decide (sector < 96 ∧ tile < 1024)
  | .upperRead sector tile group count =>
    decide (sector < 96 ∧ tile < 1024 ∧ group < 8 ∧ 0 < count ∧ count ≤ 8)
  | .upperWrite sector tile group mask data =>
    decide (sector < 96 ∧ tile < 1024 ∧ group < 8 ∧ mask < 2 ^ 16 ∧ data ≠ [] ∧ data.length ≤ 8)
  | .zConflict island tile wire _ =>
    decide (island < 48 ∧ tile < 1024 ∧ (wire < 64 ∨ wire = 127))
  | .edgeChannelWord sector edge channel _ =>
    decide (sector < 96 ∧ edge < 4 ∧ channel < 8)
  | .serialSettingsWord port _ | .serialDataWord port _ _ =>
    decide (port < 10)
  | .flashUserRead address | .flashUserProgram address _ | .flashUserErase address =>
    decide (address < 2097152)
  | .captureGoCommand edges =>
    decide ((edges.all fun n => decide (n < 3)) = true)
  | .captureFabricTrigger sector edges =>
    decide (sector < 96 ∧ (edges.all fun n => decide (n < 3)) = true)
  | .ctxStrobe sector plane | .switch sector plane | .stage sector plane =>
    decide (sector < 96 ∧ plane < 8)
  | .ctxCmdInvalid sector op =>
    decide (sector < 96 ∧ (op = 0 ∨ (6 ≤ op ∧ op < 16)))
  | .memForegroundRequest master bank _ op _ _ =>
    decide (master.wf = true ∧ bank < 12288 ∧ op.wf = true)
  | .memBackgroundGrant bank _ | .bgStarved bank _ | .bankFillDone bank | .lapScrubRead bank _ =>
    decide (bank < 12288)
  | .rowCopyDone column | .repairWriteback column | .mergeDrain column _ | .transparentTestRow column _ =>
    decide (column < 48)
  | .narrowWrite master bank word _ mask =>
    decide (master.wf = true ∧ bank < 12288 ∧ word < 8192 ∧ mask < 2 ^ 16)
  | .remapCmd bank word =>
    decide (bank < 12288 ∧ word < 8192)
  | .nopa e _ | .mpy e _ | .mac e _ | .msu e _ | .mpyr e _ | .macr e _ | .msur e _ | .addx e _ | .subx e _
  | .clr e _ | .cpya e _ | .negAcc e _ | .absAcc e _ | .asl1 e _ | .asr1 e _ | .rnd e _ | .nop e _ | .ldi e _
  | .ldih e _ | .mov e _ | .ldd e _ | .std e _ | .bra e _ | .bcc e _ | .call e _ | .ret e _ | .rti e _
  | .dbnz e _ | .rep e _ | .exp e _ | .norm e _ | .shl e _ | .shr e _ | .sat e _ | .andOp e _ | .orOp e _
  | .xorOp e _ | .inPort e _ | .outPort e _ | .wait e _ | .sig e _ | .xfer e _ | .ei e _ | .di e _ | .lock e _
  | .unlock e _ | .kick e _ | .tas e _ | .halt e _ | .trap e _ | .dmemRewrite e | .timerReload e
  | .watchdogExpire e | .interruptEntry e _ | .engStallEnd e _ | .moverBankWord e _ _ | .moverDone e
  | .boundaryHalt e | .breakpoint e =>
    decide (e < 12288)
  | .engPortPush e port _ =>
    decide (e < 12288 ∧ port < 4)
  | .sigPulseDelivered e line =>
    decide (e < 12288 ∧ line < 4)
  | .engineWindowRead e off size | .engineWindowWrite e off size _ =>
    decide (e < 12288 ∧ off < 2 ^ 16 ∧ (size = 1 ∨ size = 2 ∨ size = 4))
  | .nocRead head addr bytes =>
    decide (head.wf = true ∧ addr < 2 ^ 48 ∧ 0 < bytes)
  | .nocWrite head addr data | .writePosted head addr data =>
    decide (head.wf = true ∧ addr < 2 ^ 48 ∧ data ≠ [])
  | .readResp head _ _ | .writeAck head _ _ | .flowLookup head _ _ | .flowInsert head _ _ | .flowDelete head _ _
  | .flowAdd head _ _ | .flowCas head _ _ =>
    decide (head.wf = true)
  | .respTimeout node port tag | .flowResp node port tag _ _ =>
    decide (node < 64 ∧ port < 4 ∧ tag < 256)
  | .wakeForward node =>
    decide (node < 64)
  | .streamSegment head seg _ =>
    decide (head.wf = true ∧ seg.wf = true)
  | .farCellAck q _ | .openTimeout q | .queueEnable q _ | .queueDisable q _ | .queueFlush q | .contractCommit q
  | .contractRemove q | .promiseResume q =>
    decide (q < 4096)
  | .frameReceive mcn _ _ _ _ | .macEnable mcn _ | .macLinkDown mcn | .macLinkUp mcn =>
    decide (mcn < 96)
  | .portSlotStart slice port _ _ | .portPacketDone slice port _ _ =>
    decide (slice < 4 ∧ port < 32)
  | .farCellsWrite slice n =>
    decide (slice < 4 ∧ n < 2 ^ 29)
  | .fsKill _ index =>
    decide (index < 2 ^ 20)
  | .dramLineRead cls addr _ | .dramLineWrite cls addr _ =>
    decide (cls < 5 ∧ addr < 2 ^ 48)
  | .lineRewrite ch _ | .perBankRefresh ch | .trainingStepDone ch _ _ | .trackingRead ch _ _ | .lpRetrain ch
  | .lpSwitch ch | .lpPowerDownEntry ch =>
    decide (ch < 16)
  | .mr4Read ch code _ _ =>
    decide (ch < 16 ∧ code < 32)
  | .meePartialWrite cls addr data =>
    decide (cls < 5 ∧ addr < 2 ^ 48 ∧ data ≠ [] ∧ data.length ≤ 64)
  | .keyLoad slot _ _ | .keyRetire slot =>
    decide (slot < 64)
  | .rekey region key =>
    decide (region < 32 ∧ key < 64)
  | .meeInit region =>
    decide (region < 32)
  | .bringupStart bundle | .bringupStageTimeout bundle | .injectSingle bundle _ | .injectBurst bundle _
  | .injectRate bundle _ | .injectOff bundle _ | .graftCapability bundle _ | .echo bundle _
  | .latencyMeasure bundle _ _ _ _ | .replayTimeout bundle | .graftRetrainCmd bundle | .timeSend bundle
  | .timeReceive bundle _ =>
    decide (bundle < 12)
  | .bringupStageDone bundle lane _ _ _ | .laneLockLost bundle lane | .prbsCheckerLock bundle lane _ _ =>
    decide (bundle < 12 ∧ lane < 8)
  | .graftFlitReceive bundle wire _ =>
    decide (bundle < 12 ∧ wire.length = 88)
  | .hostRead function bar _ bytes tag =>
    decide (function < 33 ∧ bar < 6 ∧ 0 < bytes ∧ tag < 1024)
  | .hostWrite function bar _ data _ =>
    decide (function < 33 ∧ bar < 6 ∧ data ≠ [])
  | .ringEnable ring _ | .fromHostFetch ring _ _ _ | .ringCompletion ring _ _ _ | .pcieCompletionTimeout ring
  | .ringHoldoffExpire ring =>
    decide (ring < 256)
  | .doorbell ring index =>
    decide (ring < 256 ∧ index < 2 ^ 16)
  | .pcieFunctionReset functions _ =>
    decide ((functions.all fun f => decide (f < 33)) = true)
  | .msixUnmask fn vec =>
    decide (fn < 33 ∧ vec < 2048)
  | .pfcPauseReceive mcn pri _ | .pfcPauseExpire mcn pri =>
    decide (mcn < 96 ∧ pri < 8)
  | .imageStreamWrite data =>
    decide (data ≠ [])
  | .porRelease mode _ _ =>
    decide (mode < 8)
  | .scanFrameRead sector _ plane frame _ _ =>
    decide (sector < 96 ∧ plane < 8 ∧ frame < 6144)
  | .loopLock island n =>
    decide (n < (if island then 48 else 12))
  | .opTargetWrite island target =>
    decide (island < 48 ∧ target < 16)
  | .missingClock clock | .freqMonitorWindow clock _ =>
    decide (clock < 62)
  | .mbCmdPost prod =>
    decide (prod < 2 ^ 16)
  | .monFrame transport _ =>
    decide (transport < 4)
  | .progSlot slot _ | .revoke slot _ =>
    decide (slot < 16)
  | .i3cDynamicAddress address =>
    decide (address < 128)

end Sys2Proof
end

