-- ==== Sys2Proof/Safety.lean ====
section
/-! DEFINITION. What holds in every state of a run: the commands that wait are well-formed, and every addressed memory is in its
canonical form, so that equal contents are equal data. -/

namespace Sys2Proof.Machine

/-- The canonical form of every addressed memory of the device: the general banks and the words that replace remapped ones
(05 R139, 06 R194), the secure region (05 R165), the flow context array (12 R333), main memory (14 R370), and the user area of embedded
flash (03 R100). -/
def Memory.wf (s : State) : Bool :=
  SMap.wf 0 s.mem.words && SMap.wf 0 s.mem.spares && SMap.wf 0 s.mem.secure && SMap.wf 0 s.flow.words && SMap.wf 0 s.lp.lines
    && SMap.wf 0xFFFF s.fab.flash

/-- The invariant of a run: well-formed commands wait, registers are listed once each in rising order, memories are canonical. -/
def State.Canon (s : State) : Prop :=
  s.pending.all Instr.wf = true ∧ SMap.rising s.csr ∧ Memory.wf s = true

/-- A safe step: it answers a next state, neither a fault nor a refusal. -/
def State.StepsSafely (s : State) : Prop := ∃ t, step s = .next t

/-- Engine `e` issues the word `w`, a `k`, next, and it executes: the clock runs, the engine is not halted, stalled, waiting or
stepping, the word at pc decodes clean, and neither its operands nor where it stands make it an error or a stall (08 R244, R246,
R251, R258, R261; 07 R225). -/
def State.engIssues (s : State) (e w : Nat) (k : EngKind) : Prop :=
  s.engClocked e = true ∧ (s.engine e).halted = false ∧ (s.engine e).stalled = false ∧ (s.engine e).waiting = false
    ∧ (s.engine e).stepping = false
    ∧ pmemDecode (SMap.get 0 (s.engine e).pmem ((s.engine e).reg 54 % 1024)) = (.clean, w) ∧ engKind w = some k
    ∧ placeError (s.engine e) k = false ∧ operandError (s.engine e) k w = false ∧ mustStall (s.engine e) k w = false

/-- The instructions of an engine and the commands that issue them, with no upset. -/
def engPairs (e : Nat) : List (EngKind × Instr) :=
  [
    (EngKind.nopa, Instr.nopa e []), (.mpy, .mpy e []), (.mac, .mac e []), (.msu, .msu e []), (.mpyr, .mpyr e []), (.macr, .macr e []),
    (.msur, .msur e []), (.addx, .addx e []), (.subx, .subx e []), (.clr, .clr e []), (.cpya, .cpya e []), (.neg, .negAcc e []),
    (.abs, .absAcc e []), (.asl1, .asl1 e []), (.asr1, .asr1 e []), (.rnd, .rnd e []), (.nop, .nop e []), (.ldi, .ldi e []),
    (.ldih, .ldih e []), (.mov, .mov e []), (.ldd, .ldd e []), (.std, .std e []), (.bra, .bra e []), (.bcc, .bcc e []),
    (.call, .call e []), (.ret, .ret e []), (.rti, .rti e []), (.dbnz, .dbnz e []), (.rep, .rep e []), (.exp, .exp e []),
    (.norm, .norm e []), (.shl, .shl e []), (.shr, .shr e []), (.sat, .sat e []), (.and, .andOp e []), (.or, .orOp e []),
    (.xor, .xorOp e []), (.in, .inPort e []), (.out, .outPort e []), (.wait, .wait e []), (.sig, .sig e []), (.xfer, .xfer e []),
    (.ei, .ei e []), (.di, .di e []), (.lock, .lock e []), (.unlock, .unlock e []), (.kick, .kick e []), (.tas, .tas e []),
    (.halt, .halt e []), (.trap, .trap e [])]

/-- A packet head of this device that reaches `node`, one of the nodes 48 to 63, undamaged and unchanged while the device is awake:
no CRC or parity failure, no poison, and not virtual channel 0, which a link may lack (10 R290, R291, R293, R302). -/
def State.sound (s : State) (h : NocHead) (node : Nat) : Prop :=
  h.dstDev = s.fld F.NOC_GROVE_devnum ∧ h.dstNode = node ∧ 48 ≤ node ∧ h.badHead = none ∧ h.badFlit = none ∧ h.vc ≠ 0
    ∧ h.poison = false ∧ h.srcDev ≠ 16 ∧ s.fld F.PM_STATUS_dev_state = 0

/-- A queue takes starts of packet: enabled, with a free descriptor, none open and none waiting (11 R313, R316, R317). -/
def State.takesStart (s : State) (q : Nat) : Prop :=
  s.flag F.QM_Q_CFG0_en q = true ∧ 0 < s.qDescFree q ∧ (s.queue q).opened = none ∧ (s.queue q).waiting = []

/-- A record as it is stored: head, body, padding, CRC (18 R464). -/
def recordBytes (kind flags : Nat) (body : List Byte) : List Byte :=
  let p := [BitVec.ofNat 8 kind, BitVec.ofNat 8 flags, 0, 0] ++ leBytes 4 body.length ++ body ++ List.replicate ((4 - body.length % 4) % 4) 0
  p ++ leBytes 4 (crc32c p)

/-- The record of that form at the place that the load has reached. -/
def State.recordAt (s : State) (kind flags : Nat) (body : List Byte) : ImgRec :=
  { kind := kind, rflags := flags, body := body, off := s.stu.load.image.length, size := (recordBytes kind flags body).length }

/-- A load reads the record next: in the clear, from an external flash or a chain, inside the payload, well-formed and in its
place (18 R464 to R466). -/
def State.readsRecord (s : State) (kind flags : Nat) (body : List Byte) : Prop :=
  s.stu.load.active = true ∧ (s.stu.load.src = 2 ∨ s.stu.load.src = 4) ∧ s.imgEncrypted = false ∧ 64 ≤ s.stu.load.image.length
    ∧ 1 ≤ kind ∧ kind < 14 ∧ flags < 2 ∧ body.length < 2 ^ 32
    ∧ s.stu.load.image.length + (recordBytes kind flags body).length ≤ s.imgLimit
    ∧ s.recBad (s.recordAt kind flags body) (recordBytes kind flags body) (s.stu.load.count + 1) = false

/-- The state with the stored bytes of one more record read. -/
def State.afterRecord (s : State) (b : List Byte) : State :=
  { s with stu := { s.stu with load := { s.stu.load with image := s.stu.load.image ++ b, count := s.stu.load.count + 1, first := if s.stu.load.first.isNone then some s.time.ns else s.stu.load.first } } }

end Sys2Proof.Machine
end

