-- ==== Sys2Proof/Certificates/Slice0/Obligations.lean ====
section
/-! DEFINITION. The statements about the model, for the provers. -/

open Sys2Proof Sys2Proof.Machine

/-- For every command c and state s: the step of s with c put at the front of its queue is exec of c on s, the queue being the rest. And exec of a command is not affected by how it came to the front: a state whose queue is c followed by l steps to exec c on that state with queue l. -/
def Obligations.StepTakesFrontCommand : Prop :=
  (∀ (c : Instr) (s : State), step (s.withCommand c) = exec c s)
  ∧ ∀ (c : Instr) (l : List Instr) (s : State), s.pending = c :: l → step s = exec c { s with pending := l }

/-- The model's own choice (log entry 2): with no command waiting the block idles, and a step lets one nominal nanosecond of device time pass and changes nothing else. At rate 0 the time goes up by 1 ns modulo 2^64; at any rate the time with its fraction goes up by (10^9 + rate) / 10^9 ns, rounded down to 2^-32 ns. -/
def Obligations.IdleStepPassesTime : Prop :=
  (∀ s : State, s.pending = [] → ∃ t, step s = .next t ∧ t = { s with time := t.time }
    ∧ t.time.heldLo = s.time.heldLo ∧ t.time.latchedHi = s.time.latchedHi ∧ t.time.slew = s.time.slew)
  ∧ (∀ s : State, s.pending = [] → s.timeRate = 0 → s.time.frac < 2 ^ 32 →
    ∃ t, step s = .next t ∧ t.time.ns = (s.time.ns + 1) % 2 ^ 64 ∧ t.time.frac = s.time.frac)
  ∧ (∀ s : State, s.pending = [] → s.time.ns < 2 ^ 63 → s.time.frac < 2 ^ 32 →
    ∃ t, step s = .next t ∧ ((t.time.ns * 2 ^ 32 + t.time.frac : Nat) : Int)
      = s.time.ns * 2 ^ 32 + s.time.frac + 2 ^ 32 + (2 ^ 32 : Int) * s.timeRate / 10 ^ 9 )

/-- Every command answers a next state from every state: no operand, no state and no mode of the device ends a run in a fault or a refusal of the model. A command whose conditions do not hold answers a next state too. -/
def Obligations.EveryCommandCompletes : Prop :=
  (∀ (c : Instr) (s : State), ∃ t, exec c s = .next t) ∧ ∀ s : State, s.StepsSafely

/-- In the state after reset no command waits, every register is listed at most once, and the bank words, spare words, secure region, flow context array, main memory and embedded flash are in canonical form. -/
def Obligations.ResetIsCanonical : Prop :=
  State.reset.Canon ∧ State.reset.pending = []

/-- From every canonical state, whether a run reaches it or not, whatever command is in front: if the step answers a next state, that state is canonical. The commands that wait are well-formed, the registers are listed once each in rising order, and each of the six addressed memories lists rising addresses and no entry equal to what an unlisted address reads as. -/
def Obligations.EveryStepKeepsCanonical : Prop :=
  ∀ s : State, s.Canon → ∀ t, step s = .next t → t.Canon

/-- An access that is not 32 bits wide or not aligned is answered with an error response and does nothing else (R7). An offset with no register, outside the image stream window and the fault record window, ignores writes and reads 0 (R9). An RW register takes the value; an RO register ignores it; a W1C flag is cleared by 1 and kept by 0; an RC counter answers its value and is cleared, unless the read is a peek (R8). A read of an RW register has no side effect. An RWH register keeps its value while its block runs, the write setting wr_ignored and recording one info fault, and takes the value while stopped (R14). An RWL register takes its first write and locks; a later write of another value is ignored, sets wr_ignored and records one fault; a later write of the same value is ignored without a record (R15). Nothing else changes in any of them. -/
def Obligations.RegisterAccess : Prop :=
  (∀ (s : State) (off size : Nat) (v : Word), size ≠ 4 ∨ off % 4 ≠ 0 →
    exec (.registerWrite off v size) s = .next { s with out := .answer 0 1 [] :: s.out }
    ∧ exec (.readClear off size) s = .next { s with out := .answer 0 1 [] :: s.out })
  ∧ (∀ (s : State) (off : Nat) (v : Word), off % 4 = 0 → findReg off = none → off / 0x100000 ≠ 4 → off / 0x100000 ≠ 25 →
    exec (.registerWrite off v 4) s = .next s ∧ exec (.readClear off 4) s = .next (s.answer 0 0 [0, 0, 0, 0]))
  ∧ (∀ (s : State) (v : Word), exec (.registerWrite R.MI_RAW_D v 4) s = .next (s.setReg R.MI_RAW_D v)
    ∧ exec (.readClear R.MI_RAW_D 4) s = .next (s.answer 0 0 (leBytes 4 (s.reg R.MI_RAW_D).toNat)))
  ∧ (∀ (s : State) (v : Word), ∃ t, exec (.registerWrite R.DEV_ID v 4) s = .next t ∧ (∀ off i, off < 2 ^ 28 → t.reg off i = s.reg off i)
    ∧ t = { s with csr := t.csr })
  ∧ (∀ (s : State) (v : Word), ∃ t, exec (.registerWrite R.VX_STATUS v 4) s = .next t ∧
    t.flag F.VX_STATUS_wr_ignored = (s.flag F.VX_STATUS_wr_ignored && !(v.getLsbD 0))
    ∧ (∀ off i, regKey off i ≠ regKey R.VX_STATUS 0 → t.reg off i = s.reg off i) ∧ t = { s with csr := t.csr })
  ∧ (∀ s : State, exec (.readClear R.FAB_ZC_COUNT 4) s
      = .next ((s.setReg R.FAB_ZC_COUNT 0).answer 0 0 (leBytes 4 (s.reg R.FAB_ZC_COUNT).toNat))
    ∧ s.csrRead R.FAB_ZC_COUNT true = ((s.reg R.FAB_ZC_COUNT).toNat, s))
  ∧ (∀ (s : State) (v : Word), s.capBusy = false → exec (.registerWrite R.FAB_CAP_MASK0 v 4) s = .next (s.setReg R.FAB_CAP_MASK0 v))
  ∧ (∀ (s : State) (v : Word), s.capBusy = true → v ≠ s.reg R.FAB_CAP_MASK0 →
    ∃ t, exec (.registerWrite R.FAB_CAP_MASK0 v 4) s = .next t ∧ t.reg R.FAB_CAP_MASK0 = s.reg R.FAB_CAP_MASK0
      ∧ t.flag F.FAB_STATUS_wr_ignored = true ∧ t.flt = (s.raise Flt.FAB_WR_IGNORED).flt
      ∧ (∀ off i, off < 2 ^ 28 → regKey off i ≠ regKey R.FAB_STATUS 0 → t.reg off i = s.reg off i) ∧ t = { s with csr := t.csr, flt := t.flt })
  ∧ (∀ (s : State) (v : Word), NSet.has s.locked (regKey R.SEC_TAMPER_CFG 0) = false →
    ∃ t, exec (.registerWrite R.SEC_TAMPER_CFG v 4) s = .next t
      ∧ (t.reg R.SEC_TAMPER_CFG).toNat = (s.reg R.SEC_TAMPER_CFG).toNat / 512 * 512 + v.toNat % 512
      ∧ NSet.has t.locked (regKey R.SEC_TAMPER_CFG 0) = true ∧ t.flt = s.flt)
  ∧ (∀ (s : State) (v : Word), NSet.has s.locked (regKey R.SEC_TAMPER_CFG 0) = true →
    ∃ t, exec (.registerWrite R.SEC_TAMPER_CFG v 4) s = .next t ∧ t.reg R.SEC_TAMPER_CFG = s.reg R.SEC_TAMPER_CFG
      ∧ t.flt = (if v.toNat % 512 = (s.reg R.SEC_TAMPER_CFG).toNat % 512 then s else s.raise Flt.SEC_WR_IGNORED).flt
      ∧ t.flag F.SEC_STATUS_wr_ignored
        = (s.flag F.SEC_STATUS_wr_ignored || decide (v.toNat % 512 ≠ (s.reg R.SEC_TAMPER_CFG).toNat % 512)))

/-- For VX_CTRL and its group 0: a write while no commit is pending is staged, reads back, and changes no value in force; while a commit is pending it is ignored, sets wr_ignored and records VX_WR_IGNORED (R8, R12). Writing 1 to the group's BLK_COMMIT bit makes it read 1 and changes nothing else; writing 0 does nothing, and writing 1 to a pending bit does nothing further (R11). At the safe point, with no localisation open, every staged field of the group moves into force together, the group has no staged value left, and the bit reads 0 (R11, R67). With no commit pending a safe point does nothing. -/
def Obligations.CommitGroups : Prop :=
  (∀ (s : State) (v : Word), s.flag F.VX_BLK_COMMIT_grp0 = false →
    ∃ t, exec (.registerWrite R.VX_CTRL v 4) s = .next t 
      ∧ t.stagedFld F.VX_CTRL_loc_threshold = bits v.toNat 23 16 ∧ t.stagedFld F.VX_CTRL_loc_window = bits v.toNat 15 12
      ∧ t.stagedFld F.VX_CTRL_bgtest_gap = bits v.toNat 11 4 ∧ t.stagedFld F.VX_CTRL_bgtest_en = bits v.toNat 0 0
      ∧ (∀ off i, off < 2 ^ 28 → t.reg off i = s.reg off i) ∧ t = { s with csr := t.csr, staged := t.staged })
  ∧ (∀ (s : State) (v : Word), s.flag F.VX_BLK_COMMIT_grp0 = true →
    ∃ t, exec (.registerWrite R.VX_CTRL v 4) s = .next t ∧ t.staged = s.staged ∧ t.flag F.VX_STATUS_wr_ignored = true
      ∧ t.flt = (s.raise Flt.VX_WR_IGNORED).flt
      ∧ (∀ off i, off < 2 ^ 28 → regKey off i ≠ regKey R.VX_STATUS 0 → t.reg off i = s.reg off i))
  ∧ (∀ (s : State) (v : Word), v.getLsbD 0 = true → s.flag F.VX_BLK_COMMIT_grp0 = false →
    exec (.blkCommitWrite R.VX_BLK_COMMIT v) s = .next (s.setFlag F.VX_BLK_COMMIT_grp0 true))
  ∧ (∀ (s : State) (v : Word), v.getLsbD 0 = false ∨ s.flag F.VX_BLK_COMMIT_grp0 = true →
    exec (.blkCommitWrite R.VX_BLK_COMMIT v) s = .next s)
  ∧ (∀ (s : State) (w : Word), s.flag F.VX_BLK_COMMIT_grp0 = true → (s.vx.bundles.any fun e => e.2.loc.isSome) = false →
    (s.staged.filter fun e => inGroup 0x800000 0 e.1) = [(regKey R.VX_CTRL 0, w)] →
    ∃ t, exec (.commitSafePoint R.VX_BLK_COMMIT 0) s = .next t ∧ t.flag F.VX_BLK_COMMIT_grp0 = false
      ∧ t.fld F.VX_CTRL_loc_threshold = bits w.toNat 23 16 ∧ t.fld F.VX_CTRL_loc_window = bits w.toNat 15 12
      ∧ t.fld F.VX_CTRL_bgtest_gap = bits w.toNat 11 4 ∧ t.fld F.VX_CTRL_bgtest_en = bits w.toNat 0 0
      ∧ (t.staged.any fun e => inGroup 0x800000 0 e.1) = false ∧ t = { s with csr := t.csr, staged := t.staged }
      ∧ (∀ off i, off < 2 ^ 28 → regKey off i ≠ regKey R.VX_CTRL 0 → regKey off i ≠ regKey R.VX_BLK_COMMIT 0 → t.reg off i = s.reg off i))
  ∧ (∀ s : State, s.flag F.VX_BLK_COMMIT_grp0 = true → (s.vx.bundles.any fun e => e.2.loc.isSome) = false →
    (s.staged.filter fun e => inGroup 0x800000 0 e.1) = [] →
    exec (.commitSafePoint R.VX_BLK_COMMIT 0) s = .next ({ s with staged := SMap.clear s.staged (inGroup 0x800000 0) }.setFlag
      F.VX_BLK_COMMIT_grp0 false))
  ∧ (∀ (s : State) (off group : Nat), s.commitPends (windowBase off) group = false → exec (.commitSafePoint off group) s = .next s)

/-- In the state after reset, registers the spec gives a reset value hold it: DEV_ID 0x1960_8A5B (which a bus read answers, low byte first), DEV_PARAM, and registers of the layer, memory, queue, flow, DRAM, lane, Graft, PCIe, Ethernet, reliability, clock, power, thermal, monitor, security and fault blocks. The router at (x, y) has the input weights of R298, the counter registers read 0, the device is not released, no fault is raised or recorded, nothing is waiting or has been output, and the memories list nothing. -/
def Obligations.ResetRegisters : Prop :=
  exec (.readClear R.DEV_ID 4) State.reset = .next (State.reset.answer 0 0 [0x5B, 0x8A, 0x60, 0x19])
  ∧ State.reset.reg R.DEV_ID = 0x19608A5B ∧ State.reset.reg R.DEV_PARAM = 0xB0432180 ∧ State.reset.reg R.VX_CTRL = 0x42001
  ∧ State.reset.reg R.FAB_CAP_SKEW0 = 0xFFFFFFFF ∧ State.reset.reg R.MEM_BG_CTRL = 0x10000 ∧ State.reset.reg R.MEM_ROW_BURST = 0x40
  ∧ (∀ k < 48, State.reset.reg (R.MEM_ROW_SHARE + 4 * k) = 0x55) ∧ (∀ b < 256, State.reset.reg (R.MEM_BANK_CFG + 4 * b) 47 = 0x2000)
  ∧ State.reset.reg R.MI_CTRL = 0x10000003 ∧ State.reset.reg R.NOC_LINK_CFG 63 = 0xAA ∧ State.reset.reg R.QM_PORT_CFG 895 = 0x810
  ∧ State.reset.reg R.NOC_WEIGHT0 0 = BitVec.ofNat 32 (56 * 2 ^ 18 + 7 * 2 ^ 12) ∧ State.reset.reg R.NOC_WEIGHT0 63 = BitVec.ofNat 32 (56 * 2 ^ 6 + 7)
  ∧ State.reset.reg R.FS_CTRL = 0x101 ∧ State.reset.reg (R.LP_REF + 0x10000 * 15) = 0x240 ∧ State.reset.reg R.LP_PWR = 0x1000C8
  ∧ State.reset.reg R.MEE_CTRL = 0x78 ∧ State.reset.reg (R.LN_CTRL + 0x10000 * 11) = 0xFF0000 ∧ State.reset.reg R.GR_CTRL 11 = 0x26F
  ∧ State.reset.reg R.PCI_LTR = 0xFFFF0000 ∧ State.reset.reg R.ETH_MAC_CFG 95 = 0x5EE0000 ∧ State.reset.reg R.ETH_PFC 0 = 0x2001A0
  ∧ State.reset.reg R.CI_CTRL = 0x7D00001 ∧ State.reset.reg R.CLK_REF_CFG = 0xFA07D0 ∧ State.reset.reg R.PM_CTRL = 0xA30
  ∧ State.reset.reg R.TH_LIMITS = 0x5F645000 ∧ State.reset.reg R.TH_DISAGREE = 0x18 ∧ State.reset.reg R.MON_CFG = 0x2C000030
  ∧ State.reset.reg R.SEC_TAMPER_CFG = 0x1F ∧ State.reset.reg R.FLT_CTRL = 0x322 ∧ State.reset.reg R.FAB_ZC_COUNT 47 = 0
  ∧ State.reset.released = false ∧ State.reset.flt.raised = [] ∧ State.reset.flt.queue = [] ∧ State.reset.flt.record = [] ∧ State.reset.out = []
  ∧ State.reset.mem.words = [] ∧ State.reset.flow.words = [] ∧ State.reset.lp.lines = [] ∧ State.reset.pending = []

/-- On an island that is not held: a corrected beat is only counted, an uncorrectable riser beat records VX_RISER_FAULT with the column and is delivered poisoned, an uncorrectable trunk beat records it with the island, is delivered poisoned unless it is a control line, and holds the island (R38). The first parity mismatch of a bundle below loc_threshold is counted, recorded with island and tile, and stamped; one that reaches the threshold with a free spare starts a localisation on the lowest free spare (R41, R43). A localisation window in which the parity wire alone mismatched moves the parity wire to the spare (R44 step 1); one in which nothing mismatched is repeated (R45); the confirming window steers the wire found to the spare and records VX_WIRE_REPAIRED (R44). A tester visit that finds nothing moves to the next tile (R42). Each leaves everything it does not name as it was. -/
def Obligations.StackRepairCommands : Prop :=
  (∀ (s : State) (trunk control : Bool) (unit : Nat),
    exec (.riserBeatError trunk unit false control) s
      = .next { s with vx := { s.vx with beatsCorrected := SMap.upd 0 s.vx.beatsCorrected (if trunk then 64 + unit else unit) (· + 1) } })
  ∧ (∀ (s : State) (control : Bool) (column : Nat),
    exec (.riserBeatError false column true control) s = .next ((s.raise Flt.VX_RISER_FAULT [column]).emit (.beat false column)))
  ∧ (∀ (s : State) (island : Nat),
    exec (.riserBeatError true island true true) s = .next ((s.raise Flt.VX_RISER_FAULT [island]).holdIsland island)
    ∧ exec (.riserBeatError true island true false) s
        = .next (((s.raise Flt.VX_RISER_FAULT [island]).emit (.beat true island)).holdIsland island))
  ∧ (∀ (s : State) (island tile wire : Nat) (idle : List Nat), s.held island = false → (s.bundle island tile).recorded = false →
    (s.bundle island tile).loc = none →
    (((s.bundle island tile).stamps ++ [s.fabCycle island]).filter fun c => decide (s.fabCycle island - c < 65536)).length < s.locThreshold →
    ∃ t, exec (.parityMismatch island tile idle wire) s = .next t
      ∧ t.fld F.VX_ISL_PAR_count island = satAdd 32 (s.fld F.VX_ISL_PAR_count island) 1
      ∧ t.flt.raised = s.flt.raised ++ [[Flt.VX_PARITY.entry [island, tile]]]
      ∧ t.bundle island tile = { s.bundle island tile with
          recorded := true
          stamps := ((s.bundle island tile).stamps ++ [s.fabCycle island]).filter fun c => decide (s.fabCycle island - c < 65536) }
      ∧ t = { s with csr := t.csr, flt := t.flt, vx := { s.vx with bundles := t.vx.bundles } })
  ∧ (∀ (s : State) (island tile wire i : Nat) (idle : List Nat), s.held island = false → (s.bundle island tile).recorded = true →
    (s.bundle island tile).loc = none → freeSpare (s.bundle island tile) = some i →
    s.locThreshold ≤ (((s.bundle island tile).stamps ++ [s.fabCycle island]).filter fun c => decide (s.fabCycle island - c < 65536)).length →
    ∃ t, exec (.parityMismatch island tile idle wire) s = .next t
      ∧ (t.bundle island tile).loc = some ⟨i, 1, 0, 64, 0⟩
      ∧ (t.bundle island tile).spares = (s.bundle island tile).spares.set i .localising
      ∧ t.flt = s.flt)
  ∧ (∀ (s : State) (island tile : Nat) (l : LocRun), s.held island = false → (s.bundle island tile).loc = some l → l.step = 1 →
    ∃ t, exec (.locWindowEnd island tile false true) s = .next t
      ∧ t.bundle island tile = { s.bundle island tile with
          spares := (s.bundle island tile).spares.set l.spare .parity
          loc := none
          stamps := []
          recorded := false }
      ∧ t = { s with vx := { s.vx with bundles := t.vx.bundles } })
  ∧ (∀ (s : State) (island tile : Nat) (l : LocRun), s.held island = false → (s.bundle island tile).loc = some l → l.repeated ≠ 16 →
    ∃ t, exec (.locWindowEnd island tile false false) s = .next t
      ∧ t.bundle island tile = { s.bundle island tile with loc := some { l with repeated := l.repeated + 1 } }
      ∧ t = { s with vx := { s.vx with bundles := t.vx.bundles } })
  ∧ (∀ (s : State) (island tile : Nat) (l : LocRun) (p : Bool), s.held island = false → (s.bundle island tile).loc = some l → l.step = 8 →
    ∃ t, exec (.locWindowEnd island tile true p) s = .next t
      ∧ (t.bundle island tile).loc = none
      ∧ t.flt.raised = s.flt.raised ++ [[Flt.VX_WIRE_REPAIRED.entry]]
      ∧ t.vx.mapWrites = s.vx.mapWrites
          ++ [{ kind := .bundle, unit := island, tile := tile, wire := l.lo, spare := some l.spare, time := s.time.ns }])
  ∧ (∀ (s : State) (island tile bank : Nat), s.held island = false → s.flag F.VX_CTRL_bgtest_en = true →
    exec (.bgtestVisitEnd island tile [] [] bank []) s
      = .next { s with vx := { s.vx with bgTile := SMap.set 0 s.vx.bgTile island ((tile + 1) % 1024) } })

/-- With no sector start under way: a path test that finds a failing bit in a group whose spare is free steers it, records VX_WIRE_REPAIRED and starts the map's flash write (R57). A re-tune step of an island that is not held moves a line by exactly one tap toward the centre of the passing window measured, and records VX_TUNE_MARGIN only for a window narrower than 8 taps (R60, R61). A restage path's re-tune completes only with no restage pending (R62). A flash write of the map completes: the entry is kept and VX_MAP_GEN goes up by 1, or VX_MAP_FULL is recorded and neither changes (R63, R65). -/
def Obligations.RepairAndTuneCommands : Prop :=
  (∀ (s : State) (k wire : Nat), (s.path k).testing = true → ((s.path k).steered.any fun g => decide (g.1 = wire / 128)) = false →
    SMap.get none s.stu.starting k = none →
    exec (.restagePathTestDone k wire) s
      = .next (((s.setPath k { s.path k with testing := false, steered := (s.path k).steered ++ [(wire / 128, wire)] }).raise
          Flt.VX_WIRE_REPAIRED).mapChange ⟨.restagePath, k, 0, wire, some (wire / 128), 0⟩))
  ∧ (∀ (s : State) (island line lo hi start : Nat), s.held island = false → SMap.get none s.vx.retune island = some start →
    lo + 8 ≤ hi + 1 → (SMap.get {} s.vx.lines (island * 65536 + line)).pos < (lo + hi) / 2 →
    ∃ t, exec (.retuneStep island line (some (lo, hi)) false) s = .next t
      ∧ SMap.get {} t.vx.lines (island * 65536 + line) = { SMap.get {} s.vx.lines (island * 65536 + line) with
          pos := (SMap.get {} s.vx.lines (island * 65536 + line)).pos + 1
          target := (lo + hi) / 2 }
      ∧ t = { s with vx := { s.vx with lines := t.vx.lines } })
  ∧ (∀ (s : State) (island line lo hi start : Nat), s.held island = false → SMap.get none s.vx.retune island = some start →
    hi + 1 < lo + 8 → (lo + hi) / 2 < (SMap.get {} s.vx.lines (island * 65536 + line)).pos →
    ∃ t, exec (.retuneStep island line (some (lo, hi)) false) s = .next t
      ∧ (SMap.get {} t.vx.lines (island * 65536 + line)).pos + 1 = (SMap.get {} s.vx.lines (island * 65536 + line)).pos
      ∧ t.flt.raised = s.flt.raised ++ [[Flt.VX_TUNE_MARGIN.entry]]
      ∧ t.flag F.VX_TUNE_STAT_margin_low island = true)
  ∧ (∀ (s : State) (k : Nat), s.flag (F.CTX_STATUS_restaging.ctx k) = false → (s.sec k).request = none →
    exec (.restagePathRetuneDone k) s = .next (s.setPath k { s.path k with retune := false }))
  ∧ (∀ (s : State) (e : MapEntry) (l : List MapEntry), s.vx.mapWrites = e :: l → s.mgt.warm = false → s.vx.map.length < 8192 →
    ∃ t, exec .mapWriteDone s = .next t ∧ t.vx.map = s.vx.map ++ [e] ∧ t.vx.mapWrites = l
      ∧ t.fld F.VX_MAP_GEN_gen = (s.fld F.VX_MAP_GEN_gen + 1) % 2 ^ 32 ∧ t.flt = s.flt)
  ∧ (∀ (s : State) (e : MapEntry) (l : List MapEntry), s.vx.mapWrites = e :: l → s.mgt.warm = false → 8192 ≤ s.vx.map.length →
    exec .mapWriteDone s = .next (({ s with vx := { s.vx with mapWrites := l } }).raise Flt.VX_MAP_FULL))

/-- A row command of a landing tile that can command is accepted when its buffer is not busy and the bank's owner in force is its fabric port: a STORE holds the buffer as it stands, and the command asks for its row token (R91, R92); otherwise it only counts in cmd_refused and pulses row_refused (R91). When a granted STORE completes, its row is written, row_done pulses and row_err is 0; when a granted LOAD completes, the buffer and the word ports show the row read, err_mask names its uncorrectable words and row_err says whether there are any; writes of that edge count in lost_writes (R92, R94). A command with no row token does not complete. An upper burst starts when none is in progress and raises land_err otherwise (R96); a burst whose last group crosses leaves a written buffer, or the groups read (R96). A conflict of the two ends of a Z wire sets zconf, counts and records FAB_Z_CONFLICT with island, tile and wire, without changing a latch (R89). A word sent over an edge channel enters the neighbour's FIFO of 16 and is otherwise not taken (R84). -/
def Obligations.LandingAndWireCommands : Prop :=
  (∀ (s : State) (k tile row : Nat) (store : Bool), s.canCommand k tile = true → (s.land (bankUnder k tile)).cmd = none →
    s.stu.writesEnabled = true → s.fgAllowed .fabric (bankUnder k tile) false = true →
    exec (if store then .rowStore k tile row else .rowLoad k tile row) s
      = .next ((s.setLand (bankUnder k tile) { s.land (bankUnder k tile) with
          cmd := some ⟨store, row % 512, (s.land (bankUnder k tile)).buffer, true⟩ }).rowArrive (bankUnder k tile)))
  ∧ (∀ (s : State) (k tile row : Nat) (store : Bool), s.canCommand k tile = true →
    (s.land (bankUnder k tile)).cmd.isSome = true ∨ s.stu.writesEnabled = false ∨ s.fgAllowed .fabric (bankUnder k tile) false = false →
    ∃ t, exec (if store then .rowStore k tile row else .rowLoad k tile row) s = .next t
      ∧ t.land (bankUnder k tile) = { s.land (bankUnder k tile) with refused := true }
      ∧ t.csr = (s.count F.FAB_LAND_STAT_cmd_refused 1 (bankUnder k tile / 256)).csr
      ∧ t = { s with csr := t.csr, fab := { s.fab with landing := t.fab.landing } })
  ∧ (∀ (s : State) (k tile : Nat) (c : RowCmd), (s.land (bankUnder k tile)).cmd = some c → c.store = true →
    NSet.has s.mem.granted (bankUnder k tile) = true → NSet.has s.mem.filling (bankUnder k tile) = false → s.held k = false →
    exec (.rowCmdDone k tile []) s
      = .next ((({ s with mem := { s.mem with granted := NSet.put s.mem.granted (bankUnder k tile) false } }).writeRow
          (bankUnder k tile) c.row c.data).setLand (bankUnder k tile)
            { s.land (bankUnder k tile) with cmd := none, done := true, err := false, errMask := 0 }))
  ∧ (∀ (s : State) (k tile : Nat) (c : RowCmd), (s.land (bankUnder k tile)).cmd = some c → c.store = false →
    NSet.has s.mem.granted (bankUnder k tile) = true → NSet.has s.mem.filling (bankUnder k tile) = false → s.held k = false →
    ∃ t, exec (.rowCmdDone k tile []) s = .next t
      ∧ t.land (bankUnder k tile)
        = (let r := ({ s with mem := { s.mem with granted := NSet.put s.mem.granted (bankUnder k tile) false } }).readRow (bankUnder k tile) c.row
           { s.land (bankUnder k tile) with
             buffer := r.1, cmd := none, done := true, err := decide (r.2.1 ≠ 0), errMask := r.2.1
             portData := (s.land (bankUnder k tile)).portAddr.map (bufWord r.1), lastWrites := 0 }))
  ∧ (∀ (s : State) (k tile : Nat) (errors : List (Nat × Nat)), NSet.has s.mem.granted (bankUnder k tile) = false →
    exec (.rowCmdDone k tile errors) s = .next s)
  ∧ (∀ (s : State) (k tile g n mask : Nat) (data : List (BitVec 256)), 48 ≤ k → isLandingTile tile = true →
    s.landingMode (islandOf k) tile = true → s.held (islandOf k) = false → s.released = true →
    attOf (tileBits (s.liveOf k) tile) = 0xFF →
    ((s.land (bankUnder (islandOf k) tile)).burst = none →
      exec (.upperRead k tile g n) s = .next (s.setLand (bankUnder (islandOf k) tile) { s.land (bankUnder (islandOf k) tile) with
        burst := some { write := false, group := g, count := n, mask := 0, data := [] } })
      ∧ exec (.upperWrite k tile g mask data) s = .next (s.setLand (bankUnder (islandOf k) tile) { s.land (bankUnder (islandOf k) tile) with
        burst := some { write := true, group := g, count := data.length, mask := mask, data := data } }))
    ∧ (∀ u, (s.land (bankUnder (islandOf k) tile)).burst = some u → burstBusy u = true →
      exec (.upperRead k tile g n) s = .next (s.setLand (bankUnder (islandOf k) tile) { s.land (bankUnder (islandOf k) tile) with landErr := true })
      ∧ exec (.upperWrite k tile g mask data) s
        = .next (s.setLand (bankUnder (islandOf k) tile) { s.land (bankUnder (islandOf k) tile) with landErr := true })))
  ∧ (∀ (s : State) (k tile g mask : Nat) (d : BitVec 256),
    (s.land (bankUnder (islandOf k) tile)).burst = some { write := true, group := g, count := 1, mask := mask, data := [d] } →
    exec (.upperBurstDone k tile) s = .next (s.setLand (bankUnder (islandOf k) tile) { s.land (bankUnder (islandOf k) tile) with
      buffer := putBufGroup (s.land (bankUnder (islandOf k) tile)).buffer g mask d, burst := none }))
  ∧ (∀ (s : State) (k tile g : Nat),
    (s.land (bankUnder (islandOf k) tile)).burst = some { write := false, group := g, count := 1, mask := 0, data := [] } →
    exec (.upperBurstDone k tile) s = .next (s.setLand (bankUnder (islandOf k) tile) { s.land (bankUnder (islandOf k) tile) with
      burst := some { write := false, group := g, count := 1, mask := 0, data := []
                      got := [bufGroup (s.land (bankUnder (islandOf k) tile)).buffer g], cycle := 5 } }))
  ∧ (∀ (s : State) (k tile wire : Nat) (upper : Bool), s.zConflicts k tile wire = true →
    exec (.zConflict k tile wire upper) s
      = .next ((((s.setFlag F.FAB_STATUS_zconf true).count F.FAB_ZC_COUNT_count).setReg R.FAB_ZC_LAST
          (BitVec.ofNat 32 (k * 2 ^ 24 + tile * 2 ^ 14 + wire))).raise Flt.FAB_Z_CONFLICT [k, tile, wire]))
  ∧ (∀ (s : State) (k e ch n : Nat) (w : Half), neighbour k e = some n →
    ((SMap.get [] s.fab.edges (edgeKey n (oppositeEdge e) ch)).length < 16 →
      ∃ t, exec (.edgeChannelWord k e ch w) s = .next t
        ∧ SMap.get [] t.fab.edges (edgeKey n (oppositeEdge e) ch) = SMap.get [] s.fab.edges (edgeKey n (oppositeEdge e) ch) ++ [w]
        ∧ (∀ j, j ≠ edgeKey n (oppositeEdge e) ch → SMap.get [] t.fab.edges j = SMap.get [] s.fab.edges j)
        ∧ t = { s with fab := { s.fab with edges := t.fab.edges } })
    ∧ (16 ≤ (SMap.get [] s.fab.edges (edgeKey n (oppositeEdge e) ch)).length → exec (.edgeChannelWord k e ch w) s = .next s))
  ∧ (∀ (s : State) (k e ch : Nat) (w : Half), neighbour k e = none → exec (.edgeChannelWord k e ch w) s = .next s)

/-- A settings word of a hard serial port sets the value of the select it names, 0 or 1, and leaves the other (R99). A data word leaves the port and what is received enters its FIFO of 64 (R99). On the flash user port READ answers the word, PROGRAM of a word that only clears bits writes it with status 0 and otherwise writes nothing with status 1, and ERASE leaves 0xFFFF in every word of the 4 KiB sector and no other word changed (R100). A go while no capture is pending or draining captures at once, with src 1 it waits for a trigger; a go while one is pending or draining only records FAB_CAP_REFUSED (R105, R108). A trigger of a selected sector captures and any other trigger does nothing. A capture records for each selected sector its live plane and its flip-flops, holds the device time, and drains; no flip-flop, latch or memory changes (R105, R106). A drained capture replaces the store, seq goes up by 1 and valid is set (R107). -/
def Obligations.FabricPortsAndCapture : Prop :=
  (∀ (s : State) (p : Nat) (w : Half), (s.serialPort p).settings.length = 2 →
    ∃ t, exec (.serialSettingsWord p w) s = .next t
      ∧ (∀ j < 2, (t.serialPort p).settings[j]? = if j = w.toNat / 8192 then some (w.toNat % 8192) else (s.serialPort p).settings[j]?)
      ∧ (t.serialPort p).rx = (s.serialPort p).rx ∧ (∀ q, q ≠ p → t.serialPort q = s.serialPort q)
      ∧ t = { s with fab := { s.fab with serial := t.fab.serial } })
  ∧ (∀ (s : State) (p : Nat) (w : Half) (rx : List Half),
    ∃ t, exec (.serialDataWord p w rx) s = .next t
      ∧ (t.serialPort p).rx = ((s.serialPort p).rx ++ rx).take 64 ∧ (t.serialPort p).settings = (s.serialPort p).settings
      ∧ t.out = .serial p (if p < 4 then w.toNat % 256 else w.toNat) :: s.out
      ∧ (∀ q, q ≠ p → t.serialPort q = s.serialPort q) ∧ t = { s with out := t.out, fab := { s.fab with serial := t.fab.serial } })
  ∧ (∀ (s : State) (a : Nat), a < 2097152 →
    ∃ t, exec (.flashUserRead a) s = .next t ∧ t.fab.flashRx = (s.fab.flashRx ++ [s.flashWord a]).take 64 ∧ t.fab.flash = s.fab.flash)
  ∧ (∀ (s : State) (a : Nat) (w : Half), a < 2097152 →
    ∃ t, exec (.flashUserProgram a w) s = .next t
      ∧ (s.flashWord a &&& w = w → t.flashWord a = w ∧ (∀ b, b ≠ a → t.flashWord b = s.flashWord b)
        ∧ t.fab.flashRx = (s.fab.flashRx ++ [0]).take 64)
      ∧ (s.flashWord a &&& w ≠ w → t.fab.flash = s.fab.flash ∧ t.fab.flashRx = (s.fab.flashRx ++ [1]).take 64)
      ∧ t = { s with fab := { s.fab with flash := t.fab.flash, flashRx := t.fab.flashRx, serial := t.fab.serial } })
  ∧ (∀ (s : State) (a : Nat), a < 2097152 →
    ∃ t, exec (.flashUserErase a) s = .next t ∧ (∀ b, b / 2048 = a / 2048 → t.flashWord b = 0xFFFF)
      ∧ (∀ b, b / 2048 ≠ a / 2048 → t.flashWord b = s.flashWord b) ∧ t.fab.flashRx = (s.fab.flashRx ++ [0]).take 64
      ∧ t = { s with fab := { s.fab with flash := t.fab.flash, flashRx := t.fab.flashRx, serial := t.fab.serial } })
  ∧ (∀ (s : State) (edges : List Nat), s.capBusy = false →
    exec (.captureGoCommand edges) s = .next ((s.setFld F.FAB_CAP_CTRL_src 0).capture edges)
    ∧ exec .captureArm s = .next ((s.setFld F.FAB_CAP_CTRL_src 1).setFlag F.FAB_STATUS_cap_pending true))
  ∧ (∀ (s : State) (edges : List Nat), s.capBusy = true →
    exec (.captureGoCommand edges) s = .next (s.raise Flt.FAB_CAP_REFUSED) ∧ exec .captureArm s = .next (s.raise Flt.FAB_CAP_REFUSED))
  ∧ (∀ (s : State) (k : Nat) (edges : List Nat),
    exec (.captureFabricTrigger k edges) s
      = .next (if s.flag F.FAB_STATUS_cap_pending = true ∧ k ∈ s.capSelected then s.capture edges else s))
  ∧ (∀ (s : State) (edges : List Nat),
    (∀ k ∈ s.capSelected, SMap.get {} (s.capture edges).fab.shadow k = ⟨true, s.livePlane k % 8, SMap.get [] s.fab.ff k⟩)
    ∧ (s.capture edges).pair R.FAB_CAP_TIME_LO R.FAB_CAP_TIME_HI = s.time.ns % 2 ^ 64
    ∧ (s.capture edges).flag F.FAB_STATUS_cap_pending = false ∧ (s.capture edges).flag F.FAB_STATUS_cap_draining = true
    ∧ s.capture edges = { s with csr := (s.capture edges).csr, fab := { s.fab with shadow := (s.capture edges).fab.shadow } })
  ∧ (∀ s : State, s.flag F.FAB_STATUS_cap_draining = true →
    ∃ t, exec .captureDrainDone s = .next t ∧ t.fab.store = s.fab.shadow ∧ t.flag F.FAB_STATUS_cap_draining = false
      ∧ t.fld F.FAB_CAP_STAT_seq = (s.fld F.FAB_CAP_STAT_seq + 1) % 2 ^ (F.FAB_CAP_STAT_seq.hi + 1 - F.FAB_CAP_STAT_seq.lo)
      ∧ t.flag F.FAB_CAP_STAT_valid = true ∧ t = { s with csr := t.csr, fab := { s.fab with store := s.fab.shadow } })

/-- An island whose clock does not run has no edge: nothing changes. At an edge of an island whose clock runs, its fabric cycles go up by 1; each flip-flop of its two sectors takes the value R73 gives it from the signals of the cycle before, and each memory cluster cell takes its write (R76); the oscillator inputs move one synchroniser stage on (R97); pm_woke has had its cycle. Sectors of other islands keep their flip-flops and latches, and no register, fault or bank memory changes. A flip-flop with its reset used and the reset 1 takes its reset value, whatever its clock enable; else with its enable used and the enable 0 it holds; else it takes its selected source (R73). -/
def Obligations.FabricClockEdge : Prop :=
  (∀ (s : State) (k : Nat) (slow : Bool) (fast : Nat), s.clocked k = false ∨ 48 ≤ k → exec (.fabricClockEdge k slow fast) s = .next s)
  ∧ (∀ (s : State) (k : Nat) (slow : Bool) (fast : Nat), k < 48 → s.clocked k = true →
    ∃ t, exec (.fabricClockEdge k slow fast) s = .next t
      ∧ t.fabCycle k = s.fabCycle k + 1 ∧ (∀ j, j ≠ k → t.fabCycle j = s.fabCycle j)
      ∧ (∀ j, j = k ∨ j = k + 48 → SMap.get [] t.fab.ff j = s.ffEdge (s.sig fabFuel) j ∧ t.liveOf j = s.memEdge (s.sig fabFuel) j)
      ∧ (∀ j, j ≠ k → j ≠ k + 48 → SMap.get [] t.fab.ff j = SMap.get [] s.fab.ff j ∧ t.liveOf j = s.liveOf j)
      ∧ t.oscOf k = (s.oscOf k).edge slow fast ∧ NSet.has t.pm.woke k = false ∧ t.csr = s.csr ∧ t.mem = s.mem
      ∧ t.flt.raised = s.flt.raised ∧ t.flt.queue = s.flt.queue ∧ t.pending = s.pending)
  ∧ (∀ (s : State) (r : FabNode → Bool) (k tile tb c q : Nat), ffSr (cellBits tb c) q = true →
    r (.mux k tile (ctrlMux (c / 16) 1)) = true → s.ffNext r k tile tb c q = ffSrval (cellBits tb c) q)
  ∧ (∀ (s : State) (r : FabNode → Bool) (k tile tb c q : Nat),
    ffSr (cellBits tb c) q = false ∨ r (.mux k tile (ctrlMux (c / 16) 1)) = false →
    (ffCe (cellBits tb c) q = true → r (.mux k tile (ctrlMux (c / 16) 0)) = false → s.ffNext r k tile tb c q = s.ffBit k tile c q)
    ∧ (ffCe (cellBits tb c) q = false ∨ r (.mux k tile (ctrlMux (c / 16) 0)) = true →
      s.ffNext r k tile tb c q = (match ffDsel (cellBits tb c) q with
        | 0 => r (.out k tile c q)
        | 1 => r (.out k tile c (1 - q))
        | 2 => r (.out k tile c (2 + q))
        | _ => r (.mux k tile (inputMux c (6 + q))))))

/-- The exchange of a sector swaps its live and staged latches, names the old staged plane live and the old live plane staged, and counts one switch (R121). A strobe is taken only with fab_en 1, no schedule running and ctx_busy 0, and on a staged plane switches; any other strobe on a sector that is not held only counts in CTX_REQ_DROP (R124). The SWITCH command on a staged plane does the same exchange; while a schedule runs or ctx_busy is 1 it only records CTX_CMD_REFUSED, and so do STAGE of the live plane and an op of 0 or 6 to 15 (R125). STAGE of a loaded plane that is not live leaves a request. An accepted request with nothing to write back empties the staged latches and sets restaging with its plane (R116); a write-back ends by copying the memory-cluster bits into the resident plane (R117); a restage that ends with no fault found leaves the staged latches valid with that plane (R116). -/
def Obligations.ContextSwitchCommands : Prop :=
  (∀ (s : State) (k : Nat), (s.sec k).live = true →
    (s.ctxExchange k).liveOf k = s.stagedOf k ∧ (s.ctxExchange k).stagedOf k = s.liveOf k
    ∧ (s.ctxExchange k).fld (F.CTX_SWITCH_CNT_count.ctx k) = satAdd 32 (s.fld (F.CTX_SWITCH_CNT_count.ctx k)) 1
    ∧ (s.ctxExchange k).fld (F.CTX_STATUS_live_plane.ctx k) = s.fld (F.CTX_STATUS_staged_plane.ctx k)
    ∧ (s.ctxExchange k).fld (F.CTX_STATUS_staged_plane.ctx k) = s.fld (F.CTX_STATUS_live_plane.ctx k)
    ∧ (s.ctxExchange k).fld (F.CTX_STATUS_staged_state.ctx k) = 1
    ∧ ((s.ctxExchange k).sec k).switched = true)
  ∧ (∀ (s : State) (k p : Nat), s.held (islandOf k) = false → s.flag (F.CTX_CTRL_fab_en.ctx k) = true →
    s.flag (F.CTX_STATUS_sched_run.ctx k) = false → s.ctxBusy k = false → p ≠ s.livePlane k → s.planeLoaded k p = true →
    s.stagedValid k p = true → s.stagedUnusable k p = false →
    exec (.ctxStrobe k p) s = .next (s.ctxExchange k) ∧ exec (.switch k p) s = .next (s.ctxExchange k))
  ∧ (∀ (s : State) (k p : Nat), s.held (islandOf k) = false →
    s.flag (F.CTX_CTRL_fab_en.ctx k) = false ∨ s.flag (F.CTX_STATUS_sched_run.ctx k) = true ∨ s.ctxBusy k = true →
    exec (.ctxStrobe k p) s = .next (s.count (F.CTX_REQ_DROP_count.ctx k)))
  ∧ (∀ (s : State) (k p : Nat), s.flag (F.CTX_STATUS_sched_run.ctx k) = true ∨ s.ctxBusy k = true →
    exec (.switch k p) s = .next (s.raise Flt.CTX_CMD_REFUSED [k]) ∧ exec (.stage k p) s = .next (s.raise Flt.CTX_CMD_REFUSED [k]))
  ∧ (∀ (s : State) (k p : Nat), s.flag (F.CTX_STATUS_sched_run.ctx k) = false → s.ctxBusy k = false → p ≠ s.livePlane k →
    s.planeLoaded k p = true → exec (.stage k p) s = .next (s.setSec k { s.sec k with request := some p }))
  ∧ (∀ (s : State) (k op : Nat), op = 0 ∨ 6 ≤ op → exec (.ctxCmdInvalid k op) s = .next (s.raise Flt.CTX_CMD_REFUSED [k]))
  ∧ (∀ (s : State) (k p : Nat), (s.sec k).request = some p → s.flag (F.CTX_STATUS_restaging.ctx k) = false →
    s.held (islandOf k) = false → p ≠ s.livePlane k → s.planeLoaded k p = true → s.restageRefused k p = false →
    s.stagedValid k (s.fld (F.CTX_STATUS_staged_plane.ctx k)) = false → SMap.get none s.stu.starting k = none →
    exec (.restageAccept k) s
      = .next (((((s.setSec k { s.sec k with request := none }).setFld (F.CTX_STATUS_staged_state.ctx k) 0).setFlag
          (F.CTX_STATUS_restaging.ctx k) true).setFld (F.CTX_STATUS_restage_plane.ctx k) p).setStaged k []))
  ∧ (∀ (s : State) (k : Nat), s.flag (F.CTX_STATUS_wb_busy.ctx k) = true →
    exec (.writeBackDone k) s
      = .next ((((s.setPlane k (s.fld (F.CTX_STATUS_staged_plane.ctx k)) (writeBack (s.plane k (s.fld (F.CTX_STATUS_staged_plane.ctx k)))
          (s.stagedOf k))).setFlag (F.CTX_STATUS_wb_busy.ctx k) false).setStaged k [])))
  ∧ (∀ (s : State) (k : Nat), s.flag (F.CTX_STATUS_restaging.ctx k) = true → s.flag (F.CTX_STATUS_wb_busy.ctx k) = false →
    (SMap.get {} s.vx.paths k).testing = false → SMap.get none s.stu.starting k = none → (s.sec k).late = none →
    s.stageFaults k (s.fld (F.CTX_STATUS_restage_plane.ctx k)) (s.plane k (s.fld (F.CTX_STATUS_restage_plane.ctx k))) = [] →
    exec (.restageDone k none) s
      = .next ((((s.setStaged k (s.plane k (s.fld (F.CTX_STATUS_restage_plane.ctx k)))).setFlag (F.CTX_STATUS_restaging.ctx k) false).setFld
          (F.CTX_STATUS_staged_plane.ctx k) (s.fld (F.CTX_STATUS_restage_plane.ctx k))).setFld (F.CTX_STATUS_staged_state.ctx k) 1))

/-- SCHED_START with a checked table and no schedule running sets sched_run, starts at entry 0 and clears laps and missed_evt, staging nothing where entry 0's plane is live; with an unchecked table it only records CTX_CMD_REFUSED (R129). At the start time entry 0 is entered, with no switch where its plane is live (R127). The dwell ends: an entry that waits for an event not yet seen waits; an entry with neither wait, stop nor loop goes on to the next; a stop entry with no table waiting counts a lap and halts (R127). SCHED_STOP halts within the entry and abandons a pending late switch (R129). An event by the selected source latches in an entry that waits, lets a waiting schedule move on, and is otherwise counted in missed_evt; by another source, or with no schedule running, it changes nothing (R128). A checked table is taken while no schedule runs (R131). -/
def Obligations.ScheduleCommands : Prop :=
  (∀ (s : State) (k : Nat), s.flag (F.CTX_STATUS_sched_run.ctx k) = false → (s.sec k).checked = false →
    exec (.schedStart k) s = .next (s.raise Flt.CTX_CMD_REFUSED [k]))
  ∧ (∀ (s : State) (k : Nat), s.flag (F.CTX_STATUS_sched_run.ctx k) = false → (s.sec k).checked = true →
    ∃ t, exec (.schedStart k) s = .next t ∧ t.flag (F.CTX_STATUS_sched_run.ctx k) = true
      ∧ t.fld (F.CTX_STATUS_cur_entry.ctx k) = 0 ∧ t.fld (F.CTX_SCHED_STAT_laps.ctx k) = 0
      ∧ t.fld (F.CTX_SCHED_STAT_missed_evt.ctx k) = 0 ∧ (t.sec k).armed = true ∧ (t.sec k).want = some 0
      ∧ t.flt = s.flt ∧ t.fab = s.fab)
  ∧ (∀ (s : State) (k : Nat), (s.sec k).armed = true → s.held (islandOf k) = false →
    exec (.schedStartTime k) s
      = .next ((s.setSec k { s.sec k with armed := false }).goEntry k 0 (s.fabCycle (islandOf k))))
  ∧ (∀ (s : State) (k : Nat), s.flag (F.CTX_STATUS_sched_run.ctx k) = true → s.flag (F.CTX_STATUS_sched_wait.ctx k) = false →
    (s.sec k).want = none → (s.sec k).evtLatched = false → s.held (islandOf k) = false →
    entryWait (s.actEntry k (s.fld (F.CTX_STATUS_cur_entry.ctx k))) = true →
    ∃ t, exec (.schedDwellEnd k) s = .next t ∧ t.flag (F.CTX_STATUS_sched_wait.ctx k) = true
      ∧ t.fabCycle (islandOf k) = s.fabCycle (islandOf k) + (s.sec k).dwell ∧ (t.sec k).dwell = 0 ∧ t.fab = s.fab ∧ t.flt = s.flt)
  ∧ (∀ (s : State) (k : Nat), s.flag (F.CTX_STATUS_sched_run.ctx k) = true → s.flag (F.CTX_STATUS_sched_wait.ctx k) = false →
    (s.sec k).want = none → (s.sec k).dwell = 0 → (s.sec k).nextWaits = false → s.held (islandOf k) = false →
    entryWait (s.actEntry k (s.fld (F.CTX_STATUS_cur_entry.ctx k))) = false →
    entryStop (s.actEntry k (s.fld (F.CTX_STATUS_cur_entry.ctx k))) = true →
    ∃ t, exec (.schedDwellEnd k) s = .next t ∧ t.flag (F.CTX_STATUS_sched_run.ctx k) = false
      ∧ t.fld (F.CTX_SCHED_STAT_laps.ctx k) = (s.fld (F.CTX_SCHED_STAT_laps.ctx k) + 1) % 2 ^ 16 ∧ t.fab = s.fab ∧ t.flt = s.flt)
  ∧ (∀ (s : State) (k : Nat), exec (.schedStop k) s = .next ((s.schedHalt k).setLate k none)
      ∧ ((s.schedHalt k).setLate k none).flag (F.CTX_STATUS_sched_run.ctx k) = false
      ∧ ((s.schedHalt k).setLate k none).flag (F.CTX_STATUS_late_pend.ctx k) = false
      ∧ (((s.schedHalt k).setLate k none).sec k).late = none ∧ ((s.schedHalt k).setLate k none).fab = s.fab)
  ∧ (∀ (s : State) (k src : Nat) (c : Instr), c = .event k ∧ src = 1 ∨ c = .schedEvtIn k ∧ src = 0 ∧ s.held (islandOf k) = false
      ∨ c = .ctxTick k ∧ src = 2 ∧ s.held (islandOf k) = false ∧ s.fld (F.CTX_TICK_period_ns.ctx k) ≠ 0 →
    exec c s = .next (if s.evtSrc k = src then s.schedEvent k else s))
  ∧ (∀ (s : State) (k : Nat), s.flag (F.CTX_STATUS_sched_run.ctx k) = false → s.schedEvent k = s)
  ∧ (∀ (s : State) (k : Nat), s.flag (F.CTX_STATUS_sched_run.ctx k) = true → s.flag (F.CTX_STATUS_sched_wait.ctx k) = false →
    (s.sec k).want = none → (s.sec k).evtLatched = false → entryWait (s.actEntry k (s.fld (F.CTX_STATUS_cur_entry.ctx k))) = true →
    s.schedEvent k = s.setSec k { s.sec k with evtLatched := true })
  ∧ (∀ (s : State) (k : Nat), s.flag (F.CTX_STATUS_sched_run.ctx k) = true → s.flag (F.CTX_STATUS_sched_wait.ctx k) = false →
    entryWait (s.actEntry k (s.fld (F.CTX_STATUS_cur_entry.ctx k))) = false →
    s.schedEvent k = s.count (F.CTX_SCHED_STAT_missed_evt.ctx k))
  ∧ (∀ (s : State) (k : Nat), (s.sec k).nextWaits = true → s.flag (F.CTX_STATUS_sched_run.ctx k) = false →
    exec (.schedTableTake k) s = .next (s.takeTable k) ∧ ((s.takeTable k).sec k).checked = true
      ∧ ((s.takeTable k).sec k).nextWaits = false ∧ (s.takeTable k).flag (F.CTX_BLK_COMMIT_grp0.ctx k) = false)

/-- Under every code, S, M and L, a word encoded with fresh check bits decodes clean to the same 128 data bits, whatever they are (R171 to R174). All-zero physical bits decode clean to zero and the poison pattern decodes as poison, under every code (R175). -/
def Obligations.StoredWordsDecode : Prop :=
  (∀ (code : Nat) (d : BankData), decodeWord code (encodeWord code d) = ⟨.clean, d, []⟩)
  ∧ (∀ code : Nat, decodeWord code 0 = ⟨.clean, 0, []⟩)
  ∧ (∀ code : Nat, (decodeWord code (poisonWord code)).found = .poison ∧ (decodeWord code (poisonWord code)).data = 0)

/-- A foreground request of the owner in force on a bank that is not filling is served and answered: a read returns the word with pending bytes laid over it, with status 2 if it is bad; a write answers status 0 (R151, R153). A request of another master is refused with an error response and MEM_NOT_OWNER and changes nothing else (R151). While its island is held a class-0 port presents none (R157). During a fill it waits (06 R186). The oldest background request of a bank that allows it is carried out and leaves the queue; one beyond bg_access is refused with MEM_BG_REFUSED (R152, R155). A request that starves counts once, is shown in MEM_STARVE_LAST, sets starve_any and records MEM_BG_STARVED, keeping its place (R156). The oldest waiting row move takes a token when one is there and waits otherwise (R159). A row copy that is refused records MEM_RC_REFUSED and sets no other state; one accepted sets busy and clears err (R162); its completion ends busy. A narrow write with no entry of its word and a free one takes an entry, and any write of the owner answers status 0 (06 R180, R181). -/
def Obligations.MemoryRequests : Prop :=
  (∀ (s : State) (m : MemMaster) (bank : Nat) (portB : Bool), (s.ownerClass bank = 0 → s.held (bank / 256) = false) →
    s.fgAllowed m bank portB = true → NSet.has s.mem.filling bank = false →
    (∀ w, exec (.memForegroundRequest m bank portB (.readWord w) none []) s
      = .next ((s.readWord bank w).2.2.answer bank (if (s.readWord bank w).2.1 then 2 else 0) (leBytes 16 (s.readWord bank w).1.toNat)))
    ∧ (∀ w d mask, exec (.memForegroundRequest m bank portB (.writeWord w d mask) none []) s
      = .next ((s.writeWord bank w d mask).answer bank 0))
    ∧ (∀ r, exec (.memForegroundRequest m bank portB (.readRow r) none []) s
      = .next ((s.readRow bank r).2.2.answer bank (if (s.readRow bank r).2.1 ≠ 0 then 2 else 0) (leBytes 256 (s.readRow bank r).1.toNat)))
    ∧ (∀ r d, exec (.memForegroundRequest m bank portB (.writeRow r d) none []) s = .next ((s.writeRow bank r d).answer bank 0)))
  ∧ (∀ (s : State) (m : MemMaster) (bank : Nat) (portB : Bool) (op : MemOp) (o : Option (MemMaster × MemOp)) (u : List Nat),
    (s.ownerClass bank = 0 → s.held (bank / 256) = false) → s.fgAllowed m bank portB = false →
    exec (.memForegroundRequest m bank portB op o u) s = .next ((s.answer bank 1).raise Flt.MEM_NOT_OWNER))
  ∧ (∀ (s : State) (m : MemMaster) (bank : Nat) (portB : Bool) (op : MemOp) (o : Option (MemMaster × MemOp)) (u : List Nat),
    s.ownerClass bank = 0 → s.held (bank / 256) = true → exec (.memForegroundRequest m bank portB op o u) s = .next s)
  ∧ (∀ (s : State) (bank : Nat) (r : MemReq) (rest : List MemReq), NSet.has s.mem.filling bank = false → s.bgOf bank = r :: rest →
    ((s.setBg bank rest).bgAllowed r.master bank r.op = true →
      exec (.memBackgroundGrant bank none) s = .next ((s.setBg bank rest).bgRun bank r))
    ∧ ((s.setBg bank rest).bgAllowed r.master bank r.op = false → r.job = none →
      exec (.memBackgroundGrant bank none) s = .next (((s.setBg bank rest).raise Flt.MEM_BG_REFUSED).answer bank 1)))
  ∧ (∀ (s : State) (bank : Nat) (r : MemReq) (rest : List MemReq), s.bgOf bank = r :: rest → r.starved = false →
    exec (.bgStarved bank (masterStarveCode r.master)) s
      = .next (((((s.setBg bank ({ r with starved := true } :: rest)).count F.MEM_COL_STARVE_count 1 (bank / 256)).setReg R.MEM_STARVE_LAST
          (BitVec.ofNat 32 (masterStarveCode r.master * 2 ^ 29 + bank / 256 * 2 ^ 8 + bank % 256))).setFlag F.MEM_STATUS_starve_any true).raise
            Flt.MEM_BG_STARVED))
  ∧ (∀ (s : State) (bank : Nat) (r : MemReq) (rest : List MemReq), s.bgOf bank = r :: rest → r.starved = true →
    exec (.bgStarved bank (masterStarveCode r.master)) s = .next s)
  ∧ (∀ (s : State) (k : Nat) (w : RowWait) (rest : List RowWait), s.rowWaits k = w :: rest →
    (4096 ≤ s.rowTokens k → exec (.rowTokenGrant k) s
      = .next ((((s.takeTokens k 1).count F.MEM_COL_ROWWAIT_cycles (s.memCycle k - w.since) k).setRowWaits k
          (rest.map fun x => { x with since := max x.since (s.memCycle k) })).rowGranted w.bank))
    ∧ (s.rowTokens k < 4096 → exec (.rowTokenGrant k) s = .next s))
  ∧ (∀ (s : State) (n : Nat), s.rowCopyRefused (s.fld F.MEM_COL_SEL_column) n = true → exec (.rowCopyGo n) s = .next (s.raise Flt.MEM_RC_REFUSED))
  ∧ (∀ (s : State) (n : Nat), s.rowCopyRefused (s.fld F.MEM_COL_SEL_column) n = false →
    ∃ t, exec (.rowCopyGo n) s = .next t ∧ t.flag F.MEM_RC_CTRL_busy (s.fld F.MEM_COL_SEL_column) = true
      ∧ t.flag F.MEM_RC_CTRL_err (s.fld F.MEM_COL_SEL_column) = false
      ∧ (SMap.get {} t.mem.copies (s.fld F.MEM_COL_SEL_column)).rows = n ∧ t.mem.words = s.mem.words ∧ t.flt = s.flt)
  ∧ (∀ (s : State) (col : Nat), s.flag F.MEM_RC_CTRL_busy col = true →
    ∃ t, exec (.rowCopyDone col) s = .next t ∧ t.flag F.MEM_RC_CTRL_busy col = false)
  ∧ (∀ (s : State) (m : MemMaster) (bank word : Nat) (d : BankData) (mask : Nat), isForegroundMaster m = true →
    s.fgAllowed m bank false = true ∨ s.fgAllowed m bank true = true → NSet.has s.mem.filling bank = false →
    exec (.narrowWrite m bank word d mask) s = .next ((s.writeWord bank word d mask).answer bank 0)
    ∧ (mask ≠ 0xFFFF → isNarrow (s.codeOf bank) mask = true → (s.mergeOf (bank / 256)).find? (fun e => decide (e.bank = bank) && decide (e.word = word)) = none →
      (s.mergeOf (bank / 256)).length < 8 →
      s.writeWord bank word d mask
        = s.setMerge (bank / 256) (s.mergeOf (bank / 256) ++ [⟨bank, word, overlay 0 d mask, mask, s.memCycle (bank / 256)⟩])))

/-- Where the entry that drains is not full and the read of its word is uncorrectable or poison, the word is written as the poison pattern of its code (R175), the entry leaves the buffer with its bytes, and MI_MERGE_POISONED is recorded at severity degraded with the column, bank and word as location. -/
def Obligations.MergeDrainOfBadWord : Prop :=
  ∀ (s : State) (col : Nat) (e : MergeEntry) (u : List Nat),
    (((s.mergeOf col).find? fun e => decide (e.mask = 0xFFFF)).or (s.mergeOf col).head?) = some e → e.mask ≠ 0xFFFF →
    ((s.upset e.bank e.word u).decodeAt e.bank e.word).found = .uncorrectable
      ∨ ((s.upset e.bank e.word u).decodeAt e.bank e.word).found = .poison →
    ∃ t, exec (.mergeDrain col u) s = .next t ∧ t.wordBits e.bank e.word = poisonWord (s.codeOf e.bank)
      ∧ t.mergeOf col = (s.mergeOf col).erase e
      ∧ t.flt.raised.getLast? = some [{ code := 0x0603, sev := 2, src := 0, loc := [col, e.bank, e.word] }]

/-- A full merge entry is written as a whole word and leaves the buffer (R182). The oldest repair-queue entry is written back under its bank's code and leaves the queue (R177). The end of a fill lets the accesses that waited run, in order (R186). The lap scrubber's read of a clean word changes nothing but its place; of a corrected word it writes back fresh code; it does not run where it is neither enabled nor forced (R188, R191). The end of a lap reports its duration and counts it, and every column starts again (R189). A scrub pass that is refused records MI_SCRUB_REFUSED; one accepted sets busy, clears done and the summary and starts at its first word; an abort ends it with done 0; a pass that has read its last word ends with done (R190). A clean word read by a pass counts as checked and nothing else (R202). A REMAP command is asked for once; a remap gives its word the next spare word with what the word decodes to, records MI_REMAPPED and is owed to flash; with 64 entries it records MI_REMAP_FULL and remaps nothing (R194 to R196). -/
def Obligations.ScrubAndRepairCommands : Prop :=
  (∀ (s : State) (col : Nat) (e : MergeEntry),
    ((s.mergeOf col).find? fun e => decide (e.mask = 0xFFFF)) = some e → e.mask = 0xFFFF →
    exec (.mergeDrain col []) s = .next ((s.setMerge col ((s.mergeOf col).erase e)).writeWhole e.bank e.word e.data))
  ∧ (∀ (s : State) (col : Nat) (e : RepairEntry) (rest : List RepairEntry), SMap.get [] s.mem.repair col = e :: rest →
    ∃ t, exec (.repairWriteback col) s = .next t ∧ t.wordBits e.bank e.word = encodeWord (s.codeOf e.bank) e.data
      ∧ SMap.get [] t.mem.repair col = rest ∧ t.csr = s.csr ∧ t.flt = s.flt ∧ t.mem.merge = s.mem.merge)
  ∧ (∀ (s t : State) (bank : Nat), NSet.has s.mem.filling bank = true →
    t = (SMap.get [] s.mem.fillWait bank).foldl (fun (t : State) r => t.doOp bank bank r.op)
          { s with mem := { s.mem with
              filling := NSet.put s.mem.filling bank false, fillWait := SMap.set [] s.mem.fillWait bank [] } } →
    (t.mem.rawWaits = none → exec (.bankFillDone bank) s = .next t)
    ∧ (∀ op, t.mem.rawWaits = some op → t.rawTarget.1 = bank →
      exec (.bankFillDone bank) s
        = .next ((({ t with mem := { t.mem with rawWaits := none } }).setFlag F.MI_RAW_CTRL_busy false).rawDo op)))
  ∧ (∀ (s : State) (bank : Nat), s.flag F.MI_CTRL_lap_en = true ∨ s.lapForced = true → SMap.get 0 s.mem.lapNext bank < 8192 →
    NSet.has s.mem.filling bank = false → (s.decodeAt bank (SMap.get 0 s.mem.lapNext bank)).found = .clean →
    ∃ t, exec (.lapScrubRead bank []) s = .next t ∧ SMap.get 0 t.mem.lapNext bank = SMap.get 0 s.mem.lapNext bank + 1
      ∧ t.mem.words = s.mem.words ∧ t.mem.spares = s.mem.spares ∧ t.csr = s.csr ∧ t.flt = s.flt)
  ∧ (∀ (s : State) (bank : Nat), s.flag F.MI_CTRL_lap_en = false → s.lapForced = false → exec (.lapScrubRead bank []) s = .next s)
  ∧ (∀ (s : State), ∃ t, exec .lapEnd s = .next t ∧ t.mem.lapNext = [] ∧ t.mem.lapStart = s.time.ns
      ∧ t.fld F.MI_LAP_STAT_lap_us = min (2 ^ 24 - 1) ((s.time.ns - s.mem.lapStart) / 1000)
      ∧ t.fld F.MI_LAP_STAT_laps = (s.fld F.MI_LAP_STAT_laps + 1) % 256 ∧ t.mem.words = s.mem.words)
  ∧ (∀ (s : State), s.flag F.MI_SCRUB_CTRL_busy = true ∨ s.fld F.MI_SCRUB_LAST_word < s.fld F.MI_SCRUB_FIRST_word
      ∨ 0x6000000 ≤ s.fld F.MI_SCRUB_LAST_word → exec .scrubPassGo s = .next (s.raise Flt.MI_SCRUB_REFUSED))
  ∧ (∀ (s : State), s.flag F.MI_SCRUB_CTRL_busy = false → s.fld F.MI_SCRUB_FIRST_word ≤ s.fld F.MI_SCRUB_LAST_word →
    s.fld F.MI_SCRUB_LAST_word < 0x6000000 →
    ∃ t, exec .scrubPassGo s = .next t ∧ t.mem.pass = some ⟨s.fld F.MI_SCRUB_FIRST_word, s.fld F.MI_SCRUB_LAST_word⟩
      ∧ t.flag F.MI_SCRUB_CTRL_busy = true ∧ t.flag F.MI_SCRUB_CTRL_done = false ∧ t.reg R.MI_SCRUB_CHECKED = 0
      ∧ t.reg R.MI_SCRUB_CORR = 0 ∧ t.reg R.MI_SCRUB_UNC = 0 ∧ t.reg R.MI_SCRUB_FAIL_FIRST = 0 ∧ t.reg R.MI_SCRUB_FAIL_LAST = 0
      ∧ t.mem.words = s.mem.words ∧ t.flt = s.flt)
  ∧ (∀ (s : State) (p : ScrubPass), s.mem.pass = some p →
    exec .scrubPassAbort s = .next (({ s with mem := { s.mem with pass := none } }).setFlag F.MI_SCRUB_CTRL_busy false)
    ∧ (p.last < p.next → exec .scrubPassDone s
      = .next ((({ s with mem := { s.mem with pass := none } }).setFlag F.MI_SCRUB_CTRL_busy false).setFlag F.MI_SCRUB_CTRL_done true)))
  ∧ (∀ (s : State) (p : ScrubPass), s.mem.pass = some p → p.next ≤ p.last →
    NSet.has s.mem.filling (s.locate p.next).1 = false → (s.decodeAt (s.locate p.next).1 (s.locate p.next).2).found = .clean →
    exec (.scrubPassRead []) s = .next (let t := s.count F.MI_SCRUB_CHECKED_count
      { t with mem := { t.mem with pass := some { p with next := p.next + 1 } } }))
  ∧ (∀ (s : State) (b w : Nat), (s.fld F.MI_COL_SEL_column * 256 + b) * 8192 + w ∉ s.mem.remapAsked →
    exec (.remapCmd b w) s
      = .next { s with mem := { s.mem with remapAsked := s.mem.remapAsked ++ [(s.fld F.MI_COL_SEL_column * 256 + b) * 8192 + w] } })
  ∧ (∀ (s : State) (key : Nat) (rest : List Nat), s.mem.remapAsked = key :: rest → key ∉ SMap.get [] s.mem.remap (key / 8192 / 256) →
    (64 ≤ (SMap.get [] s.mem.remap (key / 8192 / 256)).length →
      exec .remapDone s = .next (({ s with mem := { s.mem with remapAsked := rest } }).raise Flt.MI_REMAP_FULL))
    ∧ ((SMap.get [] s.mem.remap (key / 8192 / 256)).length < 64 → (s.decodeAt (key / 8192) (key % 8192)).found = .clean →
      ∃ t, exec .remapDone s = .next t ∧ SMap.get [] t.mem.remap (key / 8192 / 256) = SMap.get [] s.mem.remap (key / 8192 / 256) ++ [key]
        ∧ SMap.get 0 t.mem.spares (key / 8192 / 256 * 64 + (SMap.get [] s.mem.remap (key / 8192 / 256)).length)
          = encodeWord (s.codeOf (key / 8192)) (s.decodeAt (key / 8192) (key % 8192)).data
        ∧ t.mem.remapWrites = s.mem.remapWrites ++ [(key / 8192 / 256, key)] ∧ t.mem.words = s.mem.words
        ∧ t.flt = (s.raise Flt.MI_REMAPPED).flt))
  ∧ (∀ (s : State) (e : Nat × Nat) (rest : List (Nat × Nat)), s.mem.remapWrites = e :: rest → s.mgt.warm = false →
    exec .remapFlashWrite s = .next { s with mem := { s.mem with remapWrites := rest, remapFlash := s.mem.remapFlash ++ [e] } })

/-- A raw read of a bank that is not filling gives the data and check registers the physical bits of the word named, undecoded; a raw write to a bank of class 3 or of a stopped column stores the registers' bits as they stand; a coded read gives the decoded data, the outcome and the bits corrected and leaves counters and faults as they are (R197). Any go while busy, and a raw write to another bank, sets refused and records MI_RAW_REFUSED and touches no stored word (R197). A march test that is refused records MI_MARCH_REFUSED; one accepted sets busy and clears the result (R199). A test with preserve that met no failing word ends busy and leaves every word as it was. A transparent test row with no failing word moves on to the next row, and with tt_en 0 nothing happens (R200). -/
def Obligations.RawAndMarchCommands : Prop :=
  (∀ s : State, s.flag F.MI_RAW_CTRL_busy = false → NSet.has s.mem.filling s.rawTarget.1 = false →
    (∃ t, exec .rawRead s = .next t
      ∧ (∀ i < 4, t.reg (R.MI_RAW_D + 4 * i) = BitVec.ofNat 32 ((s.wordBits s.rawTarget.1 s.rawTarget.2).toNat / 2 ^ (32 * i)))
      ∧ t.fld F.MI_RAW_CHK_chk = (s.wordBits s.rawTarget.1 s.rawTarget.2).toNat / 2 ^ 128
      ∧ t.flag F.MI_RAW_CTRL_refused = false ∧ t = { s with csr := t.csr })
    ∧ (s.ownerClass s.rawTarget.1 = 3 ∨ s.colStopped (s.rawTarget.1 / 256) s.released = true →
      ∃ t, exec .rawWrite s = .next t ∧ t.wordBits s.rawTarget.1 s.rawTarget.2 = s.rawRegs
        ∧ t.flag F.MI_RAW_CTRL_refused = false ∧ t.flt = s.flt)
    ∧ (∃ t, exec .codedRead s = .next t
      ∧ (∀ i < 4, t.reg (R.MI_RAW_D + 4 * i) = BitVec.ofNat 32
          ((s.mergeOverlay s.rawTarget.1 s.rawTarget.2 (s.decodeAt s.rawTarget.1 s.rawTarget.2).data).toNat / 2 ^ (32 * i)))
      ∧ t.fld F.MI_RAW_CTRL_result = (s.decodeAt s.rawTarget.1 s.rawTarget.2).found.code
      ∧ t.fld F.MI_RAW_CTRL_bits = (s.decodeAt s.rawTarget.1 s.rawTarget.2).bits % 4
      ∧ t.flag F.MI_RAW_CTRL_refused = false ∧ t = { s with csr := t.csr }))
  ∧ (∀ (s : State) (c : Instr), s.flag F.MI_RAW_CTRL_busy = true → c = .rawRead ∨ c = .rawWrite ∨ c = .codedRead →
    exec c s = .next ((s.setFlag F.MI_RAW_CTRL_refused true).raise Flt.MI_RAW_REFUSED))
  ∧ (∀ s : State, s.ownerClass s.rawTarget.1 < 3 → s.colStopped (s.rawTarget.1 / 256) s.released = false →
    ∃ t, exec .rawWrite s = .next t ∧ t.flag F.MI_RAW_CTRL_refused = true ∧ t.mem = s.mem ∧ t.flt.raised = s.flt.raised ++ [[Flt.MI_RAW_REFUSED.entry]])
  ∧ (∀ (s : State) (v : Nat), s.marchRefused (s.fld F.MI_COL_SEL_column) (bits v 15 8) (bits v 23 16) s.released = true →
    ∃ t, exec (.marchGo v) s = .next t ∧ t.flt.raised = s.flt.raised ++ [[Flt.MI_MARCH_REFUSED.entry]] ∧ t.mem = s.mem)
  ∧ (∀ (s : State) (v : Nat), s.marchRefused (s.fld F.MI_COL_SEL_column) (bits v 15 8) (bits v 23 16) s.released = false →
    ∃ t m, exec (.marchGo v) s = .next t ∧ t.flag F.MI_MARCH_CTRL_busy = true ∧ t.flag F.MI_MARCH_CTRL_fail = false
      ∧ t.reg R.MI_MARCH_RES = 0 ∧ t.mem.march = some m ∧ m.column = s.fld F.MI_COL_SEL_column
      ∧ m.first = m.column * 256 + bits v 15 8 ∧ m.last = m.column * 256 + bits v 23 16 ∧ m.preserve = bit v 28 ∧ t.flt = s.flt)
  ∧ (∀ (s : State) (m : MarchRun), s.mem.march = some m → m.preserve = true → m.tableFails = [] →
    ∃ t, exec (.marchDone []) s = .next t ∧ t.flag F.MI_MARCH_CTRL_busy = false ∧ t.mem.march = none ∧ t.mem.words = s.mem.words
      ∧ t.mem.spares = s.mem.spares ∧ t.flt = s.flt)
  ∧ (∀ (s : State) (col : Nat), s.flag F.MI_CTRL_tt_en = true →
    exec (.transparentTestRow col []) s = .next { s with mem := { s.mem with
      testRow := SMap.set 0 s.mem.testRow col ((SMap.get 0 s.mem.testRow col + 1) % (256 * 512)) } })
  ∧ (∀ (s : State) (col : Nat) (fails : List Nat), s.flag F.MI_CTRL_tt_en = false → exec (.transparentTestRow col fails) s = .next s)

/-- A parallel instruction that executes (its move slots off) gives acc N the exact result of its row of R237 modulo 2^56: the product under FRAC, sums and differences with it, rounding half up after the accumulation, the aligned word of ADDX and SUBX, the other accumulator for CPYA. Z, N, E are those of the 56-bit result, V is 1 where the exact result (or, for MACR and MSUR, the accumulation or the rounding) leaves 56 bits, C is the carry or borrow, L is kept (R212). NOPA leaves accumulators and st as they are. Every other accumulator, register (st, tmr, wdt and pc apart), both memories and every other engine stand, and nothing else of the device changes. -/
def Obligations.EngineParallelArithmetic : Prop :=
  (∀ (s : State) (e w : Nat) (k : EngKind), s.engIssues e w k → bit w 31 = true → bit w 21 = false → bit w 10 = false →
    let g := (s.engine e).applyPend
    let n := bits w 26 25
    let frac : Int := if bit (g.reg 22) 0 then 2 else 1
    let a := accVal (g.acc n)
    let x1 := signed 24 (g.reg (pairRegs (bits w 24 22)).1)
    let p := x1 * signed 24 (g.reg (pairRegs (bits w 24 22)).2) * frac
    let v1 := x1 * (if bit (g.reg 22) 0 then 2 ^ 24 else 1)
    let half : Int := 2 ^ 23
    let round := fun (y : Int) => (y + half) / 2 ^ 24 * 2 ^ 24
    let ovf := fun (y : Int) => decide (y < -2 ^ 55 ∨ 2 ^ 55 ≤ y)
    let carry := fun (y : Int) => decide (2 ^ 56 ≤ accOf y + 2 ^ 23)
    let wrap := fun (y : Int) => accVal (accOf y)
    (∀ (c : Instr) (x : Int) (v cy : Bool),
      (k, c, x, v, cy) ∈ [
        (EngKind.mpy, Instr.mpy e [], p, false, false),
        (.mac, .mac e [], a + p, ovf (a + p), decide (2 ^ 56 ≤ g.acc n + accOf p)),
        (.msu, .msu e [], a - p, ovf (a - p), decide (g.acc n < accOf p)),
        (.mpyr, .mpyr e [], round p, false, carry p),
        (.macr, .macr e [], round (wrap (a + p)), ovf (a + p) || ovf (wrap (a + p) + half), carry (a + p)),
        (.msur, .msur e [], round (wrap (a - p)), ovf (a - p) || ovf (wrap (a - p) + half), carry (a - p)),
        (.addx, .addx e [], a + v1, ovf (a + v1), decide (2 ^ 56 ≤ g.acc n + accOf v1)),
        (.subx, .subx e [], a - v1, ovf (a - v1), decide (g.acc n < accOf v1)),
        (.clr, .clr e [], 0, false, false),
        (.cpya, .cpya e [], accVal (g.acc (bits w 23 22)), false, false),
        (.neg, .negAcc e [], -a, ovf (-a), decide (a ≠ 0)),
        (.abs, .absAcc e [], if a < 0 then -a else a, decide (a = -2 ^ 55), decide (a < 0)),
        (.asl1, .asl1 e [], 2 * a, ovf (2 * a), false),
        (.asr1, .asr1 e [], a / 2, false, false),
        (.rnd, .rnd e [], round a, ovf (a + half), carry a)] →
      ∃ t, exec c s = .next t
        ∧ (t.engine e).acc n = accOf x
        ∧ bit ((t.engine e).reg 21) 0 = decide (accOf x = 0) ∧ bit ((t.engine e).reg 21) 1 = bit (accOf x) 55
        ∧ bit ((t.engine e).reg 21) 2 = v ∧ bit ((t.engine e).reg 21) 3 = decide (bits (accOf x) 55 47 ≠ 0 ∧ bits (accOf x) 55 47 ≠ 511)
        ∧ bit ((t.engine e).reg 21) 4 = bit (g.reg 21) 4 ∧ bit ((t.engine e).reg 21) 5 = cy
        ∧ (∀ m < 4, m ≠ n → (t.engine e).acc m = g.acc m)
        ∧ (∀ r, r < 4 ∨ 20 ≤ r → r ∉ [21, 50, 53, 54] → (t.engine e).reg r = g.reg r)
        ∧ (t.engine e).dmem = g.dmem ∧ (t.engine e).pmem = g.pmem
        ∧ (∀ j, j ≠ e → t.engine j = s.engine j) ∧ t = { s with eng := t.eng })
    ∧ (k = .nopa → ∃ t, exec (.nopa e []) s = .next t
        ∧ (∀ r, r ∉ [50, 53, 54] → (t.engine e).reg r = g.reg r) ∧ (t.engine e).dmem = g.dmem ∧ (t.engine e).pmem = g.pmem
        ∧ (∀ j, j ≠ e → t.engine j = s.engine j) ∧ t = { s with eng := t.eng }))

/-- A control-format accumulator instruction that executes gives acc N its result: NORM shifts by the signed count of s held within -8 to +47, SHL and SHR by the count 0 to 63 (56 and more give 0, or bit 55 in every bit), SAT the nearest of 2^47 - 1 and -2^47 where bits [55:47] are not all equal, AND, OR and XOR the bitwise result with s sign-extended, times 2^24 where h is 1. V is 1 where a left shift loses a bit that differs from bit 55 of the result, which is where the exact product leaves 56 bits; C is 0; L is set by SAT where it acts and kept otherwise. Every other accumulator and register (st, tmr, wdt, pc apart) and everything else stands. -/
def Obligations.EngineAccumulatorShiftsAndLogic : Prop :=
  (∀ (s : State) (e w : Nat) (k : EngKind), s.engIssues e w k → bit w 31 = false →
    let g := (s.engine e).applyPend
    let n := bits w 23 22
    let a := accVal (g.acc n)
    let sv := signed 24 (g.readE1 (bits w 5 0))
    let count := if sv < -8 then -8 else if 47 < sv then 47 else sv
    let op := accOf (sv * (if bit w 24 then 2 ^ 24 else 1))
    let ovf := fun (y : Int) => decide (y < -2 ^ 55 ∨ 2 ^ 55 ≤ y)
    let big := decide (a < -2 ^ 47 ∨ 2 ^ 47 ≤ a)
    ∀ (c : Instr) (x : Int) (v l : Bool),
      (k, c, x, v, l) ∈ [
        (EngKind.norm, Instr.norm e [], if count < 0 then a / 2 ^ (-count).toNat else a * 2 ^ count.toNat,
          if count < 0 then false else ovf (a * 2 ^ count.toNat), false),
        (.shl, .shl e [], a * 2 ^ bits w 5 0, ovf (a * 2 ^ bits w 5 0), false),
        (.shr, .shr e [], a / 2 ^ bits w 5 0, false, false),
        (.sat, .sat e [], if a < -2 ^ 47 then -2 ^ 47 else if 2 ^ 47 ≤ a then 2 ^ 47 - 1 else a, false, big),
        (.and, .andOp e [], (g.acc n &&& op : Nat), false, false),
        (.or, .orOp e [], (g.acc n ||| op : Nat), false, false),
        (.xor, .xorOp e [], (g.acc n ^^^ op : Nat), false, false)] →
      ∃ t, exec c s = .next t
        ∧ (t.engine e).acc n = accOf x
        ∧ bit ((t.engine e).reg 21) 0 = decide (accOf x = 0) ∧ bit ((t.engine e).reg 21) 1 = bit (accOf x) 55
        ∧ bit ((t.engine e).reg 21) 2 = v ∧ bit ((t.engine e).reg 21) 3 = decide (bits (accOf x) 55 47 ≠ 0 ∧ bits (accOf x) 55 47 ≠ 511)
        ∧ bit ((t.engine e).reg 21) 4 = (l || bit (g.reg 21) 4) ∧ bit ((t.engine e).reg 21) 5 = false
        ∧ (∀ m < 4, m ≠ n → (t.engine e).acc m = g.acc m)
        ∧ (∀ r, r < 4 ∨ 20 ≤ r → r ∉ [21, 50, 53, 54] → (t.engine e).reg r = g.reg r)
        ∧ (t.engine e).dmem = g.dmem ∧ (t.engine e).pmem = g.pmem
        ∧ (∀ j, j ≠ e → t.engine j = s.engine j) ∧ t = { s with eng := t.eng })

/-- A move instruction that executes writes its register d with the value of its row of R245, R252 or R254, cut to the register's width: the sign-extended immediate, the read value with bits [23:16] replaced, the source register as E1 reads it, the data word (read clean), the count k - 9 of leading equal bits, the port's word or count. Register d has the value for the next instruction (p, s and m reach address generation one instruction later, R264); no other register but tmr, wdt and pc changes, and no memory. LDIH leaves a register of fewer than 17 bits as it is. STD stores the word of its register under R214 and R215 with fresh check bits, sets L where it saturates, and changes no other data word. NOP changes nothing but pc, tmr and wdt. -/
def Obligations.EngineMoves : Prop :=
  (∀ (s : State) (e w : Nat) (k : EngKind), s.engIssues e w k → bit w 31 = false →
    let g := (s.engine e).applyPend
    let d := bits w 21 16
    let data := dmemDecode (SMap.get 0 g.dmem (bits w 11 0))
    (∀ (c : Instr) (x : Nat),
      (k, c, x) ∈ [
        (EngKind.ldi, Instr.ldi e [], bits w 15 0 + (if bit w 15 then 0xFF0000 else 0)),
        (.mov, .mov e [], g.readE1 (bits w 5 0)),
        (.exp, .exp e [], (leadCount (g.accE1 (bits w 23 22)) 56 + 2 ^ 24 - 9) % 2 ^ 24),
        (.in, .inPort e [], match bits w 2 0 with
          | 0 => inFormat (bit (g.reg 52) 0) (g.in0.headD 0)
          | 1 => inFormat (bit (g.reg 52) 1) (g.in1.headD 0)
          | 2 => g.in0.length
          | 3 => g.in1.length
          | 4 => 16 - g.out0.length
          | 5 => 16 - g.out1.length
          | 6 => g.evt % 16
          | _ => g.mover.status)] ∨
      (k = .ldd ∧ c = .ldd e [] ∧ data.1 = .clean ∧ x = data.2) ∨
      (k = .ldih ∧ c = .ldih e [] ∧ 17 ≤ engWidth d ∧ x = g.readE1 d % 2 ^ 16 + bits w 7 0 * 2 ^ 16) →
      ∃ t, exec c s = .next t
        ∧ (t.engine e).applyPend.reg d = x % 2 ^ engWidth d
        ∧ (∀ r, r ∉ [d, 50, 53, 54] → (t.engine e).applyPend.reg r = g.reg r)
        ∧ (t.engine e).dmem = g.dmem ∧ (t.engine e).pmem = g.pmem
        ∧ (t.engine e).in0 = (if k = .in ∧ bits w 2 0 = 0 then g.in0.tail else g.in0)
        ∧ (t.engine e).in1 = (if k = .in ∧ bits w 2 0 = 1 then g.in1.tail else g.in1)
        ∧ (∀ j, j ≠ e → t.engine j = s.engine j) ∧ t = { s with eng := t.eng })
    ∧ (∀ c : Instr, (k = .nop ∧ c = .nop e []) ∨ (k = .ldih ∧ c = .ldih e [] ∧ engWidth d < 17) →
      ∃ t, exec c s = .next t ∧ (∀ r, r ∉ [50, 53, 54] → (t.engine e).applyPend.reg r = g.reg r)
        ∧ (t.engine e).dmem = g.dmem ∧ (t.engine e).pmem = g.pmem ∧ (∀ j, j ≠ e → t.engine j = s.engine j) ∧ t = { s with eng := t.eng })
    ∧ (k = .std → ∃ t, exec (.std e []) s = .next t
        ∧ dmemDecode (SMap.get 0 (t.engine e).dmem (bits w 11 0)) = (.clean, (outWord g d (bit w 24)).1 % 2 ^ 24)
        ∧ (∀ a, a ≠ bits w 11 0 → SMap.get 0 (t.engine e).dmem a = SMap.get 0 g.dmem a)
        ∧ (isAccHigh d = false → (outWord g d (bit w 24)).1 = g.readE1 d)
        ∧ (∀ n < 4, d = 5 + 4 * n →
            let v := if bit w 24 then (g.accE1 n + 2 ^ 23) % 2 ^ 56 else g.accE1 n
            let clips := bit (g.reg 22) 1 && decide (bits v 55 47 ≠ 0 ∧ bits v 55 47 ≠ 511)
            (outWord g d (bit w 24)).1 = (if clips then (if bit v 55 then 0x800000 else 0x7FFFFF) else bits v 47 24)
            ∧ bit ((t.engine e).reg 21) 4 = (clips || bit (g.reg 21) 4))
        ∧ (∀ r, r ∉ [21, 50, 53, 54] → (t.engine e).applyPend.reg r = g.reg r)
        ∧ (t.engine e).pmem = g.pmem ∧ (∀ j, j ≠ e → t.engine j = s.engine j) ∧ t = { s with eng := t.eng }))

/-- For every 12-bit pointer p and step register s, every modulo register m with bit 11 zero and length L = m[10:0] at least 1, and every update field but 00: the new pointer is base + ((p - base + d) mod L), where base is p with its low k bits cleared for the least k with 2^k at least L; so it lies in the buffer wherever p lay, and with L = 1 it is base. -/
def Obligations.EnginePointerUpdate : Prop :=
  ∀ p s m upd k : Nat, p < 4096 → s < 4096 → m < 2048 → 1 ≤ m → 1 ≤ upd → upd ≤ 3 →
    m ≤ 2 ^ k → (∀ j, m ≤ 2 ^ j → k ≤ j) →
    let base := p / 2 ^ k * 2 ^ k
    let d : Int := if upd = 1 then 1 else if upd = 2 then (if s < 2048 then (s : Int) else s - 4096) else -1
    (newPointer p s m upd : Int) = base + ((p : Int) - base + d) % m
    ∧ base ≤ newPointer p s m upd ∧ newPointer p s m upd < base + m
    ∧ (m = 1 → newPointer p s m upd = base)

/-- A NOPA with slot A enabled accesses the data word at the pointer its slot names, as address generation sees it. A load with the zero bit clear, of a word that reads clean, gives w0 to w3 the word, and acc0 to acc3 the word times 2^24; with the zero bit set it gives 0 and reads no memory. A store puts the register, acc N.h under R215, or 0 into the word with fresh check bits. The pointer gets its update of R218 (or the value the instruction before wrote into it, which prevails). Flags stand but for L; no other register (tmr, wdt and pc apart), data word, program word or engine changes (R221, R239). -/
def Obligations.EngineMoveSlots : Prop :=
  (∀ (s : State) (e w : Nat), s.engIssues e w .nopa → bit w 21 = true → bit w 10 = false →
    let g0 := s.engine e
    let g := g0.applyPend
    let sl := bits w 21 11
    let n := bits sl 8 6
    let r := bits sl 3 1
    let p := g0.reg (24 + n)
    let np := newPointer p (g0.reg (32 + n)) (g0.reg (40 + n)) (bits sl 5 4) % 4096
    let data := dmemDecode (SMap.get 0 g.dmem (p % 4096))
    let ptr := fun (t : State) => (t.engine e).reg (24 + n) =
      match g0.pend with
      | some (q, v) => if q % 24 = n then v % 4096 else np
      | none => np
    (bit sl 9 = false → (bit sl 0 = true ∨ data.1 = .clean) → ∃ t, exec (.nopa e []) s = .next t
      ∧ (let v := if bit sl 0 then 0 else data.2
         (r < 4 → (t.engine e).reg r = v % 2 ^ 24) ∧ (4 ≤ r → (t.engine e).acc (r - 4) = accOf (signed 24 v * 2 ^ 24)))
      ∧ ptr t ∧ (∀ m < 4, m + 4 ≠ r → (t.engine e).acc m = g.acc m)
      ∧ (∀ q, q < 4 ∨ 20 ≤ q → q ∉ [r, 24 + n, 50, 53, 54] → (t.engine e).reg q = g.reg q)
      ∧ (t.engine e).dmem = g.dmem ∧ (t.engine e).pmem = g.pmem
      ∧ (∀ j, j ≠ e → t.engine j = s.engine j) ∧ t = { s with eng := t.eng })
    ∧ (bit sl 9 = true → ∃ t, exec (.nopa e []) s = .next t
      ∧ (let a := g.accE1 (r - 4)
         let clips := bit (g.reg 22) 1 && decide (bits a 55 47 ≠ 0 ∧ bits a 55 47 ≠ 511)
         let v := if bit sl 0 then 0 else if r < 4 then g.reg r
           else if clips then (if bit a 55 then 0x800000 else 0x7FFFFF) else bits a 47 24
         dmemDecode (SMap.get 0 (t.engine e).dmem (p % 4096)) = (.clean, v % 2 ^ 24)
         ∧ bit ((t.engine e).reg 21) 4 = ((!bit sl 0 && decide (4 ≤ r) && clips) || bit (g.reg 21) 4))
      ∧ ptr t ∧ (∀ a, a ≠ p % 4096 → SMap.get 0 (t.engine e).dmem a = SMap.get 0 g.dmem a)
      ∧ (∀ i, i ≠ 4 → i < 6 → bit ((t.engine e).reg 21) i = bit (g.reg 21) i)
      ∧ (∀ q, q ∉ [21, 24 + n, 50, 53, 54] → (t.engine e).reg q = g.reg q)
      ∧ (t.engine e).pmem = g.pmem ∧ (∀ j, j ≠ e → t.engine j = s.engine j) ∧ t = { s with eng := t.eng }))

/-- A DBNZ that executes leaves lc the value one lower modulo 2,048 (2,047 from 0), and two delay slots follow it: after them execution goes to the target where the new lc is not 0, and to the instruction after the delay slots where it is. No flag, no other register (tmr, wdt, pc apart), no memory and no other engine changes. -/
def Obligations.EngineDecrementAndBranch : Prop :=
  ∀ (s : State) (e w : Nat), s.engIssues e w .dbnz →
    let g := (s.engine e).applyPend
    let lc := (g.reg 20 + 2047) % 2048
    ∃ t, exec (.dbnz e []) s = .next t
      ∧ (t.engine e).reg 20 = lc
      ∧ (t.engine e).reg 54 = (g.reg 54 + 1) % 1024 ∧ (t.engine e).delay = 2
      ∧ (t.engine e).target = (if lc = 0 then (g.reg 54 + 3) % 1024 else bits w 9 0)
      ∧ (g.reg 20 = 0 → (t.engine e).reg 20 = 2047 ∧ (t.engine e).target = bits w 9 0)
      ∧ (∀ r, r ∉ [20, 50, 53, 54] → (t.engine e).reg r = g.reg r)
      ∧ (t.engine e).dmem = g.dmem ∧ (t.engine e).pmem = g.pmem
      ∧ (∀ j, j ≠ e → t.engine j = s.engine j) ∧ t = { s with eng := t.eng }

/-- BRA, BCC, CALL, RET and RTI that execute leave two delay slots to run and the target after them: the address field (for BCC where its condition of R247 holds on st, else the instruction after the delay slots), the popped return address, ipc. CALL pushes its own address plus 3, RET pops, RTI copies ist into st, sets IE and ends the handler. REP leaves the next instruction n executions. LOCK opens a locked sequence, UNLOCK ends it, every other instruction inside counts one. After any instruction but branch-type, REP, HALT and TRAP with no uncorrectable read, a repeated instruction keeps pc until its last execution, after the second delay slot pc is the kept target, and otherwise pc goes up by one modulo 1,024. -/
def Obligations.EngineProgramFlow : Prop :=
  (∀ (s : State) (e w : Nat) (k : EngKind) (c : Instr), s.engIssues e w k → (k, c) ∈ engPairs e →
    let g := (s.engine e).applyPend
    let pc := g.reg 54
    let rest := fun (t : State) (l : List Nat) =>
      (∀ r, r ∉ l ++ [50, 53, 54] → (t.engine e).reg r = g.reg r) ∧ (t.engine e).dmem = g.dmem ∧ (t.engine e).pmem = g.pmem
        ∧ (∀ j, j ≠ e → t.engine j = s.engine j) ∧ t = { s with eng := t.eng }
    let jump := fun (t : State) (target : Nat) =>
      (t.engine e).reg 54 = (pc + 1) % 1024 ∧ (t.engine e).delay = 2 ∧ (t.engine e).target = target
    (k = .bra → ∃ t, exec c s = .next t ∧ jump t (bits w 9 0) ∧ rest t [])
    ∧ (k = .bcc → ∃ t, exec c s = .next t
        ∧ jump t (if condHolds (bits w 13 10) (g.reg 21) then bits w 9 0 else (pc + 3) % 1024) ∧ rest t [])
    ∧ (k = .call → ∃ t, exec c s = .next t ∧ jump t (bits w 9 0) ∧ (t.engine e).reg (56 + g.reg 55) = (pc + 3) % 1024
        ∧ (t.engine e).reg 55 = g.reg 55 + 1 ∧ rest t [55, 56 + g.reg 55])
    ∧ (k = .ret → ∃ t, exec c s = .next t ∧ jump t (g.reg (55 + g.reg 55) % 1024)
        ∧ (g.reg 55 < 16 → (t.engine e).reg 55 = g.reg 55 - 1) ∧ rest t [55])
    ∧ (k = .rti → ∃ t, exec c s = .next t ∧ jump t (g.reg 48 % 1024) ∧ (t.engine e).reg 21 = g.reg 49 % 64
        ∧ (t.engine e).reg 22 = putBits (g.reg 22) 2 2 1 % 8 ∧ (t.engine e).handler = false ∧ rest t [21, 22])
    ∧ (k = .rep → ∃ t, exec c s = .next t ∧ (t.engine e).rep = (if bit w 24 then g.reg 20 else bits w 9 0 + 1)
        ∧ 1 ≤ (t.engine e).rep ∧ (t.engine e).rep ≤ 1024 ∧ (t.engine e).reg 54 = (pc + 1) % 1024 ∧ rest t [])
    ∧ (k = .lock → ∃ t, exec c s = .next t ∧ (t.engine e).lock = some 0 ∧ rest t [])
    ∧ (k = .unlock → ∃ t, exec c s = .next t ∧ (t.engine e).lock = none ∧ rest t [])
    ∧ (k ∉ [EngKind.bra, .bcc, .call, .ret, .rti, .dbnz, .rep, .halt, .trap] →
        (∀ a, (dmemDecode (SMap.get 0 g.dmem a)).1 = .clean) →
        ∃ t, exec c s = .next t
          ∧ (k ∉ [EngKind.lock, .unlock] → (t.engine e).lock = g.lock.map (· + 1))
          ∧ (t.engine e).halted = false
          ∧ (if 1 < g.rep then (t.engine e).reg 54 = pc ∧ (t.engine e).rep = g.rep - 1 ∧ (t.engine e).delay = g.delay
             else (t.engine e).rep = 0 ∧ (t.engine e).delay = g.delay - 1
               ∧ (t.engine e).reg 54 = (if g.delay = 1 then g.target % 1024 else (pc + 1) % 1024))))

/-- OUT pushes its register's word, in the port's format, behind the words of its output FIFO. WAIT leaves the engine waiting. SIG queues one pulse more on its line. XFER starts the mover that owns a bank with the transfer of its fields. EI and DI set and clear IE, KICK loads wdt from wdt_per. TAS sets Z to 1 exactly where its semaphore was clear and sets it, or clears it and leaves Z. HALT halts with cause 5 at the next instruction, TRAP with cause 2 at its own address, unexecuted. An IN, OUT or SIG that must stall leaves the engine stalled and nothing else. An instruction that errs for its operands or its place halts the engine with cause 4 at its address, records ENG_INSTR_ERROR, and writes no memory and no other engine. -/
def Obligations.EnginePortsAndControl : Prop :=
  (∀ (s : State) (e w : Nat) (k : EngKind) (c : Instr), s.engIssues e w k → (k, c) ∈ engPairs e →
    let g := (s.engine e).applyPend
    let rest := fun (t : State) (l : List Nat) =>
      (∀ r, r ∉ l ++ [50, 53, 54] → (t.engine e).reg r = g.reg r) ∧ (t.engine e).dmem = g.dmem ∧ (t.engine e).pmem = g.pmem
        ∧ (∀ j, j ≠ e → t.engine j = s.engine j)
    let only := fun (t : State) => t = { s with eng := t.eng }
    (k = .out → ∃ t, exec c s = .next t
      ∧ (t.engine e).out0 = (if bits w 2 0 = 0 then g.out0 ++ [outFormat (bit (g.reg 52) 2) (outWord g (bits w 21 16) (bit w 24)).1] else g.out0)
      ∧ (t.engine e).out1 = (if bits w 2 0 = 1 then g.out1 ++ [outFormat (bit (g.reg 52) 3) (outWord g (bits w 21 16) (bit w 24)).1] else g.out1)
      ∧ rest t [21] ∧ only t)
    ∧ (k = .wait → ∃ t, exec c s = .next t ∧ (t.engine e).waiting = true ∧ rest t [] ∧ only t)
    ∧ (k = .sig → ∃ t, exec c s = .next t
        ∧ SMap.get 0 (t.engine e).sig (bits w 1 0) = SMap.get 0 g.sig (bits w 1 0) + 1
        ∧ (∀ l, l ≠ bits w 1 0 → SMap.get 0 (t.engine e).sig l = SMap.get 0 g.sig l) ∧ rest t [] ∧ only t)
    ∧ (∀ b pb, k = .xfer → s.moverBank e = some (b, pb) → ∃ t, exec c s = .next t
        ∧ (t.engine e).mover = { busy := true, toBank := bit w 24, sample := bit w 23, eaddr := g.reg (24 + bits w 22 20), bword := g.reg (bits w 19 18) % 8192, left := bits w 8 0, bank := b, portB := pb }
        ∧ rest t [] ∧ only t)
    ∧ (k = .ei ∨ k = .di → ∃ t, exec c s = .next t ∧ bit ((t.engine e).reg 22) 2 = decide (k = .ei)
        ∧ (∀ i < 2, bit ((t.engine e).reg 22) i = bit (g.reg 22) i) ∧ rest t [22] ∧ only t)
    ∧ (k = .kick → ∃ t, exec c s = .next t ∧ (t.engine e).reg 53 = g.reg 23 % 2 ^ 24 ∧ rest t [] ∧ only t)
    ∧ (k = .tas → ∃ t, exec c s = .next t
        ∧ NSet.has t.sems (e / 128 * 64 + bits w 5 0) = !bit w 24
        ∧ (∀ n, n ≠ e / 128 * 64 + bits w 5 0 → NSet.has t.sems n = NSet.has s.sems n)
        ∧ bit ((t.engine e).reg 21) 0 = (if bit w 24 then bit (g.reg 21) 0 else !NSet.has s.sems (e / 128 * 64 + bits w 5 0))
        ∧ (∀ i, 1 ≤ i → i < 6 → bit ((t.engine e).reg 21) i = bit (g.reg 21) i)
        ∧ rest t [21] ∧ t = { s with eng := t.eng, sems := t.sems })
    ∧ (k = .halt → ∃ t, exec c s = .next t ∧ (t.engine e).halted = true ∧ (t.engine e).cause = 5
        ∧ (t.engine e).reg 54 = (g.reg 54 + 1) % 1024 ∧ rest t [] ∧ only t)
    ∧ (k = .trap → ∃ t, exec c s = .next t ∧ (t.engine e).halted = true ∧ (t.engine e).cause = 2
        ∧ (t.engine e).reg 54 = g.reg 54 % 1024 ∧ rest t [] ∧ only t))
  ∧ (∀ (s : State) (e w : Nat) (k : EngKind) (c : Instr), (k, c) ∈ engPairs e → s.engClocked e = true → (s.engine e).halted = false →
    (s.engine e).stalled = false → (s.engine e).waiting = false →
    pmemDecode (SMap.get 0 (s.engine e).pmem ((s.engine e).reg 54 % 1024)) = (.clean, w) → engKind w = some k →
    (placeError (s.engine e) k = true ∨ operandError (s.engine e) k w = true → ∃ t, exec c s = .next t
      ∧ (t.engine e).halted = true ∧ (t.engine e).cause = 4 ∧ (t.engine e).reg 54 = (s.engine e).reg 54 % 1024
      ∧ (∀ r, r ≠ 54 → (t.engine e).reg r = (s.engine e).applyPend.reg r)
      ∧ (t.engine e).dmem = (s.engine e).dmem ∧ (t.engine e).pmem = (s.engine e).pmem
      ∧ (∀ j, j ≠ e → t.engine j = s.engine j) ∧ t = { s with eng := t.eng, flt := t.flt }
      ∧ t.flt.raised = s.flt.raised ++ [[Flt.ENG_INSTR_ERROR.entry [e, (s.engine e).reg 54]]])
    ∧ (placeError (s.engine e) k = false → operandError (s.engine e) k w = false → mustStall (s.engine e) k w = true →
      exec c s = .next (s.setEngine e { s.engine e with stalled := true, waiting := false, fresh := false })))

/-- TIMER_RELOAD loads tmr from tmr_per and sets the timer's pending bit. WATCHDOG_EXPIRE halts with cause 3 at pc, clears IE, the handler, and any branch, REP and locked sequence, and records ENG_WATCHDOG. INTERRUPT_ENTRY saves pc in ipc and st in ist, clears IE, clears the taken vector's pending bit, and goes to the handler's address of the vector of the highest-priority enabled request. A fabric word enters an input FIFO with room, the oldest word of an output FIFO leaves. The stalled instruction completes once its port allows it. A queued pulse is delivered and leaves the queue. DMEM_REWRITE writes the pending word back with fresh check bits. The mover's next bank word, of one it may use, moves the next lanes; it ends not busy. In each, every other engine stands. -/
def Obligations.EngineEventCommands : Prop :=
  (∀ (s : State) (e : Nat), s.engClocked e = true →
    let g := s.engine e
    let up := fun (g' : Engine) => s.setEngine e g'
    (g.halted = false → g.reg 51 ≠ 0 →
      exec (.timerReload e) s = .next (up { (g.setReg 50 (g.reg 51)) with timerPend := true }))
    ∧ (g.halted = false → g.reg 23 ≠ 0 → ∃ t, exec (.watchdogExpire e) s = .next t
        ∧ (t.engine e).halted = true ∧ (t.engine e).cause = 3 ∧ (t.engine e).reg 54 = g.reg 54 % 1024
        ∧ bit ((t.engine e).reg 22) 2 = false ∧ (t.engine e).handler = false ∧ (t.engine e).delay = 0 ∧ (t.engine e).rep = 0
        ∧ (t.engine e).lock = none ∧ (t.engine e).dmem = g.dmem ∧ (t.engine e).pmem = g.pmem
        ∧ (∀ r, r ∉ [22, 53, 54] → (t.engine e).reg r = g.applyPend.reg r)
        ∧ (∀ j, j ≠ e → t.engine j = s.engine j) ∧ t = { s with eng := t.eng, flt := t.flt }
        ∧ t.flt.raised = s.flt.raised ++ [[Flt.ENG_WATCHDOG.entry [e]]])
    ∧ (∀ v word, g.halted = false → g.stalled = false → g.stepping = false → g.handler = false → g.heldOff = false →
        bit (g.reg 22) 2 = true → engRequest g = some v → pmemDecode (SMap.get 0 g.pmem ((1016 + v) % 1024)) = (.clean, word) →
        ∃ t, exec (.interruptEntry e []) s = .next t
        ∧ (t.engine e).reg 54 = bits word 9 0 ∧ (t.engine e).reg 48 = g.reg 54 % 1024 ∧ (t.engine e).reg 49 = g.reg 21 % 64
        ∧ bit ((t.engine e).reg 22) 2 = false ∧ (t.engine e).handler = true ∧ (t.engine e).waiting = false
        ∧ (t.engine e).timerPend = (g.timerPend && decide (v ≠ 0)) ∧ (t.engine e).mboxPend = (g.mboxPend && decide (v ≠ 7))
        ∧ (∀ r, r ∉ [22, 48, 49, 54] → (t.engine e).reg r = g.applyPend.reg r)
        ∧ (t.engine e).dmem = g.dmem ∧ (t.engine e).pmem = g.pmem
        ∧ (∀ j, j ≠ e → t.engine j = s.engine j) ∧ t = { s with eng := t.eng })
    ∧ (∀ word : Word, s.attached (engSector e) (engAtt e) = true →
        exec (.engPortPush e 0 word) s = .next (if g.in0.length < 16 then up { g with in0 := g.in0 ++ [word.toNat] } else s)
        ∧ exec (.engPortPush e 1 word) s = .next (if g.in1.length < 16 then up { g with in1 := g.in1 ++ [word.toNat] } else s)
        ∧ exec (.engPortPush e 2 word) s = .next (up { g with out0 := g.out0.tail })
        ∧ exec (.engPortPush e 3 word) s = .next (up { g with out1 := g.out1.tail }))
    ∧ (∀ w cycles, g.stalled = true → g.stepping = false → (pmemDecode (SMap.get 0 g.pmem (g.reg 54))).2 = w →
        (engKind w = some .sig → mustStall g .sig w = false → operandError g .sig w = false → placeError g .sig = false →
          ∃ t, exec (.engStallEnd e cycles) s = .next t ∧ (t.engine e).stalled = false
            ∧ SMap.get 0 (t.engine e).sig (bits w 1 0) = SMap.get 0 g.sig (bits w 1 0) + 1)
        ∧ (∀ k, engKind w = some k → mustStall g k w = true → exec (.engStallEnd e cycles) s = .next s))
    ∧ (∀ a, g.rewrite = some a → (dmemDecode (SMap.get 0 g.dmem a)).1 ≠ .uncorrectable →
        exec (.dmemRewrite e) s = .next (up { g with rewrite := none, dmem := SMap.set 0 g.dmem a (dmemCode (dmemDecode (SMap.get 0 g.dmem a)).2) }))
    ∧ (g.mover.busy = true → 0 < g.mover.left → NSet.has s.mem.filling g.mover.bank = false →
        let m := g.mover
        let n := min m.left (if m.sample then 8 else 4)
        (s.fgAllowed (.mover (moverNumber e)) m.bank m.portB = false → ∃ t, exec (.moverBankWord e [] []) s = .next t
          ∧ (t.engine e).mover = { m with left := 0, err := 2 } ∧ t = { s with eng := t.eng, flt := t.flt }
          ∧ t.flt.raised = s.flt.raised ++ [[Flt.ENG_XFER_ERR.entry [e]], [Flt.MEM_NOT_OWNER.entry]])
        ∧ (s.fgAllowed (.mover (moverNumber e)) m.bank m.portB = true → m.toBank = false →
          (s.decodeAt m.bank m.bword).found = .clean → (∃ t, exec (.moverBankWord e [] []) s = .next t
            ∧ (t.engine e).mover = { m with done := m.done + n, left := m.left - n, eaddr := (m.eaddr + n) % 4096, bword := m.bword + 1 }
            ∧ (∀ j, j ≠ e → t.engine j = s.engine j)
            ∧ (∀ q < n, dmemDecode (SMap.get 0 (t.engine e).dmem ((m.eaddr + q) % 4096)) = (.clean,
                m.fromLane (s.mergeOverlay m.bank m.bword (s.decodeAt m.bank m.bword).data).toNat q % 2 ^ 24))))
        ∧ (s.fgAllowed (.mover (moverNumber e)) m.bank m.portB = true → m.toBank = true →
          (∀ a, (dmemDecode (SMap.get 0 g.dmem a)).1 = .clean) →
          exec (.moverBankWord e [] []) s = .next
            ((up { g with mover := { m with done := m.done + n, left := m.left - n, eaddr := (m.eaddr + n) % 4096, bword := m.bword + 1 } }).writeWord
              m.bank m.bword (BitVec.ofNat 128 (ungroups (if m.sample then 16 else 32)
                ((List.range n).map fun q => m.toLane (dmemDecode (SMap.get 0 g.dmem ((m.eaddr + q) % 4096))).2)))
              (2 ^ (n * if m.sample then 2 else 4) - 1))))
    ∧ (g.mover.busy = true → g.mover.left = 0 → exec (.moverDone e) s = .next (up { g with mover := { g.mover with busy := false } })))
  ∧ (∀ (s : State) (e line : Nat), 0 < SMap.get 0 (s.engine e).sig line → s.held (engIsland e) = false →
      ∃ t, exec (.sigPulseDelivered e line) s = .next t ∧ SMap.get 0 (t.engine e).sig line = SMap.get 0 (s.engine e).sig line - 1
        ∧ t.out = .pulse e line :: s.out ∧ (∀ j, j ≠ e → t.engine j = s.engine j) ∧ t = { s with eng := t.eng, out := t.out })

/-- ENG_CMD_HALT asks a running engine for a boundary halt, which BOUNDARY_HALT carries out at an instruction not held off: cause 1, pc at that instruction. A breakpoint enabled at pc halts with cause 2. RESUME runs a halted engine from its pc with wdt loaded from wdt_per; STEP of an engine whose next instruction is a plain one runs it and halts with cause 1; RESET gives every register its reset value, empties the port FIFOs, halts with cause 8 and keeps both memories. A command with no effect (HALT while halted, RESUME or STEP while running, an island that is held) leaves everything as it is. A window read of a halted engine answers the word or register, a write puts it there; an access while it runs is refused with ENG_WINDOW_REFUSED, and one that is no aligned word is answered with an error. -/
def Obligations.EngineHaltResumeAndWindow : Prop :=
  (∀ (s : State), s.held (engIsland s.engSelected) = false →
    let e := s.engSelected
    let g := s.engine e
    (g.halted = false → exec .engCmdHalt s = .next (s.setEngine e { g with cmdHalt := true })
      ∧ exec .engCmdResume s = .next s ∧ exec .engCmdStep s = .next s)
    ∧ (g.halted = true → exec .engCmdHalt s = .next s
      ∧ ∃ t, exec .engCmdResume s = .next t ∧ (t.engine e).halted = false ∧ (t.engine e).stepping = false ∧ (t.engine e).reg 54 = g.reg 54
        ∧ (t.engine e).reg 53 = g.reg 23 % 2 ^ 24 ∧ (t.engine e).delay = g.delay ∧ (t.engine e).target = g.target
        ∧ (t.engine e).handler = g.handler ∧ (∀ r, r ≠ 53 → (t.engine e).reg r = g.reg r) ∧ t = s.setEngine e (t.engine e))
    ∧ (∀ w, g.halted = true → s.engClocked e = true → g.delay = 0 → g.rep = 0 → g.lock = none →
        pmemDecode (SMap.get 0 g.pmem (g.reg 54 % 1024)) = (.clean, w) → engKind w = some .nop →
        ∃ t, exec .engCmdStep s = .next t ∧ (t.engine e).halted = true ∧ (t.engine e).cause = 1
          ∧ (t.engine e).reg 54 = (g.reg 54 + 1) % 1024)
    ∧ (∃ t, exec .engCmdReset s = .next t ∧ (t.engine e).halted = true ∧ (t.engine e).cause = 8
        ∧ (∀ r, (t.engine e).reg r = if r = 22 then 3 else 0) ∧ (t.engine e).dmem = g.dmem ∧ (t.engine e).pmem = g.pmem
        ∧ (t.engine e).in0 = [] ∧ (t.engine e).in1 = [] ∧ (t.engine e).out0 = [] ∧ (t.engine e).out1 = []
        ∧ (t.engine e).mover.left ≤ 32 ∧ t = s.setEngine e (t.engine e)))
  ∧ (∀ (s : State) (c : Instr), s.held (engIsland s.engSelected) = true →
      c ∈ [Instr.engCmdHalt, .engCmdResume, .engCmdStep, .engCmdReset] → exec c s = .next s)
  ∧ (∀ (s : State) (e : Nat), s.engClocked e = true → (s.engine e).halted = false → (s.engine e).stalled = false → (s.engine e).heldOff = false →
      ((s.engine e).cmdHalt = true → ∃ t, exec (.boundaryHalt e) s = .next t ∧ (t.engine e).halted = true ∧ (t.engine e).cause = 1
        ∧ (t.engine e).reg 54 = (s.engine e).reg 54 % 1024 ∧ (∀ r, r ≠ 54 → (t.engine e).reg r = (s.engine e).applyPend.reg r)
        ∧ t = s.setEngine e (t.engine e))
      ∧ ((s.engine e).stepping = false → (s.engine e).fresh = false → s.breakpointAt e ((s.engine e).reg 54) = true →
        ∃ t, exec (.breakpoint e) s = .next t ∧ (t.engine e).halted = true ∧ (t.engine e).cause = 2
        ∧ (t.engine e).reg 54 = (s.engine e).reg 54 % 1024 ∧ t = s.setEngine e (t.engine e)))
  ∧ (∀ (s : State) (e off : Nat) (v : Word), off < 0x10000 → off % 4 = 0 →
      ((s.engine e).halted = false → ∃ t, exec (.engineWindowWrite e off 4 v) s = .next t ∧ t.out = .answer e 1 [] :: s.out
        ∧ t.flt.raised = s.flt.raised ++ [[Flt.ENG_WINDOW_REFUSED.entry [e]]] ∧ t = { s with out := t.out, flt := t.flt }
        ∧ exec (.engineWindowRead e off 4) s = .next t)
      ∧ ((s.engine e).halted = true →
        (off < 0x4000 → exec (.engineWindowWrite e off 4 v) s = .next ((s.dmemWrite e (off / 4) v.toNat).answer e 0)
          ∧ (∀ d, dmemDecode (SMap.get 0 (s.engine e).dmem (off / 4)) = (.clean, d) →
              exec (.engineWindowRead e off 4) s = .next (s.answer e 0 (leBytes 4 d))))
        ∧ (0x4000 ≤ off → off < 0x5000 →
          exec (.engineWindowWrite e off 4 v) s = .next ((s.pmemWrite e ((off - 0x4000) / 4) v.toNat).answer e 0))
        ∧ (0x8000 ≤ off → off < 0x8100 →
          exec (.engineWindowWrite e off 4 v) s = .next ((s.setEngine e ((s.engine e).setReg ((off - 0x8000) / 4) v.toNat)).answer e 0)
          ∧ exec (.engineWindowRead e off 4) s = .next (s.answer e 0 (leBytes 4 ((s.engine e).windowReg ((off - 0x8000) / 4)))))))
  ∧ (∀ (s : State) (e off size : Nat) (v : Word), size ≠ 4 ∨ off % 4 ≠ 0 →
      exec (.engineWindowWrite e off size v) s = .next (s.answer e 1) ∧ exec (.engineWindowRead e off size) s = .next (s.answer e 1))

/-- For a sound STREAM segment at its queue's slice: a whole packet in one segment, to an enabled near queue of class 1 or 2 with room for it, commits behind the queue's packets with its length and metadata and is counted; a start of packet on a disabled queue or one with no free descriptor is refused with code 2, one that a class-0 queue's contract does not admit with code 1, a class-1 one with no space with code 2; abort with sop and none open with code 3; a segment without a packet, or of another slice's queue, with code 7 and QM_PROTOCOL; and a segment of the open packet that is too long or whose packet the producer aborts rewinds it with code 5 or 3. Refusal and rewind leave the committed packets as they are and are counted, and the producer is answered with status 1, the code and the queue (R315 to R321, R356). -/
def Obligations.QueuePackets : Prop :=
  ∀ (s : State) (h : NocHead) (g : Segment) (bad : Bool), s.sound h (56 + 2 * sliceOf g.queue) →
    let q := g.queue
    let data := segmentBytes g
    let refused := fun (code : Nat) (t : State) => (t.queue q).pkts = (s.queue q).pkts ∧ (t.queue q).opened = none
      ∧ t.out = .answer (s.headKey h) 1 (leBytes 8 (1 + code * 256 + q * 65536)) :: s.out
      ∧ t.fld F.QM_Q_BAD_refused q = satAdd 8 (s.fld F.QM_Q_BAD_refused q) (if code = 1 ∨ code = 2 ∨ code = 7 then 1 else 0)
      ∧ t.fld F.QM_Q_BAD_rewound q = satAdd 8 (s.fld F.QM_Q_BAD_rewound q) (if code = 1 ∨ code = 2 ∨ code = 7 then 0 else 1)
    (s.takesStart q → g.sop = true → g.eop = true → g.abort = false → s.qFar q = false → s.qClass q ≠ 0 →
      data.length ≤ s.qMax q → (g.pktLen = 0 ∨ data.length ≤ g.pktLen) →
      (if s.qClass q = 1 then s.qDepth q + pktWords (if g.pktLen = 0 then s.qMax q else g.pktLen) else s.qDepth q + pktWords data.length)
        ≤ s.fld F.QM_Q_CFG2_near_words q →
      ∃ t p, exec (.streamSegment h g bad) s = .next t ∧ (t.queue q).pkts = (s.queue q).pkts ++ [p] ∧ (t.queue q).opened = none
        ∧ p.len = data.length ∧ p.meta32 = g.meta32 ∧ p.cls = s.qClass q ∧ p.far = false ∧ p.arrival = s.time.ns % 2 ^ 32
        ∧ t.fld F.QM_Q_CNT_committed q = satAdd 32 (s.fld F.QM_Q_CNT_committed q) 1
        ∧ t.out.contains (.answer (s.headKey h) 0 (leBytes 8 (q * 65536))) = (g.ack || s.out.contains (.answer (s.headKey h) 0 (leBytes 8 (q * 65536)))))
    ∧ ((s.queue q).opened = none → (s.queue q).waiting = [] → g.sop = true → g.abort = false →
        s.flag F.QM_Q_CFG0_en q = false ∨ s.qDescFree q = 0 → ∃ t, exec (.streamSegment h g bad) s = .next t ∧ refused 2 t)
    ∧ (s.takesStart q → g.sop = true → g.abort = false → s.qClass q = 0 →
        s.flag F.QM_CT_STAT_committed q = false ∨ s.fld F.QM_CT_PKT_c_max q < g.pktLen →
        ∃ t, exec (.streamSegment h g bad) s = .next t ∧ refused 1 t)
    ∧ (s.takesStart q → g.sop = true → g.abort = false → s.qClass q = 1 → s.qFar q = false →
        s.fld F.QM_Q_CFG2_near_words q < s.qDepth q + pktWords (if g.pktLen = 0 then s.qMax q else g.pktLen) →
        ∃ t, exec (.streamSegment h g bad) s = .next t ∧ refused 2 t)
    ∧ ((s.queue q).opened = none → (s.queue q).waiting = [] → g.sop = true → g.abort = true →
        ∃ t, exec (.streamSegment h g bad) s = .next t ∧ refused 3 t)
    ∧ ((s.queue q).opened = none → (s.queue q).waiting = [] → g.sop = false → (s.queue q).dropping.contains (producerOf h) = false →
        ∃ t, exec (.streamSegment h g bad) s = .next t ∧ refused 7 t ∧ t.flt.raised.getLast? = some [Flt.QM_PROTOCOL.entry [q]])
    ∧ (∀ o, (s.queue q).opened = some o → (s.queue q).waiting = [] → o.prod = producerOf h → o.closing = false → o.vc = h.vc →
        (g.abort = true → ∃ t, exec (.streamSegment h g bad) s = .next t ∧ refused 3 t)
        ∧ (g.abort = false → g.sop = false → s.byteLimit q o < o.bytes + data.length →
            ∃ t, exec (.streamSegment h g bad) s = .next t ∧ refused 5 t))
    ∧ (∀ g2 : Segment, sliceOf g2.queue ≠ sliceOf q → (s.queue g2.queue).waiting = [] →
        ∃ t, exec (.streamSegment h g2 bad) s = .next t ∧ t.flt.raised.getLast? = some [Flt.QM_PROTOCOL.entry [g2.queue]]
          ∧ t.out = .answer (s.headKey h) 1 (leBytes 8 (1 + 7 * 256 + g2.queue * 65536)) :: s.out ∧ t.queue g2.queue = s.queue g2.queue)

/-- QUEUE_ENABLE of a stopped queue first applies the entry register's other fields and then checks the entry: where the check passes, en becomes 1; where it fails, en stays 0 and QM_Q_CFG_INVALID is recorded with the queue. A write that would change these fields of a queue that is not stopped leaves them and records QM_WR_IGNORED. QUEUE_DISABLE clears en and leaves packets as they are, but is ignored on a queue with a committed contract. QUEUE_FLUSH discards and counts the committed packets of a disabled queue, but one that its port is sending, and is refused on an enabled one. FAR_CELLS_WRITE gives a stopped slice its cells with a free list started anew; it is ignored on a slice that is not stopped, and above 402,653,184 in all QM_FAR_LIMIT is recorded (R313, R314, R330). -/
def Obligations.QueueAdministration : Prop :=
  (∀ (s : State) (q : Nat) (value : Word),
    let only := fun (t : State) => t = { s with csr := t.csr, flt := t.flt } ∧ ∀ off i, off < 2 ^ 28 → off ≠ R.QM_Q_CFG0 ∨ i ≠ q →
      off ≠ R.QM_STATUS → t.reg off i = s.reg off i
    (s.qStopped q = true →
      let s1 := s.setReg R.QM_Q_CFG0 (value &&& 0x7FFFFFFF) q
      ∃ t, exec (.queueEnable q value) s = .next t ∧ only t
        ∧ t.reg R.QM_Q_CFG0 q = (if s1.entryBad q then value &&& 0x7FFFFFFF else value ||| 0x80000000)
        ∧ t.flt.raised = s.flt.raised ++ (if s1.entryBad q then [[Flt.QM_Q_CFG_INVALID.entry [q]]] else []))
    ∧ (s.flag F.QM_Q_CFG0_en q = true → value &&& 0x7FFFFFFF ≠ s.reg R.QM_Q_CFG0 q &&& 0x7FFFFFFF →
      ∃ t, exec (.queueEnable q value) s = .next t ∧ only t ∧ t.reg R.QM_Q_CFG0 q = s.reg R.QM_Q_CFG0 q
        ∧ t.flag F.QM_STATUS_wr_ignored = true ∧ t.flt.raised = s.flt.raised ++ [[Flt.QM_WR_IGNORED.entry []]])
    ∧ (s.flag F.QM_Q_CFG0_en q = true → s.flag F.QM_CT_STAT_committed q = false → value &&& 0x7FFFFFFF = s.reg R.QM_Q_CFG0 q &&& 0x7FFFFFFF →
      ∃ t, exec (.queueDisable q value) s = .next t ∧ only t ∧ t.flt = s.flt ∧ t.reg R.QM_Q_CFG0 q = s.reg R.QM_Q_CFG0 q &&& 0x7FFFFFFF)
    ∧ (s.flag F.QM_Q_CFG0_en q = true → s.flag F.QM_CT_STAT_committed q = true → value &&& 0x7FFFFFFF = s.reg R.QM_Q_CFG0 q &&& 0x7FFFFFFF →
      ∃ t, exec (.queueDisable q value) s = .next t ∧ only t ∧ t.reg R.QM_Q_CFG0 q = s.reg R.QM_Q_CFG0 q
        ∧ t.flag F.QM_STATUS_wr_ignored = true ∧ t.flt.raised = s.flt.raised ++ [[Flt.QM_WR_IGNORED.entry []]]))
  ∧ (∀ (s : State) (q : Nat),
    (s.flag F.QM_Q_CFG0_en q = true → exec (.queueFlush q) s = .next (s.raise Flt.QM_CMD_REFUSED [q]))
    ∧ (s.flag F.QM_Q_CFG0_en q = false →
      let keep := if (s.egress (sliceOf q) (s.qEgress q)).busy = some q then 1 else 0
      ∃ t, exec (.queueFlush q) s = .next t ∧ (t.queue q).pkts = (s.queue q).pkts.take keep ∧ (t.queue q).opened = (s.queue q).opened
        ∧ (t.queue q).descStop = false ∧ t.fld F.QM_Q_BAD_flushed q = satAdd 8 (s.fld F.QM_Q_BAD_flushed q) ((s.queue q).pkts.length - keep)
        ∧ t.flt = s.flt ∧ t.out = s.out ∧ ∀ x, x ≠ q → (t.queue x).pkts = (s.queue x).pkts))
  ∧ (∀ (s : State) (slice n : Nat), slice < 4 → n < 2 ^ 29 → s.fld F.QM_FAR_CELLS_cells slice ≠ n →
    (s.farStopped slice = false → ∃ t, exec (.farCellsWrite slice n) s = .next t ∧ t.flag F.QM_STATUS_wr_ignored = true
      ∧ t.fld F.QM_FAR_CELLS_cells slice = s.fld F.QM_FAR_CELLS_cells slice ∧ t.qm = s.qm ∧ t.flt.raised = s.flt.raised ++ [[Flt.QM_WR_IGNORED.entry []]])
    ∧ (s.farStopped slice = true →
      let all := ((List.range 4).map fun x => if x = slice then n else s.fld F.QM_FAR_CELLS_cells x).sum
      (402653184 < all → exec (.farCellsWrite slice n) s = .next (s.raise Flt.QM_FAR_LIMIT [slice]))
      ∧ (all ≤ 402653184 → ∃ t, exec (.farCellsWrite slice n) s = .next t ∧ t.fld F.QM_FAR_CELLS_cells slice = n ∧ t.farFree slice = n
          ∧ t.qm.queues = s.qm.queues ∧ t.flt = s.flt ∧ ∀ x, x ≠ slice → t.farFree x = s.farFree x)))

/-- At the start of a valid slot the queue it names gains one entitlement if it holds a committed packet that none covers, and a free port with no other entitlement starts its packet. When a MAC port's packet has left, the frame is sent, padded to 64 bytes with its FCS, and the packet leaves its queue. FAR_CELL_ACK commits the far packet that waits for it; OPEN_TIMEOUT rewinds an open packet past its time with code 3 and records QM_OPEN_TIMEOUT. A stream port injects its gathered segment when that is full, ended or abandoned, or when it has idled, unless the island is held. A frame received at a MAC with its link up goes to the port's default queue, its arrival its timestamp; one that is too short or too long, or has a bad FCS, is discarded and counted (R316, R319, R322, R323, R327, R328, R451). -/
def Obligations.QueuePortsAndTimers : Prop :=
  (∀ (s : State) (slice port dry q : Nat) (bad : Bool), s.calSlot slice port (s.time.ns / s.slotNs slice port % 64) = some q →
    let e := s.egress slice port
    (∀ x, e.busy = some x → ∃ t, exec (.portSlotStart slice port dry bad) s = .next t ∧ (t.egress slice port).busy = some x
      ∧ (t.egress slice port).entitled = e.entitled ++ (if (e.entitled.filter (· == q)).length + (if x = q then 1 else 0) < (s.queue q).pkts.length then [q] else []))
    ∧ (e.busy = none → e.entitled = [] → (s.queue q).pkts ≠ [] → (s.queue q).descStop = false → s.qClass q = 0 →
        (if port < 24 then s.classPaused (macOfPort slice port) 0 = false else bit dry 0 = false) →
        ∃ t, exec (.portSlotStart slice port dry false) s = .next t ∧ (t.egress slice port).busy = some q ∧ (t.egress slice port).entitled = []
          ∧ (t.queue q).pkts = (s.queue q).pkts))
  ∧ (∀ (s : State) (slice port dry q : Nat) (p : QPkt) (l : List QPkt), (s.egress slice port).busy = some q → (s.queue q).pkts = p :: l →
      s.qEgress q < 24 → p.far = false → bit p.meta32 30 = false →
      ∃ t b, exec (.portPacketDone slice port dry false) s = .next t ∧ (t.queue q).pkts = l
        ∧ t.out = .frame (macOfPort (sliceOf q) (s.qEgress q)) b :: s.out ∧ b.length = max 64 (p.len + 4)
        ∧ (((s.packetWords q p).1.all fun w => !w.2) = true → fieldAt b (b.length - 4) 4 = crc32 (b.take (b.length - 4))
            ∧ b.take p.len = flitBytes ((s.packetWords q p).1.map (·.1)) p.len))
  ∧ (∀ (s : State) (q : Nat) (o : OpenPkt) (bad : Bool), (s.queue q).opened = some o → (s.queue q).waiting = [] →
    (o.closing = true → s.mee.writes.all (fun w => decide (w.dst ≠ cellKey q)) = true →
      ∃ t p, exec (.farCellAck q bad) s = .next t ∧ (t.queue q).opened = none ∧ (t.queue q).pkts = (s.queue q).pkts ++ [p]
        ∧ p.len = o.bytes ∧ p.cells = o.cells ∧ p.meta32 = o.meta32 ∧ t.fld F.QM_Q_CNT_committed q = satAdd 32 (s.fld F.QM_Q_CNT_committed q) 1)
    ∧ (o.closing = false → exec (.farCellAck q bad) s = .next s)
    ∧ (o.closing = false → o.prod.dev ≠ 16 → o.last + max 1 (s.fld F.QM_CTRL_open_timeout_us) * 1000 ≤ s.time.ns →
      ∃ t, exec (.openTimeout q) s = .next t ∧ (t.queue q).opened = none ∧ (t.queue q).pkts = (s.queue q).pkts
        ∧ t.flt.raised.getLast? = some [Flt.QM_OPEN_TIMEOUT.entry [q]]
        ∧ t.out = .answer (s.producerKey o.prod o.tag) 1 (leBytes 8 (1 + 3 * 256 + q * 65536)) :: s.out))
  ∧ (∀ (s : State) (k : Nat) (x : SpOpen), (s.spOf k).tx = some x → s.held (islandOf k) = false →
    let sent := fun (t : State) => t.out = .noc (s.spSegment k x) :: s.out ∧ t = { s with sp := t.sp, out := t.out }
      ∧ (t.spOf k).tx = (if x.eop ∨ x.abort then none else some { x with begun := true, flits := x.flits + x.words.length, words := [] })
    (x.words.length = 64 ∨ x.eop = true ∨ x.abort = true → ∃ t, exec (.spSegmentInject k) s = .next t ∧ sent t)
    ∧ (x.words ≠ [] → ∃ t, exec (.spIdleTimeout k) s = .next t ∧ sent t))
  ∧ (∀ (s : State) (mac : Nat) (data : List Byte) (bad : Bool), s.flag F.ETH_MAC_CFG_en mac = true → s.flag F.ETH_MAC_STAT_link_up mac = true →
    let worse := fun (t : State) => t.fld F.ETH_MAC_CNT_rx_bad mac = satAdd 16 (s.fld F.ETH_MAC_CNT_rx_bad mac) 1 ∧ t.out = s.out
      ∧ ∀ q, (t.queue q).pkts = (s.queue q).pkts
    (data.length < 64 ∨ max 63 (s.fld F.ETH_MAC_CFG_max_frame mac) + 1 < data.length →
      ∃ t, exec (.frameReceive mac data 0 0 bad) s = .next t ∧ worse t)
    ∧ (64 ≤ data.length → data.length ≤ max 63 (s.fld F.ETH_MAC_CFG_max_frame mac) + 1 → 
        let frame := data.take (data.length - 4)
        let inst := portInst (mac / 24) (mac % 24)
        let q := s.fld F.QM_PORT_CFG_dflt_q inst
        s.frameKey mac frame = [] →
        (s.flag F.QM_PORT_CFG_dflt_en inst = false → ∃ t, exec (.frameReceive mac data 0 0 bad) s = .next t ∧ worse t)
        ∧ (s.flag F.QM_PORT_CFG_dflt_en inst = true → sliceOf q = mac / 24 → s.takesStart q → s.qClass q = 2 → s.qFar q = false →
            frame.length ≤ s.qMax q → s.qDepth q + pktWords frame.length ≤ s.fld F.QM_Q_CFG2_near_words q →
            (leNat (data.drop (data.length - 4)) = crc32 frame → ∃ t p, exec (.frameReceive mac data 0 0 bad) s = .next t
                ∧ (t.queue q).pkts = (s.queue q).pkts ++ [p] ∧ p.len = frame.length
                ∧ p.arrival = s.stamp (s.fld F.ETH_TS_ADJ_rx_ps mac) % 2 ^ 32)
            ∧ (leNat (data.drop (data.length - 4)) ≠ crc32 frame → ∃ t, exec (.frameReceive mac data 0 0 bad) s = .next t ∧ worse t))))

/-- A FLOW_REQ that its source issues and whose packet arrives sound is worked and answered. On a hit: LOOKUP applies count and touch, INSERT changes nothing (EXISTS), DELETE frees the entry, ADD adds opa to the target modulo its width, CAS writes opb where the target holds opa and answers CAS_FAIL otherwise, both with the old value. On a miss: MISS, or for INSERT and a learning LOOKUP the new entry at the place of R336, or FULL. A bad read ends the operation with status 3 and writes nothing; a malformed request or an unknown source is answered BAD_REQ and recorded. No other entry changes; the response carries the entry as R341 says (R336, R338 to R341, R345). -/
def Obligations.FlowOperations : Prop :=
  (∀ (s s1 : State) (h : NocHead) (q : FlowReq), s.sound h 59 → s.flowSource h = true →
    ((s.issued h.srcNode h.srcPort h.tag 2 (if q.ret then 3 else 1)).bind fun t => t.flJoin h.srcNode h.srcPort h.tag) = some s1 →
    let b := s.flowBuckets q.key.toNat q.keyLen
    let ops := [(0, Instr.flowLookup h q []), (1, .flowInsert h q []), (2, .flowDelete h q []), (3, .flowAdd h q []), (4, .flowCas h q [])]
    let gives := fun (c : Instr) (r : FlowResult) (place : Option Nat) (v : Nat) (t : State) => exec c s = .next t
      ∧ t.out = .answer (s.headKey h) r.status (r.bytes q.ret) :: s.out
      ∧ ∀ j, t.flowEntry j = if some j = place then (v, false) else s.flowEntry j
    let kept := fun (c : Instr) (r : FlowResult) (t : State) => gives c r none 0 t
    (∀ x ∈ ops, flowMalformed x.1 q = true → ∃ t, kept x.2 ⟨1, 8, none, 0, 0⟩ t ∧ t.flt.raised = s.flt.raised ++ [[Flt.FS_BAD_REQ.entry []]])
    ∧ ∀ x ∈ ops, flowMalformed x.1 q = false →
      (∀ i, ((flowReads b).find? fun i => (s.flowEntry i).2) = some i →
        ∃ t, kept x.2 ⟨3, if x.1 = 1 ∨ (x.1 = 0 ∧ q.learn = true) then 4 else 1, none, 0, 0⟩ t ∧ t.flag F.FS_STATUS_uncorr_any = true
          ∧ t.flt.raised = s.flt.raised ++ [[Flt.FS_ENTRY_UNCORR.entry (locWord (if i < stashBase then i else i - stashBase))]])
      ∧ ((∀ i ∈ flowReads b, (s.flowEntry i).2 = false) →
        (∀ i, s.flowFind b q.key.toNat q.keyLen = some i →
          let v := (s.flowEntry i).1
          let old := bits v (flowTarget q.target).1 (flowTarget q.target).2
          let put := fun n => putBits v (flowTarget q.target).1 (flowTarget q.target).2 n
          (x.1 = 0 → ∃ t, gives x.2 ⟨0, 0, some i, flowHit v q s.time.ns, 0⟩ (some i) (flowHit v q s.time.ns) t)
          ∧ (x.1 = 1 → ∃ t, kept x.2 ⟨0, 3, some i, v, 0⟩ t)
          ∧ (x.1 = 2 → ∃ t, gives x.2 ⟨0, 5, some i, v, 0⟩ (some i) 0 t)
          ∧ (x.1 = 3 → ∃ t, gives x.2 ⟨0, 0, some i, put (old + q.opa), old⟩ (some i) (put (old + q.opa)) t)
          ∧ (x.1 = 4 → old = q.opa % 2 ^ ((flowTarget q.target).1 + 1 - (flowTarget q.target).2) →
              ∃ t, gives x.2 ⟨0, 0, some i, put q.opb, old⟩ (some i) (put q.opb) t)
          ∧ (x.1 = 4 → old ≠ q.opa % 2 ^ ((flowTarget q.target).1 + 1 - (flowTarget q.target).2) → ∃ t, kept x.2 ⟨0, 6, some i, v, old⟩ t))
        ∧ (s.flowFind b q.key.toNat q.keyLen = none →
          let makes := decide (x.1 = 1) || (decide (x.1 = 0) && q.learn)
          (makes = false → ∃ t, kept x.2 ⟨0, 1, none, 0, 0⟩ t ∧ t.fld F.FS_MISSES_count = satAdd 32 (s.fld F.FS_MISSES_count) 1)
          ∧ (makes = true → s.flowPlace b = none → ∃ t, kept x.2 ⟨0, 4, none, 0, 0⟩ t ∧ t.flag F.FS_STATUS_full_any = true)
          ∧ (makes = true → ∀ i, s.flowPlace b = some i →
            let v := newEntry q.key.toNat q.keyLen q.queue q.eflags (q.opa % 2 ^ 32) s.time.ns (q.user.getD [])
            ∃ t, gives x.2 ⟨0, if x.1 = 1 then 2 else 7, some i, v, 0⟩ (some i) v t))))
  ∧ (∀ (s : State) (b : Nat × Nat) (i : Nat), s.flowPlace b = some i → entryKeyLen (s.flowEntry i).1 = 0 ∧ i ∈ flowReads b
      ∧ (stashBase ≤ i → b.1 < 2 ^ 18 → b.2 < 2 ^ 18 → ∀ w ∈ bucketWays b.1 ++ bucketWays b.2, entryKeyLen (s.flowEntry w).1 ≠ 0))
  ∧ (∀ (s s1 : State) (h : NocHead) (q : FlowReq), s.sound h 59 → s.flowSource h = false →
      ((s.issued h.srcNode h.srcPort h.tag 2 (if q.ret then 3 else 1)).bind fun t => t.flJoin h.srcNode h.srcPort h.tag) = some s1 →
      ∃ t, exec (.flowLookup h q []) s = .next t ∧ t.flow.words = s.flow.words ∧ t.flt.raised = s.flt.raised ++ [[Flt.FS_BAD_REQ.entry []]])

/-- A flow response ends its request; at a fabric lookup port responses are presented in the order of their requests. RELOCATE moves the stash entry at hand into a free way of its candidate buckets, or swaps it with the way at hand of its first bucket, and does nothing without stash entries or with reloc_en 0. An age scan starts with FS_AGE_RES 0 and busy set, is refused while one runs, ages at each visit exactly the unpinned entries not seen for FS_AGE_THRESH x 2^20 ns, by flag or by freeing them, and ends with done after the stash. FS_KILL writes an all-zero entry (R337, R341, R345, R346, R348). -/
def Obligations.FlowMaintenance : Prop :=
  (∀ (s : State) (node port tag hd : Nat) (entry : List Byte), SMap.get none s.noc.reqs (reqKey node port tag) ≠ none →
    (lookupPort node port = none → exec (.flowResp node port tag hd entry) s = .next (s.release node port tag))
    ∧ (∀ j l, lookupPort node port = some j → (s.flPort j).waiting = (tag, none) :: l → (∀ w ∈ l, w.2 = none) →
        ∃ t, exec (.flowResp node port tag hd entry) s = .next t ∧ (t.flPort j).rsp = (s.flPort j).rsp ++ [(hd, entry)]
          ∧ (t.flPort j).waiting = l ∧ SMap.get none t.noc.reqs (reqKey node port tag) = none)
    ∧ (∀ j w l, lookupPort node port = some j → (s.flPort j).waiting = w :: l → w.1 ≠ tag → w.2 = none →
        ∃ t, exec (.flowResp node port tag hd entry) s = .next t ∧ (t.flPort j).rsp = (s.flPort j).rsp
          ∧ (t.flPort j).waiting = w :: flMark tag (hd, entry) l))
  ∧ (∀ s : State, s.flag F.FS_CTRL_reloc_en = false ∨ (∀ n < 64, entryKeyLen (s.flowEntry (stashBase + n)).1 = 0) →
      exec .relocate s = .next s)
  ∧ (∀ (s : State) (n : Nat), s.flag F.FS_CTRL_reloc_en = true → s.stashNext s.flow.slot = some n → s.flow.way < 4 →
      let v := (s.flowEntry (stashBase + n)).1
      let b := s.flowBuckets (entryKey v) (entryKeyLen v)
      let j := 4 * b.1 + s.flow.way
      (s.flowEntry (stashBase + n)).2 = false → (∀ w ∈ bucketWays b.1 ++ bucketWays b.2, (s.flowEntry w).2 = false) →
      (∀ w, s.flowWay b = some w → ∃ t, exec .relocate s = .next t
        ∧ ∀ x, t.flowEntry x = if x = w then (v, false) else if x = stashBase + n then (0, false) else s.flowEntry x)
      ∧ (s.flowWay b = none → (if n = s.flow.slot then s.flow.kicks else 0) < max 1 (s.fld F.FS_CTRL_max_kicks) →
        ∃ t, exec .relocate s = .next t ∧ t.flow.way = (s.flow.way + 1) % 4 ∧ t.flow.slot = n
          ∧ ∀ x, t.flowEntry x = if x = j then (v, false) else if x = stashBase + n then ((s.flowEntry j).1, false) else s.flowEntry x))
  ∧ (∀ (s : State) (action : Nat), action < 2 →
      (s.flow.scan = none → ∃ t, exec (.ageScanStart action) s = .next t ∧ t.flow = { s.flow with scan := some 0 }
        ∧ t.flag F.FS_AGE_CTRL_busy = true ∧ t.flag F.FS_AGE_CTRL_done = false ∧ t.fld F.FS_AGE_CTRL_action = action
        ∧ t.fld F.FS_AGE_RES_aged = 0 ∧ t.flt = s.flt)
      ∧ (s.flow.scan ≠ none → ∃ t, exec (.ageScanStart action) s = .next t ∧ t.flow = s.flow
        ∧ t.flt.raised = s.flt.raised ++ [[Flt.FS_AGE_REFUSED.entry []]]))
  ∧ (∀ (s : State) (b : Nat), s.flow.scan = some b → b ≤ 2 ^ 18 →
      let l := if b = 2 ^ 18 then stashSlots else bucketWays b
      let old := fun i => !(s.flowEntry i).2 && decide (entryKeyLen (s.flowEntry i).1 ≠ 0) && !bit (entryFlags (s.flowEntry i).1) 7
        && decide (s.fld F.FS_AGE_THRESH_age * 2 ^ 20 ≤ s.time.ns - entrySeen (s.flowEntry i).1)
      ∃ t, exec .ageScanVisit s = .next t ∧ t.flow.scan = some (b + 1)
        ∧ t.fld F.FS_AGE_RES_aged = satAdd 21 (s.fld F.FS_AGE_RES_aged) (l.filter old).length
        ∧ ∀ i, t.flowEntry i = if i ∈ l ∧ old i = true then
            ((if s.flag F.FS_AGE_CTRL_action then 0 else putBit (s.flowEntry i).1 334 true), false) else s.flowEntry i)
  ∧ (∀ s : State, s.flow.scan = some (2 ^ 18 + 1) → ∃ t, exec .ageScanDone s = .next t ∧ t.flow = { s.flow with scan := none }
      ∧ t.flag F.FS_AGE_CTRL_busy = false ∧ t.flag F.FS_AGE_CTRL_done = true ∧ t = { s with csr := t.csr, flow := t.flow })
  ∧ (∀ (s : State) (stash : Bool) (index : Nat), index < 2 ^ 20 → (stash = true → index < 64) →
      ∃ t, exec (.fsKill stash index) s = .next t ∧ t = { s with flow := t.flow }
        ∧ ∀ i, t.flowEntry i = if i = (if stash then stashBase + index else index) then (0, false) else s.flowEntry i)

/-- A contract passes exactly when every check of R353 does. CONTRACT_COMMIT of one that fails writes the first failing check, records PRM_CT_REFUSED and changes nothing else; of one that passes, with every domain awake, it sets committed, fills the bucket to burst, reserves a far queue's cells and computes the bound 180 + P + t_ser + 120, plus 400 for a far queue, and the slack. A packet is admitted, and its charge taken, where its length is within c_max and the bucket holds the charge; otherwise it is refused with code 1 and the bucket is unchanged. CONTRACT_REMOVE clears committed, bound, slack and status, and keeps reserved cells while the queue holds packets. One bound after the last cause cleared susp falls and PRM_RESUMED is recorded (R353 to R356, R359, R363). -/
def Obligations.GuaranteedDelivery : Prop :=
  (∀ (s : State) (q : Nat), s.ctCheck q = 0 ↔
    s.flag F.QM_Q_CFG0_en q = true ∧ s.qClass q = 0 ∧ s.flag F.QM_CT_STAT_committed q = false
    ∧ 1 ≤ s.ctUnit q ∧ s.ctUnit q ≤ s.ctMax q ∧ s.ctMax q ≤ s.qMax q ∧ s.ctMax q ≤ 16384 ∧ s.ctMax q ≤ s.ctBurst q
    ∧ 1 ≤ (s.ctSlots q).length ∧ s.ctSlotsFit q = true
    ∧ s.ctBurst q * 8000 + s.ctRate q * (64 * s.slotNs (sliceOf q) (s.qEgress q)) ≤ (s.ctSlots q).length * s.ctUnit q * 8000
    ∧ s.ctSpaceOk q = true ∧ s.ctRoute q = true ∧ s.ctCells q = true ∧ s.causeOpLow q = false)
  ∧ (∀ (s : State) (q : Nat), s.ctCheck q ≠ 0 → ∃ t, exec (.contractCommit q) s = .next t ∧ t.fld F.QM_CT_STAT_fail q = s.ctCheck q
      ∧ t.flt.raised = s.flt.raised ++ [[Flt.PRM_CT_REFUSED.entry [q]]] ∧ t = { s with csr := t.csr, flt := t.flt }
      ∧ t.flag F.QM_CT_STAT_committed q = s.flag F.QM_CT_STAT_committed q
      ∧ ∀ off i, off < 2 ^ 28 → off ≠ R.QM_CT_STAT ∨ i ≠ q → t.reg off i = s.reg off i)
  ∧ (∀ (s : State) (q : Nat), s.ctCheck q = 0 → s.devState = 0 → (∀ k < 48, s.islState k = 0) → s.pm.commits = [] →
      s.pm.devWaking = none → s.pm.devAsked = false → s.pm.waking = [] → s.pm.wakeAsked = [] →
      ∃ t, exec (.contractCommit q) s = .next t ∧ t.flag F.QM_CT_STAT_committed q = true ∧ t.fld F.QM_CT_STAT_fail q = 0
        ∧ (t.prmOf q).bucket = s.ctBurst q * 8000 ∧ (t.prmOf q).reserved = (if s.qFar q then s.ctSpace q else 0)
        ∧ (t.reg R.QM_Q_BOUND q).toNat
            = 180 + 64 * s.slotNs (sliceOf q) (s.qEgress q) + s.ctSer q + 120 + (if s.qFar q then 400 else 0)
        ∧ (t.reg R.QM_Q_SLACK q).toNat = s.ctSlack q ∧ t = { s with csr := t.csr, prm := t.prm, flt := t.flt })
  ∧ (∀ (s : State) (h : NocHead) (g : Segment) (bad : Bool), s.sound h (56 + 2 * sliceOf g.queue) → s.takesStart g.queue →
      g.sop = true → g.eop = true → g.abort = false → s.qClass g.queue = 0 → s.flag F.QM_CT_STAT_committed g.queue = true →
      let q := g.queue
      let len := if g.pktLen = 0 then s.ctMax q else g.pktLen
      let charge := max len (s.ctUnit q) * 8000
      (len ≤ s.ctMax q → charge ≤ s.bucketNow q → s.qFar q = false → s.qDepth q + pktWords len ≤ s.fld F.QM_Q_CFG2_near_words q →
        (segmentBytes g).length ≤ min len (s.qMax q) → 0 < len →
        ∃ t p, exec (.streamSegment h g bad) s = .next t ∧ (t.queue q).pkts = (s.queue q).pkts ++ [p] ∧ p.cls = 0
          ∧ p.len = (segmentBytes g).length ∧ p.bound = (s.reg R.QM_Q_BOUND q).toNat ∧ p.bound0 = s.time.ns
          ∧ (t.prmOf q).bucket = s.bucketNow q - charge ∧ (t.prmOf q).bucketAt = s.time.ns)
      ∧ (s.ctMax q < len ∨ s.bucketNow q < charge →
        ∃ t, exec (.streamSegment h g bad) s = .next t ∧ (t.queue q).pkts = (s.queue q).pkts ∧ t.prm = s.prm
          ∧ t.out = .answer (s.headKey h) 1 (leBytes 8 (1 + 256 + q * 65536)) :: s.out))
  ∧ (∀ (s : State) (q : Nat),
      (s.flag F.QM_CT_STAT_committed q = false → exec (.contractRemove q) s = .next s ∧ exec (.promiseResume q) s = .next s)
      ∧ (s.flag F.QM_CT_STAT_committed q = true →
        (∃ t, exec (.contractRemove q) s = .next t ∧ t.flag F.QM_CT_STAT_committed q = false ∧ t.reg R.QM_Q_BOUND q = 0
          ∧ t.reg R.QM_Q_SLACK q = 0 ∧ t.reg R.QM_PROMISE_STATUS q = 0
          ∧ (t.prmOf q).reserved = (if (s.queue q).pkts = [] then 0 else (s.prmOf q).reserved)
          ∧ t.fld F.QM_PROMISE_SUM_suspended = s.fld F.QM_PROMISE_SUM_suspended - (s.flag F.QM_PROMISE_STATUS_susp q).toNat
          ∧ t.reg R.PM_SLACK = BitVec.ofNat 32 t.smallestSlack ∧ t = { s with csr := t.csr, prm := t.prm })
        ∧ (s.flag F.QM_PROMISE_STATUS_susp q = true → s.causes q = 0 →
          (s.time.ns < (s.prmOf q).lastCause + (s.reg R.QM_Q_BOUND q).toNat →
            ∃ t, exec (.promiseResume q) s = .next t ∧ t.flag F.QM_PROMISE_STATUS_susp q = true ∧ t.flt = s.flt)
          ∧ ((s.prmOf q).lastCause + (s.reg R.QM_Q_BOUND q).toNat ≤ s.time.ns →
            ∃ t, exec (.promiseResume q) s = .next t ∧ t.reg R.QM_PROMISE_STATUS q = 0 ∧ (t.prmOf q).fellAt = s.time.ns
              ∧ t.fld F.QM_PROMISE_SUM_suspended = s.fld F.QM_PROMISE_SUM_suspended - 1
              ∧ t.flt.raised = s.flt.raised ++ [[Flt.PRM_RESUMED.entry [q]]]))))

/-- For all 512 data bits: a line encoded in mode E decodes clean to its data; with any error confined to one of the 24 lanes it decodes as corrected to its data, naming the lane; a line encoded in mode A with a tag decodes clean to its data and the tag's 56 bits; with the parity of one of its bytes broken by a single flipped data bit it is uncorrectable; and each mode's poison pattern reads as poison (R370 to R372). -/
def Obligations.DramLinesDecode : Prop :=
  ∀ (d : BitVec 512),
    (decodeE (encodeE d)).found = .clean ∧ (decodeE (encodeE d)).data = d
    ∧ (∀ (j : Nat) (e : BitVec 24), j < 24 → e ≠ 0 →
        decodeE (encodeE d ^^^ (e.setWidth 576 <<< (24 * j))) = ⟨.corrected, d, 0, j⟩)
    ∧ (∀ tag : Nat, decodeA (encodeA d tag) = ⟨.clean, d, tag % 2 ^ 56, 31⟩)
    ∧ (∀ tag i : Nat, i < 512 → (decodeA (encodeA d tag ^^^ BitVec.ofNat 576 (2 ^ i))).found = .uncorrectable)
    ∧ (decodeE poisonE).found = .poison ∧ (decodeA poisonA).found = .poison

/-- For each of the sixteen channels. LINE_REWRITE of a line read corrected stores its corrected codeword and is done once. PER_BANK_REFRESH of a channel that is ready or in power-down puts the wanted multiplier in force. MR4_READ notes the memory's code and wants the larger of the band's multiplier and the memory's, or x8 with LP_REFRESH_HOT once per band change where the memory is above its range. A training step that passes leads to the next, and after the sixth the channel is ready; a first failure is retried, a second fails the channel with LP_TRAIN_FAIL, unfit memory with LP_CFG_INVALID. TRACKING_READ moves the delay line at most one step and records drift beyond the window. RETRAIN starts training again and SWITCH changes the set point, each refused with LP_CMD_REFUSED while a far class-0 contract is committed (RETRAIN of a failed channel is not). An idle ready channel enters power-down. -/
def Obligations.DramChannelCommands : Prop :=
  ∀ (s : State) (ch : Nat), ch < 16 →
    (∀ line, line < 2 ^ 28 → NSet.has s.lp.rewrites (ch * 2 ^ 28 + line) = true → s.lpAnswers ch = true →
      ∃ t, exec (.lineRewrite ch line) s = .next t
        ∧ t.lineBits ch line = (if (decodeE (s.lineBits ch line)).found = .corrected then encodeE (decodeE (s.lineBits ch line)).data else s.lineBits ch line)
        ∧ NSet.has t.lp.rewrites (ch * 2 ^ 28 + line) = false
        ∧ (∀ c l, c * 2 ^ 28 + l ≠ ch * 2 ^ 28 + line → t.lineBits c l = s.lineBits c l) ∧ t = { s with lp := t.lp })
    ∧ (s.lpState ch = 2 ∨ s.lpState ch = 3 →
        (∃ t, exec (.perBankRefresh ch) s = .next t ∧ t.fld (F.LP_TEMP_mult.win ch) = SMap.get 0 s.lp.wantMult ch % 4
          ∧ SMap.get 0 t.lp.lastRef ch = s.time.ns ∧ t.lp.lines = s.lp.lines)
        ∧ (∀ code mult, ∃ t, exec (.mr4Read ch code mult false) s = .next t ∧ SMap.get 0 t.lp.wantMult ch = max (s.refCode ch) (mult % 4)
          ∧ t.fld (F.LP_TEMP_mr4.win ch) = code % 16 ∧ t.flt = s.flt ∧ t.lp.lines = s.lp.lines)
        ∧ (∀ code mult, ∃ t, exec (.mr4Read ch code mult true) s = .next t ∧ SMap.get 0 t.lp.wantMult ch = 3
          ∧ t.flt.raised = s.flt.raised ++ (if SMap.get 0 s.lp.hotBand ch = s.fld (F.LP_TEMP_band.win ch) + 1 then [] else [[Flt.LP_REFRESH_HOT.entry [ch]]]))
        ∧ (∀ (drift : Int) (beyond : Bool), ∃ t, exec (.trackingRead ch drift beyond) s = .next t
          ∧ SMap.get 0 t.lp.track ch = SMap.get 0 s.lp.track ch + (if drift < 0 then -1 else if 0 < drift then 1 else 0)
          ∧ t.flt.raised = s.flt.raised ++ (if beyond then [[Flt.LP_TRACK_DRIFT.entry [ch]]] else [])))
    ∧ (s.lpState ch = 1 → 1 ≤ SMap.get 0 s.lp.step ch → (SMap.get 0 s.lp.step ch = 1 → s.lpCfgGood ch = true) →
        (SMap.get 0 s.lp.step ch < 6 → ∃ t, exec (.trainingStepDone ch true false) s = .next t
          ∧ SMap.get 0 t.lp.step ch = SMap.get 0 s.lp.step ch + 1 ∧ NSet.has t.lp.retried ch = false ∧ t = { s with lp := t.lp })
        ∧ (6 ≤ SMap.get 0 s.lp.step ch → ∃ t, exec (.trainingStepDone ch true false) s = .next t
          ∧ t.lpState ch = 2 ∧ SMap.get 0 t.lp.step ch = 0 ∧ t.lp.lines = s.lp.lines)
        ∧ (NSet.has s.lp.retried ch = false → exec (.trainingStepDone ch false false) s =
            .next { s with lp := { s.lp with retried := NSet.put s.lp.retried ch true } })
        ∧ (NSet.has s.lp.retried ch = true → ∃ t, exec (.trainingStepDone ch false false) s = .next t ∧ t.lpState ch = 6
            ∧ [Flt.LP_TRAIN_FAIL.entry [ch]] ∈ t.flt.raised)
        ∧ (∀ ok, ∃ t, exec (.trainingStepDone ch ok true) s = .next t ∧ t.lpState ch = 6 ∧ [Flt.LP_CFG_INVALID.entry [ch]] ∈ t.flt.raised))
    ∧ (s.farContract = true → exec (.lpSwitch ch) s = .next (s.raise Flt.LP_CMD_REFUSED [ch])
        ∧ (s.lpState ch ≠ 6 → exec (.lpRetrain ch) s = .next (s.raise Flt.LP_CMD_REFUSED [ch])))
    ∧ (s.farContract = false ∨ s.lpState ch = 6 → 2 ≤ s.lpState ch → ∃ t, exec (.lpRetrain ch) s = .next t
        ∧ t.lpState ch = 1 ∧ SMap.get 0 t.lp.step ch = 1 ∧ NSet.has t.lp.retried ch = false ∧ t.lp.lines = s.lp.lines)
    ∧ (s.farContract = false → s.lpAnswers ch = true → ∃ t, exec (.lpSwitch ch) s = .next t
        ∧ t.flag (F.LP_STATUS_fsp.win ch) = !s.flag (F.LP_STATUS_fsp.win ch) ∧ t.lpState ch = s.lpState ch ∧ t = { s with csr := t.csr })
    ∧ (s.lpState ch = 2 → s.fld (F.LP_PWR_pd_idle_ns.win ch) ≠ 0 → ∃ t, exec (.lpPowerDownEntry ch) s = .next t
        ∧ t.lpState ch = 3 ∧ t = { s with csr := t.csr })

/-- For every line of an enabled region, plain, encrypted or authenticated and in either error-code mode, that a class may read and write, with its channel answering and, where the region is encrypted, the region initialised, its page's counter block in the counter cache, the line's minor below 127, and neither a walk nor a bad-page entry of the page: a whole-line write is acknowledged with status 0, and a read of the line after it answers status 0 and the data written. A partial write within one line, of a line that reads good, is acknowledged, and the line then reads as its old bytes with the new ones over them. -/
def Obligations.DramReadsWhatWasWritten : Prop :=
  ∀ (s : State) (cls addr r : Nat),
    let a := addr / 64 * 64
    let dst := 0x20000 + dramChannel a
    s.regionOf a = some r → s.lineRefused cls a false = none → s.lineRefused cls a true = none → a < 2 ^ 38 →
    a / 4096 ∉ s.mee.badPages → s.walkOf (a / 4096) = none → (s.mee.waiting.any fun w => decide (w.1 = a / 4096)) = false →
    (s.regMode r ≠ 0 → ∃ block dirty, s.cached (s.ctrAddr (a / 4096)) = some (block, dirty) ∧ blockMinor block (a / 64 % 64) < 127) →
    (s.regMode r = 2 → s.flag F.MEE_REG_CFG_ecc r = true) →
    (∀ data : BitVec 512, ∃ t u, exec (.dramLineWrite cls addr data) s = .next t ∧ t.out = .answer dst 0 [] :: s.out
      ∧ exec (.dramLineRead cls addr []) t = .next u ∧ u.out = .answer dst 0 (leBytes 64 data.toNat) :: t.out)
    ∧ (∀ (data : List Byte) (d : Nat) (s1 : State), data ≠ [] → addr % 64 + data.length < 64 → s.meeRead (s.protOf r) a = (d, false, s1) →
      ∃ t u, exec (.meePartialWrite cls addr data) s = .next t ∧ t.out = .answer (0x20000 + dramChannel addr) 0 [] :: s.out
        ∧ exec (.dramLineRead cls addr []) t = .next u ∧ u.out = .answer dst 0 (leBytes 64 (overlayLine d addr data a)) :: t.out)

/-- For every address of the fitted main memory that lies in no enabled region, and for every address of the counter region or the tree area, whatever the class: a read, a whole-line write and a write of any bytes that begins there each get the error response (status 1, no data), record MEE_NO_REGION at severity info, and change nothing else. -/
def Obligations.DramAccessOutsideRegions : Prop :=
  (∀ (s : State) (cls addr : Nat),
    let a := addr / 64 * 64
    s.dramFits a = true → s.regionOf a = none ∨ s.inCtr a = true ∨ s.inTree a = true →
    (∀ data : BitVec 512,
      exec (.dramLineRead cls addr []) s = .next ((s.raise Flt.MEE_NO_REGION).answer (0x20000 + dramChannel a) 1)
      ∧ exec (.dramLineWrite cls addr data) s = .next ((s.raise Flt.MEE_NO_REGION).answer (0x20000 + dramChannel a) 1))
    ∧ (∀ data : List Byte, data ≠ [] →
      exec (.meePartialWrite cls addr data) s = .next ((s.raise Flt.MEE_NO_REGION).answer (0x20000 + dramChannel addr) 1)))
  ∧ Flt.MEE_NO_REGION.sev = 0

/-- A write with en = 1 to a disabled region's configuration takes its fields and enables it if its check passes, and otherwise leaves en 0 and records MEE_REGION_INVALID (R386). A free walker takes the first eager page that waits, else the first, whose counters verify; a walk that ends leaves the page's block under major M + 1 with the minors its lines got on the way, counts in MEE_ERR, and is gone (R396, R397). LOAD fills an empty slot, from a free value of the device's random source or derived from a stored secret, and is refused for an active slot or a missing source; RETIRE empties an active slot that nothing references and is refused otherwise; each refusal shows its reason and records MEE_KEY_REFUSED (R404, R405). REKEY, INIT and FLUSH start their walk, or are refused with MEE_CMD_REFUSED; at its end REKEY has given the region its new key, INIT has initialised it, FLUSH has emptied the counter cache (R403, R406). -/
def Obligations.EncryptionEngineCommands : Prop :=
  (∀ (s : State) (value : Nat), let r := s.fld F.MEE_REG_SEL_region
    s.regEn r = false → r < 32 → ∃ t, exec (.regionEnable value) s = .next t
      ∧ t.fld F.MEE_REG_CFG_key r = value % 64 ∧ t.fld F.MEE_REG_CFG_mode r = bits value 28 27 ∧ t.flag F.MEE_REG_CFG_ecc r = bit value 26
      ∧ t.flag F.MEE_REG_CFG_init r = s.flag F.MEE_REG_CFG_init r
      ∧ (∃ u : State, u.reg R.MEE_REG_CFG r = t.reg R.MEE_REG_CFG r &&& 0x7FFFFFFF ∧ (∀ off i, (off, i) ≠ (R.MEE_REG_CFG, r) → off < 2 ^ 28 → u.reg off i = s.reg off i)
        ∧ u.mee = s.mee ∧ u = { s with csr := u.csr } ∧ (t.regEn r = !u.regionBad r)
        ∧ t.flt.raised = s.flt.raised ++ (if u.regionBad r then [[Flt.MEE_REGION_INVALID.entry]] else [])))
  ∧ (∀ (s s2 : State) (page r block : Nat) (eager : Bool), (s.mee.waiting.find? (·.2)).or s.mee.waiting.head? = some (page, eager) →
      s.mee.walks.length < 16 → s.regionOf (page * 4096) = some r →
      ({ s with mee := { s.mee with waiting := s.mee.waiting.filter fun w => decide (w.1 ≠ page) } } : State).fetchCtr page (decide (s.regMode r = 2)) = (some block, s2) →
      blockMajor block ≠ 2 ^ 64 - 1 →
      ∃ t, exec .reencWalkStart s = .next t ∧ t.mee.walks = s2.mee.walks ++ [⟨page, eager, []⟩]
        ∧ t.mee.waiting = s2.mee.waiting ∧ t.flag F.MEE_STATUS_walk_busy = true)
  ∧ (∀ (s : State) (w : MeeWalk) (page r block : Nat) (dirty : Bool), s.walkOf page = some w → s.regionOf (page * 4096) = some r →
      s.cached (s.ctrAddr page) = some (block, dirty) → (s.mee.writes.any fun x => decide (x.addr / 4096 = page)) = false →
      ∃ t, exec (.reencWalkDone page) s = .next t ∧ t.mee.walks = s.mee.walks.filter (fun x => decide (x.page ≠ page))
        ∧ t.cached (s.ctrAddr page) = some (w.moved.foldl (fun b (e : Nat × Nat) => setMinor b e.1 e.2) (blockMajor block + 1), true)
        ∧ t.flag F.MEE_STATUS_walk_busy = decide (t.mee.walks ≠ []))
  ∧ (∀ (s : State) (slot src label : Nat), slot < 64 →
      (NSet.has s.mee.active slot = false → src = 0 → s.flag F.SEC_STATUS_trng_ok = true → ∃ t, exec (.keyLoad slot src label) s = .next t
        ∧ NSet.has t.mee.active slot = true ∧ SMap.get 0 t.mee.keys slot = Config.freeNat s.freeIdx ∧ t.freeIdx = s.freeIdx + 1
        ∧ t.fld F.MEE_KEY_STAT_result = 0 ∧ t.fld F.MEE_KEY_STAT_slot = slot ∧ t.flag F.MEE_KEY_STAT_active = true ∧ t.flt = s.flt)
      ∧ (∀ x, NSet.has s.mee.active slot = false → src = 1 → SMap.get none s.secu.secrets label = some x → ∃ t, exec (.keyLoad slot src label) s = .next t
        ∧ NSet.has t.mee.active slot = true ∧ SMap.get 0 t.mee.keys slot = Config.deriveKey x slot s.mee.epoch
        ∧ t.fld F.MEE_KEY_STAT_result = 0 ∧ t.flt = s.flt)
      ∧ (∀ c n, (c = Instr.keyLoad slot src label ∧ NSet.has s.mee.active slot = true ∧ n = 1)
          ∨ (c = .keyLoad slot src label ∧ NSet.has s.mee.active slot = false ∧ n = 4 ∧
              (src = 0 ∧ s.flag F.SEC_STATUS_trng_ok = false ∨ src = 1 ∧ SMap.get none s.secu.secrets label = none))
          ∨ (c = .keyRetire slot ∧ NSet.has s.mee.active slot = false ∧ n = 2)
          ∨ (c = .keyRetire slot ∧ NSet.has s.mee.active slot = true ∧ s.keyUsed slot = true ∧ n = 3) →
          ∃ t, exec c s = .next t ∧ t.fld F.MEE_KEY_STAT_result = n ∧ t.fld F.MEE_KEY_STAT_slot = slot ∧ t.mee = s.mee
            ∧ t.flt.raised = s.flt.raised ++ [[Flt.MEE_KEY_REFUSED.entry]])
      ∧ (NSet.has s.mee.active slot = true → s.keyUsed slot = false → ∃ t, exec (.keyRetire slot) s = .next t
        ∧ NSet.has t.mee.active slot = false ∧ SMap.get 0 t.mee.keys slot = 0 ∧ t.fld F.MEE_KEY_STAT_result = 0
        ∧ t.flag F.MEE_KEY_STAT_active = false ∧ t.flt = s.flt))
  ∧ (∀ (s : State) (region key : Nat), region < 32 → key < 64 → s.mee.walk = none →
      (NSet.has s.mee.active key = true → s.regMode region ≠ 0 → ∃ t, exec (.rekey region key) s = .next t
        ∧ t.mee.walk = some ⟨1, region, key⟩ ∧ t.flag F.MEE_WALK_STAT_busy = true ∧ t.fld F.MEE_WALK_STAT_op = 1 ∧ t.flt = s.flt)
      ∧ (s.regMode region ≠ 0 → ∃ t, exec (.meeInit region) s = .next t
        ∧ t.mee.walk = some ⟨2, region, 0⟩ ∧ t.flag F.MEE_WALK_STAT_busy = true ∧ t.fld F.MEE_WALK_STAT_op = 2 ∧ t.flt = s.flt)
      ∧ (∃ t, exec .meeFlush s = .next t ∧ t.mee.walk = some ⟨3, 0, 0⟩ ∧ t.flag F.MEE_WALK_STAT_busy = true ∧ t.fld F.MEE_WALK_STAT_op = 3 ∧ t.flt = s.flt)
      ∧ (NSet.has s.mee.active key = false ∨ s.regMode region = 0 → exec (.rekey region key) s = .next (s.raise Flt.MEE_CMD_REFUSED)))
  ∧ (∀ (s : State) (w : MeeOp) (region key : Nat), s.mee.walk = some w → w.op = 1 ∨ w.op = 2 →
      exec (.rekey region key) s = .next (s.raise Flt.MEE_CMD_REFUSED) ∧ exec (.meeInit region) s = .next (s.raise Flt.MEE_CMD_REFUSED)
      ∧ exec .meeFlush s = .next (s.raise Flt.MEE_CMD_REFUSED))
  ∧ (∀ (s : State) (w : MeeOp), s.mee.walk = some w → w.region < 32 → w.key < 64 → ∃ t, exec .meeWalkDone s = .next t ∧ t.mee.walk = none ∧ t.flag F.MEE_WALK_STAT_busy = false
      ∧ (w.op = 1 → t.fld F.MEE_REG_CFG_key w.region = w.key)
      ∧ (w.op = 2 → t.flag F.MEE_REG_CFG_init w.region = decide (s.regMode w.region ≠ 0))
      ∧ (w.op = 3 → t.mee.cache = []))

/-- BRINGUP_START of an enabled bundle puts it in RESET with polarity, order and lanes forgotten. BRINGUP_STAGE_DONE moves a Graft bundle one state on: POLARITY takes the lanes received inverted, ORDER accepts the straight and the reversed order and fails otherwise with LN_LANE_ORDER, a deskew above 48 UI ends the attempt with reason 5, and after DESKEW the bundle is up; in Ethernet mode calibration at a rate Ethernet has not fails with reason 1, and each enabled lane passes on by itself, the bundle showing the slowest. A stage that times out ends the attempt with the stage's reason: back to RESET, and after the third FAILED with LN_BRINGUP_FAIL. A lane that loses lock returns to state 2 in Ethernet mode and retrains the link in Graft mode. A checker counts errors while it is locked; the injection commands invert one bit or a burst on each selected lane, start a rate, or stop (R411, R413, R415 to R419). -/
def Obligations.LaneCommands : Prop :=
  (∀ (s : State) (b : Nat), b < 12 →
    (s.flag (F.LN_CTRL_en.win b) = false → exec (.bringupStart b) s = .next s)
    ∧ (s.flag (F.LN_CTRL_en.win b) = true → ∃ t, exec (.bringupStart b) s = .next t ∧ t.lnState b = 0 ∧ (t.lnOf b).attempts = 0
        ∧ t.fld (F.LN_STATE_lane_up.win b) = 0 ∧ t.fld (F.LN_STATE_rx_inv.win b) = 0 ∧ t.flag (F.LN_STATE_reversed.win b) = false
        ∧ t.flag (F.LN_STATUS_up.win b) = false ∧ (s.lnGraft b = true → s.grState b ≠ 6 → t.grState b = 1)))
  ∧ (∀ (s : State) (b lane inverted skew : Nat) (numbers : List Nat), b < 12 → s.flag (F.LN_CTRL_en.win b) = true → s.bundleOpen b = true →
    let c := Instr.bringupStageDone b lane inverted numbers skew
    (s.lnState b = 0 → ∃ t, exec c s = .next t ∧ t.lnState b = 1)
    ∧ (s.lnGraft b = true →
      (∀ n, n = 1 ∨ n = 2 ∨ n = 5 → s.lnState b = n → ∃ t, exec c s = .next t ∧ t.lnState b = n + 1)
      ∧ (s.lnState b = 3 → ∃ t, exec c s = .next t ∧ t.lnState b = 4 ∧ t.fld (F.LN_STATE_rx_inv.win b) = inverted % 256)
      ∧ (s.lnState b = 4 → s.fld (F.LN_CTRL_lb.win b) ≠ 1 →
          (numbers = List.range 8 → ∃ t, exec c s = .next t ∧ t.lnState b = 5 ∧ t.flag (F.LN_STATE_reversed.win b) = s.flag (F.LN_STATE_reversed.win b))
          ∧ (numbers = (List.range 8).reverse → ∃ t, exec c s = .next t ∧ t.lnState b = 5 ∧ t.flag (F.LN_STATE_reversed.win b) = true)
          ∧ (numbers ≠ List.range 8 → numbers ≠ (List.range 8).reverse → ∃ t, exec c s = .next t ∧ t.lnState b = 8
              ∧ s.flt.raised ++ [[Flt.LN_LANE_ORDER.entry [b]]] <+: t.flt.raised))
      ∧ (s.lnState b = 6 → skew ≤ 48 → ∃ t, exec c s = .next t ∧ t.lnState b = 7 ∧ t.flag (F.LN_STATUS_up.win b) = true
          ∧ t.fld (F.LN_STATE_lane_up.win b) = 255 ∧ t.grState b = (if s.grState b = 3 then 4 else 2))
      ∧ (s.lnState b = 6 → 48 < skew → (s.lnOf b).attempts < 2 → ∃ t, exec c s = .next t ∧ t.lnState b = 0
          ∧ t.fld (F.LN_STATE_fail.win b) = 5 ∧ (t.lnOf b).attempts = (s.lnOf b).attempts + 1))
    ∧ (s.lnGraft b = false →
      (s.lnState b = 1 → s.fld (F.LN_CTRL_rate.win b) = 6 → (s.lnOf b).attempts < 2 →
        ∃ t, exec c s = .next t ∧ t.lnState b = 0 ∧ t.fld (F.LN_STATE_fail.win b) = 1)
      ∧ (s.lnState b = 1 → s.fld (F.LN_CTRL_rate.win b) ≠ 6 → s.lnLanes b ≠ 0 →
        ∃ t, exec c s = .next t ∧ t.lnState b = 2 ∧ ∀ i < 8, bit (s.lnLanes b) i = true → t.laneState b i = 2)
      ∧ (2 ≤ s.lnState b → s.lnState b < 8 → lane < 8 → bit (s.lnLanes b) lane = true → 2 ≤ s.laneState b lane → s.laneState b lane < 7 →
        ∃ t, exec c s = .next t ∧ t.laneState b lane = s.laneState b lane + 1 ∧ (∀ i, i ≠ lane → t.laneState b i = s.laneState b i)
          ∧ t.lnState b = ((onesOf 8 (s.lnLanes b)).map fun i => t.laneState b i).foldl min 7
          ∧ bit (t.fld (F.LN_STATE_lane_up.win b)) lane = decide (s.laneState b lane = 6))))
  ∧ (∀ (s : State) (b n reason : Nat), b < 12 → s.flag (F.LN_CTRL_en.win b) = true → s.bundleOpen b = true → s.lnState b = n →
    (n, reason) ∈ [(1, 1), (2, 2), (4, 3), (5, 4), (6, 5)] →
    ∃ t, exec (.bringupStageTimeout b) s = .next t ∧ t.fld (F.LN_STATE_fail.win b) = reason
      ∧ t.fld (F.LN_STATE_tries.win b) = satAdd 4 (s.fld (F.LN_STATE_tries.win b)) 1 ∧ (t.lnOf b).attempts = (s.lnOf b).attempts + 1
      ∧ t.lnState b = (if (s.lnOf b).attempts < 2 then 0 else 8)
      ∧ (2 ≤ (s.lnOf b).attempts → s.flt.raised ++ [[Flt.LN_BRINGUP_FAIL.entry [b]]] <+: t.flt.raised))
  ∧ (∀ (s : State) (b lane : Nat), b < 12 → lane < 8 →
    (s.lnGraft b = false → s.laneState b lane = 7 → ∃ t, exec (.laneLockLost b lane) s = .next t ∧ t.laneState b lane = 2
      ∧ (∀ i, i ≠ lane → t.laneState b i = s.laneState b i) ∧ t.fld (F.LN_STATE_fail.win b) = 6
      ∧ t.flag (F.LN_STATUS_down_any.win b) = true ∧ t.flt.raised = s.flt.raised ++ [[Flt.LN_LOCK_LOST.entry [b]]])
    ∧ (s.lnGraft b = true → s.grState b = 5 → ∃ t, exec (.laneLockLost b lane) s = .next t ∧ t.grState b = 6 ∧ t.lnState b = 0
      ∧ t.fld F.GR_LINK_retrains b = satAdd 8 (s.fld F.GR_LINK_retrains b) 1 ∧ s.flt.raised ++ [[Flt.GR_RETRAIN.entry [b]]] <+: t.flt.raised))
  ∧ (∀ (s : State) (b lane errors : Nat) (lock : Bool), b < 12 → lane < 8 →
    (s.flag (F.LN_CTRL_test.win b) = true → bit (s.fld (F.LN_PRBS_CTRL_chk_en.win b)) lane = true →
      ∃ t, exec (.prbsCheckerLock b lane lock errors) s = .next t ∧ t.flag (F.LN_PRBS_STAT_lock.win b) lane = lock
        ∧ t.fld (F.LN_PRBS_STAT_errors.win b) lane = (if s.flag (F.LN_PRBS_STAT_lock.win b) lane
            then satAdd 31 (s.fld (F.LN_PRBS_STAT_errors.win b) lane) errors else s.fld (F.LN_PRBS_STAT_errors.win b) lane)
        ∧ t = { s with csr := t.csr })
    ∧ (s.flag (F.LN_CTRL_test.win b) = false → exec (.prbsCheckerLock b lane lock errors) s = .next s))
  ∧ (∀ (s : State) (b : Nat) (v : Word), b < 12 →
    let lanes := v.toNat % 256
    let inverts := fun (t : State) (n : Nat) => ∀ i < 8, SMap.get 0 (t.lnOf b).injected i = SMap.get 0 (s.lnOf b).injected i + (if bit lanes i then n else 0)
    let mode := fun (t : State) (m : Nat) => t.fld (F.LN_INJ_mode.win b) = m ∧ t.fld (F.LN_INJ_lanes.win b) = lanes ∧ t = { s with csr := t.csr, ln := t.ln }
    (∃ t, exec (.injectSingle b v) s = .next t ∧ mode t 1 ∧ inverts t 1 ∧ (t.lnOf b).injecting = none)
    ∧ (∃ t, exec (.injectBurst b v) s = .next t ∧ mode t 2 ∧ inverts t (max 1 (bits v.toNat 13 8)) ∧ (t.lnOf b).injecting = none)
    ∧ (∃ t, exec (.injectRate b v) s = .next t ∧ mode t 3 ∧ inverts t 0
        ∧ (t.lnOf b).injecting = some (min 40 (max 10 (bits v.toNat 21 16)), lanes))
    ∧ (∃ t, exec (.injectOff b v) s = .next t ∧ mode t 0 ∧ inverts t 0 ∧ (t.lnOf b).injecting = none))

/-- In state 2 the partner's capability word settles version, rate and channels: no common rate, channels or identity fails the link with GR_CAP_MISMATCH, no common version with GR_VERSION, a rate other than that in force brings the lanes down to come up at it, and otherwise the link measures. LATENCY_MEASURE in state 4 takes the figure of R430, computes the hop bound and makes the link active; on an active link a figure above GR_LAT retrains. An ECHO is answered with its time and this device's. On an active link a good data flit in sequence is taken and acknowledged, with the credits and acknowledgement it carries; one out of sequence, or that cannot be decoded, is discarded, the second kind counted, and a replay asked for. REPLAY_TIMEOUT sends every unacknowledged flit again, and retrains where one would be sent a third time; GRAFT_RETRAIN_CMD retrains. Grove time sends device time, takes offsets, and is lost after 16 us (R422 to R426, R428 to R431). -/
def Obligations.GraftLink : Prop :=
  (∀ (s : State) (b : Nat) (w : BitVec 64), b < 12 → s.grState b = 2 →
    let own := s.graftCapWord b
    let cap := w.toNat
    let ver := min (bits own 55 52) (bits cap 55 52)
    let rate := min (bits own 47 45) (graftRate (bits cap 47 45))
    let vcs := bits own 40 37 &&& bits cap 40 37
    let bad := bits cap 63 56 ≠ 0x47 ∨ bits cap 44 41 ≠ 8 ∨ rate = 0 ∨ bits vcs 2 1 ≠ 3
    ∃ t, exec (.graftCapability b w) s = .next t ∧ t.pair R.GR_PEER_CAP_LO R.GR_PEER_CAP_HI b = cap ∧ (t.grOf b).peer = some cap
      ∧ t.fld F.GR_LINK_peer_dev b = bits cap 36 33
      ∧ (bad → t.grState b = 7 ∧ s.flt.raised ++ [[Flt.GR_CAP_MISMATCH.entry [b]]] <+: t.flt.raised)
      ∧ (¬bad → ver < max (bits own 51 48) (bits cap 51 48) → t.grState b = 7 ∧ s.flt.raised ++ [[Flt.GR_VERSION.entry [b]]] <+: t.flt.raised)
      ∧ (¬bad → max (bits own 51 48) (bits cap 51 48) ≤ ver → t.fld F.GR_LINK_ver b = ver ∧ t.flt = s.flt
          ∧ t.fld F.GR_LINK_vcs b = (if ver < 2 ∨ bit own 16 = false ∨ bit cap 16 = false then vcs &&& 14 else vcs)
          ∧ (rate = (s.grOf b).rate → t.grState b = 4)
          ∧ (rate ≠ (s.grOf b).rate → t.grState b = 3 ∧ (t.grOf b).rate = rate ∧ t.lnState b = 0 ∧ t.fld (F.LN_CTRL_rate.win b) = rate)))
  ∧ (∀ (s : State) (b t1 t2 t3 t4 : Nat), b < 12 →
    let m := s.measured b t1 t2 t3 t4
    (s.grState b = 4 → (s.grOf b).waiting = [] → ∃ t, exec (.latencyMeasure b t1 t2 t3 t4) s = .next t ∧ t.grState b = 5
      ∧ t.fld F.GR_LAT_lat b = m % 2 ^ 20 ∧ (t.grOf b).wasActive = true
      ∧ (t.reg R.GR_HOP_BOUND b).toNat = (s.setFld F.GR_LAT_lat m b).hopBound b % 2 ^ 32
      ∧ ((s.grOf b).wasActive = false → ∀ v < 4, SMap.get 0 (t.grOf b).credits v = if bit (s.fld F.GR_LINK_vcs b) v then 256 else 0))
    ∧ (s.grState b = 5 → s.fld F.GR_LAT_lat b < m → ∃ t, exec (.latencyMeasure b t1 t2 t3 t4) s = .next t ∧ t.grState b = 6
        ∧ s.flt.raised ++ [[Flt.GR_RETRAIN.entry [b]]] <+: t.flt.raised)
    ∧ (s.grState b = 5 → m ≤ s.fld F.GR_LAT_lat b → exec (.latencyMeasure b t1 t2 t3 t4) s = .next s)
    ∧ (s.grState b = 4 ∨ s.grState b = 5 → ∃ t w, exec (.echo b t1) s = .next t ∧ t.out = .graft b w :: s.out ∧ w.length = 88
        ∧ fieldAt w 0 8 = t1 % 2 ^ 64 ∧ fieldAt w 8 8 = s.time.ns * 1000 % 2 ^ 64 ∧ fieldAt w 16 8 = s.time.ns * 1000 % 2 ^ 64
        ∧ bits (fieldAt w 72 4) 31 30 = 2))
  ∧ (∀ (s : State) (b : Nat) (mis : Bool), b < 12 → s.grState b = 5 → (s.grOf b).waiting = [] →
    (∀ (d : BitVec 512) (side : BitVec 64) (seq a v n : Nat), seq < 512 → a < 512 → v < 4 → n < 64 →
      let g := s.grOf b
      let e := Instr.graftFlitReceive b (wireFlit 1 seq a false v n d side) mis
      let k := flitVc side
      (seq = (g.ack + 1) % 512 → ∃ t w rest, exec e s = .next t ∧ (t.grOf b).ack = seq ∧ (t.grOf b).nak = false
        ∧ (t.grOf b).replay = ackReplay g.replay a ∧ SMap.get 0 (t.grOf b).credits v = SMap.get 0 g.credits v + n
        ∧ t.out = .graft b w :: rest ∧ bits (fieldAt w 72 4) 20 12 = seq
        ∧ (bits side.toNat 63 62 < 2 → rest = s.out ∧ SMap.get [] (t.grOf b).partials k = SMap.get [] g.partials k ++ [(d, side)])
        ∧ (2 ≤ bits side.toNat 63 62 → SMap.get [] (t.grOf b).partials k = []
            ∧ ∀ p, packetOf (graftNode b).1 (SMap.get [] g.partials k ++ [(d, side)]) = some p → rest = .noc p :: s.out))
      ∧ (256 ≤ (g.ack + 512 - seq) % 512 → seq ≠ (g.ack + 1) % 512 → g.ack < 512 → g.nak = false →
          ∃ t w rest, exec e s = .next t ∧ (t.grOf b).ack = g.ack ∧ (t.grOf b).nak = true ∧ (t.grOf b).partials = g.partials
            ∧ t.out = .graft b w :: rest))
    ∧ (∀ wire : List Byte, rsDecode ((slice wire 0 88).map BitVec.toNat) = none →
        ∃ t, exec (.graftFlitReceive b wire mis) s = .next t ∧ (t.grOf b).nak = true ∧ (t.grOf b).ack = (s.grOf b).ack
          ∧ t.fld F.GR_FEC_uncorr b = satAdd 16 (s.fld F.GR_FEC_uncorr b) 1
          ∧ t.fld F.GR_REPLAY_crc_fail b = satAdd 16 (s.fld F.GR_REPLAY_crc_fail b) 1))
  ∧ (∀ (s : State) (b : Nat), b < 12 → s.grState b = 5 →
    (∃ t, exec (.graftRetrainCmd b) s = .next t ∧ t.grState b = 6 ∧ t.lnState b = 0 ∧ t.flag F.GR_STATUS_retrain_any = true
      ∧ s.flt.raised ++ [[Flt.GR_RETRAIN.entry [b]]] <+: t.flt.raised)
    ∧ ((s.grOf b).replay = [] → exec (.replayTimeout b) s = .next s)
    ∧ ((s.grOf b).replay ≠ [] → (∀ f ∈ (s.grOf b).replay, f.sends < 2) → ∃ t, exec (.replayTimeout b) s = .next t
        ∧ (t.grOf b).replay = (s.grOf b).replay.map (fun f => { f with sends := f.sends + 1 }) ∧ t.grState b = 5
        ∧ t.fld F.GR_REPLAY_replays b = satAdd 16 (s.fld F.GR_REPLAY_replays b) 1 ∧ t.out.length = s.out.length + (s.grOf b).replay.length)
    ∧ (∀ f ∈ (s.grOf b).replay, 2 ≤ f.sends → ∃ t, exec (.replayTimeout b) s = .next t ∧ t.grState b = 6))
  ∧ (∀ (s : State) (b : Nat), s.groveTime b = true → s.timeRole b = 1 → ∃ t w, exec (.timeSend b) s = .next t ∧ t.out = .graft b w :: s.out
      ∧ fieldAt w 0 8 = s.time.ns % 2 ^ 64 ∧ bits (fieldAt w 72 4) 31 30 = 2)
  ∧ (∀ (s : State) (b stamp : Nat), s.timeBundle = some b →
      let ofs : Int := (stamp : Int) + (s.fld F.GR_LAT_lat b * 1000 / 16 : Nat) - (flitNum * 1000 / graftBps (s.grOf b).rate : Nat) - (s.time.ns * 1000 : Nat)
      let l := (ofs :: (s.grOf b).offsets).take 16
      (∃ t, exec (.timeReceive b stamp) s = .next t ∧ (t.grOf b).offsets = l ∧ (t.grOf b).lastTime = s.time.ns
        ∧ t.reg R.GR_TIME_OFS b = BitVec.ofInt 32 (clampInt (-(2 ^ 31)) (2 ^ 31 - 1) ofs)
        ∧ t.flag F.GR_STATUS_time_lock = (decide (l.length = 16) && l.all fun x => decide (x.natAbs ≤ 1000)))
      ∧ ((s.grOf b).lastTime + 16000 ≤ s.time.ns → ∃ t, exec .grTimeLost s = .next t ∧ t.flag F.GR_STATUS_time_lock = false
        ∧ (t.grOf b).offsets = [] ∧ t.flt.raised = s.flt.raised ++ [[Flt.GR_TIME_LOST.entry [b]]])
      ∧ (s.time.ns < (s.grOf b).lastTime + 16000 → exec .grTimeLost s = .next s))

/-- RING_ENABLE of a stopped ring applies the written fields and checks the ring: one that passes has en 1, no descriptors posted or consumed; one that fails keeps en 0 and PCI_RING_INVALID is recorded. DOORBELL takes the producer index of an enabled ring that lies at most the ring's size ahead of the consumer, stops the ring where it lies further, and is counted and ignored on a disabled ring. RING_COMPLETION fills the posted buffer with the next bytes of the oldest waiting packet and writes bytes 12 to 23 of its descriptor, with sop, eop, poison, class and phase. FROM_HOST_FETCH of a one-descriptor packet sends it as one STREAM segment with sop, eop and ack. A failed read, or a completion timeout, stops the ring with PCI_RING_FAULT. A vector held back is asked for at the end of the hold-off; an unmasked vector is sent, a masked one becomes pending and is sent once when it is unmasked (R441, R443 to R448). -/
def Obligations.HostRings : Prop :=
  (∀ (s : State) (r : Nat) (v : Word), r < 256 → s.ringStopped r = true →
    let s1 := s.setReg R.PCI_RING_CFG (v &&& 0x7FFFFF00) r
    ∃ t, exec (.ringEnable r v) s = .next t ∧ t.reg R.PCI_RING_CFG r &&& 0x7FFFFF00 = v &&& 0x7FFFFF00
      ∧ t.flag F.PCI_RING_CFG_en r = !s1.ringBad r
      ∧ t.flt.raised = s.flt.raised ++ (if s1.ringBad r then [[Flt.PCI_RING_INVALID.entry [r]]] else [])
      ∧ (s1.ringBad r = false → t.reg R.PCI_RING_IDX r = 0 ∧ (t.ring r).fetch = 0 ∧ (t.ring r).cur = [] ∧ (t.ring r).waiting = (s.ring r).waiting)
      ∧ t = { s with csr := t.csr, flt := t.flt, pci := t.pci })
  ∧ (∀ (s : State) (r i : Nat), r < 256 → i < 65536 →
    let ahead := (i + 65536 - s.fld F.PCI_RING_IDX_cons r) % 65536
    (s.flag F.PCI_RING_CFG_en r = false → exec (.doorbell r i) s = .next (s.count F.PCI_ERR_dropped_wr))
    ∧ (s.flag F.PCI_RING_CFG_en r = true → ahead ≤ s.ringSize r → ∃ t, exec (.doorbell r i) s = .next t
        ∧ t.fld F.PCI_RING_IDX_prod r = i ∧ t.fld F.PCI_RING_IDX_cons r = s.fld F.PCI_RING_IDX_cons r ∧ t = { s with csr := t.csr })
    ∧ ∀ c, c = Instr.pcieCompletionTimeout r ∨ (c = .doorbell r i ∧ s.ringSize r < ahead)
        ∨ (∃ desc data, c = .fromHostFetch r desc data true ∧ s.ringFrom r = true ∧ (s.ring r).fetch ≠ s.fld F.PCI_RING_IDX_prod r)
        ∨ (∃ a n, c = .ringCompletion r a n true ∧ s.ringFrom r = false ∧ (s.ring r).waiting ≠ [] ∧ s.fld F.PCI_RING_IDX_cons r ≠ s.fld F.PCI_RING_IDX_prod r) →
      s.flag F.PCI_RING_CFG_en r = true → ∃ t, exec c s = .next t ∧ t.flag F.PCI_RING_CFG_en r = false ∧ t.flag F.PCI_STATUS_ring_fault = true
        ∧ t.flt.raised = s.flt.raised ++ [[Flt.PCI_RING_FAULT.entry [r]]] ∧ (t.ring r).cur = [] ∧ (t.ring r).sent = 0
        ∧ (s.ringFrom r = true → (s.ring r).begun = true → t.out.length = s.out.length + 1)
        ∧ (s.ringFrom r = false → t.out = s.out ∧ (t.ring r).waiting = (if (s.ring r).sent = 0 then (s.ring r).waiting else (s.ring r).waiting.drop 1)))
  ∧ (∀ (s : State) (r addr n : Nat) (p : HostPkt) (l : List HostPkt), r < 256 → s.flag F.PCI_RING_CFG_en r = true → s.ringFrom r = false →
    (s.ring r).waiting = p :: l → s.fld F.PCI_RING_IDX_cons r ≠ s.fld F.PCI_RING_IDX_prod r → s.flag F.PCI_RING_IRQ_irq_en r = false →
    let x := s.ring r
    let part := (p.data.drop x.sent).take n
    let last := decide (p.data.length ≤ x.sent + part.length)
    let cons := s.fld F.PCI_RING_IDX_cons r
    ∃ t d, exec (.ringCompletion r addr n false) s = .next t
      ∧ t.out = .hostWrite (s.ringBase r + 32 * (cons % s.ringSize r) + 12) d :: .hostWrite addr part :: s.out ∧ d.length = 12
      ∧ fieldAt d 0 4 = p.meta32 % 2 ^ 32 ∧ fieldAt d 4 4 = p.arrival % 2 ^ 32 ∧ fieldAt d 8 2 = part.length % 65536
      ∧ bit (fieldAt d 10 1) 0 = decide (x.sent = 0) ∧ bit (fieldAt d 10 1) 1 = last ∧ bit (fieldAt d 10 1) 2 = (last && p.poison)
      ∧ bit (fieldAt d 10 1) 7 = decide (cons / s.ringSize r % 2 = 0) ∧ fieldAt d 11 1 = 0
      ∧ t.fld F.PCI_RING_IDX_cons r = (cons + 1) % 65536
      ∧ (t.ring r).waiting = (if last then l else p :: l) ∧ (t.ring r).sent = (if last then 0 else x.sent + part.length))
  ∧ (∀ (s : State) (r : Nat) (desc data : List Byte), r < 256 → s.flag F.PCI_RING_CFG_en r = true → s.ringFrom r = true →
    let x := s.ring r
    x.fetch ≠ s.fld F.PCI_RING_IDX_prod r → x.cur = [] → x.tail = [] → x.begun = false → x.early = none →
    bits (fieldAt desc 22 1) 1 0 = 3 → fieldAt desc 8 4 = data.length → data.length ≤ 16384 →
    ∃ t h g, exec (.fromHostFetch r desc data false) s = .next t ∧ t.out = .noc ⟨h, .stream g⟩ :: s.out
      ∧ h.dstNode = 56 + 2 * sliceOf (s.fld F.PCI_RING_CFG_queue r) ∧ h.srcNode = 57 ∧ h.srcPort = 0 ∧ h.vc = 1
      ∧ g.queue = s.fld F.PCI_RING_CFG_queue r ∧ g.sop = true ∧ g.eop = true ∧ g.abort = false ∧ g.ack = true ∧ g.pktLen = 0
      ∧ g.meta32 = fieldAt desc 12 4 ∧ segmentBytes g = data
      ∧ (t.ring r).fetch = (x.fetch + 1) % 65536 ∧ (t.ring r).sentPkts.length = x.sentPkts.length + 1)
  ∧ (∀ (s : State) (r : Nat), (s.ring r).irqHeld = true → ∃ t, exec (.ringHoldoffExpire r) s = .next t
      ∧ (t.ring r).irqHeld = false ∧ (t.ring r).lastIrq = some s.time.ns
      ∧ (s.pci.unmasked.has (s.fld F.PCI_RING_CFG_func r * 2048 + s.fld F.PCI_RING_IRQ_vec r) = true →
          t.out = .msix (s.fld F.PCI_RING_CFG_func r) (s.fld F.PCI_RING_IRQ_vec r) :: s.out)
      ∧ (s.pci.unmasked.has (s.fld F.PCI_RING_CFG_func r * 2048 + s.fld F.PCI_RING_IRQ_vec r) = false →
          t.out = s.out ∧ t.pci.pend.has (s.fld F.PCI_RING_CFG_func r * 2048 + s.fld F.PCI_RING_IRQ_vec r) = true))
  ∧ (∀ (s : State) (fn vec : Nat), vec < 2048 → ∃ t, exec (.msixUnmask fn vec) s = .next t ∧ t.pci.unmasked.has (fn * 2048 + vec) = true
      ∧ t.pci.pend.has (fn * 2048 + vec) = false ∧ t = { s with out := t.out, pci := t.pci }
      ∧ t.out = (if s.pci.pend.has (fn * 2048 + vec) then .msix fn vec :: s.out else s.out))

/-- A read of an aligned register through BAR0 of the physical function returns the register; a read of BAR2 the mailbox; a read of the BAR4 window within one 4,096-byte block is sent as one READ of the device address base x 2^36 + offset and completes with its response. BAR0 and BAR4 of another function answer Unsupported Request, and so does BAR4 in the safe state. A write to BAR0 writes the register, unless the device is in its safe state, where it is dropped and counted; a doorbell of BAR2 rings its ring, of a virtual function its own rings only; a BAR4 write is sent as a posted write. A function-level reset stops the rings of its functions without a fault and masks their vectors. PERST leaves the PCI block at its reset values, and LTR_SEND sends a message when the field changes (R437 to R439, R441, R442, R448, R484). -/
def Obligations.HostAccess : Prop :=
  (∀ (s : State) (off tag : Nat), s.stu.hold = false → s.stu.ended = false → off % 4 = 0 →
      exec (.hostRead 0 0 off 4 tag) s = .next ((s.csrRead off).2.emit (.hostRead tag 0 (leBytes 4 (s.csrRead off).1))))
  ∧ (∀ (s : State) (fn off n tag : Nat), s.stu.hold = false → fn ≠ 0 → ∀ bar, bar = 0 ∨ bar = 4 →
      exec (.hostRead fn bar off n tag) s = .next ((s.count F.PCI_ERR_ur_reads).emit (.hostRead tag 1 [])))
  ∧ (∀ (s : State) (off n tag : Nat), s.stu.hold = false → s.stu.ended = false → off + n ≤ 0x9000 →
      exec (.hostRead 0 2 off n tag) s = .next (s.emit (.hostRead tag 0 ((List.range n).map fun i => SMap.get 0 s.mgt.bar2 (off + i)))))
  ∧ (∀ (s : State) (off n tag x : Nat), s.stu.hold = false → s.windowServed = true → 1 ≤ n → off < 2 ^ 36 → off % 4096 + n ≤ 4096 →
      s.hostTag n = some x →
      ∃ t h, exec (.hostRead 0 4 off n tag) s = .next t ∧ t.out = .noc ⟨h, .read (s.fld F.PCI_WIN_BASE_base * 2 ^ 36 + off) n⟩ :: s.out
        ∧ h.srcNode = 57 ∧ h.srcPort = 0 ∧ h.tag = x ∧ h.vc = 1
        ∧ t.pci.reads = s.pci.reads ++ [{ hostTag := tag, tags := [x], got := [], status := 0 }]
        ∧ SMap.get none t.noc.reqs (reqKey 57 0 x) ≠ none)
  ∧ (∀ (s : State) (off n tag : Nat), s.stu.hold = false → s.flag F.DEV_STATUS_safe_state = true →
      exec (.hostRead 0 4 off n tag) s = .next ((s.count F.PCI_ERR_ur_reads).emit (.hostRead tag 1 [])))
  ∧ (∀ (s : State) (off : Nat) (data : List Byte), s.stu.hold = false → s.stu.ended = false → off % 4 = 0 → data.length = 4 →
      (s.flag F.DEV_STATUS_safe_state = false → exec (.hostWrite 0 0 off data false) s = .next (s.csrWrite off (fieldAt data 0 4)))
      ∧ (s.flag F.DEV_STATUS_safe_state = true → exec (.hostWrite 0 0 off data false) s = .next (s.count F.PCI_ERR_dropped_wr)))
  ∧ (∀ (s : State) (r : Nat) (data : List Byte), s.stu.hold = false → s.stu.ended = false → r < 256 →
      exec (.hostWrite 0 2 (0x10000 + 8 * r) data false) s = exec (.doorbell r (fieldAt data 0 4)) s
      ∧ (∀ fn j, fn ≠ 0 → j < 8192 → ((List.range 256).filter fun x => decide (s.fld F.PCI_RING_CFG_func x = fn))[j]? = some r →
          exec (.hostWrite fn 2 (8 * j) data false) s = exec (.doorbell r (fieldAt data 0 4)) s))
  ∧ (∀ (s : State) (off : Nat) (data : List Byte), s.stu.hold = false → s.windowServed = true → off < 2 ^ 36 → 1 ≤ data.length →
      off % 4096 + data.length ≤ 4096 →
      ∃ t h, exec (.hostWrite 0 4 off data false) s = .next t ∧ t = { s with out := t.out }
        ∧ t.out = .noc ⟨h, .write (s.fld F.PCI_WIN_BASE_base * 2 ^ 36 + off) data true⟩ :: s.out ∧ h.srcNode = 57 ∧ h.srcPort = 0 ∧ h.vc = 1)
  ∧ (∀ (s : State) (fns : List Nat), fns.contains 0 = false → ∃ t, exec (.pcieFunctionReset fns false) s = .next t ∧ t.flt = s.flt
      ∧ (∀ r < 256, t.flag F.PCI_RING_CFG_en r = (s.flag F.PCI_RING_CFG_en r && !fns.contains (s.fld F.PCI_RING_CFG_func r)))
      ∧ ∀ k, fns.contains (k / 2048) = true → t.pci.unmasked.has k = false ∧ t.pci.pend.has k = false)
  ∧ (∀ s : State, ∃ t, exec .pciePerst s = .next t ∧ t.pci = {} ∧ (∀ off, off < 2 ^ 28 → blockOf off = 20 → t.reg off = regReset off 0)
      ∧ t.flag F.MB_STATUS_negotiated = false ∧ t.fld F.MB_VERSION_major = 0)
  ∧ (∀ (s : State) (gen width : Nat), gen < 8 → width < 8 → ∃ t, exec (.pcieLinkUp gen width) s = .next t ∧ t.flag F.PCI_STATUS_up = true
      ∧ t.flag F.PCI_STATUS_l1 = false ∧ t.fld F.PCI_STATUS_gen = gen ∧ t.fld F.PCI_STATUS_width = width)
  ∧ (∀ (s : State) (v : Nat), v < 65536 → (s.fld F.PCI_LTR_send_us = v → exec (.ltrSend v) s = .next s)
      ∧ (s.fld F.PCI_LTR_send_us ≠ v → ∃ t, exec (.ltrSend v) s = .next t ∧ t.fld F.PCI_LTR_send_us = v ∧ t.out = .ltr v :: s.out
          ∧ t = { s with csr := t.csr, out := t.out }))

/-- With no committed contract a step of device time, or a time written through ETH_TIME_LO and HI, takes effect at once; with one it is slewed and counted, and each slew step takes up 1 ns. A read of ETH_TIME_LO answers it and latches HI. A PPS edge takes the offset of the edge out, by a step above 1 us and by slewing below, and time_lock is 1 after four offsets within 10 ns; with no edge for 1.1 s lock is lost. MAC_ENABLE of a disabled MAC applies the fields and checks it: enabled, or ETH_CFG_INVALID. A link going down is recorded. While ETH_PFC.en is 1 a pause received or expired sets or clears its priority's bit. A read of ETH_TXTS_TAG pops the oldest transmit timestamp (R431, R449, R450, R452 to R455). -/
def Obligations.TimeAndMacs : Prop :=
  (∀ (s : State) (v : Word),
    let d := signed 32 v.toNat
    let set : Int := (v.toNat * 2 ^ 32 + s.time.heldLo : Nat) - (s.time.ns : Int)
    (∃ t, exec (.ethTimeLoWrite v) s = .next t ∧ t = { s with time := { s.time with heldLo := v.toNat } })
    ∧ (∃ t, exec .ethTimeLoRead s = .next t ∧ t.out = .answer 0 0 (leBytes 4 s.time.ns) :: s.out
        ∧ t = { s with out := t.out, time := { s.time with latchedHi := s.time.ns / 2 ^ 32 % 2 ^ 32 } })
    ∧ (s.committed = [] → s.time.ns < 2 ^ 64 →
        (∃ t, exec (.ethTimeStep v) s = .next t ∧ t = { s with time := { s.time with ns := ((s.time.ns : Int) + d).toNat % 2 ^ 64 } })
        ∧ (s.time.heldLo < 2 ^ 32 → ∃ t, exec (.ethTimeHiWrite v) s = .next t
            ∧ t = { s with time := { s.time with ns := v.toNat * 2 ^ 32 + s.time.heldLo } }))
    ∧ (s.committed ≠ [] → ∀ c e, (c, e) = (Instr.ethTimeStep v, d) ∨ (c, e) = (.ethTimeHiWrite v, set) →
        ∃ t, exec c s = .next t ∧ t.time = { s.time with slew := s.time.slew + e }
          ∧ t.fld F.ETH_TIME_CTRL_slewed = (s.fld F.ETH_TIME_CTRL_slewed + 1) % 64 ∧ t = { s with csr := t.csr, time := t.time })
    ∧ (s.time.slew = 0 → exec .timeSlewStep s = .next s)
    ∧ (0 < s.time.slew → ∃ t, exec .timeSlewStep s = .next t
        ∧ t = { s with time := { s.time with ns := (s.time.ns + 1) % 2 ^ 64, slew := s.time.slew - 1 } })
    ∧ (s.time.slew < 0 → 0 < s.time.ns → s.time.ns < 2 ^ 64 → ∃ t, exec .timeSlewStep s = .next t
        ∧ t = { s with time := { s.time with ns := s.time.ns - 1, slew := s.time.slew + 1 } }))
  ∧ (∀ s : State, s.fld F.ETH_TIME_CTRL_src = 2 →
    let o := ppsOffset s.time.ns
    let l := (o :: s.eth.ppsOffsets).take 4
    (∃ t, exec .timePpsEdge s = .next t ∧ t.eth.ppsOffsets = l
      ∧ t.flag F.ETH_STATUS_time_lock = (decide (l.length = 4) && l.all fun x => decide (x.natAbs ≤ 10))
      ∧ (o.natAbs ≤ 1000 → t.time = { s.time with slew := -o })
      ∧ (1000 < o.natAbs → s.committed = [] → t.time = { s.time with ns := ((s.time.ns : Int) - o).toNat % 2 ^ 64 })
      ∧ (1000 < o.natAbs → s.committed ≠ [] → t.time = { s.time with slew := s.time.slew - o }))
    ∧ (s.eth.ppsLast + 1100000000 ≤ s.time.ns → ∃ t, exec .ppsLost s = .next t ∧ t.flag F.ETH_STATUS_time_lock = false
        ∧ t.time.slew = 0 ∧ t.time.ns = s.time.ns ∧ t.flt.raised = s.flt.raised ++ [[Flt.ETH_PPS_LOST.entry []]]))
  ∧ (∀ (s : State) (mac : Nat) (v : Word), mac < 96 → s.flag F.ETH_MAC_CFG_en mac = false →
    let s1 := s.setReg R.ETH_MAC_CFG (v &&& 0x7FFF0007) mac
    ∃ t, exec (.macEnable mac v) s = .next t ∧ t.reg R.ETH_MAC_CFG mac &&& 0x7FFF0007 = v &&& 0x7FFF0007
      ∧ t.flag F.ETH_MAC_CFG_en mac = !s1.macBad mac ∧ t = { s with csr := t.csr, flt := t.flt }
      ∧ t.flt.raised = s.flt.raised ++ (if s1.macBad mac then [[Flt.ETH_CFG_INVALID.entry [mac]]] else []))
  ∧ (∀ (s : State) (mac : Nat), mac < 96 →
    (s.flag F.ETH_MAC_CFG_en mac = true → ∃ t, exec (.macLinkUp mac) s = .next t ∧ t.flag F.ETH_MAC_STAT_link_up mac = true)
    ∧ (s.flag F.ETH_MAC_STAT_link_up mac = true → ∃ t, exec (.macLinkDown mac) s = .next t ∧ t.flag F.ETH_MAC_STAT_link_up mac = false
        ∧ t.flag F.ETH_STATUS_link_down_any = true ∧ s.flt.raised ++ [[Flt.ETH_LINK_DOWN.entry []]] <+: t.flt.raised)
    ∧ (s.flag F.ETH_MAC_STAT_link_up mac = false → exec (.macLinkDown mac) s = .next s)
    ∧ ∀ pri < 8, (s.flag F.ETH_PFC_en mac = false → ∀ b, exec (.pfcPauseReceive mac pri b) s = .next s)
      ∧ (s.flag F.ETH_PFC_en mac = true → ∀ c b, (c, b) = (Instr.pfcPauseExpire mac pri, false) ∨ c = .pfcPauseReceive mac pri b →
          ∃ t, exec c s = .next t ∧ ∀ j < 8, bit (t.fld F.ETH_MAC_STAT_rx_paused mac) j = if j = pri then b else bit (s.fld F.ETH_MAC_STAT_rx_paused mac) j))
  ∧ (∀ (s : State), (s.eth.stamps = [] → exec .ethTxtsTagRead s = .next (s.answer 0 0 (leBytes 4 0)))
    ∧ ∀ x l, s.eth.stamps = x :: l → x.mac < 128 → x.tag < 65536 → x.time < 2 ^ 64 → ∃ t, exec .ethTxtsTagRead s = .next t ∧ t.eth.stamps = l
        ∧ t.out = .answer 0 0 (leBytes 4 (2 ^ 31 + x.mac * 2 ^ 16 + x.tag)) :: s.out ∧ t.pair R.ETH_TXTS_LO R.ETH_TXTS_HI = x.time)

/-- With no load in progress the bytes change nothing. A header with a wrong field ends the load with IMG_HEADER, IMG_VERSION or IMG_PART; a good one is kept. A record whose CRC fails ends the load with IMG_RECORD_CRC. A frame record ends it with IMG_ADDRESS or IMG_TOKEN, and otherwise writes its frames at its addresses: planes, program words, data words or bank rows. A TABLE record is checked and kept, a CSR record writes registers in order, SIGNATURES are kept, a REGION marks its planes not loaded, and a CHAIN is buffered, once training is over (R461 to R472, R478 to R480, R496, R502). -/
def Obligations.ImageRecords : Prop :=
  (∀ (s : State) (b auth : List Byte), s.stu.load.active = false →
      exec (.imageHeader b) s = .next s ∧ exec (.endRecord b auth) s = .next s
      ∧ (∀ c ∈ [Instr.frameRecord, .rangeRecord, .repeatRecord, .fillRecord, .engineProgRecord, .engineDataRecord, .meminitRecord, .tableRecord,
          .csrRecord, .signaturesRecord, .regionRecord, .chainRecord], exec (c b) s = .next s)
      ∧ exec (.imageStreamWrite b) s = .next (s.count F.CFG_STREAM_DROP_bytes b.length))
  ∧ (∀ (s : State) (b : List Byte), s.stu.load.active = true → s.stu.load.src = 0 → b.length % 4 = 0 →
      ∃ t, exec (.imageStreamWrite b) s = .next t ∧ t.stu.stream = s.stu.stream ++ b ∧ t.flag F.CFG_LOAD_STAT_busy = true
        ∧ t = { s with stu := { s.stu with stream := t.stu.stream, load := { s.stu.load with first := t.stu.load.first } }, csr := t.csr })
  ∧ (∀ (s : State) (b : List Byte), s.stu.load.active = true → s.stu.load.image = [] → b.length = 64 → s.stu.load.src = 2 → s.stu.load.avail = none →
      let first := if s.stu.load.first.isNone then some s.time.ns else s.stu.load.first
      let u := ({ s with stu := { s.stu with load := { s.stu.load with image := b, first := first } } }).setFlag F.CFG_LOAD_STAT_busy true
      let form := fieldAt b 0 4 = 0x4D495A43 ∧ fieldAt b 6 2 = 64 ∧ fieldAt b 60 4 = crc32c (b.take 60) ∧ fieldAt b 12 4 < 4 ∧ fieldAt b 30 2 = 0
        ∧ fieldAt b 44 16 = 0 ∧ fieldAt b 20 4 % 4 = 0
      let version := fieldAt b 5 1 * 256 + fieldAt b 4 1
      (¬form → exec (.imageHeader b) s = .next ((u.loadFail Flt.IMG_HEADER).srcSince s 2))
      ∧ (form → ¬(0x200 ≤ version ∧ version ≤ 0x302) → exec (.imageHeader b) s = .next ((u.loadFail Flt.IMG_VERSION).srcSince s 2))
      ∧ (form → 0x200 ≤ version → version ≤ 0x302 → fieldAt b 8 4 ≠ 0x9608 →
        exec (.imageHeader b) s = .next ((u.loadFail Flt.IMG_PART).srcSince s 2))
      ∧ (form → 0x200 ≤ version → version ≤ 0x302 → fieldAt b 8 4 = 0x9608 → bit (fieldAt b 12 4) 0 = false →
        bit (fieldAt b 12 4) 1 = s.stu.load.running → exec (.imageHeader b) s = .next u))
  ∧ (∀ (s : State) (kind flags : Nat) (body b : List Byte) (c : List Byte → Instr), s.readsRecord kind flags body →
      (kind, c) ∈ [(1, Instr.frameRecord), (2, .rangeRecord), (3, .repeatRecord), (4, .fillRecord), (5, .engineProgRecord), (6, .engineDataRecord),
        (7, .meminitRecord)] →
      let r := s.recordAt kind flags body
      let good := recordBytes kind flags body
      let u := s.afterRecord good
      (b.length = good.length → b.take (b.length - 4) = good.take (good.length - 4) → b ≠ good →
        exec (c b) s = .next (((s.afterRecord b).loadFail Flt.IMG_RECORD_CRC).srcSince s 2))
      ∧ (r.runs = none → exec (c good) s = .next ((u.loadFail Flt.IMG_ADDRESS).srcSince s 2))
      ∧ (∀ runs, r.runs = some runs → s.stu.load.running = false →
        (r.content = none → exec (c good) s = .next ((u.loadFail Flt.IMG_TOKEN).srcSince s 2))
        ∧ (∀ fs, r.content = some fs → exec (c good) s = .next (u.putRecord runs fs)))
      ∧ (∀ runs a, r.runs = some runs → s.stu.load.running = true → runs.find? (fun a => !s.inRegion a) = some a →
        exec (c good) s = .next ((u.loadFail Flt.IMG_REGION (loc32 r.off ++ loc32 a.raw)).srcSince s 2)))
  ∧ (∀ (s : State) (sector plane f : Nat) (v : RowBits),
      SMap.get 0 ((s.putFrame 0 sector plane f v).plane sector plane) f = v
      ∧ (∀ g, g ≠ f → SMap.get 0 ((s.putFrame 0 sector plane f v).plane sector plane) g = SMap.get 0 (s.plane sector plane) g)
      ∧ (∀ k < 64, SMap.get 0 ((s.putFrame 1 sector plane f v).engine (sector * 128 + f / 16)).pmem (64 * (f % 16) + k)
        = pmemCode (v.toNat / 2 ^ (32 * k)))
      ∧ (∀ k < 64, SMap.get 0 ((s.putFrame 2 sector plane f v).engine (sector * 128 + f / 64)).dmem (64 * (f % 64) + k)
        = dmemCode (v.toNat / 2 ^ (32 * k)))
      ∧ s.putFrame 3 sector plane f v = s.writeRow (sector * 256 + f / 512) (f % 512) v)
  ∧ (∀ (s : State) (kind flags : Nat) (body : List Byte), s.readsRecord kind flags body →
      let r := s.recordAt kind flags body
      let b := recordBytes kind flags body
      let u := s.afterRecord b
      (kind = 8 → s.stu.load.running = false → kindInVersion s.imgVersion r.table.kind = true →
        (tableOk r.table.kind r.table.scope r.table.data = false →
          exec (.tableRecord b) s = .next ((u.loadFail Flt.IMG_TABLE [r.table.kind, r.table.scope]).srcSince s 2))
        ∧ (tableOk r.table.kind r.table.scope r.table.data = true → r.table.kind ≠ 3 →
          exec (.tableRecord b) s = .next { u with stu := { u.stu with load := { u.stu.load with kept := s.stu.load.kept ++ [(r.off, BitVec.ofNat 8 kind :: BitVec.ofNat 8 flags :: body)] } } }))
      ∧ (kind = 9 → s.stu.load.running = false →
        ((∃ e, e ∈ r.pairs ∧ (e.1 % 4 ≠ 0 ∨ 0x10000000 ≤ e.1)) → exec (.csrRecord b) s = .next ((u.loadFail Flt.IMG_RECORD).srcSince s 2))
        ∧ ((∀ e ∈ r.pairs, e.1 % 4 = 0 ∧ e.1 < 0x10000000) → exec (.csrRecord b) s = .next ((u.csrWrites r.pairs).srcSince s 2)))
      ∧ (kind = 10 → s.stu.load.running = false → ∀ a l, r.runs = some (a :: l) →
        ∃ t, exec (.signaturesRecord b) s = .next t
          ∧ (∀ i < r.count, SMap.get 0 t.stu.load.supplied ((a.sector * 8 + a.plane) * 6144 + a.frame + i) = r.word (2 + i) + 1)
          ∧ t = { u with stu := { u.stu with load := { u.stu.load with supplied := t.stu.load.supplied } } })
      ∧ (kind = 11 → s.stu.load.running = true → s.stu.load.held + r.size ≤ 0x400000 →
        let es := (List.range (r.word 0)).map fun i => r.word (1 + i)
        (∀ e ∈ es, e < 2 ^ 16 ∧ bit e 7 = false ∧ bits e 6 0 < 96 ∧ (s.livePlane (bits e 6 0) < 8 → bit (bits e 15 8) (s.livePlane (bits e 6 0)) = false)) →
        (es.map fun e => bits e 6 0).Nodup →
        ∃ t, exec (.regionRecord b) s = .next t ∧ t.stu.load.region = some (es.map fun e => (bits e 6 0, bits e 15 8))
          ∧ t.stu.load.held = s.stu.load.held + r.size ∧ t.stu.load.kept = s.stu.load.kept
          ∧ (∀ e ∈ es, ∀ p < 8, bit (bits e 15 8) p = true → t.planeLoaded (bits e 6 0) p = false)
          ∧ t = { u with stu := t.stu, csr := t.csr })
      ∧ (kind = 12 → s.stu.load.running = false → (s.training = true → exec (.chainRecord b) s = .next s)
        ∧ (s.training = false → ∃ t, exec (.chainRecord b) s = .next t ∧ t.stu.chain = { body := body }
          ∧ t.stu.load = u.stu.load ∧ t.flt = s.flt)))

/-- The END record of an image whose authentication block fails ends the load with IMG_AUTH; one whose golden signatures fail, with IMG_ADDRESS or IMG_SIGNATURE. A full image that passes becomes the configuration: stage 4, its sequence, the slot that authenticated it in use, IMG_LOADED with map_gen. A partial load that fails leaves its declared planes not loaded and shows the code in CFG_LOAD_STAT. A load failure of the start-up is kept in CFG_BOOT_FAULT, then the image is tried again, then the golden image, then the safe state (R472 to R476, R480, R483, R499 to R501; 24 R615). -/
def Obligations.ImageAcceptance : Prop :=
  (∀ (s : State) (auth : List Byte), s.readsRecord 13 0 [] → auth.length = 224 →
      let b := recordBytes 13 0 []
      let v := s.afterRecord b
      let u := { v with stu := { v.stu with load := { v.stu.load with image := v.stu.load.image ++ auth } } }
      (u.authOk auth = false → exec (.endRecord b auth) s = .next ((u.loadFail Flt.IMG_AUTH).srcSince s 2))
      ∧ (u.authOk auth = true → ∀ f, u.goldenFault = some f → exec (.endRecord b auth) s = .next ((u.loadFail f).srcSince s 2))
      ∧ (u.authOk auth = true → u.goldenFault = none → s.stu.load.running = false → s.stu.load.kept = [] → s.stu.load.planes = [] →
        ∃ t, exec (.endRecord b auth) s = .next t ∧ t.fld F.CFG_STATUS_stage = 4 ∧ t.flag F.CFG_LOAD_STAT_busy = false
          ∧ t.stu.load = {} ∧ t.stu.stream = [] ∧ t.stu.seq = [(1, 0), (2, 0), (3, 0), (4, 0), (5, 0)] ∧ t.stu.programs = s.stu.load.programs
          ∧ (∀ n < 4, t.flag (F.SEC_SLOT_in_use.nth n) = decide (n = fieldAt auth 4 1))
          ∧ t.flt.raised = s.flt.raised ++ [[Flt.IMG_LOADED.entry (0 :: loc32 s.imgMapGen) 2]]))
  ∧ (∀ (s : State) (auth : List Byte), s.authOk auth = true → fieldAt auth 0 4 = 0x55415A43 ∧ fieldAt auth 4 1 < 4
      ∧ NSet.has s.secu.slotProg (fieldAt auth 4 1) = true ∧ NSet.has s.secu.slotRev (fieldAt auth 4 1) = false
      ∧ Config.sha384 (slice auth 8 97) % 2 ^ 384 = SMap.get 0 s.secu.slotHash (fieldAt auth 4 1))
  ∧ (∀ (s : State) (f : FaultCode) (loc : List Nat), f.code < 65536 → s.stu.load.running = true → s.stu.stream = [] →
      let t := s.loadFail f loc
      t.stu.load = {} ∧ t.flag F.CFG_LOAD_STAT_busy = false ∧ t.flag F.CFG_LOAD_STAT_ok = false ∧ t.fld F.CFG_LOAD_STAT_fault = f.code
        ∧ (∀ e ∈ s.stu.load.region.getD [], ∀ p < 8, e.1 < 96 → bit e.2 p = true → t.planeLoaded e.1 p = false)
        ∧ t.flt.raised = s.flt.raised ++ [[f.entry loc]] ∧ t = { s with stu := { s.stu with load := {} }, csr := t.csr, flt := t.flt })
  ∧ (∀ (s : State) (f : FaultCode) (loc : List Nat), f.code < 65536 → s.stu.load.running = false →
      let t := s.loadFail f loc
      (s.fld F.CFG_STATUS_attempt = 0 → t.fld F.CFG_BOOT_FAULT_first = f.code ∧ t.fld F.CFG_STATUS_attempt = 1 ∧ t.fld F.CFG_STATUS_stage = 3
        ∧ t.stu.load.active = true ∧ t.stu.load.image = [] ∧ t.flt.raised = s.flt.raised ++ [[f.entry loc], [Flt.STU_RETRY.entry]])
      ∧ (s.fld F.CFG_STATUS_attempt = 1 → t.fld F.CFG_BOOT_FAULT_retry = f.code
        ∧ (s.stGoldenSrc ≠ 0xFF → t.fld F.CFG_STATUS_attempt = 2 ∧ t.fld F.CFG_STATUS_stage = 3 ∧ t.stu.load.active = true
          ∧ t.flt.raised = s.flt.raised ++ [[f.entry loc], [Flt.STU_GOLDEN.entry]])
        ∧ (s.stGoldenSrc = 0xFF → t.fld F.CFG_STATUS_stage = 7 ∧ t.flag F.DEV_STATUS_safe_state = true))
      ∧ (s.fld F.CFG_STATUS_attempt = 2 → t.fld F.CFG_GOLDEN_FAULT_golden = f.code ∧ t.fld F.CFG_STATUS_stage = 7
        ∧ t.flag F.DEV_STATUS_safe_state = true ∧ t.flag F.DEV_STATUS_done = false ∧ t.flag F.CFG_STATUS_done_pin = false
        ∧ t.stu.load.active = false ∧ t.flt.raised = s.flt.raised ++ [[f.entry loc], [Flt.STU_SAFE_STATE.entry]])
      ∧ (∀ k p, k < 96 → p < 8 → t.planeLoaded k p = false) ∧ t.eng = [] ∧ t.fab.live = [] ∧ t.mem.words = [] ∧ t.vx.map = s.vx.map)

/-- A start-up holds the device in reset with DONE low; at power-on defect-map writes in progress are lost, otherwise they complete. POR release gives every block its reset values, keeps fuses, flash and the defect map, and samples MODE; a reserved MODE is the safe state. A bad factory record is the safe state, the settings copy with the greater sequence number is in force, END stops after stage 1, test mode after stage 2, which clears the memory layer. The sequence waits for lock, releases the clocks, enables writes, releases the pins and raises DONE with the boot time. The time limits end the attempt. A chain is forwarded from its sync while CFG_FRDY is high, zeroed after its last byte, sent again at most once, and given up after 100 ms. A partial load is refused before DONE and while a load is busy (R484 to R493, R496 to R504; 24 R594, R604). -/
def Obligations.StartupCommands : Prop :=
  (∀ s : State, (∃ t, exec .powerOn s = .next t ∧ t.stu.hold = true ∧ t.stu.released = false ∧ t.flag F.DEV_STATUS_done = false
        ∧ t.flag F.CFG_STATUS_done_pin = false ∧ t.vx.map = s.vx.map ∧ t.vx.mapWrites = [] ∧ t.mem.remapWrites = [])
      ∧ (∃ t, exec .resetNLow s = .next t ∧ t.stu.hold = true ∧ t.stu.released = false ∧ t.flag F.DEV_STATUS_done = false
        ∧ t.flag F.CFG_STATUS_done_pin = false ∧ t.vx.map = s.vx.map ++ s.vx.mapWrites.take (8192 - s.vx.map.length) ∧ t.vx.mapWrites = []
        ∧ t.mem.remapFlash = s.mem.remapFlash ++ s.mem.remapWrites))
  ∧ (∀ (s : State) (mode : Nat) (slew hot : Bool),
      (s.stu.hold = false ∨ s.th.shutdown = true ∧ hot = true → exec (.porRelease mode slew hot) s = .next s)
      ∧ (s.stu.hold = true → (s.th.shutdown = false ∨ hot = false) → ∃ t, exec (.porRelease mode slew hot) s = .next t ∧ t.stu.hold = false
        ∧ t.fld F.CFG_STATUS_mode = mode % 8 ∧ t.stu.slew = slew ∧ t.eng = [] ∧ t.fab.live = [] ∧ t.mem.words = [] ∧ t.ctx.planes = []
        ∧ t.vx.map = s.vx.map ∧ t.reg R.VX_MAP_GEN = s.reg R.VX_MAP_GEN ∧ t.secu.lc = s.secu.lc ∧ t.secu.secrets = s.secu.secrets
        ∧ t.stu.setA = s.stu.setA ∧ t.stu.setB = s.stu.setB ∧ t.stu.factory = s.stu.factory ∧ t.mee.epoch = s.mee.epoch
        ∧ (mode % 8 ≠ 5 → mode % 8 ≠ 6 → t.fld F.CFG_STATUS_stage = 0 ∧ t.flt.raised = [])
        ∧ (mode % 8 = 5 ∨ mode % 8 = 6 → t.fld F.CFG_STATUS_stage = 7 ∧ t.flag F.DEV_STATUS_safe_state = true
          ∧ t.flt.raised = [[Flt.STU_MODE_INVALID.entry], [Flt.STU_SAFE_STATE.entry]])))
  ∧ (∀ (s : State) (w : List (Nat × Nat × Nat)) (m : List (Nat × Nat)),
      (s.stu.hold = true ∨ s.stu.ended = true → exec (.startupStageDone w m) s = .next s)
      ∧ (s.stu.hold = false → s.stu.ended = false →
        (s.fld F.CFG_STATUS_stage = 0 → exec (.startupStageDone w m) s = .next (s.setFld F.CFG_STATUS_stage 1))
        ∧ (s.fld F.CFG_STATUS_stage = 1 → s.factoryOk = false → ∃ t, exec (.startupStageDone w m) s = .next t ∧ t.fld F.CFG_STATUS_stage = 7
          ∧ t.flt.raised = s.flt.raised ++ [[Flt.STU_FACTORY_BAD.entry], [Flt.STU_SAFE_STATE.entry]])
        ∧ (s.fld F.CFG_STATUS_stage = 1 → s.factoryOk = true → ∃ t, exec (.startupStageDone w m) s = .next t
          ∧ t.fld F.CFG_STATUS_stage = (if s.secu.lc = 4 then 1 else 2) ∧ t.stu.ended = decide (s.secu.lc = 4)
          ∧ t.stu.settings = (if settingsValid s.stu.setA = true ∧ (settingsValid s.stu.setB = false ∨ settingsSeq s.stu.setB ≤ settingsSeq s.stu.setA)
            then s.stu.setA else if settingsValid s.stu.setB = true then s.stu.setB else none)
          ∧ (settingsValid s.stu.setA = false → settingsValid s.stu.setB = false → t.flag F.CFG_STATUS_settings_dflt = true
            ∧ s.flt.raised ++ [[Flt.STU_SETTINGS_INVALID.entry]] <+: t.flt.raised))
        ∧ (s.fld F.CFG_STATUS_stage = 2 → ∃ t, exec (.startupStageDone w m) s = .next t
          ∧ t.fld F.CFG_STATUS_stage = (if s.fld F.CFG_STATUS_mode = 7 then 8 else 3) ∧ t.mem.words = [] ∧ t.mem.secure = []
          ∧ t.mee.epoch = s.mee.epoch + 1)
        ∧ (s.fld F.CFG_STATUS_stage = 4 → s.stu.fills ≠ [] → s.training = true → exec (.startupStageDone w m) s = .next s)
        ∧ (s.fld F.CFG_STATUS_stage = 4 → s.stu.fills = [] → exec (.startupStageDone w m) s = .next (s.setFld F.CFG_STATUS_stage 5))))
  ∧ (∀ (s : State) (dram : Bool),
      (s.fld F.CFG_STATUS_stage ≠ 5 ∨ s.stu.seq = [] → exec (.seqStep dram) s = .next s)
      ∧ (∀ op d l, s.fld F.CFG_STATUS_stage = 5 → s.stu.seq = (op, d) :: l →
        (op = 1 → s.allLocked dram = false → exec (.seqStep dram) s = .next s)
        ∧ (op = 1 → s.allLocked dram = true → exec (.seqStep dram) s = .next { s with stu := { s.stu with seq := l } })
        ∧ (op = 2 → ∃ t, exec (.seqStep dram) s = .next t ∧ t.stu.seq = l ∧ t.stu.released = true ∧ t.sems = [])
        ∧ (op = 3 → ∃ t, exec (.seqStep dram) s = .next t ∧ t.stu.seq = l ∧ t.stu.writesEnabled = true
          ∧ (∀ e, NSet.has s.stu.programs e = true → (t.engine e).halted = false ∧ (t.engine e).reg 54 = 0)
          ∧ ∀ e, NSet.has s.stu.programs e = false → e ∉ NSet.members s.stu.programs → t.engine e = s.engine e)
        ∧ (op = 4 → ∃ t, exec (.seqStep dram) s = .next t ∧ t.stu.seq = l ∧ t.stu.ioReleased = true)
        ∧ (op = 5 → ∃ t, exec (.seqStep dram) s = .next t ∧ t.stu.seq = l ∧ t.flag F.DEV_STATUS_done = true ∧ t.flag F.CFG_STATUS_done_pin = true
          ∧ t.fld F.CFG_STATUS_stage = 6 ∧ t.fld F.CFG_BOOT_TIME_us = s.time.ns / 1000 % 2 ^ 32)))
  ∧ (∀ s : State,
      (∀ d l, s.stu.seq = (1, d) :: l → s.fld F.CFG_STATUS_stage = 5 →
        exec .lockTimeout s = .next ((s.raise Flt.STU_LOCK_TIMEOUT).attemptFail Flt.STU_LOCK_TIMEOUT.code))
      ∧ (s.fld F.CFG_STATUS_stage ≠ 5 ∨ s.stu.seq = [] → exec .lockTimeout s = .next s)
      ∧ (s.stu.load.active = false ∨ s.stu.load.running = true → exec .loadTimeout s = .next s)
      ∧ (s.stu.load.active = true → s.stu.load.running = false → s.stu.load.first.isSome = true →
        exec .loadTimeout s = .next ((s.loadFail Flt.STU_LOAD_TIMEOUT).srcSince s 2))
      ∧ (s.flag F.CFG_LOAD_STAT_busy = true ∨ s.stu.load.active = true ∨ s.flag F.DEV_STATUS_done = false →
        exec .partialLoadGo s = .next (s.raise Flt.STU_LOAD_REFUSED))
      ∧ (s.flag F.CFG_LOAD_STAT_busy = false → s.stu.load.active = false → s.flag F.DEV_STATUS_done = true → s.flag F.DEV_STATUS_safe_state = false →
        ∃ t, exec .partialLoadGo s = .next t ∧ t.flag F.CFG_LOAD_STAT_busy = true ∧ t.flag F.CFG_LOAD_STAT_ok = false ∧ t.fld F.CFG_LOAD_STAT_fault = 0
          ∧ t.stu.load = { active := true, running := true, src := s.fld F.CFG_LOAD_SRC_src, addr := s.pair R.CFG_LOAD_ADDR_LO R.CFG_LOAD_ADDR_HI, avail := some (s.reg R.CFG_LOAD_LEN).toNat }))
  ∧ (∀ (s : State) (n : Nat),
      (s.chainReady = false ∨ s.stu.chain.sentAt.isSome = true → ∀ frdy, exec (.chainForward frdy n) s = .next (s.setFlag F.CFG_STATUS_frdy frdy))
      ∧ exec (.chainForward false n) s = .next (s.setFlag F.CFG_STATUS_frdy false)
      ∧ (s.chainReady = true → s.stu.chain.sentAt = none → s.stu.chain.done < s.stu.chain.bytes.length →
        let k := min n (s.stu.chain.bytes.length - s.stu.chain.done)
        ∃ t, exec (.chainForward true n) s = .next t ∧ t.flag F.CFG_STATUS_frdy = true ∧ t.stu.chain.done = s.stu.chain.done + k
          ∧ t.out = .chain ((s.stu.chain.bytes.drop s.stu.chain.done).take n) :: s.out
          ∧ (s.stu.chain.done + k < s.stu.chain.bytes.length → t.stu.chain.sending = true ∧ t.stu.chain.sentAt = none)
          ∧ (s.stu.chain.done + k = s.stu.chain.bytes.length → t.stu.chain.sending = false ∧ t.stu.chain.sentAt = some s.time.ns))
      ∧ (s.stu.chain.bytes.take 20 = List.replicate 16 0xFF ++ [0x5A, 0xC3, 0x3C, 0xA5] ∧ s.stu.chain.bytes.drop 20 = s.stu.chain.body))
  ∧ ∀ s : State, (s.chainReady = true → s.stu.chain.done = 0 → ∃ t, exec .chainFrdyTimeout s = .next t ∧ t.stu.chain = {}
        ∧ t.flt.raised = s.flt.raised ++ [[Flt.STU_CHAIN_TIMEOUT.entry]])
      ∧ (s.chainReady = false ∨ s.stu.chain.done ≠ 0 → exec .chainFrdyTimeout s = .next s)
      ∧ (s.stu.chain.sentAt = none → exec .resendRequest s = .next s)
      ∧ (s.stu.chain.sentAt ≠ none → s.stu.chain.resent = false → exec .resendRequest s
        = .next { s with stu := { s.stu with chain := { s.stu.chain with done := 0, sentAt := none, resent := true } } })
      ∧ (s.stu.chain.sentAt ≠ none → s.stu.chain.resent = true → ∃ t, exec .resendRequest s = .next t ∧ t.stu.chain = {}
        ∧ t.flt.raised = s.flt.raised ++ [[Flt.STU_CHAIN_FAIL.entry]])

/-- A head with no CRC or parity failure, on a virtual channel other than 0, passes every router of its dimension-ordered route unchanged, and the device changes in nothing but the flit counters of routers; the route from node a to node b has as many links as their distance in x plus their distance in y, at most 14, moves in x before it moves in y, and ends at b. A head whose CRC fails at the first router is discarded there with NOC_HEAD_CRC. A virtual channel 0 head that meets an output without that channel goes on as channel 1 with NOC_VC0_DEMOTED (R290, R291, R293). -/
def Obligations.NetworkTravel : Prop :=
  (∀ (s : State) (h : NocHead), h.badHead = none → h.badFlit = none → h.vc ≠ 0 →
    ∃ t, s.nocTravel h = (some h, t) ∧ t = { s with csr := t.csr } ∧ ∀ off i, off ≠ R.NOC_RTR_FLITS → off < 2 ^ 28 → t.reg off i = s.reg off i)
  ∧ (∀ a b port : Nat, a < 64 → b < 64 →
      nocLinks a b = ((a % 8 - b % 8) + (b % 8 - a % 8)) + ((a / 8 - b / 8) + (b / 8 - a / 8)) ∧ nocLinks a b ≤ 14
      ∧ (nocRoute a b port).getLast? = some (b, 4 + port)
      ∧ (nocRoute a b port).Pairwise (fun x y => x.2 = 0 ∨ x.2 = 2 → y.2 ≠ 1 ∧ y.2 ≠ 3))
  ∧ (∀ (s : State) (h : NocHead), h.badHead = some h.entry → ∃ t, s.nocTravel h = (none, t)
      ∧ t.flt.raised = s.flt.raised ++ [[Flt.NOC_HEAD_CRC.entry [h.entry]]] ∧ t = { s with csr := t.csr, flt := t.flt })
  ∧ (∀ (s : State) (h : NocHead) (r o : Nat), h.badHead = none → h.badFlit = none → h.vc = 0 → s.linkCfg r o = 0 →
      ∃ t, s.nocHop h r o = (some { h with vc := 1 }, t) ∧ t.flag F.NOC_STATUS_vc0_demoted = true
        ∧ t.flt.raised = s.flt.raised ++ [[Flt.NOC_VC0_DEMOTED.entry [r]]])

/-- For a sound head of this device whose request its endpoint can issue and whose destination is awake: a READ of an aligned CSR word answers status 0 and the register's value, and a READ of fitted main memory answers as the encryption engine does for the source's class; a WRITE of a CSR word is made and answered with status 0, a WRITE_POSTED made and not answered; an address that leads nowhere answers status 1 (a posted packet is discarded and counted) and records NOC_UNROUTABLE. A response ends its outstanding request and frees its tag; one with no request is discarded and counted. A request past its time ends with status 2, its tag kept back. WAKE_FORWARD of an awake node sends its held heads on and leaves the others. -/
def Obligations.NetworkRequestsAndResponses : Prop :=
  (∀ (s : State) (h : NocHead) (addr : Nat), h.srcDev = s.fld F.NOC_GROVE_devnum → h.dstDev = s.fld F.NOC_GROVE_devnum → h.badHead = none →
    h.badFlit = none → h.vc ≠ 0 → h.poison = false → s.fld F.PM_STATUS_dev_state = 0 →
    (∀ off s1, targetOf addr = .csr off → off % 4 = 0 →
      (s.issued h.srcNode h.srcPort h.tag 0 2 = some s1 → ∃ t s2, exec (.nocRead h addr 4) s = .next t
        ∧ s2 = (s1.nocTravel { h with dstNode := 57, dstPort := 1 }).2 ∧ t.out = .answer (s.headKey h) 0 (leBytes 4 (s2.csrRead off).1) :: s.out)
      ∧ (∀ data : List Byte, data.length = 4 → s.issued h.srcNode h.srcPort h.tag 1 1 = some s1 →
          let s3 := ((s1.nocTravel { h with dstNode := 57, dstPort := 1 }).2).csrWrite off (fieldAt data 0 4)
          exec (.nocWrite h addr data) s = .next (s3.answer (s3.headKey h) 0))
      ∧ (∀ data : List Byte, data.length = 4 →
          exec (.writePosted h addr data) s = .next (((s.nocTravel { h with dstNode := 57, dstPort := 1 }).2).csrWrite off (fieldAt data 0 4))))
    ∧ (∀ x n s1, 1 ≤ n → s.routeOf addr n = .dram x → s.issued h.srcNode h.srcPort h.tag 0 (1 + (n + 63) / 64) = some s1 →
        let s2 := (s1.nocTravel { h with dstNode := 48 + dramChannel x / 2, dstPort := dramChannel x % 2 }).2
        let r := s2.dramRead (classOf h.srcNode h.srcPort) x n
        exec (.nocRead h addr n) s = .next (r.2.2.answer (s.headKey h) r.1 (if r.1 = 1 then [] else r.2.1)))
    ∧ (∀ n s1, targetOf addr = .nowhere → s.issued h.srcNode h.srcPort h.tag 0 (1 + (n + 63) / 64) = some s1 →
        exec (.nocRead h addr n) s = .next ((s1.raise Flt.NOC_UNROUTABLE [h.entry]).answer (s.headKey h) 1))
    ∧ (∀ data : List Byte, targetOf addr = .nowhere → h.srcNode ≠ 57 →
        exec (.writePosted h addr data) s = .next ((s.raise Flt.NOC_UNROUTABLE [h.entry]).count F.NOC_DISCARD_held_discard)))
  ∧ (∀ (s : State) (h : NocHead) (status info : Nat) (data : List Byte) (c : Instr), c = .readResp h status data ∨ c = .writeAck h status info →
      h.dstDev = s.fld F.NOC_GROVE_devnum → h.badHead = none → h.badFlit = none → h.vc ≠ 0 → s.asleep h.dstNode = false →
      48 ≤ h.dstNode → h.dstNode ≠ 57 ∨ h.dstPort ≠ 0 →
      let k := reqKey h.dstNode h.dstPort h.tag
      (SMap.get none s.noc.reqs k ≠ none → exec c s = .next ((s.nocTravel h).2.release h.dstNode h.dstPort h.tag))
      ∧ (SMap.get none s.noc.reqs k = none → ∃ t, exec c s = .next t ∧ NSet.has t.noc.dead k = false ∧ t.noc.reqs = s.noc.reqs
          ∧ t.fld F.NOC_DISCARD_late_resp = satAdd 16 (s.fld F.NOC_DISCARD_late_resp) 1))
  ∧ (∀ (s : State) (node port tag : Nat) (r : NocReq), SMap.get none s.noc.reqs (reqKey node port tag) = some r →
      r.born + max 1 (s.fld F.NOC_CTRL_resp_timeout_us) * 1000 ≤ s.time.ns → node ≠ 57 ∨ port ≠ 0 → 48 ≤ node →
      ∃ t, exec (.respTimeout node port tag) s = .next t ∧ SMap.get none t.noc.reqs (reqKey node port tag) = none
        ∧ NSet.has t.noc.dead (reqKey node port tag) = true ∧ t.flag F.NOC_STATUS_timeout_any = true
        ∧ t.out = .answer (answerKey node port tag) 2 [] :: s.out)
  ∧ (∀ (s : State) (node : Nat), s.asleep node = false →
      ((s.noc.held.filter fun w => decide (w.router = node)) = [] → ∃ t, exec (.wakeForward node) s = .next t
        ∧ t.noc.held = s.noc.held.filter (fun w => decide (w.router ≠ node)) ∧ t.flag F.NOC_STATUS_wake_pend = decide (t.noc.held ≠ []))
      ∧ (∀ w, (s.noc.held.filter fun w => decide (w.router = node)) = [w] → w.pkt.head.dstNode = 59 → w.pkt.head.dstPort < 2 → w.pkt.op = .resp 3 0 [] →
          s.time.ns ≤ w.since + w.exit + 1000 → SMap.get none s.noc.reqs (reqKey 59 w.pkt.head.dstPort w.pkt.head.tag) ≠ none →
          ∃ t, exec (.wakeForward node) s = .next t ∧ t.noc.held = s.noc.held.filter (fun w => decide (w.router ≠ node))
            ∧ SMap.get none t.noc.reqs (reqKey 59 w.pkt.head.dstPort w.pkt.head.tag) = none ∧ t.flt = s.flt))

/-- A scanner reads only while it scans. A latch frame that matches its signature changes nothing; a live one that does not is put up for repair under policies 0 and 2, recorded once under policy 1, and halts the sector under policy 3. A single flipped bit of a stored plane word is corrected, counted and recorded; two in one word make the plane not loaded, with CI_PLANE_BAD. A repair writes the frame from its clean plane except for the masked bits, counts and records; under policy 2 a reload of the live frames and flip-flops follows, and a frame repaired in three consecutive laps, or whose plane is damaged, halts the sector with CI_PERSISTENT. Laps are counted; a bad list stops the scanner; a stall stops it, and a second within 16 laps leaves the sector unscanned. RESTART starts a stopped scanner again; REBUILD clears the bad list and computes bad signatures again (R508, R509, R512 to R520). -/
def Obligations.ScanCommands : Prop :=
  (∀ (s : State) (k place p f : Nat) (flips : List Nat) (bad : Bool), k < 96 → s.ciScans k = false →
      exec (.scanFrameRead k place p f flips bad) s = .next s ∧ ∀ b, exec (.scanLapEnd k b) s = .next s ∧ exec (.scanStall k) s = .next s)
  ∧ (∀ (s : State) (k f : Nat) (flips : List Nat), k < 96 → f < 6144 → s.ciScans k = true → s.livePlane k < 8 →
    s.sigBadAt k (s.livePlane k) f = false →
    let p := s.livePlane k
    let v := (frame (s.liveOf k) f).toNat ^^^ (if flips = [] then 0 else maskOf flips % 2 ^ 2048)
    let c := Instr.scanFrameRead k 0 p f flips false
    let good := frameSig (frameMask (s.plane k p) f) v = s.scanSig k p f
    (good → ∃ t, exec c s = .next t ∧ t.flt = s.flt ∧ t.csr = s.csr ∧ (frame (t.liveOf k) f).toNat = v)
    ∧ (¬good → s.ciPolicy k = 0 ∨ s.ciPolicy k = 2 → ∃ t, exec c s = .next t ∧ (t.ciSec k).repair = some (true, p, f) ∧ t.flt = s.flt)
    ∧ (¬good → s.ciPolicy k = 1 → ∀ n, SMap.get 0 (s.ciSec k).reported (p * 6144 + f) = n → n < 3 → ∃ t, exec c s = .next t
        ∧ t.fld F.CI_SEC_CNT_latch_corr k = satAdd 16 (s.fld F.CI_SEC_CNT_latch_corr k) 1
        ∧ t.flt.raised = s.flt.raised ++ (if n = 0 then [[Flt.CI_LATCH_MISMATCH.entry (frameLoc k p f)]] else []))
    ∧ (¬good → s.ciPolicy k = 3 → ∃ t, exec c s = .next t ∧ t.ciState k = 5 ∧ t.held (islandOf k) = true
        ∧ t.flt.raised.getLast? = some [Flt.CI_SECTOR_HALTED.entry (frameLoc k p f)]))
  ∧ (∀ (s : State) (k p f : Nat), k < 96 → p < 8 → f < 6144 → s.ciScans k = true → s.planeLoaded k p = true → s.sigBadAt k p f = false →
    frameSig (frameMask (s.plane k p) f) (frame (s.plane k p) f).toNat = s.scanSig k p f →
    (∀ i < 2304, ∃ t, exec (.scanFrameRead k 2 p f [i] false) s = .next t
      ∧ t.fld F.CI_SEC_CNT_plane_corr k = satAdd 16 (s.fld F.CI_SEC_CNT_plane_corr k) 1 ∧ t.ctx = s.ctx
      ∧ t.flt.raised = s.flt.raised ++ [[Flt.CI_PLANE_CORRECTED.entry (frameLoc k p f)]])
    ∧ (∀ i j, i < 2304 → j < 2304 → i ≠ j → i / 72 = j / 72 → ∃ t, exec (.scanFrameRead k 2 p f [i, j] false) s = .next t
      ∧ t.planeLoaded k p = false ∧ bit (t.fld F.CI_SEC_STAT_plane_bad k) p = true ∧ t.flag F.CI_STATUS_plane_bad_any = true
      ∧ t.flt.raised = s.flt.raised ++ [[Flt.CI_PLANE_BAD.entry (frameLoc k p f)]]))
  ∧ (∀ (s : State) (k p f : Nat), k < 96 → f < 6144 → (s.ciSec k).repair = some (true, p, f) → s.livePlane k = p → p < 8 →
    let mask := frameMask (s.plane k p) f
    let pv := (frame (s.plane k p) f).toNat
    let lv := (frame (s.liveOf k) f).toNat
    let old := SMap.get 0 (s.ciSec k).repaired (p * 6144 + f)
    (bit (s.fld F.CI_SEC_STAT_plane_bad k) p = false → frameSig mask pv = s.scanSig k p f → old = 0 →
      ∃ t, exec (.latchRepair k [] []) s = .next t ∧ (t.ciSec k).repair = none
        ∧ (frame (t.liveOf k) f).toNat = pv - (pv &&& mask) + (lv &&& mask)
        ∧ t.fld F.CI_SEC_CNT_latch_corr k = satAdd 16 (s.fld F.CI_SEC_CNT_latch_corr k) 1 ∧ t.flag F.CI_STATUS_corr_any = true
        ∧ (s.ciPolicy k ≠ 2 → t.flt.raised = s.flt.raised ++ [[Flt.CI_LATCH_CORRECTED.entry (frameLoc k p f)]])
        ∧ (s.ciPolicy k = 2 → t.ciState k = 4 ∧ (t.ciSec k).reload = some p ∧ t.flt = s.flt))
    ∧ (bit (s.fld F.CI_SEC_STAT_plane_bad k) p = false → frameSig mask pv = s.scanSig k p f → old % 4 = 2 → old / 4 + 1 = (s.ciSec k).lap →
      ∃ t, exec (.latchRepair k [] []) s = .next t ∧ t.ciState k = 5 ∧ t.flt.raised.getLast? = some [Flt.CI_PERSISTENT.entry (frameLoc k p f)])
    ∧ (bit (s.fld F.CI_SEC_STAT_plane_bad k) p = true → ∀ a b, ∃ t, exec (.latchRepair k a b) s = .next t ∧ t.ciState k = 5
        ∧ t.held (islandOf k) = true ∧ t.flt.raised.getLast? = some [Flt.CI_PERSISTENT.entry (frameLoc k p f)]))
  ∧ (∀ (s : State) (k p : Nat), k < 96 → (s.ciSec k).reload = some p → ∃ t, exec (.sectorReload k) s = .next t ∧ (t.ciSec k).reload = none
      ∧ (s.ciState k = 4 → t.ciState k = 0) ∧ t.flt.raised = s.flt.raised ++ [[Flt.CI_SECTOR_RELOADED.entry [k]]]
      ∧ (s.livePlane k = p → ∀ f, (frame (t.liveOf k) f).toNat
          = (let m := frameMask (s.plane k p) f
             let pv := (frame (s.plane k p) f).toNat
             pv - (pv &&& m) + ((frame (s.liveOf k) f).toNat &&& m))))
  ∧ (∀ (s : State) (k : Nat) (bad : Bool), k < 96 → s.ciScans k = true → ∃ t, exec (.scanLapEnd k bad) s = .next t
      ∧ t.fld F.CI_SEC_STAT_laps k = (s.fld F.CI_SEC_STAT_laps k + 1) % 65536 ∧ (t.ciSec k).lap = (s.ciSec k).lap + 1
      ∧ ((∀ j < 96, j ≠ k → s.ciScans j = false) → t.fld F.CI_LAP_laps = (s.fld F.CI_LAP_laps + 1) % 256)
      ∧ (bad = false → t.flt = s.flt)
      ∧ (bad = true → t.ciState k = 2 ∧ (t.ciSec k).listBad = true ∧ t.flt.raised = s.flt.raised ++ [[Flt.CI_LIST_BAD.entry [k]]]))
  ∧ (∀ (s : State) (k : Nat), k < 96 → s.ciScans k = true →
      ((s.ciSec k).stalled = none → ∃ t, exec (.scanStall k) s = .next t ∧ t.ciState k = 2 ∧ (t.ciSec k).stalled = some (s.ciSec k).lap
        ∧ t.flt.raised = s.flt.raised ++ [[Flt.CI_SCAN_STALL.entry [k]]])
      ∧ (∀ l, (s.ciSec k).stalled = some l → (s.ciSec k).lap ≤ l + 16 → ∃ t, exec (.scanStall k) s = .next t ∧ t.ciState k = 3
        ∧ t.flag F.CI_STATUS_dead_any = true
        ∧ t.flt.raised = s.flt.raised ++ [[Flt.CI_SCAN_STALL.entry [k]], [Flt.CI_SCAN_DEAD.entry [k]]]))
  ∧ (∀ (s : State) (k : Nat), k < 96 → s.mgt.warm = false →
      (s.ciState k = 3 ∨ s.ciState k = 5 → exec (.restart k) s = .next s)
      ∧ (s.ciState k = 2 → s.ci.commit = none → (s.ciSec k).listBad = false → ∃ t, exec (.restart k) s = .next t
          ∧ t.ciState k = (if s.flag F.CI_CTRL_en then 0 else 1) ∧ (t.ciSec k).reported = [] ∧ (t.ciSec k).repair = none ∧ t.flt = s.flt)
      ∧ (s.ciState k = 2 → s.ci.commit = none → (s.ciSec k).listBad = true → ∃ t, exec (.rebuild k) s = .next t
          ∧ t.ciState k = (if s.flag F.CI_CTRL_en then 0 else 1) ∧ (t.ciSec k).listBad = false ∧ t.flt = s.flt
          ∧ ∀ p f, p < 8 → f < 6144 → s.planeLoaded k p = true → s.sigBadAt k p f = true → t.sigBadAt k p f = false
            ∧ t.scanSig k p f = frameSig (frameMask (s.plane k p) f) (frame (s.plane k p) f).toNat))
  ∧ (∀ s : State, ∃ t, exec .voteCorrection s = .next t ∧ t.fld F.CI_VOTE_count = satAdd 32 (s.fld F.CI_VOTE_count) 1
      ∧ (SMap.get 0 s.firsts (firstKey Flt.CI_VOTE_CORR 0) ≠ s.ms + 1 → t.flt.raised = s.flt.raised ++ [[Flt.CI_VOTE_CORR.entry []]])
      ∧ (SMap.get 0 s.firsts (firstKey Flt.CI_VOTE_CORR 0) = s.ms + 1 → t.flt = s.flt))

/-- With a reference chosen, each trim window moves the code by the measured error in steps of 100 ppm, at most 16 steps and within 10 signed bits, and sets trimmed where the error lies within 0.1 %; a reference absent for two windows loses it, the code held. A written target is taken at once by an island whose sequencer rests, voltage first where the voltage rises, else branch first, and waits behind a transition; the branch switch changes the point in force, the transition's end frees the sequencer and reports its time, and a timeout returns the island to its former point with CLK_OP_TIMEOUT. A generator that loses lock stops its island's clocks and is recorded; relocking restarts them. A flagged reference is recorded once until it returns, and every loop that runs from it shows unlocked and takes its alternate or goes into holdover; a flagged loop records CLK_LOOP_FAULT. A frequency monitor flags a clock above its limit (R525, R527, R530, R533 to R536). -/
def Obligations.ClockCommands : Prop :=
  (∀ (s : State) (err : Int) (absent : Bool), s.fld F.CLK_TRIM_src = 0 → exec (.trimWindowEnd err absent) s = .next s)
  ∧ (∀ (s : State) (err : Int), s.fld F.CLK_TRIM_src ≠ 0 →
      (∃ t, exec (.trimWindowEnd err false) s = .next t ∧ t.clk = { s.clk with trimMiss := 0 } ∧ t.flt = s.flt
        ∧ signed 10 (t.fld F.CLK_TRIM_code)
            = clampInt (-512) 511 (signed 10 (s.fld F.CLK_TRIM_code) + clampInt (-16) 16 (roundInt err 100))
        ∧ t.flag F.CLK_STATUS_trimmed = decide (err.natAbs ≤ 1000))
      ∧ (∀ n, s.clk.trimMiss = n → n ≠ 1 → exec (.trimWindowEnd err true) s = .next { s with clk := { s.clk with trimMiss := n + 1 } })
      ∧ (s.clk.trimMiss = 1 → ∃ t, exec (.trimWindowEnd err true) s = .next t ∧ t.flag F.CLK_STATUS_trimmed = false
        ∧ t.fld F.CLK_TRIM_code = s.fld F.CLK_TRIM_code ∧ t.flt.raised = s.flt.raised ++ [[Flt.CLK_TRIM_LOST.entry []]]))
  ∧ (∀ (s : State) (k target : Nat), k < 48 → target < 8 → s.bistOn k = false →
      let op := s.fld F.CLK_ISL_STAT_op k
      (∀ m, s.clkMove k = some m → ∃ t, exec (.opTargetWrite k target) s = .next t ∧ t.fld F.CLK_ISL_OP_target k = target
        ∧ t.clkMove k = some m ∧ t.fld F.CLK_ISL_STAT_op k = op ∧ NSet.has t.clk.waiting k = true)
      ∧ (s.clkMove k = none → target = op → ∃ t, exec (.opTargetWrite k target) s = .next t ∧ t.clkMove k = none
        ∧ t.fld F.CLK_ISL_OP_target k = target ∧ NSet.has t.clk.waiting k = false)
      ∧ (s.clkMove k = none → target ≠ op → s.fld F.CLK_ISL_STAT_phase k ≠ 4 → ∃ t, exec (.opTargetWrite k target) s = .next t
        ∧ t.clkMove k = some { goal := target, former := op, up := decide (s.opVid op ≤ s.opVid target), switched := false, start := s.time.ns }
        ∧ t.fld F.CLK_ISL_STAT_op k = op ∧ t.fld F.CLK_ISL_STAT_phase k = (if s.opVid op ≤ s.opVid target then 1 else 2)
        ∧ t.flag F.CLK_STATUS_seq_busy = true ∧ NSet.has t.clk.waiting k = false))
  ∧ (∀ (s : State) (k : Nat) (m : ClkMove), k < 48 → s.clkMove k = some m → m.goal < 8 → m.former < 8 →
      (m.switched = false → (∃ t, exec (.branchSwitch k) s = .next t ∧ t.fld F.CLK_ISL_STAT_op k = m.goal
          ∧ t.clkMove k = some { m with switched := true })
        ∧ exec (.opTransitionEnd k) s = .next s)
      ∧ (m.switched = true → exec (.branchSwitch k) s = .next s
        ∧ (s.commitPends clkBase 0 = false → NSet.has s.clk.waiting k = false → s.fld F.CLK_ISL_STAT_phase k ≠ 4 →
          ∃ t, exec (.opTransitionEnd k) s = .next t ∧ t.clkMove k = none
            ∧ t.fld F.CLK_ISL_STAT_op k = s.fld F.CLK_ISL_STAT_op k ∧ t.fld F.CLK_ISL_STAT_phase k = 0
            ∧ t.fld F.CLK_ISL_STAT_last_us k = min 65535 ((s.time.ns - m.start) / 1000)
            ∧ (t.flag F.CLK_STATUS_seq_busy = true ↔ ∃ j < 48, j ≠ k ∧ s.clkMove j ≠ none)))
      ∧ (s.commitPends clkBase 0 = false → NSet.has s.clk.waiting k = false → ∃ t, exec (.opTimeout k) s = .next t
          ∧ t.clkMove k = none ∧ t.fld F.CLK_ISL_STAT_op k = m.former ∧ s.flt.raised ++ [[Flt.CLK_OP_TIMEOUT.entry []]] <+: t.flt.raised))
  ∧ (∀ (s : State) (k : Nat), k < 48 → s.clkMove k = none →
      exec (.branchSwitch k) s = .next s ∧ exec (.opTransitionEnd k) s = .next s ∧ exec (.opTimeout k) s = .next s)
  ∧ (∀ (s : State) (k : Nat), k < 48 →
      (∀ c, c = Instr.generatorUnlock k ∨ c = .missingClock (14 + k) → ∃ t, exec c s = .next t ∧ t.flag F.CLK_ISL_STAT_locked k = false
        ∧ t.fld F.CLK_ISL_STAT_phase k = 4 ∧ t.clocked k = false ∧ s.flt.raised ++ [[Flt.CLK_ISL_UNLOCK.entry [k]]] <+: t.flt.raised)
      ∧ (s.fld F.CLK_ISL_STAT_phase k = 4 → ∃ t, exec (.loopLock true k) s = .next t ∧ t.flag F.CLK_ISL_STAT_locked k = true
        ∧ t.fld F.CLK_ISL_STAT_phase k = movePhase (s.clkMove k)))
  ∧ (∀ (s : State) (n : Nat), n < 12 →
      (∃ t, exec (.loopLock false n) s = .next t ∧ bit (t.fld F.CLK_STATUS_loop_locked) n = true ∧ NSet.has t.clk.holdover n = false
        ∧ (∀ j < 12, j ≠ n → bit (t.fld F.CLK_STATUS_loop_locked) j = bit (s.fld F.CLK_STATUS_loop_locked) j))
      ∧ exec (.missingClock (2 + n)) s = .next (s.raise Flt.CLK_LOOP_FAULT [n]))
  ∧ (∀ (s : State) (r : Nat), r < 2 →
      (NSet.has s.clk.lost r = true → exec (.missingClock r) s = .next s)
      ∧ (NSet.has s.clk.lost r = false → ∃ t, exec (.missingClock r) s = .next t ∧ NSet.has t.clk.lost r = true
        ∧ t.flag F.CLK_STATUS_ref_lost = true ∧ t.flt.raised = s.flt.raised ++ [[Flt.CLK_REF_LOST.entry []]]
        ∧ ∀ n < 12, (s.loopRef n = r → bit (t.fld F.CLK_STATUS_loop_locked) n = false
              ∧ (if s.fld (F.CLK_LOOP_CFG_alt.nth n) ≠ 3 ∧ s.fld (F.CLK_LOOP_CFG_alt.nth n) ≠ r ∧ NSet.has s.clk.onAlt n = false
                then NSet.has t.clk.onAlt n = true else NSet.has t.clk.holdover n = true))
            ∧ (s.loopRef n ≠ r → bit (t.fld F.CLK_STATUS_loop_locked) n = bit (s.fld F.CLK_STATUS_loop_locked) n
              ∧ NSet.has t.clk.onAlt n = NSet.has s.clk.onAlt n))
      ∧ (∀ ppm, ppm ≤ (if s.flag F.CLK_STATUS_trimmed then 10000 else 80000) → ∃ t, exec (.freqMonitorWindow r ppm) s = .next t
        ∧ NSet.has t.clk.lost r = false ∧ t = { s with clk := t.clk }))
  ∧ (∀ (s : State) (c ppm : Nat), (if 2 ≤ c then 5000 else if s.flag F.CLK_STATUS_trimmed then 10000 else 80000) < ppm →
      exec (.freqMonitorWindow c ppm) s = exec (.missingClock c) s)

/-- ISLAND_WAKE starts the return of a sleeping island, or is kept until an entry in progress ends; at its end the island is in I0, pm_woke is set, the exit time is shown and the wake counted. DEVICE_WAKE and its end do the same for the device. GOVERNOR_EVAL puts an island that has been eligible for idle_us into its deepest allowed state and leaves every other awake island awake; a state is allowed only where its exit latency lies within the tolerance, for a guaranteed island within the slack, and it does not exceed either maximum. LTR_UPDATE shows the smallest tolerance. L1 entry and exit move PCI_STATUS.l1, and an exit wakes the device. D4 is entered with every raised fault taken. A failed logic channel holds its island with PM_REG_FAULT; a failed rail stops the device with DONE low (R442, R542, R543, R545 to R547, R549, R550, R560). -/
def Obligations.PowerCommands : Prop :=
  (∀ (s : State) (k : Nat), k < 48 → s.devState = 0 →
      (s.islState k = 0 → exec (.islandWake k) s = .next s)
      ∧ (s.islState k ≠ 0 → SMap.get none s.pm.waking k = none →
        (NSet.has s.pm.entering k = false → ∃ t, exec (.islandWake k) s = .next t ∧ SMap.get none t.pm.waking k = some s.time.ns
          ∧ t.islState k = s.islState k ∧ t = { s with pm := t.pm })
        ∧ (NSet.has s.pm.entering k = true → exec (.islandWake k) s = .next { s with pm := { s.pm with wakeAsked := NSet.put s.pm.wakeAsked k true } })))
  ∧ (∀ (s : State) (k t0 : Nat), k < 48 →
      (SMap.get none s.pm.waking k = none → exec (.islandWakeDone k) s = .next s)
      ∧ (SMap.get none s.pm.waking k = some t0 → ∃ t, exec (.islandWakeDone k) s = .next t ∧ t.islState k = 0
        ∧ NSet.has t.pm.woke k = true ∧ SMap.get none t.pm.waking k = none
        ∧ t.fld F.PM_ISL_STAT_last_exit_ns k = min 65535 (s.time.ns - t0)
        ∧ t.fld F.PM_WAKE_CNT_count k = satAdd 32 (s.fld F.PM_WAKE_CNT_count k) 1))
  ∧ (∀ s : State,
      (s.devState = 0 → exec .deviceWake s = .next s)
      ∧ (s.devState ≠ 0 → s.pm.devWaking = none →
        (s.pm.devEntering = false → exec .deviceWake s = .next { s with pm := { s.pm with devWaking := some s.time.ns, devFrom := s.devState } })
        ∧ (s.pm.devEntering = true → exec .deviceWake s = .next { s with pm := { s.pm with devAsked := true } }))
      ∧ (s.pm.devWaking = none → exec .deviceWakeDone s = .next s)
      ∧ (∀ x, s.pm.devWaking = some x → ∃ t, exec .deviceWakeDone s = .next t ∧ t.devState = 0 ∧ t.pm.devWaking = none))
  ∧ (∀ (s : State) (k : Nat), k < 48 →
      (s.pm.devEntering = true → s.pm.devAsked = false → exec (.sleepEntryDone true k) s
        = .next { s with pm := { s.pm with devEntering := false, devAsked := false } })
      ∧ (s.pm.devEntering = true → s.pm.devAsked = true → s.devState ≠ 0 → s.pm.devWaking = none →
        ∃ t, exec (.sleepEntryDone true k) s = .next t ∧ t.pm.devWaking = some s.time.ns ∧ t.pm.devEntering = false)
      ∧ (NSet.has s.pm.entering k = true → s.devState = 0 → s.islState k ≠ 0 → SMap.get none s.pm.waking k = none →
        ∃ t, exec (.sleepEntryDone false k) s = .next t ∧ NSet.has t.pm.entering k = false
          ∧ SMap.get none t.pm.waking k = (if NSet.has s.pm.wakeAsked k then some s.time.ns else none)))
  ∧ (∀ (s : State) (idle : List Nat) (k : Nat), k < 48 → s.commitPends pmBase 0 = false → s.devState = 0 → (∀ j < 48, s.islState j = 0) →
      s.fld F.PM_CTRL_dev_max = 0 →
      let old := SMap.get 0 s.pm.since k
      ∃ t, exec (.governorEval idle) s = .next t ∧ t.flag F.PM_ISL_STAT_eligible k = s.eligible idle k ∧ t.devState = 0
        ∧ (s.eligible idle k = false ∨ old = 0 ∧ 0 < s.fld F.PM_CTRL_idle_us ∨ old ≠ 0 ∧ s.time.ns + 1 < old + s.fld F.PM_CTRL_idle_us * 1000 → t.islState k = 0)
        ∧ (s.eligible idle k = true → old ≠ 0 → old + s.fld F.PM_CTRL_idle_us * 1000 ≤ s.time.ns + 1 → SMap.get none s.pm.waking k = none →
          NSet.has s.pm.entering k = false → t.islState k = deepest (s.islAllowed k) 3))
  ∧ (∀ (s : State) (k st : Nat), s.islAllowed k st = true → st ≤ s.fld F.PM_CTRL_isl_max ∧ st ≤ s.fld F.PM_ISL_CTRL_max_state k
      ∧ (islandExit st ≤ s.tolerance ∨ s.tolerance = 2 ^ 32 - 1)
      ∧ (s.islGuaranteed k = true → islandExit st ≤ s.slackLimit ∨ s.slackLimit = 2 ^ 32 - 1))
  ∧ (∀ (s : State) (on : Bool) (a b : Nat), ∃ t, exec (.ltrUpdate on a b) s = .next t
      ∧ t.pci = { s.pci with ltrOn := on, snoop := a, noSnoop := b }
      ∧ t.fld F.PCI_LTR_host_tol_us = min 65535 ((if on then min (s.reg R.PM_LAT_TOL).toNat (min a b) else (s.reg R.PM_LAT_TOL).toNat) / 1000))
  ∧ (∀ s : State, (s.flag F.PCI_STATUS_up = false → exec .pcieL1Entry s = .next s)
      ∧ (s.flag F.PCI_STATUS_up = true → ∃ t, exec .pcieL1Entry s = .next t ∧ t.flag F.PCI_STATUS_l1 = true)
      ∧ (∃ t, exec .pcieL1Exit s = .next t ∧ t.flag F.PCI_STATUS_l1 = false
        ∧ (s.devState ≠ 0 → s.pm.devWaking = none → s.pm.devEntering = false → t.pm.devWaking = some s.time.ns))
      ∧ (∃ t, exec .pmOff s = .next t ∧ t.pm.off = true ∧ t.flt.raised = [])
      ∧ (∃ t, exec (.regulatorFault true 0) s = .next t ∧ t.pm.off = true ∧ t.th.shutdown = true ∧ t.flag F.CFG_STATUS_done_pin = false
        ∧ t.flag F.PM_STATUS_reg_fault = true)
      ∧ ∀ k < 48, ∃ t, exec (.regulatorFault false k) s = .next t ∧ t.held k = true ∧ t.flag F.PM_STATUS_reg_fault = true
        ∧ t.flt.raised.getLast? = some [Flt.PM_REG_FAULT.entry [k]])

/-- A sample takes every reading in range, and marks a sensor that reads out of range or not at all failed until the next start-up. An island's temperature is the highest of its four sensors; its band follows with 2 degrees of hysteresis; above the throttle limit, or for a guaranteed island above 115 degrees less crit_margin, the throttle curve gives the removal, at most 950; from the warning limit on warn_any is set. An island at 115 degrees or more at two consecutive samples shuts the device down (R551 to R558, R560). -/
def Obligations.ThermalSample : Prop :=
  ∀ (s : State) (readings : List (Option Int)) (act : List (Nat × Nat × Nat × Nat)) (dw : Nat),
    ∃ t, exec (.sensorSample readings act dw) s = .next t ∧ t.fld F.PM_POWER_dw = dw % 65536
      ∧ (∀ n < 176, s.flag F.TH_SENSOR_failed n = true → t.flag F.TH_SENSOR_failed n = true ∧ t.fld F.TH_SENSOR_reading n = s.fld F.TH_SENSOR_reading n)
      ∧ (∀ n < 176, s.flag F.TH_SENSOR_failed n = false → ∀ r, readings[n]? = some (some r) → -240 ≤ r → r ≤ 600 →
          t.flag F.TH_SENSOR_failed n = false ∧ signed 12 (t.fld F.TH_SENSOR_reading n) = r)
      ∧ (∀ n < 176, s.flag F.TH_SENSOR_failed n = false → readings.getD n none = none ∨ (∃ r, readings[n]? = some (some r) ∧ (r < -240 ∨ 600 < r)) →
          t.flag F.TH_SENSOR_failed n = true)
      ∧ ∀ k < 48, s.commitPends thBase 0 = false → s.commitPends thBase 1 = false → s.suspect k = false → SMap.get 0 s.th.disSince k = 0 →
        (∀ n ∈ islandSensors k, s.flag F.TH_SENSOR_failed n = false) → ∀ a b c d : Int, readings[k]? = some (some a) →
        readings[48 + k]? = some (some b) → readings[96 + k / 2]? = some (some c) → readings[120 + k / 2]? = some (some d) →
        (∀ r ∈ [a, b, c, d], -240 ≤ r ∧ r ≤ 600) →
        let x := max (max a b) (max c d)
        signed 12 (t.fld F.TH_ISL_STAT_t_isl k) = x ∧ t.flag F.TH_ISL_STAT_est_used k = false
          ∧ t.fld F.TH_ISL_STAT_band k = nextBand (s.fld F.TH_ISL_STAT_band k) x
          ∧ (s.fld F.TH_RISE_limit = 0 → t.fld F.TH_ISL_STAT_removal k = s.removalAbove (x - (if s.islGuaranteed k then s.guarAt else s.throttleAt)))
          ∧ (s.warnAt ≤ x → NSet.has s.th.warned k = false → t.flag F.TH_STATUS_warn_any = true)
          ∧ (460 ≤ x → NSet.has t.th.hot k = true ∧ (NSet.has s.th.hot k = true → t.th.shutdown = true ∧ t.pm.off = true))

/-- The groups of a cycle are offered in ascending order, each group's faults in ascending code and location; they enter whole, up to the first that does not fit, and the faults of the rest are dropped and counted. A fault taken is recorded in slot index mod 1,024 with its time, index, code, severity, source and location, sets its FLT_PEND bit, asks for the vector at or above msi_sev, and is put up for the flash log where it is fatal. FLASH_LOG_WRITE moves the oldest entry due into the log of the last 64 while Heartwood runs. FAULT_PORT_DELIVER shows a sector the oldest entry of its port unless its island is held. FLT_PEND_CLEAR clears the bits written as 1. An entry's 32 bytes are laid out as R618 says, with their CRC (R618, R620 to R622, R624 to R626). -/
def Obligations.FaultCollector : Prop :=
  (∀ (room : Nat) (gs : List (List FaultEntry)), ∃ n, (groupsEnter room gs).1 = (gs.take n).flatten
      ∧ (groupsEnter room gs).2 = ((gs.drop n).map List.length).sum ∧ (gs.take n).flatten.length ≤ room
      ∧ ∀ g, gs[n]? = some g → room < (gs.take n).flatten.length + g.length)
  ∧ (∀ gs : List (List FaultEntry), (∀ g ∈ gs, g ≠ []) → (groupSort gs).length = gs.length
      ∧ (groupSort gs).Pairwise (fun a b => groupBefore a b = true)
      ∧ (∀ g ∈ groupSort gs, g.Pairwise (fun a b => faultBefore a b = true)) ∧ (groupSort gs).flatten.Perm gs.flatten)
  ∧ (∀ s : State, s.flt.lostDue = false →
      let r := groupsEnter (64 - s.flt.queue.length) (groupSort s.flt.raised)
      ∃ t, exec .faultGroupOffer s = .next t ∧ t.flt.raised = [] ∧ t.flt.queue = s.flt.queue ++ r.1 ∧ t.flt.record = s.flt.record
        ∧ t.flt.lostDue = decide (r.2 ≠ 0) ∧ t.fld F.FLT_LOST_dropped = satAdd 16 (s.fld F.FLT_LOST_dropped) r.2
        ∧ (r.2 ≠ 0 → t.flag F.FLT_STATUS_lost = true) ∧ t = { s with csr := t.csr, flt := t.flt })
  ∧ (∀ s : State, s.flt.queue = [] → s.flt.lostDue = false → exec .faultTake s = .next s)
  ∧ (∀ (s : State) (f : FaultEntry) (l : List FaultEntry), s.flt.queue = f :: l → s.flt.lostDue = false → f.sev < 5 →
      let i := (s.reg R.FLT_HEAD).toNat
      let r : RecEntry := { time := s.time.ns, index := i, fault := f }
      ∃ t, exec .faultTake s = .next t ∧ t.flt.queue = l ∧ SMap.get none t.flt.record (i % 1024) = some r
        ∧ (∀ j, j ≠ i % 1024 → SMap.get none t.flt.record j = SMap.get none s.flt.record j)
        ∧ (t.reg R.FLT_HEAD).toNat = (i + 1) % 2 ^ 32
        ∧ (∀ b < 5, bit (t.fld F.FLT_PEND_pend) b = (bit (s.fld F.FLT_PEND_pend) b || decide (b = f.sev)))
        ∧ t.flt.toFlash = s.flt.toFlash ++ (if 3 ≤ f.sev ∨ f.code = Flt.SEC_LC_CHANGED.code then [r] else [])
        ∧ (s.flag F.FLT_CTRL_irq_en = false ∨ f.sev < s.fld F.FLT_CTRL_msi_sev → t.out = s.out ∧ t.pci = s.pci)
        ∧ (s.flag F.FLT_CTRL_irq_en = true → s.fld F.FLT_CTRL_msi_sev ≤ f.sev →
          (s.pci.unmasked.has (s.fld F.FLT_CTRL_vec) = true → t.out = .msix 0 (s.fld F.FLT_CTRL_vec) :: s.out)
          ∧ (s.pci.unmasked.has (s.fld F.FLT_CTRL_vec) = false → t.out = s.out ∧ t.pci.pend.has (s.fld F.FLT_CTRL_vec) = true)))
  ∧ (∀ (s : State) (r : RecEntry) (l : List RecEntry), s.flt.toFlash = r :: l →
      (s.mgt.warm = true ∨ s.flag F.MB_STATUS_dead = true → exec .flashLogWrite s = .next s)
      ∧ (s.mgt.warm = false → s.flag F.MB_STATUS_dead = false → s.flt.flashLog.length ≤ 64 → ∃ t, exec .flashLogWrite s = .next t
        ∧ t.flt.toFlash = l ∧ t.flt.flashLog = (if s.flt.flashLog.length < 64 then s.flt.flashLog else s.flt.flashLog.drop 1) ++ [r]
        ∧ t.fld F.FLT_FLASH_held = min 64 (s.flt.flashLog.length + 1)))
  ∧ (∀ (s : State) (k : Nat) (r : RecEntry) (l : List RecEntry), SMap.get [] s.flt.ports k = r :: l →
      (s.held (islandOf k) = true → exec (.faultPortDeliver k) s = .next s)
      ∧ (s.held (islandOf k) = false → ∃ t, exec (.faultPortDeliver k) s = .next t ∧ SMap.get [] t.flt.ports k = l
        ∧ SMap.get none t.flt.shown k = some r ∧ t = { s with flt := t.flt }))
  ∧ (∀ (s : State) (v : Nat), ∃ t, exec (.fltPendClear v) s = .next t ∧ t = { s with csr := t.csr }
      ∧ (∀ b < 5, bit (t.fld F.FLT_PEND_pend) b = (bit (s.fld F.FLT_PEND_pend) b && !bit v b)))
  ∧ (∀ r : RecEntry, (entryBytes r).length = 32 ∧ fieldAt (entryBytes r) 0 8 = r.time % 2 ^ 64 ∧ fieldAt (entryBytes r) 8 4 = r.index % 2 ^ 32
      ∧ fieldAt (entryBytes r) 12 2 = r.fault.code % 2 ^ 16 ∧ fieldAt (entryBytes r) 14 1 = r.fault.sev % 256
      ∧ fieldAt (entryBytes r) 15 1 = r.fault.src % 256 ∧ fieldAt (entryBytes r) 24 4 = 0
      ∧ fieldAt (entryBytes r) 28 4 = crc32c ((entryBytes r).take 28)
      ∧ ∀ n < 4, (∀ x ∈ r.fault.loc, x < 65536) → fieldAt (entryBytes r) (16 + 2 * n) 2 = r.fault.loc.getD n 0)

/-- A write of go to BT_CTRL is refused with its reason and BT_REFUSED in each case of R597, and otherwise starts a run whose phase is 3, or 1 while the wipe of kinds 3 and 4 is made. A run that ends writes BT_MISR and its result: 1 where the misr equals the expected signature, 2 with BT_LBIST_FAIL where it does not, 3 with BT_ABORTED where it is ended early. An analogue check is started and ended with its item, its value and BT_ANA_FAIL where it fails. Update-IR loads the instruction, and a pin-control instruction makes a wipe first. TRNG_HEALTH_FAIL clears SEC_STATUS.trng_ok (R594 to R603, R613). -/
def Obligations.SelfTestCommands : Prop :=
  (∀ (s : State) (value : Nat) (base : Bool), s.flag F.BT_STATUS_busy = true →
      ∃ t, exec (.bistGo value base) s = .next t ∧ t.fld F.BT_RESULT_reason = 1 ∧ t.flt.raised = s.flt.raised ++ [[Flt.BT_REFUSED.entry]]
        ∧ t.secu = s.secu ∧ t.flag F.BT_STATUS_busy = true)
  ∧ (∀ (s : State) (value : Nat) (base : Bool), s.flag F.BT_STATUS_busy = false →
      let kind := bits value 10 8
      let index := bits value 6 0
      let op := s.fld F.CLK_ISL_STAT_op (islandOf index)
      let vid := s.opVid op
      (kind = 0 ∧ 96 ≤ index ∨ kind = 1 ∧ 64 ≤ index ∨ kind = 2 ∧ 4 ≤ index ∨ (kind = 3 ∨ kind = 4) ∧ 1 ≤ index ∨ 5 ≤ kind →
        ∃ t, exec (.bistGo value base) s = .next t ∧ t.fld F.BT_RESULT_reason = 5 ∧ t.flt.raised = s.flt.raised ++ [[Flt.BT_REFUSED.entry]]
          ∧ t.secu = s.secu)
      ∧ (kind = 0 → index < 96 → (s.held (islandOf index) = true ∨ ∃ e, 128 * index ≤ e ∧ e < 128 * index + 128 ∧ (s.engine e).halted = false) →
        ∃ t, exec (.bistGo value base) s = .next t ∧ t.fld F.BT_RESULT_reason = 2 ∧ t.secu = s.secu)
      ∧ (kind = 0 → index < 96 → s.held (islandOf index) = false → (∀ e, 128 * index ≤ e → e < 128 * index + 128 → (s.engine e).halted = true) →
        (op < 3 ∨ 5 < op ∨ vid < 140 ∨ 170 < vid →
          ∃ t, exec (.bistGo value base) s = .next t ∧ t.fld F.BT_RESULT_reason = 3 ∧ t.secu = s.secu)
        ∧ (3 ≤ op → op ≤ 5 → 140 ≤ vid → vid ≤ 170 →
          (s.fld F.BT_SCRATCH_bank % 32 ≠ 0 ∨ 48 ≤ s.fld F.BT_SCRATCH_column ∨ (∃ i, i < 32 ∧ s.ownerClass (s.scratchBank + i) ≠ 3) →
            ∃ t, exec (.bistGo value base) s = .next t ∧ t.fld F.BT_RESULT_reason = 4 ∧ t.secu = s.secu)
          ∧ (s.fld F.BT_SCRATCH_bank % 32 = 0 → s.fld F.BT_SCRATCH_column < 48 → (∀ i < 32, s.ownerClass (s.scratchBank + i) = 3) →
            ∃ t, exec (.bistGo value base) s = .next t ∧ t.secu = { s.secu with run := some (0, index) } ∧ t.flag F.BT_STATUS_busy = true
              ∧ t.fld F.BT_RESULT_phase = 3 ∧ t.flt = s.flt ∧ t.eng = s.eng
              ∧ ∀ a, a / 8192 < s.scratchBank ∨ s.scratchBank + 32 ≤ a / 8192 → SMap.get 0 t.mem.words a = SMap.get 0 s.mem.words a)))
      ∧ (1 ≤ kind → kind ≤ 4 → index < (if kind = 1 then 64 else if kind = 2 then 4 else 1) →
        (s.testMode = false → ∃ t, exec (.bistGo value base) s = .next t ∧ t.fld F.BT_RESULT_reason = 2 ∧ t.secu = s.secu)
        ∧ (s.testMode = true → base = false → ∃ t, exec (.bistGo value base) s = .next t ∧ t.fld F.BT_RESULT_reason = 3 ∧ t.secu = s.secu)
        ∧ (s.testMode = true → base = true → s.fld F.BT_SCRATCH_bank % 32 = 0 → s.fld F.BT_SCRATCH_column < 48 →
          (∀ i < 32, s.ownerClass (s.scratchBank + i) = 3) →
          ∃ t, exec (.bistGo value base) s = .next t ∧ t.secu.run = some (kind, index) ∧ t.flag F.BT_STATUS_busy = true
            ∧ t.fld F.BT_RESULT_phase = (if kind ≤ 2 then 3 else 1) ∧ (3 ≤ kind → ∃ w, t.secu.wipe = some w ∧ AfterWipe.bist ∈ w.after))))
  ∧ (∀ s : State, (s.secu.run = none → exec .bistAbort s = .next s)
      ∧ (s.secu.run ≠ none → ∃ t, exec .bistAbort s = .next t ∧ t.secu.run = none ∧ t.flag F.BT_STATUS_busy = false
        ∧ t.fld F.BT_RESULT_result = 3 ∧ t.fld F.BT_RESULT_phase = 0 ∧ t.flt.raised = s.flt.raised ++ [[Flt.BT_ABORTED.entry]] ∧ t.eng = s.eng))
  ∧ (∀ (s : State) (misr expected : Nat) (bad : Bool),
      (s.secu.run = none ∨ s.secu.wipe ≠ none → exec (.bistRunDone misr expected bad) s = .next s)
      ∧ (∀ kind index, s.secu.run = some (kind, index) → s.secu.wipe = none → misr < 2 ^ 64 → expected < 2 ^ 64 →
        ∃ t, exec (.bistRunDone misr expected bad) s = .next t ∧ t.secu.run = none ∧ t.flag F.BT_STATUS_busy = false
          ∧ t.pair R.BT_MISR_LO R.BT_MISR_HI = misr ∧ t.fld F.BT_RESULT_result = (if misr = expected then 1 else 2)
          ∧ t.flt.raised = s.flt.raised ++ (if bad then [[Flt.BT_RESTORE_FAIL.entry]] else [])
            ++ (if misr = expected then [] else [[Flt.BT_LBIST_FAIL.entry]])
          ∧ (bad = true → kind = 0 → index < 96 → s.held (islandOf index) = false →
            ∀ e, 128 * index ≤ e → e < 128 * index + 128 → (t.engine e).halted = true ∧ (t.engine e).reg 54 = 0)))
  ∧ (∀ (s : State) (value : Nat), let check := bits value 10 8
      let item := bits value 4 0
      (s.flag F.BT_STATUS_busy = true ∨ s.anaAllowed check item = false → ∃ t, exec (.analogueCheckGo value) s = .next t ∧ t.secu = s.secu
        ∧ t.fld F.BT_RESULT_reason = (if s.flag F.BT_STATUS_busy then 1 else 2) ∧ t.flt.raised = s.flt.raised ++ [[Flt.BT_REFUSED.entry]])
      ∧ (s.flag F.BT_STATUS_busy = false → s.anaAllowed check item = true → ∃ t, exec (.analogueCheckGo value) s = .next t
        ∧ t.secu = { s.secu with ana := some (check, item) } ∧ t.flag F.BT_STATUS_busy = true ∧ t.flag F.BT_ANA_RES_done = false ∧ t.flt = s.flt))
  ∧ (∀ (s : State) (worstItem worst : Nat) (fail : Bool) (sensors : List Nat),
      (s.secu.ana = none → exec (.analogueCheckDone worstItem worst fail sensors) s = .next s)
      ∧ (∀ check item, s.secu.ana = some (check, item) → ∃ t, exec (.analogueCheckDone worstItem worst fail sensors) s = .next t
        ∧ t.secu = { s.secu with ana := none } ∧ t.flag F.BT_STATUS_busy = false ∧ t.flag F.BT_ANA_RES_done = true ∧ t.flag F.BT_ANA_RES_fail = fail
        ∧ t.fld F.BT_ANA_RES_worst_item = worstItem % 256 ∧ t.fld F.BT_ANA_RES_worst = min worst 65535
        ∧ (fail = true → t.flt.raised.getLast? = some [Flt.BT_ANA_FAIL.entry [check, item]])
        ∧ (∀ n < 176, t.flag F.TH_SENSOR_failed n = (s.flag F.TH_SENSOR_failed n || decide (check = 2 ∧ n ∈ sensors)))))
  ∧ (∀ (s : State) (op : Nat), op < 256 →
      (op < 3 ∨ 8 ≤ op ∨ s.flag F.SEC_STATUS_scan = true → exec (.tapUpdateIr op) s = .next { s with secu := { s.secu with tap := op } })
      ∧ (3 ≤ op → op ≤ 7 → s.flag F.SEC_STATUS_scan = false → ∃ t, exec (.tapUpdateIr op) s = .next t ∧ t.secu.tap = op
        ∧ ∃ w, t.secu.wipe = some w ∧ AfterWipe.scan ∈ w.after ∧ (s.secu.wipe = none → w = { source := 3, after := [.scan] })))
  ∧ ∀ s : State, exec .tapReset s = .next { s with secu := { s.secu with tap := 1 } }
      ∧ (∃ t, exec .trngHealthFail s = .next t ∧ t.flag F.SEC_STATUS_trng_ok = false ∧ t.flt.raised = s.flt.raised ++ [[Flt.SEC_TRNG_FAIL.entry]]
        ∧ t = { s with csr := t.csr, flt := t.flt })
      ∧ ∃ t, exec .trngHealthRecover s = .next t ∧ t.flag F.SEC_STATUS_trng_ok = true ∧ t = { s with csr := t.csr }

/-- A wipe empties the key slots and the tree key, invalidates the counter cache without write-back, discards the write buffers, clears the secure region, takes every encrypted region's initialised state and records SEC_WIPED with its source, and what asked for it follows. A tamper source that is enabled sets its bit, records SEC_TAMPER, makes a wipe and with erase kills every secret; in D4 it is latched. A transition needs a target above lc and confirm = 0x4C00 + target; after its wipe the fuse is burned, every secret is killed for the targets 3 and 4, and a start-up follows (R603 to R608). -/
def Obligations.LifeCycleAndWipes : Prop :=
  (∀ s : State, (s.secu.wipe = none → exec .wipeDone s = .next s)
      ∧ ∀ w, s.secu.wipe = some w → ∃ t, exec .wipeDone s = .next t ∧ t.secu.wipe = none ∧ t.flag F.SEC_STATUS_wiping = false
        ∧ t.flag F.MEM_STATUS_secure_wipe = false ∧ t.mee.active = [] ∧ t.mee.keys = [] ∧ t.mee.treeKey = 0 ∧ t.mee.cache = [] ∧ t.mee.writes = []
        ∧ t.mem.secure = [] ∧ (∀ r < 32, s.fld F.MEE_REG_CFG_mode r ≠ 0 → t.flag F.MEE_REG_CFG_init r = false)
        ∧ (w.after = [.nothing] → t.flt.raised = s.flt.raised ++ [[Flt.SEC_WIPED.entry [w.source]]] ∧ t.secu = { s.secu with wipe := none })
        ∧ (w.after = [.scan] → t.flag F.SEC_STATUS_scan = true ∧ t.flag F.DEV_STATUS_done = false ∧ ∀ k < 48, t.held k = true)
        ∧ (w.after = [.startUp] → t.stu.hold = true ∧ t.flag F.DEV_STATUS_done = false)
        ∧ (∀ target, w.after = [.burn target] → t.secu.burn = some target
          ∧ t.secu.secrets = (if 3 ≤ target then [] else s.secu.secrets)
          ∧ t.secu.killed = s.secu.killed + (if 3 ≤ target then s.secu.secrets.length else 0)))
  ∧ (∀ (s : State) (mask : Nat), let m := mask &&& s.fld F.SEC_TAMPER_CFG_en
      (m = 0 → exec (.tamper mask) s = .next s)
      ∧ (m ≠ 0 → s.pm.off = true → exec (.tamper mask) s = .next { s with secu := { s.secu with latched := s.secu.latched ||| m } })
      ∧ (m ≠ 0 → s.pm.off = false → ∃ t, exec (.tamper mask) s = .next t ∧ t.fld F.SEC_TAMPER_STAT_fired = s.fld F.SEC_TAMPER_STAT_fired ||| m
        ∧ s.flt.raised ++ [[Flt.SEC_TAMPER.entry]] <+: t.flt.raised
        ∧ t.secu.secrets = (if s.flag F.SEC_TAMPER_CFG_erase then [] else s.secu.secrets)
        ∧ ∃ w, t.secu.wipe = some w ∧ w.after.getLast? = some (if s.flag F.SEC_TAMPER_CFG_reset then AfterWipe.startUp else .nothing)
          ∧ (s.secu.wipe = none → w.source = 0)))
  ∧ (∀ (s : State) (value : Nat), let target := bits value 2 0
      (target ≤ 4 → s.secu.lc < target → bits value 31 16 = 0x4C00 + target → s.secu.burn = none → s.flag F.SEC_STATUS_busy = false →
        s.secu.wipe = none → s.secu.run = none → ∃ t, exec (.lcTransition value) s = .next t
          ∧ t.secu = { s.secu with wipe := some { source := 1, after := [.burn target] } }
          ∧ t.flag F.SEC_STATUS_busy = true ∧ t.flag F.SEC_STATUS_wiping = true ∧ t = { s with secu := t.secu, csr := t.csr })
      ∧ (4 < target ∨ target ≤ s.secu.lc ∨ bits value 31 16 ≠ 0x4C00 + target →
        exec (.lcTransition value) s = .next (s.raise Flt.SEC_CMD_REFUSED)))
  ∧ (∀ (s : State) (good : Bool), (s.secu.burn = none → exec (.fuseBurnDone good) s = .next s)
      ∧ ∀ target, s.secu.burn = some target → ∃ t, exec (.fuseBurnDone good) s = .next t
        ∧ t.secu = { s.secu with burn := none, lc := if good then max target s.secu.lc else s.secu.lc }
        ∧ t.stu.hold = true ∧ t.flag F.DEV_STATUS_done = false ∧ t.flag F.CFG_STATUS_done_pin = false)
  ∧ ∀ s : State, ∃ t, exec .secWipeCmd s = .next t ∧ t.fld F.SEC_CMD_STAT_status = 0
      ∧ ∃ w, t.secu.wipe = some w ∧ AfterWipe.nothing ∈ w.after ∧ (s.secu.wipe = none → w = { source := 4, after := [.nothing] }
        ∧ t.flag F.SEC_STATUS_wiping = true ∧ t.flag F.MEM_STATUS_secure_wipe = true)

/-- PROG_SLOT burns the hash it reads into an unprogrammed slot, in the states MANUFACTURE and DEVELOP; REVOKE burns the revoked fuse, unless no live slot would be left; PROVISION imports a secret under a label that is free; KILL makes it unreadable; GET_DEVPUB writes the public key; FACTORY_WRITE replaces the factory record in MANUFACTURE and test mode. A command that ends with a status other than 0 records SEC_CMD_REFUSED and burns nothing (R604, R609 to R611, R615). -/
def Obligations.KeyStoreCommands : Prop :=
  (∀ (s : State) (slot : Nat), slot < 4 →
      (2 ≤ s.secu.lc ∨ NSet.has s.secu.slotProg slot = true → ∀ good, ∃ t, exec (.progSlot slot good) s = .next t
        ∧ t.fld F.SEC_CMD_STAT_status = (if 2 ≤ s.secu.lc then 1 else 2) ∧ t.secu = s.secu
        ∧ t.flt.raised = s.flt.raised ++ [[Flt.SEC_CMD_REFUSED.entry]])
      ∧ (s.secu.lc < 2 → NSet.has s.secu.slotProg slot = false → ∀ r u, s.devRead 1 s.secAddr 48 = (r, u) →
        (r = none → ∀ good, ∃ t, exec (.progSlot slot good) s = .next t ∧ t.fld F.SEC_CMD_STAT_status = 3 ∧ t.secu = u.secu)
        ∧ (∀ b, r = some b → (∃ t, exec (.progSlot slot false) s = .next t ∧ t.fld F.SEC_CMD_STAT_status = 5 ∧ t.secu = u.secu)
          ∧ ∃ t, exec (.progSlot slot true) s = .next t ∧ t.fld F.SEC_CMD_STAT_status = 0 ∧ NSet.has t.secu.slotProg slot = true
            ∧ SMap.get 0 t.secu.slotHash slot = leNat b ∧ t.flag (F.SEC_SLOT_programmed.nth slot) = true
            ∧ (∀ n, n ≠ slot → NSet.has t.secu.slotProg n = NSet.has u.secu.slotProg n
              ∧ SMap.get 0 t.secu.slotHash n = SMap.get 0 u.secu.slotHash n)
            ∧ t = { u with secu := { u.secu with slotProg := t.secu.slotProg, slotHash := t.secu.slotHash }, csr := t.csr }))
      ∧ (let live := fun (n : Nat) => NSet.has s.secu.slotProg n && !NSet.has s.secu.slotRev n
        (4 ≤ s.secu.lc ∨ live slot = false ∨ (∀ n < 4, n ≠ slot → live n = false) → ∀ good, ∃ t, exec (.revoke slot good) s = .next t
          ∧ t.fld F.SEC_CMD_STAT_status = (if 4 ≤ s.secu.lc then 1 else 2) ∧ t.secu = s.secu
          ∧ t.flt.raised = s.flt.raised ++ [[Flt.SEC_CMD_REFUSED.entry]])
        ∧ (s.secu.lc < 4 → live slot = true → (∃ n, n < 4 ∧ n ≠ slot ∧ live n = true) →
          (∃ t, exec (.revoke slot false) s = .next t ∧ t.fld F.SEC_CMD_STAT_status = 5 ∧ t.secu = s.secu)
          ∧ ∃ t, exec (.revoke slot true) s = .next t ∧ t.fld F.SEC_CMD_STAT_status = 0 ∧ t.flag (F.SEC_SLOT_revoked.nth slot) = true
            ∧ t = { s with secu := { s.secu with slotRev := NSet.put s.secu.slotRev slot true }, csr := t.csr })))
  ∧ (∀ (s : State) (label : Nat),
      (2 ≤ s.secu.lc ∨ label = 0 ∨ SMap.get none s.secu.secrets label ≠ none ∨ 32 ≤ s.secu.secrets.length + s.secu.killed →
        ∀ good, ∃ t, exec (.provision label good) s = .next t ∧ t.fld F.SEC_CMD_STAT_status = (if 2 ≤ s.secu.lc then 1 else 2)
          ∧ t.secu = s.secu ∧ t.flt.raised = s.flt.raised ++ [[Flt.SEC_CMD_REFUSED.entry]])
      ∧ (s.secu.lc < 2 → label ≠ 0 → SMap.get none s.secu.secrets label = none → s.secu.secrets.length + s.secu.killed < 32 →
        ∀ b u, s.devRead 1 s.secAddr 160 = (some b, u) →
        ((slice b 97 3).all (fun x => decide (x = 0)) = false ∨ Config.unwrapSecret b label = none → ∀ good,
          ∃ t, exec (.provision label good) s = .next t ∧ t.fld F.SEC_CMD_STAT_status = 3 ∧ t.secu = u.secu)
        ∧ (∀ v, (slice b 97 3).all (fun x => decide (x = 0)) = true → Config.unwrapSecret b label = some v →
          ∃ t, exec (.provision label true) s = .next t ∧ t.fld F.SEC_CMD_STAT_status = 0
            ∧ t = { u with secu := { u.secu with secrets := SMap.set none u.secu.secrets label (some v) }, csr := t.csr }))
      ∧ (s.secu.lc < 4 → SMap.get none s.secu.secrets label ≠ none →
        ∃ t, exec (.kill label true) s = .next t ∧ t.fld F.SEC_CMD_STAT_status = 0 ∧ SMap.get none t.secu.secrets label = none
          ∧ t = { s with secu := { s.secu with secrets := t.secu.secrets, killed := s.secu.killed + 1 }, csr := t.csr }
          ∧ ∀ l, l ≠ label → SMap.get none t.secu.secrets l = SMap.get none s.secu.secrets l)
      ∧ (4 ≤ s.secu.lc ∨ SMap.get none s.secu.secrets label = none → ∀ good, ∃ t, exec (.kill label good) s = .next t
        ∧ t.fld F.SEC_CMD_STAT_status = (if 4 ≤ s.secu.lc then 1 else 2) ∧ t.secu = s.secu))
  ∧ (∀ s : State, ∀ r, s.devWrite 1 s.secAddr (leBytes 97 Config.devPub) = r →
      ∃ t, exec .getDevpub s = .next t ∧ t.fld F.SEC_CMD_STAT_status = (if r.1 then 0 else 3) ∧ (r.1 = true → t = { r.2 with csr := t.csr }))
  ∧ ∀ s : State,
      (s.secu.lc ≠ 0 ∨ s.testMode = false → ∀ good, ∃ t, exec (.factoryWrite good) s = .next t ∧ t.fld F.SEC_CMD_STAT_status = 1
        ∧ t.stu = s.stu ∧ t.flt.raised = s.flt.raised ++ [[Flt.SEC_CMD_REFUSED.entry]])
      ∧ (s.secu.lc = 0 → s.testMode = true → ∀ b u, s.devRead 1 s.secAddr 4096 = (some b, u) →
        (factoryGood b = false → ∀ good, ∃ t, exec (.factoryWrite good) s = .next t ∧ t.fld F.SEC_CMD_STAT_status = 3 ∧ t.stu = u.stu)
        ∧ (factoryGood b = true → (∃ t, exec (.factoryWrite true) s = .next t ∧ t.fld F.SEC_CMD_STAT_status = 0
            ∧ t.stu = { u.stu with factory := some b } ∧ t = { u with stu := t.stu, csr := t.csr })
          ∧ ∃ t, exec (.factoryWrite false) s = .next t ∧ t.fld F.SEC_CMD_STAT_status = 5))

/-- A frame that leaves work raises the shed level, and 16 clean ones lower it; a missed heartbeat or a lockstep mismatch starts a warm reset, and the third within 1 s leaves the complex dead. A post writes the producer index and stops the ring where it overruns. The command at the front of the ring is taken, carried out where the version has been negotiated and its minor allows it, and answered. A frame of the monitor is accepted where its CRC holds, a repeated one gets the cached response; the request at the front is executed where its payload has its size and HELLO has set a minor that has it. GET_VERSION, HELLO, BREAK, ENG_SIGNAL, ENG_CTRL, SETTINGS and REBOOT do what they say (R566 to R590, R490). -/
def Obligations.MailboxAndMonitor : Prop :=
  (∀ (s : State) (left done : Bool) (idle safety busy : Nat),
      (s.mgtRuns = false → exec (.mgmtFrame left done idle safety busy) s = .next s)
      ∧ (s.mgtRuns = true → ∃ t, exec (.mgmtFrame left done idle safety busy) s = .next t
        ∧ t.shed = (if left then min 3 (s.shed + 1) else if idle < 100 ∨ s.mgt.cleanFrames + 1 < 16 then s.shed else s.shed - 1)
        ∧ t.mgt.cleanFrames = (if left = false ∧ 100 ≤ idle ∧ s.mgt.cleanFrames + 1 < 16 then s.mgt.cleanFrames + 1 else 0)
        ∧ t.mgt.kicked = (if done then s.time.ns else s.mgt.kicked)
        ∧ t.flt.raised = s.flt.raised ++ (if left = true ∧ s.shed < 3 then [[Flt.MGT_SHED.entry [] 1]] else [])
        ∧ (s.shed = 0 → t.fld F.MB_LOAD_safety_us = safety % 1024 ∧ t.fld F.MB_LOAD_busy_us = busy % 1024)))
  ∧ (∀ (s : State) (x : Bool) (c : Bool → Instr) (f : FaultCode), (c, f) ∈ [(Instr.heartbeatMiss, Flt.MGT_HEARTBEAT), (.lockstepMismatch, Flt.MGT_LOCKSTEP)] →
      (s.mgtRuns = false → exec (c x) s = .next s)
      ∧ (s.mgtRuns = true → ∃ t, exec (c x) s = .next t ∧ t.mgt.warm = true ∧ t.mgt.warmTimes = s.time.ns :: s.mgt.warmTimes ∧ t.shed = 0
        ∧ t.mgt.requests = [] ∧ t.mgt.cache = [] ∧ t.mgt.monMinor = none ∧ s.flt.raised ++ [[f.entry]] <+: t.flt.raised))
  ∧ (∀ s : State, (s.mgt.warm = false → exec .heartwoodRestart s = .next s)
      ∧ (s.mgt.warm = true → s.flag F.MB_STATUS_dead = false → s.thirdReset = true → ∃ t, exec .heartwoodRestart s = .next t
        ∧ t.flag F.MB_STATUS_dead = true ∧ t.mgt.warm = true ∧ t.flt.raised = s.flt.raised ++ [[Flt.MGT_DEAD.entry]])
      ∧ (s.mgt.warm = true → s.flag F.MB_STATUS_dead = false → s.thirdReset = false → ∃ t, exec .heartwoodRestart s = .next t ∧ t.mgt.warm = false
        ∧ t.mgt.kicked = s.time.ns ∧ (s.mgt.executing = none → t = { s with mgt := { s.mgt with warm := false, executing := none, kicked := s.time.ns } })))
  ∧ (∀ (s : State) (prod : Nat), ∃ t, exec (.mbCmdPost prod) s = .next t ∧ t.fld F.MB_CMD_IDX_prod = prod % 65536
      ∧ t.flag F.MB_STATUS_ring_err = (s.flag F.MB_STATUS_ring_err || decide (256 < (prod % 65536 + 65536 - s.fld F.MB_CMD_IDX_cons) % 65536))
      ∧ (s.devState = 0 → t = { s with csr := t.csr, flt := t.flt }))
  ∧ (∀ s : State, ∃ t, exec .mbResetRing s = .next t ∧ t.reg R.MB_CMD_IDX = 0 ∧ t.reg R.MB_RSP_IDX = 0 ∧ t.flag F.MB_STATUS_ring_err = false
      ∧ t = { s with csr := t.csr })
  ∧ (∀ (s : State) (op minor : Nat) (c : Instr) (f : State → List Byte → MbAnswer × State),
      ((∃ good, c = .setSettings good ∧ op = 4 ∧ minor = 0 ∧ f = State.mbSetSettings good)
        ∨ (op, minor, c, f) ∈ [(1, 0, Instr.getVersion, State.mbVersion), (2, 0, .getFactory, fun t e => t.mbBulk e t.factoryPublic []),
          (3, 0, .getSettings, State.mbSettings), (6, 0, .getVxMap, State.mbVxMap), (7, 0, .getFaults, State.mbFaults),
          (8, 0, .engSignal, State.mbSignal), (9, 1, .flowOp, State.mbFlowOp), (10, 2, .readCapture, State.mbCapture)]) →
      (s.mbReady = false ∨ mbOpcode s.mbEntry ≠ op → exec c s = .next s)
      ∧ (s.mbReady = true → mbOpcode s.mbEntry = op →
        let e := s.mbEntry
        (op ≠ 1 → s.flag F.MB_STATUS_negotiated = false → exec c s = .next (s.mbTake.mbRespond op (mbTag e) { status := 3 }))
        ∧ (op ≠ 1 → s.flag F.MB_STATUS_negotiated = true → s.fld F.MB_VERSION_minor < minor →
          exec c s = .next (s.mbTake.mbRespond op (mbTag e) { status := 1 }))
        ∧ (op = 1 ∨ s.flag F.MB_STATUS_negotiated = true ∧ minor ≤ s.fld F.MB_VERSION_minor →
          exec c s = .next ((f s.mbTake e).2.mbRespond op (mbTag e) (f s.mbTake e).1))))
  ∧ (∀ s : State, s.mbReady = true → mbOpcode s.mbEntry = 5 → s.flag F.MB_STATUS_negotiated = true →
      ∃ t, exec .reboot s = .next t ∧ t.stu.hold = true ∧ t.flag F.DEV_STATUS_done = false
        ∧ t.fld F.MB_CMD_IDX_cons = (s.fld F.MB_CMD_IDX_cons + 1) % 65536)
  ∧ (∀ (s : State) (op tag : Nat) (a : MbAnswer), a.status < 256 → let p := s.fld F.MB_RSP_IDX_prod
      let t := s.mbRespond op tag a
      t.fld F.MB_RSP_IDX_prod = (p + 1) % 65536 ∧ t.bar2Get (0x4000 + p % 256 * 64) 2 = leBytes 2 op ∧ t.bar2Get (0x4002 + p % 256 * 64) 2 = leBytes 2 tag
        ∧ t.bar2Get (0x4004 + p % 256 * 64) 4 = leBytes 4 a.status ∧ t.bar2Get (0x4008 + p % 256 * 64) 4 = leBytes 4 a.len
        ∧ t.bar2Get (0x400C + p % 256 * 64) 52 = slice a.result 0 52)
  ∧ (∀ (s : State) (e : List Byte),
      (mbParam e 0 1 ≠ 2 → s.mbVersion e = ({ status := 4 }, s))
      ∧ (mbParam e 0 1 = 2 → (s.mbVersion e).1.status = 0 ∧ (s.mbVersion e).2.flag F.MB_STATUS_negotiated = true
        ∧ (s.mbVersion e).2.fld F.MB_VERSION_minor = min (mbParam e 1 1) 2 ∧ (s.mbVersion e).2.fld F.MB_VERSION_major = 2)
      ∧ (mbParam e 0 2 < 12288 → ((s.mbSignal e).2.engine (mbParam e 0 2)).mboxPend = true))
  ∧ (∀ (s : State) (data : List Byte) (good : Bool),
      (fieldAt data 0 4 ≠ 0x52535A43 → s.settingsWrite data good = (2, s))
      ∧ (fieldAt data 0 4 = 0x52535A43 → (s.settingsWrite data true).1 = 0 ∧ (s.settingsWrite data false).1 = 7
        ∧ settingsValid (some (s.settingsBytes data)) = true
        ∧ settingsSeq (some (s.settingsBytes data)) = (match s.stu.settings with | some b => (fieldAt b 8 4 + 1) % 2 ^ 32 | none => 1)
        ∧ ((s.settingsWrite data true).2 = { s with stu := { s.stu with setA := some (s.settingsBytes data) } }
          ∨ (s.settingsWrite data true).2 = { s with stu := { s.stu with setB := some (s.settingsBytes data) } })))
  ∧ (∀ (seq cmd : Nat) (p rest : List Byte), seq < 256 → cmd < 256 → p.length ≤ 1024 →
      monReceive (monFrameBytes seq cmd p ++ rest) = .frame seq cmd p rest)
  ∧ (∀ (s : State) (tr seq cmd : Nat) (p b : List Byte), tr < 2 → s.monOpen tr = true → s.devState = 0 →
      (monReceive b = .frame seq cmd p [] →
        (SMap.get none s.mgt.cache tr = none → s.shed < 2 → monKnown cmd = true → ∃ t, exec (.monFrame tr b) s = .next t
          ∧ t.mgt.requests = s.mgt.requests ++ [⟨tr, seq, cmd, p⟩] ∧ t = { s with mgt := { s.mgt with requests := t.mgt.requests }, csr := t.csr })
        ∧ (SMap.get none s.mgt.cache tr = none → 2 ≤ s.shed → ∃ t, exec (.monFrame tr b) s = .next t ∧ t.mgt = s.mgt
          ∧ t.out = .monitor tr (monFrameBytes seq (cmd + 0x80) [3]) :: s.out)
        ∧ (∀ r, SMap.get none s.mgt.cache tr = some ⟨seq, cmd, r⟩ → ∃ t, exec (.monFrame tr b) s = .next t ∧ t.mgt = s.mgt ∧ t.out = .monitor tr r :: s.out))
      ∧ (∀ rest, monReceive b = .bad rest → ∃ t, exec (.monFrame tr b) s = .next t ∧ t.flag F.MON_STATUS_frame_err = true
        ∧ t.fld F.MON_CNT_bad = satAdd 16 (s.fld F.MON_CNT_bad) 1 ∧ t.mgt = s.mgt))
  ∧ (∀ s : State, (s.monOpen 0 = false → exec .monFrameGapTimeout s = .next s)
      ∧ (s.monOpen 0 = true → ∃ t, exec .monFrameGapTimeout s = .next t ∧ t.flag F.MON_STATUS_frame_err = true)
      ∧ ∀ a, (s.monOpen 1 = false → exec (.i3cDynamicAddress a) s = .next s)
        ∧ (s.monOpen 1 = true → ∃ t, exec (.i3cDynamicAddress a) s = .next t ∧ t.mgt.i3cAddr = some (a % 128) ∧ t.flag F.MON_STATUS_i3c_dyn = true))
  ∧ (∀ (s : State) (cmd minor : Nat) (size : Nat → Bool) (c : Instr) (f : State → List Byte → Nat × List Byte × State) (r : MonReq) (l : List MonReq),
      s.mgtRuns = true → s.mgt.requests = r :: l → r.cmd = cmd →
      ((∃ good, c = .settings good ∧ cmd = 11 ∧ minor = 0 ∧ size = (fun n => decide (3 ≤ n)) ∧ f = State.monSettings good)
        ∨ (cmd, minor, size, c, f) ∈ [(1, 0, fun n => decide (n = 2), Instr.hello, State.monHello), (2, 0, fun n => decide (n = 5), .readReg, State.monReadReg true),
          (3, 0, fun n => decide (n = 5), .readRegLive, State.monReadReg false), (4, 0, fun n => decide (n = 8), .writeReg, State.monWriteReg),
          (5, 0, fun n => decide (n = 10), .readMem, State.monRead), (6, 0, fun n => decide (9 ≤ n), .writeMem, State.monWrite),
          (8, 0, fun n => decide (n = 6), .breakCmd, State.monBreak), (9, 0, fun n => decide (n = 2), .monEngSignal, State.monSignal),
          (10, 0, fun n => decide (n = 4), .monGetFaults, State.monFaults), (12, 0, fun n => decide (n = 0), .monGetFactory, fun t _ => (0, t.factoryPublic, t)),
          (14, 0, fun n => decide (n = 2), .monGetVxMap, State.monVxMap), (16, 1, fun n => decide (n = 13), .capture, State.monCapture),
          (17, 1, fun n => decide (n = 6), .monReadCapture, State.monReadCapture)]) →
      let t := s.updMgt fun m => { m with requests := l }
      (cmd ≠ 1 ∧ s.mgt.monMinor = none ∨ (∃ m, s.mgt.monMinor = some m ∧ m < minor) → exec c s = .next ((t.monRespond r 1 []).srcSince s 3))
      ∧ (cmd = 1 ∧ s.mgt.monMinor = none ∨ (∃ m, s.mgt.monMinor = some m ∧ minor ≤ m) →
        (size r.payload.length = false → exec c s = .next ((t.monRespond r 2 []).srcSince s 3))
        ∧ (size r.payload.length = true → exec c s = .next (((f t r.payload).2.2.monRespond r (f t r.payload).1 (f t r.payload).2.1).srcSince s 3))))
  ∧ (∀ (s : State) (p : List Byte),
      (fieldAt p 0 1 ≠ 1 → s.monHello p = (4, [], s))
      ∧ (fieldAt p 0 1 = 1 → (s.monHello p).1 = 0 ∧ (s.monHello p).2.2.mgt.monMinor = some (min (fieldAt p 1 1) 1))
      ∧ (fieldAt p 0 2 < 12288 → fieldAt p 2 1 ≤ 3 → fieldAt p 3 1 ≤ 1 → fieldAt p 4 2 ≤ 1023 → (s.monBreak p).1 = 0
        ∧ (s.monBreak p).2.2.fld (F.MON_BP_addr.nth (fieldAt p 2 1)) (fieldAt p 0 2) = fieldAt p 4 2
        ∧ (s.monBreak p).2.2.flag (F.MON_BP_en.nth (fieldAt p 2 1)) (fieldAt p 0 2) = decide (fieldAt p 3 1 = 1)))
  ∧ ∀ (s : State) (r : MonReq) (l : List MonReq), s.mgtRuns = true → s.mgt.requests = r :: l → s.mgt.monMinor ≠ none →
      let e := fieldAt r.payload 0 2
      (r.cmd = 7 → r.payload.length = 3 → e < 12288 → s.mgt.ctrlSince = none → s.held (engIsland e) = false →
        (fieldAt r.payload 2 1 = 1 → (s.engine e).halted = true → ∃ t, exec .engCtrl s = .next t ∧ t.mgt.requests = l ∧ t.eng = s.eng)
        ∧ (fieldAt r.payload 2 1 = 1 → (s.engine e).halted = false → ∃ t, exec .engCtrl s = .next t ∧ t.mgt.requests = r :: l
          ∧ t.mgt.ctrlSince = some s.time.ns ∧ (t.engine e).cmdHalt = true)
        ∧ (fieldAt r.payload 2 1 = 2 → (s.engine e).halted = true → ∃ t, exec .engCtrl s = .next t ∧ t.mgt.requests = l ∧ (t.engine e).halted = false)
        ∧ (fieldAt r.payload 2 1 = 4 → ∃ t, exec .engCtrl s = .next t ∧ t.mgt.requests = l ∧ (t.engine e).halted = true ∧ (t.engine e).cause = 8))
      ∧ (r.cmd = 7 → ∀ x, s.mgt.ctrlSince = some x → s.engState e % 8 ≠ 1 → ∃ t, exec .engCtrlPending s = .next t ∧ t.mgt.requests = l
        ∧ t.mgt.ctrlSince = none ∧ t.eng = s.eng)
      ∧ (r.cmd = 13 → r.payload = [] → ∃ t, exec .monReboot s = .next t ∧ t.stu.hold = true ∧ t.flag F.DEV_STATUS_done = false)
end

