-- ==== Sys2Proof/Laws/Bits.lean ====
section
/-! SUPPORT. A field of a register written and read. -/

namespace Sys2Proof.Machine

theorem putBits_low (v hi lo x : Nat) (h : lo ≤ hi) :
    putBits v hi lo x % 2 ^ lo = v % 2 ^ lo := by
  obtain ⟨k, rfl⟩ := Nat.exists_eq_add_of_le h
  unfold putBits
  have e1 : (2:ℕ) ^ (lo + k + 1) = 2 ^ lo * 2 ^ (k + 1) := by rw [← pow_add]; ring_nf
  rw [e1, show v / (2 ^ lo * 2 ^ (k + 1)) * (2 ^ lo * 2 ^ (k + 1)) + x % 2 ^ (lo + k + 1 - lo) * 2 ^ lo + v % 2 ^ lo
      = v % 2 ^ lo + 2 ^ lo * (v / (2 ^ lo * 2 ^ (k + 1)) * 2 ^ (k + 1) + x % 2 ^ (lo + k + 1 - lo)) by ring]
  rw [Nat.add_mul_mod_self_left, Nat.mod_mod]

theorem putBits_div (v hi lo x : Nat) (h : lo ≤ hi) :
    putBits v hi lo x / 2 ^ lo = v / 2 ^ (hi + 1) * 2 ^ (hi + 1 - lo) + x % 2 ^ (hi + 1 - lo) := by
  obtain ⟨k, rfl⟩ := Nat.exists_eq_add_of_le h
  unfold putBits
  have e1 : (2:ℕ) ^ (lo + k + 1) = 2 ^ lo * 2 ^ (k + 1) := by rw [← pow_add]; ring_nf
  have e2 : lo + k + 1 - lo = k + 1 := by omega
  rw [e2, e1, show v / (2 ^ lo * 2 ^ (k + 1)) * (2 ^ lo * 2 ^ (k + 1)) + x % 2 ^ (k + 1) * 2 ^ lo + v % 2 ^ lo
      = v % 2 ^ lo + 2 ^ lo * (v / (2 ^ lo * 2 ^ (k + 1)) * 2 ^ (k + 1) + x % 2 ^ (k + 1)) by ring]
  rw [Nat.add_mul_div_left _ _ (by positivity), Nat.div_eq_of_lt (Nat.mod_lt _ (by positivity)), Nat.zero_add]

/-- A field just written reads as the low bits of what was written. -/
theorem bits_putBits_same (v hi lo x : Nat) (h : lo ≤ hi) : bits (putBits v hi lo x) hi lo = x % 2 ^ (hi + 1 - lo) := by
  unfold bits
  rw [putBits_div v hi lo x h, Nat.mul_comm, Nat.mul_add_mod, Nat.mod_mod]

/-- A field below the one written keeps its value. -/
theorem bits_putBits_below (v hi lo x hi2 lo2 : Nat) (h : lo ≤ hi) (h2 : hi2 < lo) :
    bits (putBits v hi lo x) hi2 lo2 = bits v hi2 lo2 := by
  unfold bits
  by_cases hl : hi2 + 1 ≤ lo2
  · rw [Nat.sub_eq_zero_of_le hl]; simp [Nat.mod_one]
  · have hm : ∀ n : Nat, n / 2 ^ lo2 % 2 ^ (hi2 + 1 - lo2) = n % 2 ^ lo / 2 ^ lo2 % 2 ^ (hi2 + 1 - lo2) := by
      intro n
      have e : lo = lo2 + ((hi2 + 1 - lo2) + (lo - hi2 - 1)) := by omega
      conv_rhs => rw [e, pow_add, Nat.mod_mul_right_div_self, pow_add, Nat.mod_mul_right_mod]
    rw [hm (putBits v hi lo x), putBits_low v hi lo x h, ← hm v]

/-- A field above the one written keeps its value. -/
theorem bits_putBits_above (v hi lo x hi2 lo2 : Nat) (h : lo ≤ hi) (h2 : hi < lo2) :
    bits (putBits v hi lo x) hi2 lo2 = bits v hi2 lo2 := by
  unfold bits
  have hd : putBits v hi lo x / 2 ^ (hi + 1) = v / 2 ^ (hi + 1) := by
    have e : (2:ℕ) ^ (hi + 1) = 2 ^ lo * 2 ^ (hi + 1 - lo) := by rw [← pow_add]; congr 1; omega
    rw [e, ← Nat.div_div_eq_div_mul, putBits_div v hi lo x h, ← e, Nat.mul_comm,
      Nat.mul_add_div (by positivity), Nat.div_eq_of_lt (Nat.mod_lt _ (by positivity)), Nat.add_zero]
  have e : lo2 = (hi + 1) + (lo2 - hi - 1) := by omega
  rw [e, pow_add, ← Nat.div_div_eq_div_mul, hd, Nat.div_div_eq_div_mul]

/-- A field written stays within 32 bits. -/
theorem putBits_lt (v hi lo x n : Nat) (hv : v < 2 ^ n) (h : lo ≤ hi) (hn : hi < n) : putBits v hi lo x < 2 ^ n := by
  have hd : putBits v hi lo x / 2 ^ lo < 2 ^ (n - lo) := by
    rw [putBits_div v hi lo x h]
    have h1 : v / 2 ^ (hi + 1) < 2 ^ (n - hi - 1) := by
      rw [Nat.div_lt_iff_lt_mul (by positivity), ← pow_add]
      exact lt_of_lt_of_le hv (Nat.pow_le_pow_right (by decide) (by omega))
    have h2 : x % 2 ^ (hi + 1 - lo) < 2 ^ (hi + 1 - lo) := Nat.mod_lt _ (by positivity)
    have e : n - lo = (n - hi - 1) + (hi + 1 - lo) := by omega
    calc v / 2 ^ (hi + 1) * 2 ^ (hi + 1 - lo) + x % 2 ^ (hi + 1 - lo)
        < v / 2 ^ (hi + 1) * 2 ^ (hi + 1 - lo) + 2 ^ (hi + 1 - lo) := by omega
      _ = (v / 2 ^ (hi + 1) + 1) * 2 ^ (hi + 1 - lo) := by ring
      _ ≤ 2 ^ (n - hi - 1) * 2 ^ (hi + 1 - lo) := Nat.mul_le_mul_right _ h1
      _ = 2 ^ (n - lo) := by rw [← pow_add, ← e]
  rw [Nat.div_lt_iff_lt_mul (by positivity), ← pow_add] at hd
  exact lt_of_lt_of_le hd (Nat.pow_le_pow_right (by decide) (by omega))

theorem mix_step (o w m : Nat) : mix o w m = 2 * mix (o / 2) (w / 2) (m / 2) + (if m % 2 = 1 then w % 2 else o % 2) := by
  unfold mix
  have a1 := Nat.and_le_left (n := o) (m := m)
  have a2 := Nat.and_le_left (n := o / 2) (m := m / 2)
  have d1 : (o &&& m) / 2 = o / 2 &&& m / 2 := by simpa using Nat.and_div_two_pow (a := o) (b := m) (n := 1)
  have d2 : (w &&& m) / 2 = w / 2 &&& m / 2 := by simpa using Nat.and_div_two_pow (a := w) (b := m) (n := 1)
  have m1 : (o &&& m) % 2 = o % 2 &&& m % 2 := by simpa using Nat.and_mod_two_pow (a := o) (b := m) (n := 1)
  have m2 : (w &&& m) % 2 = w % 2 &&& m % 2 := by simpa using Nat.and_mod_two_pow (a := w) (b := m) (n := 1)
  rcases Nat.mod_two_eq_zero_or_one m with h | h <;> rcases Nat.mod_two_eq_zero_or_one o with h2 | h2 <;>
    rcases Nat.mod_two_eq_zero_or_one w with h3 | h3 <;> (simp only [h, h2, h3, Nat.and_zero, Nat.zero_and, Nat.and_self] at m1 m2 ⊢; simp only [if_true, if_false, OfNat.zero_ne_ofNat, zero_ne_one]; omega)

/-- A written bit where the mask has it, an old bit elsewhere. -/
theorem testBit_mix (o w m i : Nat) : (mix o w m).testBit i = if m.testBit i then w.testBit i else o.testBit i := by
  induction i generalizing o w m with
  | zero =>
    rw [mix_step]
    simp only [Nat.testBit_zero]
    rcases Nat.mod_two_eq_zero_or_one m with h | h <;> simp [h]
  | succ n ih =>
    simp only [Nat.testBit_succ]
    rw [mix_step]
    have : (2 * mix (o / 2) (w / 2) (m / 2) + (if m % 2 = 1 then w % 2 else o % 2)) / 2 = mix (o / 2) (w / 2) (m / 2) := by
      split <;> omega
    rw [this, ih]

theorem testBit_bits (v hi lo i : Nat) : (bits v hi lo).testBit i = (decide (i < hi + 1 - lo) && v.testBit (lo + i)) := by
  unfold bits
  rw [Nat.testBit_mod_two_pow, Nat.testBit_div_two_pow, Nat.add_comm i lo]

/-- A field of which the mask has every bit holds what was written. -/
theorem bits_mix (o w m hi lo : Nat) (h : bits m hi lo = 2 ^ (hi + 1 - lo) - 1) : bits (mix o w m) hi lo = bits w hi lo := by
  apply Nat.eq_of_testBit_eq
  intro i
  rw [testBit_bits, testBit_bits, testBit_mix]
  have := congrArg (·.testBit i) h
  simp only [testBit_bits, Nat.testBit_two_pow_sub_one] at this
  by_cases hi' : i < hi + 1 - lo
  · simp only [hi', decide_true, Bool.true_and] at this ⊢
    simp [this]
  · simp [hi']

/-- A field below a power of two reads the same modulo it. -/
theorem bits_mod (v n hi lo : Nat) (h : hi < n) : bits (v % 2 ^ n) hi lo = bits v hi lo := by
  apply Nat.eq_of_testBit_eq
  intro i
  rw [testBit_bits, testBit_bits, Nat.testBit_mod_two_pow]
  by_cases hi' : i < hi + 1 - lo
  · rw [show (decide (lo + i < n)) = true from decide_eq_true (by omega), Bool.true_and]
  · simp [hi']

end Sys2Proof.Machine
end

