-- ==== Sys2Proof/Laws/SMap.lean ====
section
/-! SUPPORT. Laws of the maps: reading after writing, and that every operation keeps the canonical form. -/

namespace Sys2Proof.Machine

/-! ## Reading after writing -/

theorem SMap.get_erase_same {α : Type} (d : α) (m : SMap α) (k : Nat) : SMap.get d (m.erase k) k = d := by
  induction m with
  | nil => rfl
  | cons e m ih =>
    obtain ⟨j, a⟩ := e
    by_cases h : j = k <;> simp [SMap.erase, SMap.get, h, ih]

theorem SMap.get_erase_other {α : Type} (d : α) (m : SMap α) (k j : Nat) (h : j ≠ k) :
    SMap.get d (m.erase k) j = SMap.get d m j := by
  induction m with
  | nil => rfl
  | cons e m ih =>
    obtain ⟨i, a⟩ := e
    by_cases h1 : i = k
    · have : i ≠ j := fun e => h (e ▸ h1)
      simp [SMap.erase, SMap.get, h1, ih, Ne.symm h]
    · simp [SMap.erase, SMap.get, h1, ih]

theorem SMap.get_insert_same {α : Type} (d : α) (m : SMap α) (k : Nat) (v : α) : SMap.get d (m.insert k v) k = v := by
  induction m with
  | nil => simp [SMap.insert, SMap.get]
  | cons e m ih =>
    obtain ⟨i, a⟩ := e
    simp only [SMap.insert]
    split
    · simp [SMap.get]
    · split
      · simp [SMap.get]
      · rename_i h; simp [SMap.get, Ne.symm h, ih]

theorem SMap.get_insert_other {α : Type} (d : α) (m : SMap α) (k j : Nat) (v : α) (h : j ≠ k) :
    SMap.get d (m.insert k v) j = SMap.get d m j := by
  induction m with
  | nil => simp [SMap.insert, SMap.get, Ne.symm h]
  | cons e m ih =>
    obtain ⟨i, a⟩ := e
    simp only [SMap.insert]
    split
    · simp [SMap.get, Ne.symm h]
    · split
      · rename_i h1; subst h1; simp [SMap.get, Ne.symm h]
      · simp [SMap.get, ih]

/-- A value written is read back. -/
@[simp] theorem SMap.get_set_same {α : Type} [DecidableEq α] (d : α) (m : SMap α) (k : Nat) (v : α) :
    SMap.get d (SMap.set d m k v) k = v := by
  unfold SMap.set
  split
  · rename_i h; rw [SMap.get_erase_same, h]
  · exact SMap.get_insert_same d m k v

/-- A write leaves every other key as it was. -/
theorem SMap.get_set_other {α : Type} [DecidableEq α] (d : α) (m : SMap α) (k j : Nat) (v : α) (h : j ≠ k) :
    SMap.get d (SMap.set d m k v) j = SMap.get d m j := by
  unfold SMap.set
  split
  · exact SMap.get_erase_other d m k j h
  · exact SMap.get_insert_other d m k j v h

@[simp] theorem SMap.get_upd_same {α : Type} [DecidableEq α] (d : α) (m : SMap α) (k : Nat) (f : α → α) :
    SMap.get d (SMap.upd d m k f) k = f (SMap.get d m k) := by simp [SMap.upd]

theorem SMap.get_upd_other {α : Type} [DecidableEq α] (d : α) (m : SMap α) (k j : Nat) (f : α → α) (h : j ≠ k) :
    SMap.get d (SMap.upd d m k f) j = SMap.get d m j := by simp [SMap.upd, SMap.get_set_other, h]

@[simp] theorem NSet.has_put_same (m : NSet) (k : Nat) (b : Bool) : NSet.has (NSet.put m k b) k = b := by
  simp [NSet.has, NSet.put]

theorem NSet.has_put_other (m : NSet) (k j : Nat) (b : Bool) (h : j ≠ k) : NSet.has (NSet.put m k b) j = NSet.has m j := by
  simp [NSet.has, NSet.put, SMap.get_set_other, h]

/-! ## The canonical form -/

/-- The canonical form, said of the keys and of the values apart. -/
theorem SMap.wf_iff {α : Type} [DecidableEq α] (d : α) (m : SMap α) :
    SMap.wf d m = true ↔ (m.map (·.1)).Pairwise (· < ·) ∧ ∀ e ∈ m, e.2 ≠ d := by
  induction m with
  | nil => simp [SMap.wf]
  | cons e m ih =>
    obtain ⟨j, a⟩ := e
    cases m with
    | nil => simp [SMap.wf]
    | cons e2 m2 =>
      obtain ⟨k, b⟩ := e2
      rw [SMap.wf]
      simp only [Bool.and_eq_true, decide_eq_true_eq, ih, List.map_cons, List.pairwise_cons, List.mem_cons,
        forall_eq_or_imp]
      constructor
      · rintro ⟨⟨h1, h2⟩, ⟨h3, h4⟩, h5, h6⟩
        exact ⟨⟨⟨h2, fun x hx => lt_trans h2 (h3 x hx)⟩, h3, h4⟩, h1, h5, h6⟩
      · rintro ⟨⟨⟨h2, -⟩, h3, h4⟩, h1, h5, h6⟩
        exact ⟨⟨h1, h2⟩, ⟨h3, h4⟩, h5, h6⟩

theorem SMap.mem_insert {α : Type} (m : SMap α) (k : Nat) (v : α) (e : Nat × α) (h : e ∈ m.insert k v) : e = (k, v) ∨ e ∈ m := by
  induction m with
  | nil => simpa [SMap.insert] using h
  | cons x m ih =>
    obtain ⟨j, a⟩ := x
    simp only [SMap.insert] at h
    split at h
    · simpa using h
    · split at h
      · simp only [List.mem_cons] at h ⊢; tauto
      · simp only [List.mem_cons] at h ⊢; tauto

theorem SMap.insert_rising {α : Type} (m : SMap α) (k : Nat) (v : α) (h : (m.map (·.1)).Pairwise (· < ·)) :
    ((m.insert k v).map (·.1)).Pairwise (· < ·) := by
  induction m with
  | nil => simp [SMap.insert]
  | cons x m ih =>
    obtain ⟨j, a⟩ := x
    simp only [List.map_cons, List.pairwise_cons] at h
    simp only [SMap.insert]
    split
    · rename_i hk
      simp only [List.map_cons, List.pairwise_cons, List.mem_cons, forall_eq_or_imp]
      exact ⟨⟨hk, fun y hy => lt_trans hk (h.1 y hy)⟩, h.1, h.2⟩
    · split
      · rename_i hk; subst hk
        simpa using h
      · rename_i h1 h2
        simp only [List.map_cons, List.pairwise_cons]
        refine ⟨fun y hy => ?_, ih h.2⟩
        obtain ⟨e, he, rfl⟩ := List.mem_map.1 hy
        rcases SMap.mem_insert m k v e he with rfl | he
        · show j < k; omega
        · exact h.1 _ (List.mem_map_of_mem he)

theorem SMap.erase_sublist {α : Type} (m : SMap α) (k : Nat) : (m.erase k).Sublist m := by
  induction m with
  | nil => exact List.Sublist.refl _
  | cons x m ih =>
    obtain ⟨j, a⟩ := x
    simp only [SMap.erase]
    split
    · exact ih.cons _
    · exact ih.cons_cons _

/-- What is left of a canonical map is canonical. -/
theorem SMap.wf_sublist {α : Type} [DecidableEq α] (d : α) (l m : SMap α) (s : l.Sublist m) (h : SMap.wf d m = true) :
    SMap.wf d l = true := by
  rw [SMap.wf_iff] at h ⊢
  exact ⟨h.1.sublist (s.map _), fun e he => h.2 e (s.subset he)⟩

/-- A write keeps the canonical form. -/
@[simp] theorem SMap.wf_set {α : Type} [DecidableEq α] (d : α) (m : SMap α) (k : Nat) (v : α) (h : SMap.wf d m = true) :
    SMap.wf d (SMap.set d m k v) = true := by
  unfold SMap.set
  split
  · exact SMap.wf_sublist d _ _ (SMap.erase_sublist m k) h
  · rename_i hv
    rw [SMap.wf_iff] at h ⊢
    refine ⟨SMap.insert_rising m k v h.1, fun e he => ?_⟩
    rcases SMap.mem_insert m k v e he with rfl | he
    · exact hv
    · exact h.2 e he

@[simp] theorem SMap.wf_upd {α : Type} [DecidableEq α] (d : α) (m : SMap α) (k : Nat) (f : α → α) (h : SMap.wf d m = true) :
    SMap.wf d (SMap.upd d m k f) = true := by simp [SMap.upd, h]

@[simp] theorem SMap.wf_nil {α : Type} [DecidableEq α] (d : α) : SMap.wf d ([] : SMap α) = true := rfl

@[simp] theorem SMap.wf_clear {α : Type} [DecidableEq α] (d : α) (m : SMap α) (p : Nat → Bool) (h : SMap.wf d m = true) :
    SMap.wf d (SMap.clear m p) = true := SMap.wf_sublist d _ _ List.filter_sublist h

@[simp] theorem SMap.wf_filter {α : Type} [DecidableEq α] (d : α) (m : SMap α) (p : Nat × α → Bool) (h : SMap.wf d m = true) :
    SMap.wf d (m.filter p) = true := SMap.wf_sublist d _ _ List.filter_sublist h

/-! ## Rising keys: registers, whose default depends on the register -/

@[simp] theorem SMap.rising_nil {α : Type} : SMap.rising ([] : SMap α) := List.Pairwise.nil

@[simp] theorem SMap.rising_set {α : Type} [DecidableEq α] (d : α) (m : SMap α) (k : Nat) (v : α) (h : SMap.rising m) :
    SMap.rising (SMap.set d m k v) := by
  unfold SMap.set
  split
  · exact List.Pairwise.sublist ((SMap.erase_sublist m k).map _) h
  · exact SMap.insert_rising m k v h

@[simp] theorem SMap.rising_filter {α : Type} (m : SMap α) (p : Nat × α → Bool) (h : SMap.rising m) :
    SMap.rising (m.filter p) := List.Pairwise.sublist (List.filter_sublist.map _) h

@[simp] theorem SMap.rising_clear {α : Type} (m : SMap α) (p : Nat → Bool) (h : SMap.rising m) :
    SMap.rising (SMap.clear m p) := SMap.rising_filter m _ h

/-- A cleared key reads as unlisted, every other key as before. -/
theorem SMap.get_clear {α : Type} (d : α) (m : SMap α) (p : Nat → Bool) (k : Nat) :
    SMap.get d (SMap.clear m p) k = if p k then d else SMap.get d m k := by
  unfold SMap.clear
  induction m with
  | nil => simp [SMap.get]
  | cons e m ih =>
    obtain ⟨j, a⟩ := e
    by_cases hp : p j = true
    · by_cases hk : j = k
      · subst hk; simpa [List.filter, hp] using ih
      · simpa [List.filter, hp, SMap.get, hk] using ih
    · by_cases hk : j = k
      · subst hk; simp [List.filter, hp, SMap.get]
      · simpa [List.filter, hp, SMap.get, hk] using ih

end Sys2Proof.Machine
end

