-- ==== Sys2Proof/Laws/CanonBase.lean ====
section
/-! SUPPORT. The invariant of a run and how it passes through record updates, choices and folds. -/

namespace Sys2Proof.Machine

/-- The invariant of a state given field by field. -/
@[simp] theorem State.canon_mk (x_csr : SMap Word) (x_staged : SMap Word) (x_locked : NSet) (x_firsts : SMap Nat)
    (x_time : TimeSt) (x_flt : FltSt) (x_out : List OutMsg) (x_vx : VxSt) (x_fab : FabSt) (x_ctx : CtxSt) (x_mem :
    MemSt) (x_eng : SMap Engine) (x_sems : NSet) (x_noc : NocSt) (x_qm : QmSt) (x_flow : FlowSt) (x_lp : LpSt) (x_mee
    : MeeSt) (x_ln : SMap LnSt) (x_gr : SMap GrSt) (x_eth : EthSt) (x_pci : PciSt) (x_mgt : MgtSt) (x_secu : SecSt)
    (x_stu : StuSt) (x_ci : CiSt) (x_clk : ClkSt) (x_pm : PmSt) (x_th : ThSt) (x_prm : SMap PrmSt) (x_sp : SMap SpSec)
    (x_freeIdx : Nat) (x_pending : List Instr) :
        (State.mk x_csr x_staged x_locked x_firsts x_time x_flt x_out x_vx x_fab x_ctx x_mem x_eng x_sems x_noc x_qm
      x_flow x_lp x_mee x_ln x_gr x_eth x_pci x_mgt x_secu x_stu x_ci x_clk x_pm x_th x_prm x_sp x_freeIdx
      x_pending).Canon ↔
      x_pending.all Instr.wf = true ∧ SMap.rising x_csr ∧ SMap.wf 0#144 x_mem.words = true ∧ SMap.wf 0#144 x_mem.spares = true
        ∧ SMap.wf 0#144 x_mem.secure = true ∧ SMap.wf 0#144 x_flow.words = true ∧ SMap.wf 0#576 x_lp.lines = true
        ∧ SMap.wf 65535#16 x_fab.flash = true := by
  simp only [State.Canon, Memory.wf, Bool.and_eq_true, and_assoc]; rfl

@[simp] theorem State.Canon.pending {s : State} (h : s.Canon) : s.pending.all Instr.wf = true := h.1
@[simp] theorem State.Canon.csr {s : State} (h : s.Canon) : SMap.rising s.csr := h.2.1

theorem State.Canon.memory {s : State} (h : s.Canon) : Memory.wf s = true := h.2.2

@[simp] theorem State.Canon.words {s : State} (h : s.Canon) : SMap.wf 0#144 s.mem.words = true := by
  have := h.memory; simp only [Memory.wf, Bool.and_eq_true] at this; exact this.1.1.1.1.1
@[simp] theorem State.Canon.spares {s : State} (h : s.Canon) : SMap.wf 0#144 s.mem.spares = true := by
  have := h.memory; simp only [Memory.wf, Bool.and_eq_true] at this; exact this.1.1.1.1.2
@[simp] theorem State.Canon.secure {s : State} (h : s.Canon) : SMap.wf 0#144 s.mem.secure = true := by
  have := h.memory; simp only [Memory.wf, Bool.and_eq_true] at this; exact this.1.1.1.2
@[simp] theorem State.Canon.flowWords {s : State} (h : s.Canon) : SMap.wf 0#144 s.flow.words = true := by
  have := h.memory; simp only [Memory.wf, Bool.and_eq_true] at this; exact this.1.1.2
@[simp] theorem State.Canon.lines {s : State} (h : s.Canon) : SMap.wf 0#576 s.lp.lines = true := by
  have := h.memory; simp only [Memory.wf, Bool.and_eq_true] at this; exact this.1.2
@[simp] theorem State.Canon.flash {s : State} (h : s.Canon) : SMap.wf 65535#16 s.fab.flash = true := by
  have := h.memory; simp only [Memory.wf, Bool.and_eq_true] at this; exact this.2

/-- A choice between two canonical states. -/
@[simp] theorem State.canon_ite {c : Prop} [Decidable c] {a b : State} (ha : a.Canon) (hb : b.Canon) :
    (if c then a else b).Canon := by split <;> assumption

/-- A fold of steps that keep the invariant keeps it. -/
theorem State.canon_foldl {α : Type} {f : State → α → State} (hf : ∀ s a, s.Canon → (f s a).Canon) (l : List α) {s : State}
    (h : s.Canon) : (l.foldl f s).Canon := by
  induction l generalizing s with
  | nil => exact h
  | cons a l ih => exact ih (hf s a h)

/-- A fold of steps that keep a property of the accumulator keeps it. -/
theorem foldl_keeps {α β : Type} (P : β → Prop) {f : β → α → β} (hf : ∀ b a, P b → P (f b a)) (l : List α) {b : β}
    (h : P b) : P (l.foldl f b) := by
  induction l generalizing b with
  | nil => exact h
  | cons a l ih => exact ih (hf b a h)

/-- A state that agrees with a canonical one on the parts the invariant speaks of is canonical. -/
theorem State.Canon.of_eq {s t : State} (h : s.Canon) (e1 : t.pending = s.pending) (e2 : t.csr = s.csr)
    (e3 : t.mem.words = s.mem.words) (e4 : t.mem.spares = s.mem.spares) (e5 : t.mem.secure = s.mem.secure)
    (e6 : t.flow.words = s.flow.words) (e7 : t.lp.lines = s.lp.lines) (e8 : t.fab.flash = s.fab.flash) : t.Canon := by
  obtain ⟨a, b, c⟩ := h
  refine ⟨e1 ▸ a, e2 ▸ b, ?_⟩
  simpa only [Memory.wf, e3, e4, e5, e6, e7, e8] using c

/-! A record update outside the parts the invariant speaks of. -/

theorem State.Canon.withStaged {s : State} (h : s.Canon) (x : SMap Word) : ({ s with staged := x }).Canon :=
  h.of_eq rfl rfl rfl rfl rfl rfl rfl rfl
theorem State.Canon.withLocked {s : State} (h : s.Canon) (x : NSet) : ({ s with locked := x }).Canon :=
  h.of_eq rfl rfl rfl rfl rfl rfl rfl rfl
theorem State.Canon.withFirsts {s : State} (h : s.Canon) (x : SMap Nat) : ({ s with firsts := x }).Canon :=
  h.of_eq rfl rfl rfl rfl rfl rfl rfl rfl
theorem State.Canon.withTime {s : State} (h : s.Canon) (x : TimeSt) : ({ s with time := x }).Canon :=
  h.of_eq rfl rfl rfl rfl rfl rfl rfl rfl
theorem State.Canon.withFlt {s : State} (h : s.Canon) (x : FltSt) : ({ s with flt := x }).Canon :=
  h.of_eq rfl rfl rfl rfl rfl rfl rfl rfl
theorem State.Canon.withOut {s : State} (h : s.Canon) (x : List OutMsg) : ({ s with out := x }).Canon :=
  h.of_eq rfl rfl rfl rfl rfl rfl rfl rfl
theorem State.Canon.withVx {s : State} (h : s.Canon) (x : VxSt) : ({ s with vx := x }).Canon :=
  h.of_eq rfl rfl rfl rfl rfl rfl rfl rfl
theorem State.Canon.withCtx {s : State} (h : s.Canon) (x : CtxSt) : ({ s with ctx := x }).Canon :=
  h.of_eq rfl rfl rfl rfl rfl rfl rfl rfl
theorem State.Canon.withEng {s : State} (h : s.Canon) (x : SMap Engine) : ({ s with eng := x }).Canon :=
  h.of_eq rfl rfl rfl rfl rfl rfl rfl rfl
theorem State.Canon.withSems {s : State} (h : s.Canon) (x : NSet) : ({ s with sems := x }).Canon :=
  h.of_eq rfl rfl rfl rfl rfl rfl rfl rfl
theorem State.Canon.withNoc {s : State} (h : s.Canon) (x : NocSt) : ({ s with noc := x }).Canon :=
  h.of_eq rfl rfl rfl rfl rfl rfl rfl rfl
theorem State.Canon.withQm {s : State} (h : s.Canon) (x : QmSt) : ({ s with qm := x }).Canon :=
  h.of_eq rfl rfl rfl rfl rfl rfl rfl rfl
theorem State.Canon.withMee {s : State} (h : s.Canon) (x : MeeSt) : ({ s with mee := x }).Canon :=
  h.of_eq rfl rfl rfl rfl rfl rfl rfl rfl
theorem State.Canon.withLn {s : State} (h : s.Canon) (x : SMap LnSt) : ({ s with ln := x }).Canon :=
  h.of_eq rfl rfl rfl rfl rfl rfl rfl rfl
theorem State.Canon.withGr {s : State} (h : s.Canon) (x : SMap GrSt) : ({ s with gr := x }).Canon :=
  h.of_eq rfl rfl rfl rfl rfl rfl rfl rfl
theorem State.Canon.withEth {s : State} (h : s.Canon) (x : EthSt) : ({ s with eth := x }).Canon :=
  h.of_eq rfl rfl rfl rfl rfl rfl rfl rfl
theorem State.Canon.withPci {s : State} (h : s.Canon) (x : PciSt) : ({ s with pci := x }).Canon :=
  h.of_eq rfl rfl rfl rfl rfl rfl rfl rfl
theorem State.Canon.withMgt {s : State} (h : s.Canon) (x : MgtSt) : ({ s with mgt := x }).Canon :=
  h.of_eq rfl rfl rfl rfl rfl rfl rfl rfl
theorem State.Canon.withSecu {s : State} (h : s.Canon) (x : SecSt) : ({ s with secu := x }).Canon :=
  h.of_eq rfl rfl rfl rfl rfl rfl rfl rfl
theorem State.Canon.withStu {s : State} (h : s.Canon) (x : StuSt) : ({ s with stu := x }).Canon :=
  h.of_eq rfl rfl rfl rfl rfl rfl rfl rfl
theorem State.Canon.withCi {s : State} (h : s.Canon) (x : CiSt) : ({ s with ci := x }).Canon :=
  h.of_eq rfl rfl rfl rfl rfl rfl rfl rfl
theorem State.Canon.withClk {s : State} (h : s.Canon) (x : ClkSt) : ({ s with clk := x }).Canon :=
  h.of_eq rfl rfl rfl rfl rfl rfl rfl rfl
theorem State.Canon.withPm {s : State} (h : s.Canon) (x : PmSt) : ({ s with pm := x }).Canon :=
  h.of_eq rfl rfl rfl rfl rfl rfl rfl rfl
theorem State.Canon.withTh {s : State} (h : s.Canon) (x : ThSt) : ({ s with th := x }).Canon :=
  h.of_eq rfl rfl rfl rfl rfl rfl rfl rfl
theorem State.Canon.withPrm {s : State} (h : s.Canon) (x : SMap PrmSt) : ({ s with prm := x }).Canon :=
  h.of_eq rfl rfl rfl rfl rfl rfl rfl rfl
theorem State.Canon.withSp {s : State} (h : s.Canon) (x : SMap SpSec) : ({ s with sp := x }).Canon :=
  h.of_eq rfl rfl rfl rfl rfl rfl rfl rfl
theorem State.Canon.withFreeIdx {s : State} (h : s.Canon) (x : Nat) : ({ s with freeIdx := x }).Canon :=
  h.of_eq rfl rfl rfl rfl rfl rfl rfl rfl

/-- A state that may be missing, with a canonical stand-in. -/
theorem State.canon_getD {o : Option State} {d : State} (ho : ∀ t, o = some t → t.Canon) (hd : d.Canon) : (o.getD d).Canon := by
  cases o with
  | none => exact hd
  | some t => exact ho t rfl

/-- New bank words in canonical form. -/
theorem State.Canon.withWords {s : State} (h : s.Canon) {w : SMap BankBits} {i : Nat} (hw : SMap.wf 0#144 w = true) :
    ({ s with freeIdx := i, mem := { s.mem with words := w } } : State).Canon := by
  rw [State.canon_mk]
  exact ⟨h.1, h.2.1, hw, h.spares, h.secure, h.flowWords, h.lines, h.flash⟩

end Sys2Proof.Machine
end

