-- ==== Sys2Proof/Laws/CanonOps.lean ====
section
/-! SUPPORT. The operations of Machine/Ops.lean keep the invariant of a run. -/

namespace Sys2Proof.Machine

@[simp] theorem State.setReg_canon (s : State) (off : Nat) (v : Word) (inst : Nat) (hc : s.Canon) :
    (State.setReg s off v inst).Canon := by
  simp (maxDischargeDepth := 99) [State.setReg, hc]

@[simp] theorem State.setFld_canon (s : State) (f : FieldRef) (v : Nat) (inst : Nat) (hc : s.Canon) :
    (State.setFld s f v inst).Canon := by
  simp (maxDischargeDepth := 99) [State.setFld, hc]

@[simp] theorem State.setFlag_canon (s : State) (f : FieldRef) (b : Bool) (inst : Nat) (hc : s.Canon) :
    (State.setFlag s f b inst).Canon := by
  simp (maxDischargeDepth := 99) [State.setFlag, hc]

@[simp] theorem State.count_canon (s : State) (f : FieldRef) (n : Nat) (inst : Nat) (hc : s.Canon) :
    (State.count s f n inst).Canon := by
  simp (maxDischargeDepth := 99) [State.count, hc]

@[simp] theorem State.countWrap_canon (s : State) (f : FieldRef) (n : Nat) (inst : Nat) (hc : s.Canon) :
    (State.countWrap s f n inst).Canon := by
  simp (maxDischargeDepth := 99) [State.countWrap, hc]

@[simp] theorem State.setPair_canon (s : State) (lo hi : Nat) (v : Nat) (inst : Nat) (hc : s.Canon) :
    (State.setPair s lo hi v inst).Canon := by
  simp (maxDischargeDepth := 99) [State.setPair, hc]

@[simp] theorem State.raiseGroup_canon (s : State) (g : List FaultEntry) (hc : s.Canon) :
    (State.raiseGroup s g).Canon := by
  unfold State.raiseGroup; (repeat' split) <;> simp (maxDischargeDepth := 99) [hc]

@[simp] theorem State.raise_canon (s : State) (f : FaultCode) (loc : List Nat) (src : Nat) (hc : s.Canon) :
    (State.raise s f loc src).Canon := by
  simp (maxDischargeDepth := 99) [State.raise, hc]

@[simp] theorem State.raiseSev_canon (s : State) (f : FaultCode) (sev : Nat) (loc : List Nat) (src : Nat) (hc : s.Canon) :
    (State.raiseSev s f sev loc src).Canon := by
  simp (maxDischargeDepth := 99) [State.raiseSev, hc]

@[simp] theorem State.srcSince_canon (s old : State) (src : Nat) (hc : s.Canon) :
    (State.srcSince s old src).Canon := by
  simp (maxDischargeDepth := 99) [State.srcSince, hc]

@[simp] theorem State.raiseFirst_canon (s : State) (f : FaultCode) (unit now : Nat) (loc : List Nat) (src : Nat)
    (hc : s.Canon) :
    (State.raiseFirst s f unit now loc src).Canon := by
  simp (maxDischargeDepth := 99) [State.raiseFirst, hc]

@[simp] theorem State.emit_canon (s : State) (m : OutMsg) (hc : s.Canon) :
    (State.emit s m).Canon := by
  simp (maxDischargeDepth := 99) [State.emit, hc]

@[simp] theorem State.answer_canon (s : State) (dst status : Nat) (data : List Byte) (hc : s.Canon) :
    (State.answer s dst status data).Canon := by
  simp (maxDischargeDepth := 99) [State.answer, hc]

@[simp] theorem State.takeFree_canon (s : State) (hc : s.Canon) :
    (State.takeFree s).Canon := by
  simp (maxDischargeDepth := 99) [State.takeFree, hc]

@[simp] theorem State.setHeld_canon (s : State) (island : Nat) (b : Bool) (hc : s.Canon) :
    (State.setHeld s island b).Canon := by
  simp (maxDischargeDepth := 99) [State.setHeld, hc]

@[simp] theorem State.setBundle_canon (s : State) (island tile : Nat) (b : Bundle) (hc : s.Canon) :
    (State.setBundle s island tile b).Canon := by
  simp (maxDischargeDepth := 99) [State.setBundle, hc]

@[simp] theorem State.setSec_canon (s : State) (sector : Nat) (c : CtxSec) (hc : s.Canon) :
    (State.setSec s sector c).Canon := by
  simp (maxDischargeDepth := 99) [State.setSec, hc]

@[simp] theorem State.setPlane_canon (s : State) (sector plane : Nat) (f : Frames) (hc : s.Canon) :
    (State.setPlane s sector plane f).Canon := by
  simp (maxDischargeDepth := 99) [State.setPlane, hc]

@[simp] theorem State.setLive_canon (s : State) (sector : Nat) (f : Frames) (hc : s.Canon) :
    (State.setLive s sector f).Canon := by
  simp (maxDischargeDepth := 99) [State.setLive, hc]

@[simp] theorem State.setStaged_canon (s : State) (sector : Nat) (f : Frames) (hc : s.Canon) :
    (State.setStaged s sector f).Canon := by
  simp (maxDischargeDepth := 99) [State.setStaged, hc]

@[simp] theorem State.setLand_canon (s : State) (bank : Nat) (l : Landing) (hc : s.Canon) :
    (State.setLand s bank l).Canon := by
  simp (maxDischargeDepth := 99) [State.setLand, hc]

end Sys2Proof.Machine
end

