-- ==== Sys2Proof/Laws/CanonPromise.lean ====
section
/-! SUPPORT. The operations of Machine/Promise.lean keep the invariant of a run. -/

namespace Sys2Proof.Machine

@[simp] theorem State.setPrm_canon (s : State) (q : Nat) (p : PrmSt) (hc : s.Canon) :
    (State.setPrm s q p).Canon := by
  simp (maxDischargeDepth := 99) [State.setPrm, hc]

@[simp] theorem State.prmRefreshOne_canon (s : State) (q : Nat) (hc : s.Canon) :
    (State.prmRefreshOne s q).Canon := by
  simp (maxDischargeDepth := 99) [State.prmRefreshOne, hc]

@[simp] theorem State.prmRefresh_canon (s : State) (hc : s.Canon) :
    (State.prmRefresh s).Canon := by
  simp +contextual (maxDischargeDepth := 99) [State.prmRefresh, hc, State.canon_foldl]

@[simp] theorem State.prmEvent_canon (s : State) (q : Nat) (hc : s.Canon) :
    (State.prmEvent s q).Canon := by
  simp (maxDischargeDepth := 99) [State.prmEvent, hc]

end Sys2Proof.Machine
end

