-- ==== Sys2Proof/Laws/CanonNoc.lean ====
section
/-! SUPPORT. The operations of Machine/Noc.lean keep the invariant of a run. -/

namespace Sys2Proof.Machine

@[simp] theorem State.nocHop_canon (s : State) (h : NocHead) (router out : Nat) (hc : s.Canon) :
    (State.nocHop s h router out).2.Canon := by
  unfold State.nocHop; dsimp only; (repeat' split) <;> simp +contextual (maxDischargeDepth := 99) [hc, State.canon_foldl]

@[simp] theorem State.nocAlong_canon (s : State) (h : NocHead) (l : List (Nat × Nat)) (hc : s.Canon) :
    (State.nocAlong s h l).2.Canon := by
  induction l generalizing s h with
  | nil => exact hc
  | cons a l ih =>
    obtain ⟨r, o⟩ := a
    rw [State.nocAlong]
    have h2 := State.nocHop_canon s h r o hc
    split <;> (rename_i e; rw [e] at h2)
    · exact h2
    · exact ih _ _ h2

@[simp] theorem State.nocTravel_canon (s : State) (h : NocHead) (hc : s.Canon) :
    (State.nocTravel s h).2.Canon := by
  simp (maxDischargeDepth := 99) [State.nocTravel, hc]

@[simp] theorem State.holdHead_canon (s : State) (p : NocPacket) (hc : s.Canon) :
    (State.holdHead s p).Canon := by
  simp (maxDischargeDepth := 99) [State.holdHead, hc]

@[simp] theorem State.sinkPosted_canon (s : State) (hc : s.Canon) :
    (State.sinkPosted s).Canon := by
  simp (maxDischargeDepth := 99) [State.sinkPosted, hc]

@[simp] theorem State.issue_canon (s : State) (node port tag kind space : Nat) (arrived : Bool) (hc : s.Canon) :
    (State.issue s node port tag kind space arrived).Canon := by
  simp (maxDischargeDepth := 99) [State.issue, hc]

theorem State.issued_canon (s : State) (node port tag kind space : Nat) (hc : s.Canon) :
    ∀ t, State.issued s node port tag kind space = some t → t.Canon := by
  unfold State.issued; (repeat' split) <;> simp (maxDischargeDepth := 99) [hc]

@[simp] theorem State.release_canon (s : State) (node port tag : Nat) (hc : s.Canon) :
    (State.release s node port tag).Canon := by
  simp (maxDischargeDepth := 99) [State.release, hc]

@[simp] theorem State.response_canon (s : State) (node port tag : Nat) (hc : s.Canon) :
    (State.response s node port tag).2.Canon := by
  unfold State.response; (repeat' split) <;> simp (maxDischargeDepth := 99) [hc]

@[simp] theorem State.respTimeout_canon (s : State) (node port tag : Nat) (hc : s.Canon) :
    (State.respTimeout s node port tag).Canon := by
  unfold State.respTimeout; (repeat' split) <;> simp (maxDischargeDepth := 99) [hc]

end Sys2Proof.Machine
end

