-- ==== Sys2Proof/Laws/CanonFlows.lean ====
section
/-! SUPPORT. The operations of Machine/Flows.lean keep the invariant of a run. -/

namespace Sys2Proof.Machine

@[simp] theorem State.setFlowEntry_canon (s : State) (i v : Nat) (hc : s.Canon) :
    (State.setFlowEntry s i v).Canon := by
  have h := foldl_keeps (fun (m : SMap BankBits) => SMap.wf 0#144 m = true)
    (f := fun m k => SMap.set 0 m (i * 8 + k) (encodeS (BitVec.ofNat 128 (v / 2 ^ (128 * k)))))
    (fun m k hm => SMap.wf_set _ _ _ _ hm) (List.range 8) hc.flowWords
  unfold State.setFlowEntry
  rw [State.canon_mk]
  exact ⟨hc.1, hc.2.1, hc.words, hc.spares, hc.secure, h, hc.lines, hc.flash⟩

@[simp] theorem State.flowUpset_canon (s : State) (flips : List (Nat × Nat)) (hc : s.Canon) :
    (State.flowUpset s flips).Canon := by
  have h := foldl_keeps (fun (m : SMap BankBits) => SMap.wf 0#144 m = true)
    (f := fun m (x : Nat × Nat) => SMap.set 0 m x.1 (SMap.get 0 m x.1 ^^^ BitVec.ofNat 144 (2 ^ (x.2 % 144))))
    (fun m k hm => SMap.wf_set _ _ _ _ hm) flips hc.flowWords
  unfold State.flowUpset
  rw [State.canon_mk]
  exact ⟨hc.1, hc.2.1, hc.words, hc.spares, hc.secure, h, hc.lines, hc.flash⟩

@[simp] theorem State.flowCount_canon (s : State) (r : FlowResult) (hc : s.Canon) :
    (State.flowCount s r).Canon := by
  simp (maxDischargeDepth := 99) [State.flowCount, hc]

@[simp] theorem State.flowBadReq_canon (s : State) (hc : s.Canon) :
    (State.flowBadReq s).2.Canon := by
  simp (maxDischargeDepth := 99) [State.flowBadReq, hc]

@[simp] theorem State.flowUncorr_canon (s : State) (fop : Nat) (learn : Bool) (place : Nat) (hc : s.Canon) :
    (State.flowUncorr s fop learn place).2.Canon := by
  simp (maxDischargeDepth := 99) [State.flowUncorr, hc]

@[simp] theorem State.flowFull_canon (s : State) (hc : s.Canon) :
    (State.flowFull s).2.Canon := by
  simp (maxDischargeDepth := 99) [State.flowFull, hc]

@[simp] theorem State.flowInsert_canon (s : State) (b : Nat × Nat) (q : FlowReq) (result : Nat) (hc : s.Canon) :
    (State.flowInsert s b q result).2.Canon := by
  unfold State.flowInsert; (repeat' split) <;> simp (maxDischargeDepth := 99) [hc]

@[simp] theorem State.flowAct_canon (s : State) (fop : Nat) (q : FlowReq) (hc : s.Canon) :
    (State.flowAct s fop q).2.Canon := by
  unfold State.flowAct; dsimp only; (repeat' split) <;> simp +contextual (maxDischargeDepth := 99) [hc, State.canon_foldl]

@[simp] theorem State.flowOp_canon (s : State) (fop : Nat) (q : FlowReq) (hc : s.Canon) :
    (State.flowOp s fop q).2.Canon := by
  unfold State.flowOp; (repeat' split) <;> simp (maxDischargeDepth := 99) [hc]

@[simp] theorem State.flowArrive_canon (s : State) (h : NocHead) (fop : Nat) (q : FlowReq) (hc : s.Canon) :
    (State.flowArrive s h fop q).Canon := by
  unfold State.flowArrive; (repeat' split) <;> simp (maxDischargeDepth := 99) [hc]

@[simp] theorem State.setFlPort_canon (s : State) (j : Nat) (p : FlPort) (hc : s.Canon) :
    (State.setFlPort s j p).Canon := by
  simp (maxDischargeDepth := 99) [State.setFlPort, hc]

theorem State.flJoin_canon (s : State) (node port tag : Nat) (hc : s.Canon) :
    ∀ t, State.flJoin s node port tag = some t → t.Canon := by
  unfold State.flJoin; (repeat' split) <;> simp (maxDischargeDepth := 99) [hc]

@[simp] theorem State.flAnswered_canon (s : State) (node port tag headData : Nat) (entry : List Byte) (hc : s.Canon) :
    (State.flAnswered s node port tag headData entry).Canon := by
  unfold State.flAnswered; (repeat' split) <;> simp (maxDischargeDepth := 99) [hc]

@[simp] theorem State.flowRequest_canon (s : State) (h : NocHead) (fop : Nat) (q : FlowReq) (flips : List (Nat × Nat))
    (hc : s.Canon) :
    (State.flowRequest s h fop q flips).Canon := by
  unfold State.flowRequest
  split
  · exact hc
  · rename_i s1 e
    obtain ⟨t, e1, e2⟩ := Option.bind_eq_some_iff.mp e
    have h1 : s1.Canon := State.flJoin_canon _ _ _ _ (State.issued_canon _ _ _ _ _ _ (State.flowUpset_canon _ _ hc) _ e1) _ e2
    have h2 := State.nocTravel_canon s1 h h1
    split <;> (rename_i e3; rw [e3] at h2)
    · exact h2
    · exact State.canon_ite (State.holdHead_canon _ _ h2) (State.flowArrive_canon _ _ _ _ h2)

@[simp] theorem State.flowResp_canon (s : State) (node port tag headData : Nat) (entry : List Byte) (hc : s.Canon) :
    (State.flowResp s node port tag headData entry).Canon := by
  unfold State.flowResp
  repeat' (first
    | (split <;> (rename_i e; have e2 := congrArg Prod.snd e; dsimp only at e2; subst e2))
    | (split <;> (rename_i e; have e2 := congrArg (fun p => p.2.2) e; dsimp only at e2; subst e2))
    | split)
  all_goals simp +contextual (maxDischargeDepth := 99) [hc, State.canon_foldl]

@[simp] theorem State.setReloc_canon (s : State) (slot kicks way : Nat) (hc : s.Canon) :
    (State.setReloc s slot kicks way).Canon := by
  simp (maxDischargeDepth := 99) [State.setReloc, hc]

@[simp] theorem State.relocate_canon (s : State) (hc : s.Canon) :
    (State.relocate s).Canon := by
  unfold State.relocate; dsimp only; (repeat' split) <;> simp +contextual (maxDischargeDepth := 99) [hc, State.canon_foldl]

@[simp] theorem State.ageStart_canon (s : State) (action : Nat) (hc : s.Canon) :
    (State.ageStart s action).Canon := by
  simp (maxDischargeDepth := 99) [State.ageStart, hc]

@[simp] theorem State.ageEntry_canon (s : State) (i : Nat) (hc : s.Canon) :
    (State.ageEntry s i).Canon := by
  simp (maxDischargeDepth := 99) [State.ageEntry, hc]

@[simp] theorem State.ageVisit_canon (s : State) (hc : s.Canon) :
    (State.ageVisit s).Canon := by
  unfold State.ageVisit; (repeat' split) <;> simp +contextual (maxDischargeDepth := 99) [hc, State.canon_foldl]

@[simp] theorem State.ageDone_canon (s : State) (hc : s.Canon) :
    (State.ageDone s).Canon := by
  simp (maxDischargeDepth := 99) [State.ageDone, hc]

theorem execFlowLookup_canon (head : NocHead) (req : FlowReq) (flips : List (Nat × Nat)) (s : State) (hc : s.Canon) :
    ∀ t, execFlowLookup head req flips s = .next t → t.Canon := by
  intro t h; cases h; simp (maxDischargeDepth := 99) [hc]

theorem execFlowInsert_canon (head : NocHead) (req : FlowReq) (flips : List (Nat × Nat)) (s : State) (hc : s.Canon) :
    ∀ t, execFlowInsert head req flips s = .next t → t.Canon := by
  intro t h; cases h; simp (maxDischargeDepth := 99) [hc]

theorem execFlowDelete_canon (head : NocHead) (req : FlowReq) (flips : List (Nat × Nat)) (s : State) (hc : s.Canon) :
    ∀ t, execFlowDelete head req flips s = .next t → t.Canon := by
  intro t h; cases h; simp (maxDischargeDepth := 99) [hc]

theorem execFlowAdd_canon (head : NocHead) (req : FlowReq) (flips : List (Nat × Nat)) (s : State) (hc : s.Canon) :
    ∀ t, execFlowAdd head req flips s = .next t → t.Canon := by
  intro t h; cases h; simp (maxDischargeDepth := 99) [hc]

theorem execFlowCas_canon (head : NocHead) (req : FlowReq) (flips : List (Nat × Nat)) (s : State) (hc : s.Canon) :
    ∀ t, execFlowCas head req flips s = .next t → t.Canon := by
  intro t h; cases h; simp (maxDischargeDepth := 99) [hc]

theorem execFlowResp_canon (node port tag headData : Nat) (entry : List Byte) (s : State) (hc : s.Canon) :
    ∀ t, execFlowResp node port tag headData entry s = .next t → t.Canon := by
  intro t h; cases h; simp (maxDischargeDepth := 99) [hc]

theorem execRelocate_canon (s : State) (hc : s.Canon) :
    ∀ t, execRelocate s = .next t → t.Canon := by
  intro t h; cases h; simp (maxDischargeDepth := 99) [hc]

theorem execAgeScanStart_canon (action : Nat) (s : State) (hc : s.Canon) :
    ∀ t, execAgeScanStart action s = .next t → t.Canon := by
  intro t h; cases h; simp (maxDischargeDepth := 99) [hc]

theorem execAgeScanVisit_canon (s : State) (hc : s.Canon) :
    ∀ t, execAgeScanVisit s = .next t → t.Canon := by
  intro t h; cases h; simp (maxDischargeDepth := 99) [hc]

theorem execAgeScanDone_canon (s : State) (hc : s.Canon) :
    ∀ t, execAgeScanDone s = .next t → t.Canon := by
  intro t h; cases h; simp (maxDischargeDepth := 99) [hc]

theorem execFsKill_canon (stash : Bool) (index : Nat) (s : State) (hc : s.Canon) :
    ∀ t, execFsKill stash index s = .next t → t.Canon := by
  intro t h; cases h; simp (maxDischargeDepth := 99) [hc]

end Sys2Proof.Machine
end

