-- ==== Sys2Proof/Laws/CanonGraftSend.lean ====
section
/-! SUPPORT. The operations of Machine/GraftSend.lean keep the invariant of a run. -/

namespace Sys2Proof.Machine

@[simp] theorem State.setGr_canon (s : State) (b : Nat) (g : GrSt) (hc : s.Canon) :
    (State.setGr s b g).Canon := by
  simp (maxDischargeDepth := 99) [State.setGr, hc]

@[simp] theorem State.grEmit_canon (s : State) (b kind seq : Nat) (data : BitVec 512) (side : BitVec 64) (hc : s.Canon) :
    (State.grEmit s b kind seq data side).Canon := by
  simp (maxDischargeDepth := 99) [State.grEmit, hc]

@[simp] theorem State.grSendOne_canon (s : State) (b : Nat) (hc : s.Canon) :
    (State.grSendOne s b).Canon := by
  unfold State.grSendOne; dsimp only; (repeat' split) <;> simp +contextual (maxDischargeDepth := 99) [hc, State.canon_foldl]

@[simp] theorem State.grSend_canon (s : State) (b n : Nat) (hc : s.Canon) : (State.grSend s b n).Canon := by
  induction n generalizing s with
  | zero => exact hc
  | succ n ih => exact ih _ (State.grSendOne_canon _ _ hc)

@[simp] theorem State.graftSend_canon (s : State) (b : Nat) (p : NocPacket) (hc : s.Canon) :
    (State.graftSend s b p).Canon := by
  simp (maxDischargeDepth := 99) [State.graftSend, hc]

theorem State.groveSend_canon (s : State) (p : NocPacket) (hc : s.Canon) :
    ∀ t, State.groveSend s p = some t → t.Canon := by
  unfold State.groveSend; (repeat' split) <;> simp (maxDischargeDepth := 99) [hc]

end Sys2Proof.Machine
end

