-- ==== Sys2Proof/Laws/CanonLoadBase.lean ====
section
/-! SUPPORT. The operations of Machine/LoadBase.lean keep the invariant of a run. -/

namespace Sys2Proof.Machine

@[simp] theorem State.loadStat_canon (s : State) (busy ok : Bool) (fault : Nat) (hc : s.Canon) :
    (State.loadStat s busy ok fault).Canon := by
  simp (maxDischargeDepth := 99) [State.loadStat, hc]

@[simp] theorem State.partialGo_canon (s : State) (hc : s.Canon) :
    (State.partialGo s).Canon := by
  simp (maxDischargeDepth := 99) [State.partialGo, hc]

@[simp] theorem State.streamWrite_canon (s : State) (data : List Byte) (hc : s.Canon) :
    (State.streamWrite s data).Canon := by
  simp (maxDischargeDepth := 99) [State.streamWrite, hc]

@[simp] theorem State.mbPost_canon (s : State) (prod : Nat) (hc : s.Canon) :
    (State.mbPost s prod).Canon := by
  simp (maxDischargeDepth := 99) [State.mbPost, hc]

@[simp] theorem State.mbReset_canon (s : State) (hc : s.Canon) :
    (State.mbReset s).Canon := by
  simp (maxDischargeDepth := 99) [State.mbReset, hc]

end Sys2Proof.Machine
end

