-- ==== Sys2Proof/Laws/CanonTime.lean ====
section
/-! SUPPORT. The operations of Machine/Time.lean keep the invariant of a run. -/

namespace Sys2Proof.Machine

@[simp] theorem State.timeTick_canon (s : State) (hc : s.Canon) :
    (State.timeTick s).Canon := by
  simp (maxDischargeDepth := 99) [State.timeTick, hc]

@[simp] theorem State.timeAdd_canon (s : State) (d : Int) (hc : s.Canon) :
    (State.timeAdd s d).Canon := by
  simp (maxDischargeDepth := 99) [State.timeAdd, hc]

@[simp] theorem State.timeSlew_canon (s : State) (d : Int) (hc : s.Canon) :
    (State.timeSlew s d).Canon := by
  simp (maxDischargeDepth := 99) [State.timeSlew, hc]

@[simp] theorem State.timeStep_canon (s : State) (d : Int) (hc : s.Canon) :
    (State.timeStep s d).Canon := by
  simp (maxDischargeDepth := 99) [State.timeStep, hc]

@[simp] theorem State.timeCorrect_canon (s : State) (d : Int) (hc : s.Canon) :
    (State.timeCorrect s d).Canon := by
  simp (maxDischargeDepth := 99) [State.timeCorrect, hc]

theorem execTimeSlewStep_canon (s : State) (hc : s.Canon) :
    ∀ t, execTimeSlewStep s = .next t → t.Canon := by
  intro t h; cases h; simp (maxDischargeDepth := 99) [hc]

theorem execEthTimeLoWrite_canon (value : Word) (s : State) (hc : s.Canon) :
    ∀ t, execEthTimeLoWrite value s = .next t → t.Canon := by
  intro t h; cases h; simp (maxDischargeDepth := 99) [hc]

theorem execEthTimeHiWrite_canon (value : Word) (s : State) (hc : s.Canon) :
    ∀ t, execEthTimeHiWrite value s = .next t → t.Canon := by
  intro t h; cases h; simp (maxDischargeDepth := 99) [hc]

theorem execEthTimeLoRead_canon (s : State) (hc : s.Canon) :
    ∀ t, execEthTimeLoRead s = .next t → t.Canon := by
  intro t h; cases h; simp (maxDischargeDepth := 99) [hc]

theorem execEthTimeStep_canon (value : Word) (s : State) (hc : s.Canon) :
    ∀ t, execEthTimeStep value s = .next t → t.Canon := by
  intro t h; cases h; simp (maxDischargeDepth := 99) [hc]

theorem execTimePpsEdge_canon (s : State) (hc : s.Canon) :
    ∀ t, execTimePpsEdge s = .next t → t.Canon := by
  intro t h; unfold execTimePpsEdge at h; split at h <;> cases h <;> simp (maxDischargeDepth := 99) [hc]

theorem execPpsLost_canon (s : State) (hc : s.Canon) :
    ∀ t, execPpsLost s = .next t → t.Canon := by
  intro t h; unfold execPpsLost at h; split at h <;> cases h <;> simp (maxDischargeDepth := 99) [hc]

end Sys2Proof.Machine
end

