-- ==== Sys2Proof/Laws/CanonLanes.lean ====
section
/-! SUPPORT. The operations of Machine/Lanes.lean keep the invariant of a run. -/

namespace Sys2Proof.Machine

@[simp] theorem State.setLn_canon (s : State) (b : Nat) (x : LnSt) (hc : s.Canon) :
    (State.setLn s b x).Canon := by
  simp (maxDischargeDepth := 99) [State.setLn, hc]

@[simp] theorem State.setLnState_canon (s : State) (b v : Nat) (hc : s.Canon) :
    (State.setLnState s b v).Canon := by
  simp (maxDischargeDepth := 99) [State.setLnState, hc]

@[simp] theorem State.setLane_canon (s : State) (b i v : Nat) (hc : s.Canon) :
    (State.setLane s b i v).Canon := by
  simp (maxDischargeDepth := 99) [State.setLane, hc]

@[simp] theorem State.setLanes_canon (s : State) (b v : Nat) (hc : s.Canon) :
    (State.setLanes s b v).Canon := by
  simp +contextual (maxDischargeDepth := 99) [State.setLanes, hc, State.canon_foldl]

@[simp] theorem State.lnReset_canon (s : State) (b : Nat) (hc : s.Canon) :
    (State.lnReset s b).Canon := by
  simp (maxDischargeDepth := 99) [State.lnReset, hc]

@[simp] theorem State.lnStart_canon (s : State) (b : Nat) (hc : s.Canon) :
    (State.lnStart s b).Canon := by
  simp (maxDischargeDepth := 99) [State.lnStart, hc]

@[simp] theorem State.graftDown_canon (s : State) (b : Nat) (hc : s.Canon) :
    (State.graftDown s b).Canon := by
  simp (maxDischargeDepth := 99) [State.graftDown, hc]

@[simp] theorem State.lnAttemptEnds_canon (s : State) (b reason : Nat) (hc : s.Canon) :
    (State.lnAttemptEnds s b reason).Canon := by
  simp (maxDischargeDepth := 99) [State.lnAttemptEnds, hc]

@[simp] theorem State.stageFail_canon (s : State) (state : Nat) (hc : s.Canon) :
    (State.stageFail s state).2.Canon := by
  unfold State.stageFail; (repeat' split) <;> simp (maxDischargeDepth := 99) [hc]

@[simp] theorem State.lnOrderFail_canon (s : State) (b : Nat) (hc : s.Canon) :
    (State.lnOrderFail s b).Canon := by
  simp (maxDischargeDepth := 99) [State.lnOrderFail, hc]

@[simp] theorem State.lnEq_canon (s : State) (b : Nat) (hc : s.Canon) :
    (State.lnEq s b).Canon := by
  simp (maxDischargeDepth := 99) [State.lnEq, hc]

@[simp] theorem State.graftUp_canon (s : State) (b : Nat) (hc : s.Canon) :
    (State.graftUp s b).Canon := by
  simp (maxDischargeDepth := 99) [State.graftUp, hc]

@[simp] theorem State.lnStage_canon (s : State) (b lane inverted : Nat) (numbers : List Nat) (skew : Nat) (hc : s.Canon) :
    (State.lnStage s b lane inverted numbers skew).Canon := by
  simp (maxDischargeDepth := 99) [State.lnStage, hc]

@[simp] theorem State.graftRetrain_canon (s : State) (b : Nat) (hc : s.Canon) :
    (State.graftRetrain s b).Canon := by
  simp (maxDischargeDepth := 99) [State.graftRetrain, hc]

@[simp] theorem State.lockLost_canon (s : State) (b lane : Nat) (hc : s.Canon) :
    (State.lockLost s b lane).Canon := by
  simp (maxDischargeDepth := 99) [State.lockLost, hc]

@[simp] theorem State.lnDisable_canon (s : State) (b : Nat) (hc : s.Canon) :
    (State.lnDisable s b).Canon := by
  simp (maxDischargeDepth := 99) [State.lnDisable, hc]

@[simp] theorem State.checker_canon (s : State) (b lane : Nat) (lock : Bool) (errors : Nat) (hc : s.Canon) :
    (State.checker s b lane lock errors).Canon := by
  simp (maxDischargeDepth := 99) [State.checker, hc]

@[simp] theorem State.invert_canon (s : State) (b n : Nat) (hc : s.Canon) :
    (State.invert s b n).Canon := by
  simp (maxDischargeDepth := 99) [State.invert, hc]

@[simp] theorem State.inject_canon (s : State) (b mode : Nat) (hc : s.Canon) :
    (State.inject s b mode).Canon := by
  simp (maxDischargeDepth := 99) [State.inject, hc]

@[simp] theorem State.injectFields_canon (s : State) (b : Nat) (value : Nat) (hc : s.Canon) :
    (State.injectFields s b value).Canon := by
  simp (maxDischargeDepth := 99) [State.injectFields, hc]

theorem execBringupStart_canon (bundle : Nat) (s : State) (hc : s.Canon) :
    ∀ t, execBringupStart bundle s = .next t → t.Canon := by
  intro t h; cases h; simp (maxDischargeDepth := 99) [hc]

theorem execBringupStageDone_canon (bundle lane inverted : Nat) (numbers : List Nat) (skew : Nat) (s : State) (hc : s.Canon) :
    ∀ t, execBringupStageDone bundle lane inverted numbers skew s = .next t → t.Canon := by
  intro t h; cases h; simp (maxDischargeDepth := 99) [hc]

theorem execBringupStageTimeout_canon (bundle : Nat) (s : State) (hc : s.Canon) :
    ∀ t, execBringupStageTimeout bundle s = .next t → t.Canon := by
  intro t h; cases h; simp (maxDischargeDepth := 99) [hc]

theorem execLaneLockLost_canon (bundle lane : Nat) (s : State) (hc : s.Canon) :
    ∀ t, execLaneLockLost bundle lane s = .next t → t.Canon := by
  intro t h; cases h; simp (maxDischargeDepth := 99) [hc]

theorem execPrbsCheckerLock_canon (bundle lane : Nat) (lock : Bool) (errors : Nat) (s : State) (hc : s.Canon) :
    ∀ t, execPrbsCheckerLock bundle lane lock errors s = .next t → t.Canon := by
  intro t h; cases h; simp (maxDischargeDepth := 99) [hc]

theorem execInjectSingle_canon (bundle : Nat) (value : Word) (s : State) (hc : s.Canon) :
    ∀ t, execInjectSingle bundle value s = .next t → t.Canon := by
  intro t h; cases h; simp (maxDischargeDepth := 99) [hc]

theorem execInjectBurst_canon (bundle : Nat) (value : Word) (s : State) (hc : s.Canon) :
    ∀ t, execInjectBurst bundle value s = .next t → t.Canon := by
  intro t h; cases h; simp (maxDischargeDepth := 99) [hc]

theorem execInjectRate_canon (bundle : Nat) (value : Word) (s : State) (hc : s.Canon) :
    ∀ t, execInjectRate bundle value s = .next t → t.Canon := by
  intro t h; cases h; simp (maxDischargeDepth := 99) [hc]

theorem execInjectOff_canon (bundle : Nat) (value : Word) (s : State) (hc : s.Canon) :
    ∀ t, execInjectOff bundle value s = .next t → t.Canon := by
  intro t h; cases h; simp (maxDischargeDepth := 99) [hc]

end Sys2Proof.Machine
end

