-- ==== Sys2Proof/Laws/CanonMsix.lean ====
section
/-! SUPPORT. The operations of Machine/Msix.lean keep the invariant of a run. -/

namespace Sys2Proof.Machine

@[simp] theorem State.msix_canon (s : State) (fn vec : Nat) (hc : s.Canon) :
    (State.msix s fn vec).Canon := by
  simp (maxDischargeDepth := 99) [State.msix, hc]

theorem execMsixUnmask_canon (fn vec : Nat) (s : State) (hc : s.Canon) :
    ∀ t, execMsixUnmask fn vec s = .next t → t.Canon := by
  intro t h; cases h; simp (maxDischargeDepth := 99) [hc]

end Sys2Proof.Machine
end

