-- ==== Sys2Proof/Laws/CanonFaults.lean ====
section
/-! SUPPORT. The operations of Machine/Faults.lean keep the invariant of a run. -/

namespace Sys2Proof.Machine

@[simp] theorem State.lostNote_canon (s : State) (hc : s.Canon) :
    (State.lostNote s).Canon := by
  simp (maxDischargeDepth := 99) [State.lostNote, hc]

@[simp] theorem State.faultOffer_canon (s : State) (hc : s.Canon) :
    (State.faultOffer s).Canon := by
  simp (maxDischargeDepth := 99) [State.faultOffer, hc]

@[simp] theorem State.portOffer_canon (r : RecEntry) (s : State) (k : Nat) (hc : s.Canon) :
    (State.portOffer r s k).Canon := by
  simp (maxDischargeDepth := 99) [State.portOffer, hc]

@[simp] theorem State.record_canon (s : State) (f : FaultEntry) (hc : s.Canon) :
    (State.record s f).Canon := by
  simp +contextual (maxDischargeDepth := 99) [State.record, hc, State.canon_foldl]

@[simp] theorem State.faultTake_canon (s : State) (hc : s.Canon) :
    (State.faultTake s).Canon := by
  unfold State.faultTake; (repeat' split) <;> simp (maxDischargeDepth := 99) [hc]

@[simp] theorem State.flashWrite_canon (s : State) (hc : s.Canon) :
    (State.flashWrite s).Canon := by
  unfold State.flashWrite; (repeat' split) <;> simp (maxDischargeDepth := 99) [hc]

@[simp] theorem State.flashAll_canon (s : State) (hc : s.Canon) :
    (State.flashAll s).Canon := by
  simp +contextual (maxDischargeDepth := 99) [State.flashAll, hc, State.canon_foldl]

@[simp] theorem State.faultsDrain_canon (s : State) (hc : s.Canon) :
    (State.faultsDrain s).Canon := by
  simp +contextual (maxDischargeDepth := 99) [State.faultsDrain, hc, State.canon_foldl]

@[simp] theorem State.portDeliver_canon (s : State) (k : Nat) (hc : s.Canon) :
    (State.portDeliver s k).Canon := by
  unfold State.portDeliver; (repeat' split) <;> simp (maxDischargeDepth := 99) [hc]

theorem execFaultGroupOffer_canon (s : State) (hc : s.Canon) :
    ∀ t, execFaultGroupOffer s = .next t → t.Canon := by
  intro t h; cases h; simp (maxDischargeDepth := 99) [hc]

theorem execFaultTake_canon (s : State) (hc : s.Canon) :
    ∀ t, execFaultTake s = .next t → t.Canon := by
  intro t h; cases h; simp (maxDischargeDepth := 99) [hc]

theorem execFlashLogWrite_canon (s : State) (hc : s.Canon) :
    ∀ t, execFlashLogWrite s = .next t → t.Canon := by
  intro t h; cases h; simp (maxDischargeDepth := 99) [hc]

theorem execFaultPortDeliver_canon (sector : Nat) (s : State) (hc : s.Canon) :
    ∀ t, execFaultPortDeliver sector s = .next t → t.Canon := by
  intro t h; cases h; simp (maxDischargeDepth := 99) [hc]

theorem execFltPendClear_canon (value : Nat) (s : State) (hc : s.Canon) :
    ∀ t, execFltPendClear value s = .next t → t.Canon := by
  intro t h; cases h; simp (maxDischargeDepth := 99) [hc]

end Sys2Proof.Machine
end

