-- ==== Sys2Proof/Laws/CanonContexts.lean ====
section
/-! SUPPORT. The operations of Machine/Contexts.lean keep the invariant of a run. -/

namespace Sys2Proof.Machine

@[simp] theorem State.mapChange_canon (s : State) (e : MapEntry) (hc : s.Canon) :
    (State.mapChange s e).Canon := by
  simp (maxDischargeDepth := 99) [State.mapChange, hc]

@[simp] theorem State.ctxExchange_canon (s : State) (k : Nat) (hc : s.Canon) :
    (State.ctxExchange s k).Canon := by
  simp (maxDischargeDepth := 99) [State.ctxExchange, hc]

@[simp] theorem State.setLate_canon (s : State) (k : Nat) (l : Option LateSwitch) (hc : s.Canon) :
    (State.setLate s k l).Canon := by
  simp (maxDischargeDepth := 99) [State.setLate, hc]

@[simp] theorem State.switchTo_canon (s : State) (k p edge : Nat) (sched : Bool) (hc : s.Canon) :
    (State.switchTo s k p edge sched).2.Canon := by
  unfold State.switchTo; (repeat' split) <;> simp (maxDischargeDepth := 99) [hc]

@[simp] theorem State.takeTable_canon (s : State) (k : Nat) (hc : s.Canon) :
    (State.takeTable s k).Canon := by
  simp +contextual (maxDischargeDepth := 99) [State.takeTable, hc, State.canon_foldl]

@[simp] theorem State.schedHalt_canon (s : State) (k : Nat) (hc : s.Canon) :
    (State.schedHalt s k).Canon := by
  simp (maxDischargeDepth := 99) [State.schedHalt, hc]

@[simp] theorem State.stageNext_canon (s : State) (k j : Nat) (hc : s.Canon) :
    (State.stageNext s k j).Canon := by
  unfold State.stageNext; (repeat' split) <;> simp (maxDischargeDepth := 99) [hc]

@[simp] theorem State.enterEntry_canon (s : State) (k j : Nat) (hc : s.Canon) :
    (State.enterEntry s k j).Canon := by
  simp (maxDischargeDepth := 99) [State.enterEntry, hc]

@[simp] theorem State.goEntry_canon (s : State) (k j edge : Nat) (hc : s.Canon) :
    (State.goEntry s k j edge).Canon := by
  unfold State.goEntry
  dsimp only
  have h := State.switchTo_canon ((s.setSec k { s.sec k with want := some j, evtLatched := false })) k
    (entryPlane ((s.setSec k { s.sec k with want := some j, evtLatched := false }).actEntry k j)) edge true (by simp [hc])
  revert h
  generalize State.switchTo _ _ _ _ _ = r
  obtain ⟨x, s1⟩ := r
  intro h
  cases x <;> simp at h ⊢ <;> simp [h]

@[simp] theorem State.leaveEntry_canon (s : State) (k : Nat) (hc : s.Canon) :
    (State.leaveEntry s k).Canon := by
  simp (maxDischargeDepth := 99) [State.leaveEntry, hc]

@[simp] theorem State.schedEvent_canon (s : State) (k : Nat) (hc : s.Canon) :
    (State.schedEvent s k).Canon := by
  simp (maxDischargeDepth := 99) [State.schedEvent, hc]

@[simp] theorem State.lateEffect_canon (s : State) (k : Nat) (l : LateSwitch) (hc : s.Canon) :
    (State.lateEffect s k l).Canon := by
  unfold State.lateEffect; dsimp only; (repeat' split) <;> simp +contextual (maxDischargeDepth := 99) [hc, State.canon_foldl]

@[simp] theorem State.lateRefused_canon (s : State) (k : Nat) (l : LateSwitch) (hc : s.Canon) :
    (State.lateRefused s k l).Canon := by
  unfold State.lateRefused; dsimp only; (repeat' split) <;> simp +contextual (maxDischargeDepth := 99) [hc, State.canon_foldl]

@[simp] theorem State.setPath_canon (s : State) (k : Nat) (p : RestagePath) (hc : s.Canon) :
    (State.setPath s k p).Canon := by
  simp (maxDischargeDepth := 99) [State.setPath, hc]

@[simp] theorem State.ctxHold_canon (s : State) (k : Nat) (hc : s.Canon) :
    (State.ctxHold s k).Canon := by
  simp (maxDischargeDepth := 99) [State.ctxHold, hc]

@[simp] theorem State.schedCommit_canon (s : State) (k : Nat) (hc : s.Canon) :
    (State.schedCommit s k).Canon := by
  unfold State.schedCommit; (repeat' split) <;> simp (maxDischargeDepth := 99) [hc]

@[simp] theorem State.restageAccept_canon (s : State) (k : Nat) (hc : s.Canon) :
    (State.restageAccept s k).Canon := by
  unfold State.restageAccept; dsimp only; (repeat' split) <;> simp +contextual (maxDischargeDepth := 99) [hc, State.canon_foldl]

@[simp] theorem State.writeBackDone_canon (s : State) (k : Nat) (hc : s.Canon) :
    (State.writeBackDone s k).Canon := by
  simp (maxDischargeDepth := 99) [State.writeBackDone, hc]

@[simp] theorem State.afterRestage_canon (s : State) (k p : Nat) (usable : Bool) (hc : s.Canon) :
    (State.afterRestage s k p usable).Canon := by
  unfold State.afterRestage; (repeat' split) <;> simp (maxDischargeDepth := 99) [hc]

@[simp] theorem State.restageDone_canon (s : State) (k : Nat) (badWire : Option Nat) (hc : s.Canon) :
    (State.restageDone s k badWire).Canon := by
  unfold State.restageDone; (repeat' split) <;> simp (maxDischargeDepth := 99) [hc]

@[simp] theorem State.pathTestDone_canon (s : State) (k wire : Nat) (hc : s.Canon) :
    (State.pathTestDone s k wire).Canon := by
  unfold State.pathTestDone; dsimp only; (repeat' split) <;> simp +contextual (maxDischargeDepth := 99) [hc, State.canon_foldl]

theorem execCtxStrobe_canon (sector plane : Nat) (s : State) (hc : s.Canon) :
    ∀ t, execCtxStrobe sector plane s = .next t → t.Canon := by
  intro t h; unfold execCtxStrobe at h; (repeat' split at h) <;> cases h <;> simp +contextual (maxDischargeDepth := 99) [hc, State.canon_foldl]

@[simp] theorem State.ctxRefuse_canon (s : State) (k : Nat) (hc : s.Canon) :
    (State.ctxRefuse s k).Canon := by
  simp (maxDischargeDepth := 99) [State.ctxRefuse, hc]

@[simp] theorem State.ctxSwitchCmd_canon (s : State) (k plane : Nat) (hc : s.Canon) :
    (State.ctxSwitchCmd s k plane).Canon := by
  simp (maxDischargeDepth := 99) [State.ctxSwitchCmd, hc]

@[simp] theorem State.ctxStageCmd_canon (s : State) (k plane : Nat) (hc : s.Canon) :
    (State.ctxStageCmd s k plane).Canon := by
  simp (maxDischargeDepth := 99) [State.ctxStageCmd, hc]

@[simp] theorem State.schedStartCmd_canon (s : State) (k : Nat) (hc : s.Canon) :
    (State.schedStartCmd s k).Canon := by
  simp (maxDischargeDepth := 99) [State.schedStartCmd, hc]

@[simp] theorem State.startProceed_canon (s : State) (k : Nat) (hc : s.Canon) :
    (State.startProceed s k).Canon := by
  unfold State.startProceed; (repeat' split) <;> simp (maxDischargeDepth := 99) [hc]

@[simp] theorem State.wbLimit_canon (s : State) (k : Nat) (hc : s.Canon) :
    (State.wbLimit s k).Canon := by
  simp (maxDischargeDepth := 99) [State.wbLimit, hc]

@[simp] theorem State.schedStopCmd_canon (s : State) (k : Nat) (hc : s.Canon) :
    (State.schedStopCmd s k).Canon := by
  simp (maxDischargeDepth := 99) [State.schedStopCmd, hc]

@[simp] theorem State.ctxEventCmd_canon (s : State) (k : Nat) (hc : s.Canon) :
    (State.ctxEventCmd s k).Canon := by
  simp (maxDischargeDepth := 99) [State.ctxEventCmd, hc]

theorem execRestageAccept_canon (sector : Nat) (s : State) (hc : s.Canon) :
    ∀ t, execRestageAccept sector s = .next t → t.Canon := by
  intro t h; cases h; simp (maxDischargeDepth := 99) [hc]

theorem execWriteBackDone_canon (sector : Nat) (s : State) (hc : s.Canon) :
    ∀ t, execWriteBackDone sector s = .next t → t.Canon := by
  intro t h; cases h; simp (maxDischargeDepth := 99) [hc]

theorem execRestageDone_canon (sector : Nat) (badWire : Option Nat) (s : State) (hc : s.Canon) :
    ∀ t, execRestageDone sector badWire s = .next t → t.Canon := by
  intro t h; cases h; simp (maxDischargeDepth := 99) [hc]

theorem execRestagePathTestDone_canon (sector wire : Nat) (s : State) (hc : s.Canon) :
    ∀ t, execRestagePathTestDone sector wire s = .next t → t.Canon := by
  intro t h; cases h; simp (maxDischargeDepth := 99) [hc]

theorem execSwitch_canon (sector plane : Nat) (s : State) (hc : s.Canon) :
    ∀ t, execSwitch sector plane s = .next t → t.Canon := by
  intro t h; cases h; simp (maxDischargeDepth := 99) [hc]

theorem execStage_canon (sector plane : Nat) (s : State) (hc : s.Canon) :
    ∀ t, execStage sector plane s = .next t → t.Canon := by
  intro t h; cases h; simp (maxDischargeDepth := 99) [hc]

theorem execSchedStart_canon (sector : Nat) (s : State) (hc : s.Canon) :
    ∀ t, execSchedStart sector s = .next t → t.Canon := by
  intro t h; cases h; simp (maxDischargeDepth := 99) [hc]

theorem execSchedStop_canon (sector : Nat) (s : State) (hc : s.Canon) :
    ∀ t, execSchedStop sector s = .next t → t.Canon := by
  intro t h; cases h; simp (maxDischargeDepth := 99) [hc]

theorem execEvent_canon (sector : Nat) (s : State) (hc : s.Canon) :
    ∀ t, execEvent sector s = .next t → t.Canon := by
  intro t h; cases h; simp (maxDischargeDepth := 99) [hc]

theorem execCtxCmdInvalid_canon (sector op : Nat) (s : State) (hc : s.Canon) :
    ∀ t, execCtxCmdInvalid sector op s = .next t → t.Canon := by
  intro t h; cases h; simp (maxDischargeDepth := 99) [hc]

@[simp] theorem State.ctxCmdWrite_canon (s : State) (k v : Nat) (hc : s.Canon) :
    (State.ctxCmdWrite s k v).Canon := by
  unfold State.ctxCmdWrite; (repeat' split) <;> simp (maxDischargeDepth := 99) [hc]

theorem execSchedStartTime_canon (sector : Nat) (s : State) (hc : s.Canon) :
    ∀ t, execSchedStartTime sector s = .next t → t.Canon := by
  intro t h; unfold execSchedStartTime at h; split at h <;> cases h <;> simp (maxDischargeDepth := 99) [hc]

theorem execSchedDwellEnd_canon (sector : Nat) (s : State) (hc : s.Canon) :
    ∀ t, execSchedDwellEnd sector s = .next t → t.Canon := by
  intro t h; unfold execSchedDwellEnd at h; dsimp only at h; (repeat' split at h) <;> cases h <;> simp +contextual (maxDischargeDepth := 99) [hc, State.canon_foldl]

theorem execSchedEvtIn_canon (sector : Nat) (s : State) (hc : s.Canon) :
    ∀ t, execSchedEvtIn sector s = .next t → t.Canon := by
  intro t h; unfold execSchedEvtIn at h; split at h <;> cases h <;> simp (maxDischargeDepth := 99) [hc]

theorem execCtxTick_canon (sector : Nat) (s : State) (hc : s.Canon) :
    ∀ t, execCtxTick sector s = .next t → t.Canon := by
  intro t h; unfold execCtxTick at h; split at h <;> cases h <;> simp (maxDischargeDepth := 99) [hc]

theorem execSchedTableTake_canon (sector : Nat) (s : State) (hc : s.Canon) :
    ∀ t, execSchedTableTake sector s = .next t → t.Canon := by
  intro t h; unfold execSchedTableTake at h; split at h <;> cases h <;> simp (maxDischargeDepth := 99) [hc]

end Sys2Proof.Machine
end

