-- ==== Sys2Proof/Laws/CanonStack.lean ====
section
/-! SUPPORT. The operations of Machine/Stack.lean keep the invariant of a run. -/

namespace Sys2Proof.Machine

@[simp] theorem State.abandonLocs_canon (s : State) (island : Nat) (hc : s.Canon) :
    (State.abandonLocs s island).Canon := by
  simp (maxDischargeDepth := 99) [State.abandonLocs, hc]

@[simp] theorem State.setSp_canon (s : State) (sector : Nat) (p : SpSec) (hc : s.Canon) :
    (State.setSp s sector p).Canon := by
  simp (maxDischargeDepth := 99) [State.setSp, hc]

@[simp] theorem State.spPoison_canon (s : State) (sector : Nat) (hc : s.Canon) :
    (State.spPoison s sector).Canon := by
  unfold State.spPoison; (repeat' split) <;> simp (maxDischargeDepth := 99) [hc]

@[simp] theorem State.bistHeld_canon (s : State) (island : Nat) (hc : s.Canon) :
    (State.bistHeld s island).Canon := by
  unfold State.bistHeld; (repeat' split) <;> simp +contextual (maxDischargeDepth := 99) [hc, State.canon_foldl]

@[simp] theorem State.holdIsland_canon (s : State) (island : Nat) (hc : s.Canon) :
    (State.holdIsland s island).Canon := by
  simp (maxDischargeDepth := 99) [State.holdIsland, hc]

@[simp] theorem State.stagedCheckWire_canon (s : State) (sector tile z : Nat) (hc : s.Canon) :
    (State.stagedCheckWire s sector tile z).Canon := by
  simp (maxDischargeDepth := 99) [State.stagedCheckWire, hc]

@[simp] theorem State.wireDead_canon (s : State) (island tile z : Nat) (hc : s.Canon) :
    (State.wireDead s island tile z).Canon := by
  simp (maxDischargeDepth := 99) [State.wireDead, hc]

@[simp] theorem State.wireSteer_canon (s : State) (island tile z i : Nat) (hc : s.Canon) :
    (State.wireSteer s island tile z i).Canon := by
  simp (maxDischargeDepth := 99) [State.wireSteer, hc]

@[simp] theorem State.locEnd_canon (s : State) (island tile : Nat) (hc : s.Canon) :
    (State.locEnd s island tile).Canon := by
  simp (maxDischargeDepth := 99) [State.locEnd, hc]

@[simp] theorem State.idleFails_canon (s : State) (island tile z : Nat) (hc : s.Canon) :
    (State.idleFails s island tile z).Canon := by
  unfold State.idleFails; dsimp only; (repeat' split) <;> simp +contextual (maxDischargeDepth := 99) [hc, State.canon_foldl]

@[simp] theorem State.liveWireFails_canon (s : State) (island tile z : Nat) (hc : s.Canon) :
    (State.liveWireFails s island tile z).Canon := by
  simp (maxDischargeDepth := 99) [State.liveWireFails, hc]

@[simp] theorem State.parityMismatch_canon (s : State) (island tile : Nat) (idleFailing : List Nat) (wire : Nat)
    (hc : s.Canon) :
    (State.parityMismatch s island tile idleFailing wire).Canon := by
  unfold State.parityMismatch; dsimp only; (repeat' split) <;> simp +contextual (maxDischargeDepth := 99) [hc, State.canon_foldl]

@[simp] theorem State.locWindowEnd_canon (s : State) (island tile : Nat) (spareMis parityMis : Bool) (hc : s.Canon) :
    (State.locWindowEnd s island tile spareMis parityMis).Canon := by
  unfold State.locWindowEnd; dsimp only; (repeat' split) <;> simp +contextual (maxDischargeDepth := 99) [hc, State.canon_foldl]

@[simp] theorem State.setRowPort_canon (s : State) (bank : Nat) (p : RowPort) (hc : s.Canon) :
    (State.setRowPort s bank p).Canon := by
  simp (maxDischargeDepth := 99) [State.setRowPort, hc]

@[simp] theorem State.rowBitFails_canon (s : State) (bank bitPos : Nat) (hc : s.Canon) :
    (State.rowBitFails s bank bitPos).Canon := by
  simp (maxDischargeDepth := 99) [State.rowBitFails, hc]

@[simp] theorem State.rowBitError_canon (s : State) (bank row bitPos : Nat) (hc : s.Canon) :
    (State.rowBitError s bank row bitPos).Canon := by
  simp (maxDischargeDepth := 99) [State.rowBitError, hc]

@[simp] theorem State.testedWireFails_canon (s : State) (island tile z : Nat) (hc : s.Canon) :
    (State.testedWireFails s island tile z).Canon := by
  simp (maxDischargeDepth := 99) [State.testedWireFails, hc]

@[simp] theorem State.spareFails_canon (s : State) (island tile i : Nat) (hc : s.Canon) :
    (State.spareFails s island tile i).Canon := by
  simp (maxDischargeDepth := 99) [State.spareFails, hc]

@[simp] theorem State.bgtestVisit_canon (s : State) (island tile : Nat) (wires spares : List Nat) (bank : Nat)
    (rowBits : List Nat) (hc : s.Canon) :
    (State.bgtestVisit s island tile wires spares bank rowBits).Canon := by
  simp +contextual (maxDischargeDepth := 99) [State.bgtestVisit, hc, State.canon_foldl]

@[simp] theorem State.startRetune_canon (s : State) (island band : Nat) (hc : s.Canon) :
    (State.startRetune s island band).Canon := by
  simp (maxDischargeDepth := 99) [State.startRetune, hc]

@[simp] theorem State.retuneStep_canon (s : State) (island line : Nat) (window : Option (Nat × Nat)) (last : Bool)
    (hc : s.Canon) :
    (State.retuneStep s island line window last).Canon := by
  unfold State.retuneStep; (repeat' split) <;> simp (maxDischargeDepth := 99) [hc]

@[simp] theorem State.beatError_canon (s : State) (trunk : Bool) (unit : Nat) (double control : Bool) (hc : s.Canon) :
    (State.beatError s trunk unit double control).Canon := by
  simp (maxDischargeDepth := 99) [State.beatError, hc]

theorem execRiserBeatError_canon (trunk : Bool) (unit : Nat) (double control : Bool) (s : State) (hc : s.Canon) :
    ∀ t, execRiserBeatError trunk unit double control s = .next t → t.Canon := by
  intro t h; cases h; simp (maxDischargeDepth := 99) [hc]

theorem execParityMismatch_canon (island tile : Nat) (idleFailing : List Nat) (wire : Nat) (s : State) (hc : s.Canon) :
    ∀ t, execParityMismatch island tile idleFailing wire s = .next t → t.Canon := by
  intro t h; cases h; simp (maxDischargeDepth := 99) [hc]

theorem execBgtestVisitEnd_canon (island tile : Nat) (wires spares : List Nat) (bank : Nat) (rowBits : List Nat)
    (s : State) (hc : s.Canon) :
    ∀ t, execBgtestVisitEnd island tile wires spares bank rowBits s = .next t → t.Canon := by
  intro t h; cases h; simp (maxDischargeDepth := 99) [hc]

theorem execLocWindowEnd_canon (island tile : Nat) (spareMismatch parityMismatch : Bool) (s : State) (hc : s.Canon) :
    ∀ t, execLocWindowEnd island tile spareMismatch parityMismatch s = .next t → t.Canon := by
  intro t h; cases h; simp (maxDischargeDepth := 99) [hc]

theorem execRetuneStep_canon (island line : Nat) (window : Option (Nat × Nat)) (last : Bool) (s : State) (hc : s.Canon) :
    ∀ t, execRetuneStep island line window last s = .next t → t.Canon := by
  intro t h; cases h; simp (maxDischargeDepth := 99) [hc]

theorem execRestagePathRetuneDone_canon (sector : Nat) (s : State) (hc : s.Canon) :
    ∀ t, execRestagePathRetuneDone sector s = .next t → t.Canon := by
  intro t h; unfold execRestagePathRetuneDone at h; split at h <;> cases h <;> simp (maxDischargeDepth := 99) [hc]

theorem execMapWriteDone_canon (s : State) (hc : s.Canon) :
    ∀ t, execMapWriteDone s = .next t → t.Canon := by
  intro t h; unfold execMapWriteDone at h; (repeat' split at h) <;> cases h <;> simp +contextual (maxDischargeDepth := 99) [hc, State.canon_foldl]

end Sys2Proof.Machine
end

