-- ==== Sys2Proof/Laws/CanonReset.lean ====
section
/-! SUPPORT. The operations of Machine/Reset.lean keep the invariant of a run. -/

namespace Sys2Proof.Machine

@[simp] theorem State.fuseView_canon (s : State) (hc : s.Canon) :
    (State.fuseView s).Canon := by
  simp +contextual (maxDischargeDepth := 99) [State.fuseView, hc, State.canon_foldl]

@[simp] theorem State.afterReset_canon (s : State) (hc : s.Canon) :
    (State.afterReset s).Canon := by
  simp (maxDischargeDepth := 99) [State.afterReset, hc]

@[simp] theorem State.flashWrites_canon (s : State) (hc : s.Canon) :
    (State.flashWrites s).Canon := by
  simp (maxDischargeDepth := 99) [State.flashWrites, hc]

@[simp] theorem State.startUp_canon (s : State) (power commanded : Bool) (hc : s.Canon) :
    (State.startUp s power commanded).Canon := by
  simp (maxDischargeDepth := 99) [State.startUp, hc]

theorem execPowerOn_canon (s : State) (hc : s.Canon) :
    ∀ t, execPowerOn s = .next t → t.Canon := by
  intro t h; cases h; simp (maxDischargeDepth := 99) [hc]

theorem execResetNLow_canon (s : State) (hc : s.Canon) :
    ∀ t, execResetNLow s = .next t → t.Canon := by
  intro t h; cases h; simp (maxDischargeDepth := 99) [hc]

end Sys2Proof.Machine
end

