-- ==== Sys2Proof/Laws/CanonStaged.lean ====
section
/-! SUPPORT. The operations of Machine/Staged.lean keep the invariant of a run. -/

namespace Sys2Proof.Machine

@[simp] theorem State.setStagedAt_canon (s : State) (off v : Nat) (inst : Nat) (hc : s.Canon) :
    (State.setStagedAt s off v inst).Canon := by
  simp (maxDischargeDepth := 99) [State.setStagedAt, hc]

@[simp] theorem State.commitGroup_canon (s : State) (base group : Nat) (hc : s.Canon) :
    (State.commitGroup s base group).Canon := by
  unfold State.commitGroup
  exact (State.canon_foldl (by intro t e ht; dsimp only; split <;> simp (maxDischargeDepth := 99) [ht]) _ hc).of_eq rfl rfl rfl rfl rfl rfl rfl rfl

@[simp] theorem State.commitEnds_canon (s : State) (base group : Nat) (hc : s.Canon) :
    (State.commitEnds s base group).Canon := by
  simp (maxDischargeDepth := 99) [State.commitEnds, hc]

@[simp] theorem State.commitWaits_canon (s : State) (base group : Nat) (hc : s.Canon) :
    (State.commitWaits s base group).Canon := by
  simp (maxDischargeDepth := 99) [State.commitWaits, hc]

end Sys2Proof.Machine
end

