-- ==== Sys2Proof/Laws/CanonAttempt.lean ====
section
/-! SUPPORT. The operations of Machine/Attempt.lean keep the invariant of a run. -/

namespace Sys2Proof.Machine

@[simp] theorem State.applySettings_canon (s : State) (hc : s.Canon) :
    (State.applySettings s).Canon := by
  unfold State.applySettings
  refine State.canon_foldl (fun t e ht => ?_) _ hc
  dsimp only
  generalize findReg e.1 = r
  rcases r with _ | ⟨d, _⟩
  · exact ht
  · exact State.setReg_canon _ _ _ _ ht

@[simp] theorem State.undo_canon (s : State) (hc : s.Canon) :
    (State.undo s).Canon := by
  simp (maxDischargeDepth := 99) [State.undo, hc]

@[simp] theorem State.beginLoad_canon (s : State) (hc : s.Canon) :
    (State.beginLoad s).Canon := by
  simp (maxDischargeDepth := 99) [State.beginLoad, hc]

@[simp] theorem State.safeState_canon (s : State) (hc : s.Canon) :
    (State.safeState s).Canon := by
  simp (maxDischargeDepth := 99) [State.safeState, hc]

@[simp] theorem State.attemptFail_canon (s : State) (code : Nat) (hc : s.Canon) :
    (State.attemptFail s code).Canon := by
  unfold State.attemptFail; (repeat' split) <;> simp (maxDischargeDepth := 99) [hc]

@[simp] theorem State.regionUnload_canon (s : State) (hc : s.Canon) :
    (State.regionUnload s).Canon := by
  simp +contextual (maxDischargeDepth := 99) [State.regionUnload, hc, State.canon_foldl]

@[simp] theorem State.streamLeft_canon (s : State) (hc : s.Canon) :
    (State.streamLeft s).Canon := by
  simp (maxDischargeDepth := 99) [State.streamLeft, hc]

@[simp] theorem State.loadEnds_canon (s : State) (code : Nat) (hc : s.Canon) :
    (State.loadEnds s code).Canon := by
  simp (maxDischargeDepth := 99) [State.loadEnds, hc]

@[simp] theorem State.loadFail_canon (s : State) (f : FaultCode) (loc : List Nat) (hc : s.Canon) :
    (State.loadFail s f loc).Canon := by
  simp (maxDischargeDepth := 99) [State.loadFail, hc]

end Sys2Proof.Machine
end

