-- ==== Sys2Proof/Laws/CanonClocks.lean ====
section
/-! SUPPORT. The operations of Machine/Clocks.lean keep the invariant of a run. -/

namespace Sys2Proof.Machine

@[simp] theorem State.trimEnd_canon (s : State) (err : Int) (absent : Bool) (hc : s.Canon) :
    (State.trimEnd s err absent).Canon := by
  simp (maxDischargeDepth := 99) [State.trimEnd, hc]

@[simp] theorem State.setMove_canon (s : State) (island : Nat) (m : Option ClkMove) (hc : s.Canon) :
    (State.setMove s island m).Canon := by
  simp (maxDischargeDepth := 99) [State.setMove, hc]

@[simp] theorem State.moveStart_canon (s : State) (island goal oldVid : Nat) (hc : s.Canon) :
    (State.moveStart s island goal oldVid).Canon := by
  simp (maxDischargeDepth := 99) [State.moveStart, hc]

@[simp] theorem State.takeTarget_canon (s : State) (island : Nat) (hc : s.Canon) :
    (State.takeTarget s island).Canon := by
  simp (maxDischargeDepth := 99) [State.takeTarget, hc]

@[simp] theorem State.targetWrite_canon (s : State) (island target : Nat) (hc : s.Canon) :
    (State.targetWrite s island target).Canon := by
  simp (maxDischargeDepth := 99) [State.targetWrite, hc]

@[simp] theorem State.opCommit_canon (s : State) (hc : s.Canon) :
    (State.opCommit s).Canon := by
  simp +contextual (maxDischargeDepth := 99) [State.opCommit, hc, State.canon_foldl]

@[simp] theorem State.opCommitAsk_canon (s : State) (hc : s.Canon) :
    (State.opCommitAsk s).Canon := by
  simp (maxDischargeDepth := 99) [State.opCommitAsk, hc]

@[simp] theorem State.loopCommitAsk_canon (s : State) (hc : s.Canon) :
    (State.loopCommitAsk s).Canon := by
  simp (maxDischargeDepth := 99) [State.loopCommitAsk, hc]

@[simp] theorem State.afterMove_canon (s : State) (island : Nat) (hc : s.Canon) :
    (State.afterMove s island).Canon := by
  simp +contextual (maxDischargeDepth := 99) [State.afterMove, hc, State.canon_foldl]

@[simp] theorem State.branchSwitch_canon (s : State) (island : Nat) (hc : s.Canon) :
    (State.branchSwitch s island).Canon := by
  unfold State.branchSwitch; (repeat' split) <;> simp (maxDischargeDepth := 99) [hc]

@[simp] theorem State.moveEnd_canon (s : State) (island : Nat) (hc : s.Canon) :
    (State.moveEnd s island).Canon := by
  unfold State.moveEnd; (repeat' split) <;> simp (maxDischargeDepth := 99) [hc]

@[simp] theorem State.moveTimeout_canon (s : State) (island : Nat) (hc : s.Canon) :
    (State.moveTimeout s island).Canon := by
  unfold State.moveTimeout; (repeat' split) <;> simp (maxDischargeDepth := 99) [hc]

@[simp] theorem State.loopLock_canon (s : State) (island : Bool) (n : Nat) (hc : s.Canon) :
    (State.loopLock s island n).Canon := by
  simp (maxDischargeDepth := 99) [State.loopLock, hc]

@[simp] theorem State.genUnlock_canon (s : State) (island : Nat) (hc : s.Canon) :
    (State.genUnlock s island).Canon := by
  simp (maxDischargeDepth := 99) [State.genUnlock, hc]

@[simp] theorem State.loopLoses_canon (s : State) (ref n : Nat) (hc : s.Canon) :
    (State.loopLoses s ref n).Canon := by
  simp (maxDischargeDepth := 99) [State.loopLoses, hc]

@[simp] theorem State.clockFlagged_canon (s : State) (clock : Nat) (hc : s.Canon) :
    (State.clockFlagged s clock).Canon := by
  simp +contextual (maxDischargeDepth := 99) [State.clockFlagged, hc, State.canon_foldl]

@[simp] theorem State.clockGood_canon (s : State) (clock : Nat) (hc : s.Canon) :
    (State.clockGood s clock).Canon := by
  simp (maxDischargeDepth := 99) [State.clockGood, hc]

theorem execTrimWindowEnd_canon (err : Int) (absent : Bool) (s : State) (hc : s.Canon) :
    ∀ t, execTrimWindowEnd err absent s = .next t → t.Canon := by
  intro t h; cases h; simp (maxDischargeDepth := 99) [hc]

theorem execLoopLock_canon (island : Bool) (n : Nat) (s : State) (hc : s.Canon) :
    ∀ t, execLoopLock island n s = .next t → t.Canon := by
  intro t h; cases h; simp (maxDischargeDepth := 99) [hc]

theorem execOpTargetWrite_canon (island target : Nat) (s : State) (hc : s.Canon) :
    ∀ t, execOpTargetWrite island target s = .next t → t.Canon := by
  intro t h; cases h; simp (maxDischargeDepth := 99) [hc]

theorem execBranchSwitch_canon (island : Nat) (s : State) (hc : s.Canon) :
    ∀ t, execBranchSwitch island s = .next t → t.Canon := by
  intro t h; cases h; simp (maxDischargeDepth := 99) [hc]

theorem execOpTransitionEnd_canon (island : Nat) (s : State) (hc : s.Canon) :
    ∀ t, execOpTransitionEnd island s = .next t → t.Canon := by
  intro t h; cases h; simp (maxDischargeDepth := 99) [hc]

theorem execOpTimeout_canon (island : Nat) (s : State) (hc : s.Canon) :
    ∀ t, execOpTimeout island s = .next t → t.Canon := by
  intro t h; cases h; simp (maxDischargeDepth := 99) [hc]

theorem execGeneratorUnlock_canon (island : Nat) (s : State) (hc : s.Canon) :
    ∀ t, execGeneratorUnlock island s = .next t → t.Canon := by
  intro t h; cases h; simp (maxDischargeDepth := 99) [hc]

theorem execMissingClock_canon (clock : Nat) (s : State) (hc : s.Canon) :
    ∀ t, execMissingClock clock s = .next t → t.Canon := by
  intro t h; cases h; simp (maxDischargeDepth := 99) [hc]

theorem execFreqMonitorWindow_canon (clock ppm : Nat) (s : State) (hc : s.Canon) :
    ∀ t, execFreqMonitorWindow clock ppm s = .next t → t.Canon := by
  intro t h; cases h; simp (maxDischargeDepth := 99) [hc]

end Sys2Proof.Machine
end

