-- ==== Sys2Proof/Laws/CanonMac.lean ====
section
/-! SUPPORT. The operations of Machine/Mac.lean keep the invariant of a run. -/

namespace Sys2Proof.Machine

@[simp] theorem State.pushStamp_canon (s : State) (mac tag time : Nat) (hc : s.Canon) :
    (State.pushStamp s mac tag time).Canon := by
  simp (maxDischargeDepth := 99) [State.pushStamp, hc]

@[simp] theorem State.macTransmit_canon (s : State) (mac : Nat) (data : List Byte) (meta32 : Nat) (poison : Bool)
    (hc : s.Canon) :
    (State.macTransmit s mac data meta32 poison).Canon := by
  simp (maxDischargeDepth := 99) [State.macTransmit, hc]

@[simp] theorem State.setMacHeld_canon (s : State) (mac pri n : Nat) (hc : s.Canon) :
    (State.setMacHeld s mac pri n).Canon := by
  simp (maxDischargeDepth := 99) [State.setMacHeld, hc]

@[simp] theorem State.pfcUpdate_canon (s : State) (mac pri : Nat) (hc : s.Canon) :
    (State.pfcUpdate s mac pri).Canon := by
  simp (maxDischargeDepth := 99) [State.pfcUpdate, hc]

@[simp] theorem State.macHold_canon (s : State) (mac pri n : Nat) (hc : s.Canon) :
    (State.macHold s mac pri n).Canon := by
  simp (maxDischargeDepth := 99) [State.macHold, hc]

@[simp] theorem State.macDrop_canon (s : State) (mac pri n : Nat) (hc : s.Canon) :
    (State.macDrop s mac pri n).Canon := by
  simp (maxDischargeDepth := 99) [State.macDrop, hc]

end Sys2Proof.Machine
end

