-- ==== Sys2Proof/Laws/CanonMemory.lean ====
section
/-! SUPPORT. The operations of Machine/Memory.lean keep the invariant of a run. -/

namespace Sys2Proof.Machine

@[simp] theorem State.setWordBits_canon (s : State) (bank word : Nat) (v : BankBits) (hc : s.Canon) :
    (State.setWordBits s bank word v).Canon := by
  unfold State.setWordBits; (repeat' split) <;> simp (maxDischargeDepth := 99) [hc]

@[simp] theorem State.upset_canon (s : State) (bank word : Nat) (flips : List Nat) (hc : s.Canon) :
    (State.upset s bank word flips).Canon := by
  simp (maxDischargeDepth := 99) [State.upset, hc]

@[simp] theorem State.setMerge_canon (s : State) (col : Nat) (l : List MergeEntry) (hc : s.Canon) :
    (State.setMerge s col l).Canon := by
  simp (maxDischargeDepth := 99) [State.setMerge, hc]

@[simp] theorem State.mergeDrop_canon (s : State) (bank word : Nat) (hc : s.Canon) :
    (State.mergeDrop s bank word).Canon := by
  simp (maxDischargeDepth := 99) [State.mergeDrop, hc]

@[simp] theorem State.noteRead_canon (s : State) (bank word : Nat) (d : Decoded) (hc : s.Canon) :
    (State.noteRead s bank word d).Canon := by
  unfold State.noteRead; (repeat' split) <;> simp (maxDischargeDepth := 99) [hc]

@[simp] theorem State.repairPush_canon (s : State) (bank word : Nat) (d : BankData) (hc : s.Canon) :
    (State.repairPush s bank word d).Canon := by
  simp (maxDischargeDepth := 99) [State.repairPush, hc]

@[simp] theorem State.readWord_canon (s : State) (bank word : Nat) (hc : s.Canon) :
    (State.readWord s bank word).2.2.Canon := by
  simp (maxDischargeDepth := 99) [State.readWord, hc]

@[simp] theorem State.cancelRepair_canon (s : State) (bank word : Nat) (hc : s.Canon) :
    (State.cancelRepair s bank word).Canon := by
  simp (maxDischargeDepth := 99) [State.cancelRepair, hc]

@[simp] theorem State.writeWhole_canon (s : State) (bank word : Nat) (d : BankData) (hc : s.Canon) :
    (State.writeWhole s bank word d).Canon := by
  simp (maxDischargeDepth := 99) [State.writeWhole, hc]

@[simp] theorem State.writeDirect_canon (s : State) (bank word : Nat) (d : BankData) (mask : Nat) (hc : s.Canon) :
    (State.writeDirect s bank word d mask).Canon := by
  simp (maxDischargeDepth := 99) [State.writeDirect, hc]

@[simp] theorem State.drainEntry_canon (s : State) (col : Nat) (e : MergeEntry) (hc : s.Canon) :
    (State.drainEntry s col e).Canon := by
  simp (maxDischargeDepth := 99) [State.drainEntry, hc]

@[simp] theorem State.mergePut_canon (s : State) (bank word : Nat) (d : BankData) (mask : Nat) (hc : s.Canon) :
    (State.mergePut s bank word d mask).Canon := by
  unfold State.mergePut; dsimp only; (repeat' split) <;> simp +contextual (maxDischargeDepth := 99) [hc, State.canon_foldl]

@[simp] theorem State.writeWord_canon (s : State) (bank word : Nat) (d : BankData) (mask : Nat) (hc : s.Canon) :
    (State.writeWord s bank word d mask).Canon := by
  simp (maxDischargeDepth := 99) [State.writeWord, hc]

@[simp] theorem State.readRow_canon (s : State) (bank row : Nat) (hc : s.Canon) :
    (State.readRow s bank row).2.2.Canon := by
  exact foldl_keeps (fun (acc : List Nat × Nat × State) => acc.2.2.Canon)
    (by rintro ⟨ds, mask, t⟩ k ht; replace ht : t.Canon := ht; simp +contextual (maxDischargeDepth := 99) [ht, State.canon_foldl]) _ hc

@[simp] theorem State.writeRow_canon (s : State) (bank row : Nat) (d : RowBits) (hc : s.Canon) :
    (State.writeRow s bank row d).Canon := by
  simp +contextual (maxDischargeDepth := 99) [State.writeRow, hc, State.canon_foldl]

@[simp] theorem State.doOp_canon (s : State) (bank dst : Nat) (op : MemOp) (hc : s.Canon) :
    (State.doOp s bank dst op).Canon := by
  unfold State.doOp; dsimp only; (repeat' split) <;> simp +contextual (maxDischargeDepth := 99) [hc, State.canon_foldl]

@[simp] theorem State.collision_canon (s : State) (bank : Nat) (a b : MemOp) (hc : s.Canon) :
    (State.collision s bank a b).Canon := by
  simp (maxDischargeDepth := 99) [State.collision, hc]

@[simp] theorem State.twoPorts_canon (s : State) (bank dst : Nat) (a b : MemOp) (hc : s.Canon) :
    (State.twoPorts s bank dst a b).Canon := by
  simp (maxDischargeDepth := 99) [State.twoPorts, hc]

@[simp] theorem State.notOwner_canon (s : State) (bank : Nat) (hc : s.Canon) :
    (State.notOwner s bank).Canon := by
  simp (maxDischargeDepth := 99) [State.notOwner, hc]

@[simp] theorem State.fillPush_canon (s : State) (bank : Nat) (m : MemMaster) (op : MemOp) (hc : s.Canon) :
    (State.fillPush s bank m op).Canon := by
  simp (maxDischargeDepth := 99) [State.fillPush, hc]

@[simp] theorem State.fgRequest_canon (s : State) (m : MemMaster) (bank : Nat) (portB : Bool) (op : MemOp) (other : Option
    (MemMaster × MemOp)) (upsets : List Nat) (hc : s.Canon) :
    (State.fgRequest s m bank portB op other upsets).Canon := by
  unfold State.fgRequest; (repeat' split) <;> simp (maxDischargeDepth := 99) [hc]

@[simp] theorem State.setBg_canon (s : State) (bank : Nat) (l : List MemReq) (hc : s.Canon) :
    (State.setBg s bank l).Canon := by
  simp (maxDischargeDepth := 99) [State.setBg, hc]

@[simp] theorem State.bgPush_canon (s : State) (bank : Nat) (r : MemReq) (hc : s.Canon) :
    (State.bgPush s bank r).Canon := by
  simp (maxDischargeDepth := 99) [State.bgPush, hc]

@[simp] theorem State.jobStep_canon (s : State) (job : Nat) (word : Option (Nat × BankData)) (bad refused : Bool)
    (hc : s.Canon) :
    (State.jobStep s job word bad refused).Canon := by
  unfold State.jobStep; (repeat' split) <;> simp (maxDischargeDepth := 99) [hc]

@[simp] theorem State.bgRun_canon (s : State) (bank : Nat) (r : MemReq) (hc : s.Canon) :
    (State.bgRun s bank r).Canon := by
  unfold State.bgRun; dsimp only; (repeat' split) <;> simp +contextual (maxDischargeDepth := 99) [hc, State.canon_foldl]

@[simp] theorem State.bgGrant_canon (s : State) (bank : Nat) (other : Option (MemMaster × MemOp)) (hc : s.Canon) :
    (State.bgGrant s bank other).Canon := by
  unfold State.bgGrant; (repeat' split) <;> simp (maxDischargeDepth := 99) [hc]

@[simp] theorem State.bgStarved_canon (s : State) (bank master : Nat) (hc : s.Canon) :
    (State.bgStarved s bank master).Canon := by
  simp (maxDischargeDepth := 99) [State.bgStarved, hc]

@[simp] theorem State.takeTokens_canon (s : State) (k n : Nat) (hc : s.Canon) :
    (State.takeTokens s k n).Canon := by
  simp (maxDischargeDepth := 99) [State.takeTokens, hc]

@[simp] theorem State.setRowWaits_canon (s : State) (k : Nat) (l : List RowWait) (hc : s.Canon) :
    (State.setRowWaits s k l).Canon := by
  simp (maxDischargeDepth := 99) [State.setRowWaits, hc]

@[simp] theorem State.rowGranted_canon (s : State) (bank : Nat) (hc : s.Canon) :
    (State.rowGranted s bank).Canon := by
  simp (maxDischargeDepth := 99) [State.rowGranted, hc]

@[simp] theorem State.rowArrive_canon (s : State) (bank : Nat) (hc : s.Canon) :
    (State.rowArrive s bank).Canon := by
  simp (maxDischargeDepth := 99) [State.rowArrive, hc]

@[simp] theorem State.rowTokenGrant_canon (s : State) (k : Nat) (hc : s.Canon) :
    (State.rowTokenGrant s k).Canon := by
  unfold State.rowTokenGrant; (repeat' split) <;> simp (maxDischargeDepth := 99) [hc]

@[simp] theorem State.copyRow_canon (s : State) (src srow dst drow : Nat) (hc : s.Canon) :
    (State.copyRow s src srow dst drow).Canon := by
  refine State.canon_foldl (fun t x ht => ?_) _
    (foldl_keeps (fun (acc : List (BankData × Bool) × State) => acc.2.Canon)
      (by rintro ⟨ds, t⟩ k ht; replace ht : t.Canon := ht; simp (maxDischargeDepth := 99) [ht]) _ hc)
  split <;> simp (maxDischargeDepth := 99) [ht]

@[simp] theorem State.rowCopyGo_canon (s : State) (count : Nat) (hc : s.Canon) :
    (State.rowCopyGo s count).Canon := by
  simp (maxDischargeDepth := 99) [State.rowCopyGo, hc]

@[simp] theorem State.rowCopyDone_canon (s : State) (col : Nat) (hc : s.Canon) :
    (State.rowCopyDone s col).Canon := by
  simp +contextual (maxDischargeDepth := 99) [State.rowCopyDone, hc, State.canon_foldl]

@[simp] theorem State.askRemap_canon (s : State) (bank word : Nat) (hc : s.Canon) :
    (State.askRemap s bank word).Canon := by
  simp (maxDischargeDepth := 99) [State.askRemap, hc]

@[simp] theorem State.scrubWrite_canon (s : State) (bank word : Nat) (d : Decoded) (hc : s.Canon) :
    (State.scrubWrite s bank word d).Canon := by
  unfold State.scrubWrite; (repeat' split) <;> simp (maxDischargeDepth := 99) [hc]

@[simp] theorem State.lapRemap_canon (s : State) (bank word : Nat) (d : Decoded) (hc : s.Canon) :
    (State.lapRemap s bank word d).Canon := by
  simp (maxDischargeDepth := 99) [State.lapRemap, hc]

@[simp] theorem State.lapRead_canon (s : State) (bank : Nat) (upsets : List Nat) (hc : s.Canon) :
    (State.lapRead s bank upsets).Canon := by
  simp (maxDischargeDepth := 99) [State.lapRead, hc]

@[simp] theorem State.lapEnd_canon (s : State) (hc : s.Canon) :
    (State.lapEnd s).Canon := by
  simp (maxDischargeDepth := 99) [State.lapEnd, hc]

@[simp] theorem State.scrubGo_canon (s : State) (hc : s.Canon) :
    (State.scrubGo s).Canon := by
  simp (maxDischargeDepth := 99) [State.scrubGo, hc]

@[simp] theorem State.scrubAbort_canon (s : State) (hc : s.Canon) :
    (State.scrubAbort s).Canon := by
  unfold State.scrubAbort; (repeat' split) <;> simp (maxDischargeDepth := 99) [hc]

@[simp] theorem State.scrubNote_canon (s : State) (off : Nat) (d : Decoded) (hc : s.Canon) :
    (State.scrubNote s off d).Canon := by
  unfold State.scrubNote; (repeat' split) <;> simp (maxDischargeDepth := 99) [hc]

@[simp] theorem State.scrubRead_canon (s : State) (upsets : List Nat) (hc : s.Canon) :
    (State.scrubRead s upsets).Canon := by
  unfold State.scrubRead; (repeat' split) <;> simp (maxDischargeDepth := 99) [hc]

@[simp] theorem State.scrubDone_canon (s : State) (hc : s.Canon) :
    (State.scrubDone s).Canon := by
  unfold State.scrubDone; (repeat' split) <;> simp (maxDischargeDepth := 99) [hc]

@[simp] theorem State.remapDone_canon (s : State) (hc : s.Canon) :
    (State.remapDone s).Canon := by
  unfold State.remapDone; (repeat' split) <;> simp (maxDischargeDepth := 99) [hc]

@[simp] theorem State.setRawData_canon (s : State) (v : Nat) (hc : s.Canon) :
    (State.setRawData s v).Canon := by
  simp +contextual (maxDischargeDepth := 99) [State.setRawData, hc, State.canon_foldl]

@[simp] theorem State.rawRefuse_canon (s : State) (hc : s.Canon) :
    (State.rawRefuse s).Canon := by
  simp (maxDischargeDepth := 99) [State.rawRefuse, hc]

@[simp] theorem State.rawDo_canon (s : State) (op : Nat) (hc : s.Canon) :
    (State.rawDo s op).Canon := by
  unfold State.rawDo; (repeat' split) <;> simp (maxDischargeDepth := 99) [hc]

@[simp] theorem State.rawGo_canon (s : State) (op : Nat) (released : Bool) (hc : s.Canon) :
    (State.rawGo s op released).Canon := by
  simp (maxDischargeDepth := 99) [State.rawGo, hc]

@[simp] theorem State.zeroBank_canon (s : State) (bank : Nat) (hc : s.Canon) :
    (State.zeroBank s bank).Canon := by
  have h := foldl_keeps (fun (t : SMap BankBits) => SMap.wf 0#144 t = true) (f := fun t (x : Nat × Nat) =>
    if x.1 / 8192 = bank then SMap.set 0 t (bank / 256 * 64 + x.2) 0 else t)
    (by intro t x ht; split
        · exact SMap.wf_set _ _ _ _ ht
        · exact ht)
    ((SMap.get [] s.mem.remap (bank / 256)).zip (List.range 64)) hc.spares
  exact ⟨hc.1, hc.2.1, by
    simp only [State.zeroBank, Memory.wf, Bool.and_eq_true]
    exact ⟨⟨⟨⟨⟨SMap.wf_clear _ _ _ hc.words, h⟩, hc.secure⟩, hc.flowWords⟩, hc.lines⟩, hc.flash⟩⟩

@[simp] theorem State.startFill_canon (s : State) (bank : Nat) (hc : s.Canon) :
    (State.startFill s bank).Canon := by
  simp (maxDischargeDepth := 99) [State.startFill, hc]

@[simp] theorem State.fillDone_canon (s : State) (bank : Nat) (hc : s.Canon) :
    (State.fillDone s bank).Canon := by
  unfold State.fillDone; dsimp only; (repeat' split) <;> simp +contextual (maxDischargeDepth := 99) [hc, State.canon_foldl]

@[simp] theorem State.marchGo_canon (s : State) (v : Nat) (released : Bool) (hc : s.Canon) :
    (State.marchGo s v released).Canon := by
  simp (maxDischargeDepth := 99) [State.marchGo, hc]

@[simp] theorem State.marchFail_canon (s : State) (bank word : Nat) (hc : s.Canon) :
    (State.marchFail s bank word).Canon := by
  simp (maxDischargeDepth := 99) [State.marchFail, hc]

@[simp] theorem State.marchDone_canon (s : State) (fails : List (Nat × Nat)) (hc : s.Canon) :
    (State.marchDone s fails).Canon := by
  unfold State.marchDone; (repeat' split) <;> simp +contextual (maxDischargeDepth := 99) [hc, State.canon_foldl]

@[simp] theorem State.testRowDone_canon (s : State) (col : Nat) (fails : List Nat) (hc : s.Canon) :
    (State.testRowDone s col fails).Canon := by
  simp +contextual (maxDischargeDepth := 99) [State.testRowDone, hc, State.canon_foldl]

@[simp] theorem State.protectedAccess_canon (s : State) (master region word : Nat) (hc : s.Canon) :
    (State.protectedAccess s master region word).Canon := by
  simp (maxDischargeDepth := 99) [State.protectedAccess, hc]

theorem execMemForegroundRequest_canon (master : MemMaster) (bank : Nat) (portB : Bool) (op : MemOp) (other : Option
    (MemMaster × MemOp)) (upsets : List Nat) (s : State) (hc : s.Canon) :
    ∀ t, execMemForegroundRequest master bank portB op other upsets s = .next t → t.Canon := by
  intro t h; rw [← Host.Outcome.next.inj h]; simp (maxDischargeDepth := 99) [hc]

theorem execMemBackgroundGrant_canon (bank : Nat) (other : Option (MemMaster × MemOp)) (s : State) (hc : s.Canon) :
    ∀ t, execMemBackgroundGrant bank other s = .next t → t.Canon := by
  intro t h; rw [← Host.Outcome.next.inj h]; simp (maxDischargeDepth := 99) [hc]

theorem execBgStarved_canon (bank master : Nat) (s : State) (hc : s.Canon) :
    ∀ t, execBgStarved bank master s = .next t → t.Canon := by
  intro t h; rw [← Host.Outcome.next.inj h]; simp (maxDischargeDepth := 99) [hc]

theorem execRowTokenGrant_canon (island : Nat) (s : State) (hc : s.Canon) :
    ∀ t, execRowTokenGrant island s = .next t → t.Canon := by
  intro t h; rw [← Host.Outcome.next.inj h]; simp (maxDischargeDepth := 99) [hc]

theorem execRowCopyGo_canon (count : Nat) (s : State) (hc : s.Canon) :
    ∀ t, execRowCopyGo count s = .next t → t.Canon := by
  intro t h; rw [← Host.Outcome.next.inj h]; simp (maxDischargeDepth := 99) [hc]

theorem execRowCopyDone_canon (column : Nat) (s : State) (hc : s.Canon) :
    ∀ t, execRowCopyDone column s = .next t → t.Canon := by
  intro t h; rw [← Host.Outcome.next.inj h]; simp (maxDischargeDepth := 99) [hc]

theorem execRepairWriteback_canon (column : Nat) (s : State) (hc : s.Canon) :
    ∀ t, execRepairWriteback column s = .next t → t.Canon := by
  intro t h; unfold execRepairWriteback at h; split at h <;> cases h <;> simp (maxDischargeDepth := 99) [hc]

theorem execNarrowWrite_canon (master : MemMaster) (bank word : Nat) (data : BankData) (mask : Nat) (s : State) (hc : s.Canon) :
    ∀ t, execNarrowWrite master bank word data mask s = .next t → t.Canon := by
  intro t h; unfold execNarrowWrite at h; (repeat' split at h) <;> cases h <;> simp +contextual (maxDischargeDepth := 99) [hc, State.canon_foldl]

theorem execMergeDrain_canon (column : Nat) (upsets : List Nat) (s : State) (hc : s.Canon) :
    ∀ t, execMergeDrain column upsets s = .next t → t.Canon := by
  intro t h; unfold execMergeDrain at h; dsimp only at h; (repeat' split at h) <;> cases h <;> simp +contextual (maxDischargeDepth := 99) [hc, State.canon_foldl]

theorem execBankFillDone_canon (bank : Nat) (s : State) (hc : s.Canon) :
    ∀ t, execBankFillDone bank s = .next t → t.Canon := by
  intro t h; rw [← Host.Outcome.next.inj h]; simp (maxDischargeDepth := 99) [hc]

theorem execLapScrubRead_canon (bank : Nat) (upsets : List Nat) (s : State) (hc : s.Canon) :
    ∀ t, execLapScrubRead bank upsets s = .next t → t.Canon := by
  intro t h; rw [← Host.Outcome.next.inj h]; simp (maxDischargeDepth := 99) [hc]

theorem execLapEnd_canon (s : State) (hc : s.Canon) :
    ∀ t, execLapEnd s = .next t → t.Canon := by
  intro t h; rw [← Host.Outcome.next.inj h]; simp (maxDischargeDepth := 99) [hc]

theorem execScrubPassGo_canon (s : State) (hc : s.Canon) :
    ∀ t, execScrubPassGo s = .next t → t.Canon := by
  intro t h; rw [← Host.Outcome.next.inj h]; simp (maxDischargeDepth := 99) [hc]

theorem execScrubPassAbort_canon (s : State) (hc : s.Canon) :
    ∀ t, execScrubPassAbort s = .next t → t.Canon := by
  intro t h; rw [← Host.Outcome.next.inj h]; simp (maxDischargeDepth := 99) [hc]

theorem execScrubPassRead_canon (upsets : List Nat) (s : State) (hc : s.Canon) :
    ∀ t, execScrubPassRead upsets s = .next t → t.Canon := by
  intro t h; rw [← Host.Outcome.next.inj h]; simp (maxDischargeDepth := 99) [hc]

theorem execScrubPassDone_canon (s : State) (hc : s.Canon) :
    ∀ t, execScrubPassDone s = .next t → t.Canon := by
  intro t h; rw [← Host.Outcome.next.inj h]; simp (maxDischargeDepth := 99) [hc]

theorem execRemapCmd_canon (bank word : Nat) (s : State) (hc : s.Canon) :
    ∀ t, execRemapCmd bank word s = .next t → t.Canon := by
  intro t h; rw [← Host.Outcome.next.inj h]; simp (maxDischargeDepth := 99) [hc]

theorem execRemapDone_canon (s : State) (hc : s.Canon) :
    ∀ t, execRemapDone s = .next t → t.Canon := by
  intro t h; rw [← Host.Outcome.next.inj h]; simp (maxDischargeDepth := 99) [hc]

theorem execRemapFlashWrite_canon (s : State) (hc : s.Canon) :
    ∀ t, execRemapFlashWrite s = .next t → t.Canon := by
  intro t h; unfold execRemapFlashWrite at h; split at h <;> cases h <;> simp (maxDischargeDepth := 99) [hc]

theorem execRawRead_canon (s : State) (hc : s.Canon) :
    ∀ t, execRawRead s = .next t → t.Canon := by
  intro t h; rw [← Host.Outcome.next.inj h]; simp (maxDischargeDepth := 99) [hc]

theorem execRawWrite_canon (s : State) (hc : s.Canon) :
    ∀ t, execRawWrite s = .next t → t.Canon := by
  intro t h; rw [← Host.Outcome.next.inj h]; simp (maxDischargeDepth := 99) [hc]

theorem execCodedRead_canon (s : State) (hc : s.Canon) :
    ∀ t, execCodedRead s = .next t → t.Canon := by
  intro t h; rw [← Host.Outcome.next.inj h]; simp (maxDischargeDepth := 99) [hc]

theorem execMarchGo_canon (value : Nat) (s : State) (hc : s.Canon) :
    ∀ t, execMarchGo value s = .next t → t.Canon := by
  intro t h; rw [← Host.Outcome.next.inj h]; simp (maxDischargeDepth := 99) [hc]

theorem execMarchDone_canon (fails : List (Nat × Nat)) (s : State) (hc : s.Canon) :
    ∀ t, execMarchDone fails s = .next t → t.Canon := by
  intro t h; rw [← Host.Outcome.next.inj h]; simp (maxDischargeDepth := 99) [hc]

theorem execTransparentTestRow_canon (column : Nat) (fails : List Nat) (s : State) (hc : s.Canon) :
    ∀ t, execTransparentTestRow column fails s = .next t → t.Canon := by
  intro t h; rw [← Host.Outcome.next.inj h]; simp (maxDischargeDepth := 99) [hc]

end Sys2Proof.Machine
end

