-- ==== Sys2Proof/Laws/CanonDram.lean ====
section
/-! SUPPORT. The operations of Machine/Dram.lean keep the invariant of a run. -/

namespace Sys2Proof.Machine

@[simp] theorem State.setLpState_canon (s : State) (ch v : Nat) (hc : s.Canon) :
    (State.setLpState s ch v).Canon := by
  simp (maxDischargeDepth := 99) [State.setLpState, hc]

@[simp] theorem State.lpWake_canon (s : State) (ch : Nat) (hc : s.Canon) :
    (State.lpWake s ch).Canon := by
  simp (maxDischargeDepth := 99) [State.lpWake, hc]

@[simp] theorem State.setLineBits_canon (s : State) (ch line : Nat) (v : BitVec 576) (hc : s.Canon) :
    (State.setLineBits s ch line v).Canon := by
  simp (maxDischargeDepth := 99) [State.setLineBits, hc]

@[simp] theorem State.lineUpset_canon (s : State) (ch line : Nat) (flips : List Nat) (hc : s.Canon) :
    (State.lineUpset s ch line flips).Canon := by
  simp (maxDischargeDepth := 99) [State.lineUpset, hc]

@[simp] theorem State.noteLine_canon (s : State) (ch line : Nat) (r : LineRead) (hc : s.Canon) :
    (State.noteLine s ch line r).Canon := by
  unfold State.noteLine; (repeat' split) <;> simp (maxDischargeDepth := 99) [hc]

@[simp] theorem State.readLine_canon (s : State) (a : Nat) (modeA : Bool) (hc : s.Canon) :
    (State.readLine s a modeA).2.Canon := by
  simp (maxDischargeDepth := 99) [State.readLine, hc]

@[simp] theorem State.writeLine_canon (s : State) (a : Nat) (v : BitVec 576) (hc : s.Canon) :
    (State.writeLine s a v).Canon := by
  simp (maxDischargeDepth := 99) [State.writeLine, hc]

@[simp] theorem State.poisonLine_canon (s : State) (a : Nat) (modeA : Bool) (hc : s.Canon) :
    (State.poisonLine s a modeA).Canon := by
  simp (maxDischargeDepth := 99) [State.poisonLine, hc]

@[simp] theorem State.bankRefresh_canon (s : State) (ch : Nat) (hc : s.Canon) :
    (State.bankRefresh s ch).Canon := by
  simp (maxDischargeDepth := 99) [State.bankRefresh, hc]

@[simp] theorem State.mr4Read_canon (s : State) (ch code mult : Nat) (above : Bool) (hc : s.Canon) :
    (State.mr4Read s ch code mult above).Canon := by
  simp (maxDischargeDepth := 99) [State.mr4Read, hc]

@[simp] theorem State.lpFail_canon (s : State) (ch : Nat) (f : FaultCode) (hc : s.Canon) :
    (State.lpFail s ch f).Canon := by
  simp (maxDischargeDepth := 99) [State.lpFail, hc]

@[simp] theorem State.lpTrain_canon (s : State) (ch : Nat) (hc : s.Canon) :
    (State.lpTrain s ch).Canon := by
  simp (maxDischargeDepth := 99) [State.lpTrain, hc]

@[simp] theorem State.trainStep_canon (s : State) (ch : Nat) (ok unfit : Bool) (hc : s.Canon) :
    (State.trainStep s ch ok unfit).Canon := by
  simp (maxDischargeDepth := 99) [State.trainStep, hc]

@[simp] theorem State.trackRead_canon (s : State) (ch : Nat) (drift : Int) (beyond : Bool) (hc : s.Canon) :
    (State.trackRead s ch drift beyond).Canon := by
  simp (maxDischargeDepth := 99) [State.trackRead, hc]

theorem execLineRewrite_canon (ch line : Nat) (s : State) (hc : s.Canon) :
    ∀ t, execLineRewrite ch line s = .next t → t.Canon := by
  intro t h; unfold execLineRewrite at h; split at h <;> cases h <;> simp (maxDischargeDepth := 99) [hc]

theorem execPerBankRefresh_canon (ch : Nat) (s : State) (hc : s.Canon) :
    ∀ t, execPerBankRefresh ch s = .next t → t.Canon := by
  intro t h; cases h; simp (maxDischargeDepth := 99) [hc]

theorem execMr4Read_canon (ch code mult : Nat) (above : Bool) (s : State) (hc : s.Canon) :
    ∀ t, execMr4Read ch code mult above s = .next t → t.Canon := by
  intro t h; cases h; simp (maxDischargeDepth := 99) [hc]

theorem execTrainingStepDone_canon (ch : Nat) (ok unfit : Bool) (s : State) (hc : s.Canon) :
    ∀ t, execTrainingStepDone ch ok unfit s = .next t → t.Canon := by
  intro t h; cases h; simp (maxDischargeDepth := 99) [hc]

theorem execTrackingRead_canon (ch : Nat) (drift : Int) (beyond : Bool) (s : State) (hc : s.Canon) :
    ∀ t, execTrackingRead ch drift beyond s = .next t → t.Canon := by
  intro t h; cases h; simp (maxDischargeDepth := 99) [hc]

theorem execLpRetrain_canon (ch : Nat) (s : State) (hc : s.Canon) :
    ∀ t, execLpRetrain ch s = .next t → t.Canon := by
  intro t h; unfold execLpRetrain at h; (repeat' split at h) <;> cases h <;> simp +contextual (maxDischargeDepth := 99) [hc, State.canon_foldl]

theorem execLpSwitch_canon (ch : Nat) (s : State) (hc : s.Canon) :
    ∀ t, execLpSwitch ch s = .next t → t.Canon := by
  intro t h; unfold execLpSwitch at h; (repeat' split at h) <;> cases h <;> simp +contextual (maxDischargeDepth := 99) [hc, State.canon_foldl]

theorem execLpPowerDownEntry_canon (ch : Nat) (s : State) (hc : s.Canon) :
    ∀ t, execLpPowerDownEntry ch s = .next t → t.Canon := by
  intro t h; unfold execLpPowerDownEntry at h; split at h <;> cases h <;> simp (maxDischargeDepth := 99) [hc]

end Sys2Proof.Machine
end

