-- ==== Sys2Proof/Laws/CanonMee.lean ====
section
/-! SUPPORT. The operations of Machine/Mee.lean keep the invariant of a run. -/

namespace Sys2Proof.Machine

@[simp] theorem State.cachePut_canon (s : State) (a v : Nat) (dirty : Bool) (hc : s.Canon) :
    (State.cachePut s a v dirty).Canon := by
  simp (maxDischargeDepth := 99) [State.cachePut, hc]

@[simp] theorem State.setRoot_canon (s : State) (v x : Nat) (hc : s.Canon) :
    (State.setRoot s v x).Canon := by
  simp (maxDischargeDepth := 99) [State.setRoot, hc]

@[simp] theorem State.fetchLine_canon (s : State) (a m : Nat) (hc : s.Canon) :
    (State.fetchLine s a m).2.Canon := by
  unfold State.fetchLine; dsimp only; (repeat' split) <;> simp +contextual (maxDischargeDepth := 99) [hc, State.canon_foldl]

@[simp] theorem State.fetchNode_canon (s : State) (k l v : Nat) (hc : s.Canon) : (State.fetchNode s k l v).2.Canon := by
  induction k generalizing l v with
  | zero => simp [State.fetchNode, hc]
  | succ k ih =>
    rw [State.fetchNode]
    split
    · exact hc
    · have h := ih (l + 1) (v / 8)
      split <;> (rename_i e; rw [e] at h)
      · exact h
      · exact State.fetchLine_canon _ _ _ h

@[simp] theorem State.fetchCtr_canon (s : State) (page : Nat) (auth : Bool) (hc : s.Canon) :
    (State.fetchCtr s page auth).2.Canon := by
  rw [State.fetchCtr]
  split
  · exact hc
  · split
    · have h := State.fetchNode_canon s (s.levels.length - 1) 1 (page / 8) hc
      split <;> (rename_i e; rw [e] at h)
      · exact h
      · exact State.fetchLine_canon _ _ _ h
    · exact State.fetchLine_canon _ _ _ hc

@[simp] theorem State.meeFailPage_canon (s : State) (page : Nat) (hc : s.Canon) :
    (State.meeFailPage s page).Canon := by
  simp (maxDischargeDepth := 99) [State.meeFailPage, hc]

@[simp] theorem State.badPage_canon (s : State) (page : Nat) (hc : s.Canon) :
    (State.badPage s page).Canon := by
  unfold State.badPage; (repeat' split) <;> simp (maxDischargeDepth := 99) [hc]

@[simp] theorem State.treeFail_canon (s : State) (page : Nat) (hc : s.Canon) :
    (State.treeFail s page).Canon := by
  simp (maxDischargeDepth := 99) [State.treeFail, hc]

@[simp] theorem State.tagFail_canon (s : State) (page : Nat) (hc : s.Canon) :
    (State.tagFail s page).Canon := by
  simp (maxDischargeDepth := 99) [State.tagFail, hc]

@[simp] theorem State.meeRead_canon (s : State) (p : Prot) (a : Nat) (hc : s.Canon) :
    (State.meeRead s p a).2.2.Canon := by
  rw [State.meeRead]
  dsimp only
  split
  · exact State.readLine_canon _ _ _ hc
  · split
    · exact hc
    · have h := State.fetchCtr_canon s (a / 4096) (decide (p.mode = 2)) hc
      split <;> (rename_i e; rw [e] at h)
      · exact State.treeFail_canon _ _ h
      · have h2 := State.readLine_canon _ a p.modeA h
        split
        · exact h2
        · split
          · exact State.tagFail_canon _ _ h2
          · exact h2

@[simp] theorem State.meeStore_canon (s : State) (p : Prot) (a major minor plain : Nat) (hc : s.Canon) :
    (State.meeStore s p a major minor plain).Canon := by
  simp (maxDischargeDepth := 99) [State.meeStore, hc]

@[simp] theorem State.walkAsk_canon (s : State) (page : Nat) (eager : Bool) (hc : s.Canon) :
    (State.walkAsk s page eager).Canon := by
  simp (maxDischargeDepth := 99) [State.walkAsk, hc]

@[simp] theorem State.meeWrite_canon (s : State) (p : Prot) (a plain : Nat) (hc : s.Canon) :
    (State.meeWrite s p a plain).2.Canon := by
  rw [State.meeWrite]
  dsimp only
  split
  · exact State.meeStore_canon _ _ _ _ _ _ hc
  · split
    · exact hc
    · have h := State.fetchCtr_canon s (a / 4096) (decide (p.mode = 2)) hc
      split <;> (rename_i e; rw [e] at h)
      · exact State.treeFail_canon _ _ h
      · split
        · split
          · exact h
          · exact State.meeStore_canon _ _ _ _ _ _ (h.of_eq rfl rfl rfl rfl rfl rfl rfl rfl)
        · split
          · refine State.canon_ite (State.raise_canon _ _ _ _ ?_) (State.walkAsk_canon _ _ _ h)
            exact State.canon_foldl (fun t q ht => State.prmEvent_canon _ _ ht) _ (State.walkAsk_canon _ _ _ h)
          · split
            · exact h
            · simp (maxDischargeDepth := 99) [h]

@[simp] theorem State.raiseOpt_canon (s : State) (f : Option FaultCode) (cls : Nat) (hc : s.Canon) :
    (State.raiseOpt s f cls).Canon := by
  unfold State.raiseOpt; (repeat' split) <;> simp (maxDischargeDepth := 99) [hc]

@[simp] theorem State.dramRead_canon (s : State) (cls a n : Nat) (hc : s.Canon) :
    (State.dramRead s cls a n).2.2.Canon := by
  rw [State.dramRead]
  split
  · simp [hc]
  · refine foldl_keeps (fun (acc : List Byte × Bool × State) => acc.2.2.Canon) ?_ _ hc
    rintro ⟨ds, b, t⟩ l ht
    replace ht : t.Canon := ht
    dsimp only
    split
    · exact ht
    · exact State.meeRead_canon _ _ _ ht

@[simp] theorem State.writeOne_canon (s : State) (a : Nat) (data : List Byte) (l : Nat) (hc : s.Canon) :
    (State.writeOne s a data l).2.Canon := by
  unfold State.writeOne; dsimp only; (repeat' split) <;> simp +contextual (maxDischargeDepth := 99) [hc, State.canon_foldl]

@[simp] theorem State.meeWait_canon (s : State) (w : MeeWrite) (hc : s.Canon) :
    (State.meeWait s w).Canon := by
  simp (maxDischargeDepth := 99) [State.meeWait, hc]

@[simp] theorem State.dramWrite_canon (s : State) (cls a : Nat) (data : List Byte) (dst : Nat) (hc : s.Canon) :
    (State.dramWrite s cls a data dst).2.Canon := by
  rw [State.dramWrite]
  split
  · simp [hc]
  · refine foldl_keeps (fun (acc : Option Nat × State) => acc.2.Canon) ?_ _ hc
    rintro ⟨o, t⟩ l ht
    replace ht : t.Canon := ht
    have h := State.writeOne_canon t a data l ht
    dsimp only
    split <;> (rename_i e; rw [e] at h) <;> simp [show _ from h]

@[simp] theorem State.walkLine_canon (s : State) (p : Prot) (page block i : Nat) (moved : SMap Nat) (hc : s.Canon) :
    (State.walkLine s p page block i moved).Canon := by
  simp (maxDischargeDepth := 99) [State.walkLine, hc]

@[simp] theorem State.counterEnd_canon (s : State) (p : Prot) (page : Nat) (hc : s.Canon) :
    (State.counterEnd s p page).Canon := by
  simp +contextual (maxDischargeDepth := 99) [State.counterEnd, hc, State.canon_foldl]

@[simp] theorem State.walkStart_canon (s : State) (hc : s.Canon) :
    (State.walkStart s).Canon := by
  unfold State.walkStart
  split
  · exact hc
  · split
    · exact hc
    · rename_i page eager _ _
      have h0 : ({ s with mee := { s.mee with waiting := s.mee.waiting.filter fun w => decide (w.1 ≠ page) } } : State).Canon :=
        hc.of_eq rfl rfl rfl rfl rfl rfl rfl rfl
      revert h0
      generalize ({ s with mee := { s.mee with waiting := s.mee.waiting.filter fun w => decide (w.1 ≠ page) } } : State) = s1
      intro h0
      dsimp only
      split
      · exact h0
      · rename_i r _
        have h := State.fetchCtr_canon s1 page (decide ((s1.protOf r).mode = 2)) h0
        split <;> (rename_i e; rw [e] at h)
        · exact State.treeFail_canon _ _ h
        · split
          · exact State.counterEnd_canon _ _ _ h
          · exact State.setFlag_canon _ _ _ _ (h.of_eq rfl rfl rfl rfl rfl rfl rfl rfl)

@[simp] theorem State.writesProceed_canon (s : State) (page : Nat) (hc : s.Canon) :
    (State.writesProceed s page).Canon := by
  unfold State.writesProceed
  refine State.canon_foldl (fun t w ht => ?_) _ (hc.of_eq rfl rfl rfl rfl rfl rfl rfl rfl)
  have h := State.dramWrite_canon t w.cls w.addr w.data w.dst ht
  split <;> (rename_i e; rw [e] at h)
  · exact State.canon_ite h (State.answer_canon _ _ _ _ h)
  · exact h

@[simp] theorem State.walkDone_canon (s : State) (page : Nat) (hc : s.Canon) :
    (State.walkDone s page).Canon := by
  unfold State.walkDone
  split
  · exact hc
  · split
    · exact hc
    · rename_i r _
      have h := State.fetchCtr_canon s page (decide ((s.protOf r).mode = 2)) hc
      dsimp only
      split <;> (rename_i e; rw [e] at h)
      · exact State.treeFail_canon _ _ h
      · refine State.writesProceed_canon _ _ (State.setFlag_canon _ _ _ _ (State.count_canon _ _ _ _ ?_))
        refine (State.cachePut_canon _ _ _ _ ?_).withMee _
        exact State.canon_foldl (fun t i ht => State.walkLine_canon _ _ _ _ _ _ ht) _ h

@[simp] theorem State.regionEnable_canon (s : State) (r : Nat) (hc : s.Canon) :
    (State.regionEnable s r).Canon := by
  simp (maxDischargeDepth := 99) [State.regionEnable, hc]

@[simp] theorem State.keyStat_canon (s : State) (slot result : Nat) (hc : s.Canon) :
    (State.keyStat s slot result).Canon := by
  simp (maxDischargeDepth := 99) [State.keyStat, hc]

@[simp] theorem State.keyFill_canon (s : State) (slot key : Nat) (hc : s.Canon) :
    (State.keyFill s slot key).Canon := by
  simp (maxDischargeDepth := 99) [State.keyFill, hc]

@[simp] theorem State.keyRetire_canon (s : State) (slot : Nat) (hc : s.Canon) :
    (State.keyRetire s slot).Canon := by
  simp (maxDischargeDepth := 99) [State.keyRetire, hc]

@[simp] theorem State.opStart_canon (s : State) (op region key : Nat) (hc : s.Canon) :
    (State.opStart s op region key).Canon := by
  simp (maxDischargeDepth := 99) [State.opStart, hc]

@[simp] theorem State.rekeyPage_canon (s : State) (old new : Prot) (page : Nat) (hc : s.Canon) :
    (State.rekeyPage s old new page).Canon := by
  simp +contextual (maxDischargeDepth := 99) [State.rekeyPage, hc, State.canon_foldl]

@[simp] theorem State.buildNodes_canon (s : State) (page : Nat) (hc : s.Canon) :
    (State.buildNodes s page).Canon := by
  unfold State.buildNodes
  refine State.canon_foldl (fun t k ht => ?_) _ hc
  have h := State.fetchNode_canon t (t.levels.length - (k + 1)) (k + 1) (page / 8 ^ (k + 1)) ht
  dsimp only
  split
  · rename_i e; rw [e] at h; exact h
  · exact State.cachePut_canon _ _ _ _ ht

@[simp] theorem State.initPage_canon (s : State) (p : Prot) (page : Nat) (hc : s.Canon) :
    (State.initPage s p page).Canon := by
  simp +contextual (maxDischargeDepth := 99) [State.initPage, hc, State.canon_foldl]

@[simp] theorem State.initRegion_canon (s : State) (r : Nat) (hc : s.Canon) :
    (State.initRegion s r).Canon := by
  simp +contextual (maxDischargeDepth := 99) [State.initRegion, hc, State.canon_foldl]

@[simp] theorem State.bumpParent_canon (s : State) (l v : Nat) (hc : s.Canon) :
    (State.bumpParent s l v).2.Canon := by
  unfold State.bumpParent; (repeat' split) <;> simp (maxDischargeDepth := 99) [hc]

@[simp] theorem State.writeBackLine_canon (s : State) (l v : Nat) (a data : Nat) (hc : s.Canon) :
    (State.writeBackLine s l v a data).Canon := by
  unfold State.writeBackLine; dsimp only; (repeat' split) <;> simp +contextual (maxDischargeDepth := 99) [hc, State.canon_foldl]

@[simp] theorem State.flushCache_canon (s : State) (hc : s.Canon) :
    (State.flushCache s).Canon := by
  unfold State.flushCache
  refine State.Canon.withMee ?_ _
  refine State.canon_foldl (fun t l ht => State.canon_foldl (fun u x hu => ?_) _ ht) _ hc
  split
  · dsimp only
    split
    · split
      · exact State.writeBackLine_canon _ _ _ _ _ hu
      · exact hu
    · exact hu
  · exact hu

@[simp] theorem State.meeWalkDone_canon (s : State) (hc : s.Canon) :
    (State.meeWalkDone s).Canon := by
  unfold State.meeWalkDone; (repeat' split) <;> simp +contextual (maxDischargeDepth := 99) [hc, State.canon_foldl]

@[simp] theorem State.endFlush_canon (s : State) (hc : s.Canon) :
    (State.endFlush s).Canon := by
  unfold State.endFlush; (repeat' split) <;> simp (maxDischargeDepth := 99) [hc]

theorem execDramLineRead_canon (cls addr : Nat) (flips : List Nat) (s : State) (hc : s.Canon) :
    ∀ t, execDramLineRead cls addr flips s = .next t → t.Canon := by
  intro t h; rw [← Host.Outcome.next.inj h]; simp (maxDischargeDepth := 99) [hc]

theorem execDramLineWrite_canon (cls addr : Nat) (data : BitVec 512) (s : State) (hc : s.Canon) :
    ∀ t, execDramLineWrite cls addr data s = .next t → t.Canon := by
  intro t h; unfold execDramLineWrite at h; dsimp only at h; (repeat' split at h) <;> cases h <;> simp +contextual (maxDischargeDepth := 99) [hc, State.canon_foldl]

theorem execMeePartialWrite_canon (cls addr : Nat) (data : List Byte) (s : State) (hc : s.Canon) :
    ∀ t, execMeePartialWrite cls addr data s = .next t → t.Canon := by
  intro t h; unfold execMeePartialWrite at h; dsimp only at h; (repeat' split at h) <;> cases h <;> simp +contextual (maxDischargeDepth := 99) [hc, State.canon_foldl]

theorem execRegionEnable_canon (value : Nat) (s : State) (hc : s.Canon) :
    ∀ t, execRegionEnable value s = .next t → t.Canon := by
  intro t h; unfold execRegionEnable at h; dsimp only at h; (repeat' split at h) <;> cases h <;> simp +contextual (maxDischargeDepth := 99) [hc, State.canon_foldl]

theorem execReencWalkStart_canon (s : State) (hc : s.Canon) :
    ∀ t, execReencWalkStart s = .next t → t.Canon := by
  intro t h; rw [← Host.Outcome.next.inj h]; simp (maxDischargeDepth := 99) [hc]

theorem execReencWalkDone_canon (page : Nat) (s : State) (hc : s.Canon) :
    ∀ t, execReencWalkDone page s = .next t → t.Canon := by
  intro t h; rw [← Host.Outcome.next.inj h]; simp (maxDischargeDepth := 99) [hc]

theorem execKeyLoad_canon (slot src label : Nat) (s : State) (hc : s.Canon) :
    ∀ t, execKeyLoad slot src label s = .next t → t.Canon := by
  intro t h; unfold execKeyLoad at h; (repeat' split at h) <;> cases h <;> simp +contextual (maxDischargeDepth := 99) [hc, State.canon_foldl]

theorem execKeyRetire_canon (slot : Nat) (s : State) (hc : s.Canon) :
    ∀ t, execKeyRetire slot s = .next t → t.Canon := by
  intro t h; rw [← Host.Outcome.next.inj h]; simp (maxDischargeDepth := 99) [hc]

theorem execRekey_canon (region key : Nat) (s : State) (hc : s.Canon) :
    ∀ t, execRekey region key s = .next t → t.Canon := by
  intro t h; unfold execRekey at h; split at h <;> cases h <;> simp (maxDischargeDepth := 99) [hc]

theorem execMeeInit_canon (region : Nat) (s : State) (hc : s.Canon) :
    ∀ t, execMeeInit region s = .next t → t.Canon := by
  intro t h; unfold execMeeInit at h; split at h <;> cases h <;> simp (maxDischargeDepth := 99) [hc]

theorem execMeeFlush_canon (s : State) (hc : s.Canon) :
    ∀ t, execMeeFlush s = .next t → t.Canon := by
  intro t h; unfold execMeeFlush at h; split at h <;> cases h <;> simp (maxDischargeDepth := 99) [hc]

theorem execMeeWalkDone_canon (s : State) (hc : s.Canon) :
    ∀ t, execMeeWalkDone s = .next t → t.Canon := by
  intro t h; rw [← Host.Outcome.next.inj h]; simp (maxDischargeDepth := 99) [hc]

end Sys2Proof.Machine
end

