-- ==== Sys2Proof/Laws/CanonEgress.lean ====
section
/-! SUPPORT. The operations of Machine/Egress.lean keep the invariant of a run. -/

namespace Sys2Proof.Machine

@[simp] theorem State.setQueue_canon (s : State) (q : Nat) (x : QueueSt) (hc : s.Canon) :
    (State.setQueue s q x).Canon := by
  simp (maxDischargeDepth := 99) [State.setQueue, hc]

theorem State.nearReadLane_canon (slice qw : Nat) (r : List Nat × Bool × State) (j : Nat) (hc : r.2.2.Canon) :
    (State.nearReadLane slice qw r j).2.2.Canon := by
  unfold State.nearReadLane
  split
  · exact hc
  · exact State.readWord_canon _ _ _ hc

@[simp] theorem State.nearRead_canon (s : State) (slice qw : Nat) (hc : s.Canon) :
    (State.nearRead s slice qw).2.2.Canon := by
  have h := foldl_keeps (fun (r : List Nat × Bool × State) => r.2.2.Canon) (State.nearReadLane_canon slice qw) (List.range 4)
    (b := ([], false, s)) hc
  simpa only [State.nearRead] using h

@[simp] theorem State.nearWrite_canon (s : State) (slice qw : Nat) (d : BitVec 512) (hc : s.Canon) :
    (State.nearWrite s slice qw d).Canon := by
  unfold State.nearWrite
  refine State.Canon.withQm (State.canon_foldl (fun t j ht => ?_) _ hc) _
  split
  · exact ht
  · exact State.writeWord_canon _ _ _ _ _ ht

@[simp] theorem State.freeReserve_canon (s : State) (q : Nat) (hc : s.Canon) :
    (State.freeReserve s q).Canon := by
  simp (maxDischargeDepth := 99) [State.freeReserve, hc]

@[simp] theorem State.farNote_canon (s : State) (slice : Nat) (hc : s.Canon) :
    (State.farNote s slice).Canon := by
  simp (maxDischargeDepth := 99) [State.farNote, hc]

@[simp] theorem State.takeCell_canon (s : State) (slice : Nat) (hc : s.Canon) :
    (State.takeCell s slice).2.Canon := by
  unfold State.takeCell; (repeat' split) <;> simp (maxDischargeDepth := 99) [hc]

@[simp] theorem State.freeCells_canon (s : State) (slice : Nat) (l : List Nat) (hc : s.Canon) :
    (State.freeCells s slice l).Canon := by
  simp (maxDischargeDepth := 99) [State.freeCells, hc]

@[simp] theorem State.qmWrite_canon (s : State) (q a : Nat) (data : List Byte) (hc : s.Canon) :
    (State.qmWrite s q a data).Canon := by
  simp (maxDischargeDepth := 99) [State.qmWrite, hc]

@[simp] theorem State.linkWrite_canon (s : State) (q c next par : Nat) (hc : s.Canon) :
    (State.linkWrite s q c next par).Canon := by
  simp (maxDischargeDepth := 99) [State.linkWrite, hc]

@[simp] theorem State.linkParity_canon (s : State) (q c : Nat) (hc : s.Canon) :
    (State.linkParity s q c).2.Canon := by
  simp (maxDischargeDepth := 99) [State.linkParity, hc]

@[simp] theorem State.levelCross_canon (s : State) (q : Nat) (hc : s.Canon) :
    (State.levelCross s q).Canon := by
  simp (maxDischargeDepth := 99) [State.levelCross, hc]

@[simp] theorem State.levelJudge_canon (s : State) (q before levelBefore : Nat) (hc : s.Canon) :
    (State.levelJudge s q before levelBefore).Canon := by
  simp (maxDischargeDepth := 99) [State.levelJudge, hc]

@[simp] theorem State.setEgress_canon (s : State) (slice port : Nat) (e : EgressSt) (hc : s.Canon) :
    (State.setEgress s slice port e).Canon := by
  simp (maxDischargeDepth := 99) [State.setEgress, hc]

@[simp] theorem State.setDeficit_canon (s : State) (q n : Nat) (hc : s.Canon) :
    (State.setDeficit s q n).Canon := by
  simp (maxDischargeDepth := 99) [State.setDeficit, hc]

@[simp] theorem State.roundPass_canon (s : State) (slice port cls n q : Nat) (hc : s.Canon) :
    (State.roundPass s slice port cls n q).Canon := by
  simp +contextual (maxDischargeDepth := 99) [State.roundPass, hc, State.canon_foldl]

@[simp] theorem State.egressRound_canon (s : State) (slice port fuel : Nat) (e : EgressSt) (hc : s.Canon) :
    (State.egressRound s slice port fuel e).2.Canon := by
  induction fuel generalizing s e with
  | zero => exact State.setEgress_canon _ _ _ _ hc
  | succ n ih =>
    rw [State.egressRound]
    dsimp only
    split
    · split
      · exact State.setEgress_canon _ _ _ _ hc
      · exact ih _ _ hc
    · generalize (if e.added = true then e else _) = e1
      split
      · exact State.setEgress_canon _ _ _ _ hc
      · rename_i q _
        have h0 := State.roundPass_canon s slice port e.cls (egAt e1) q hc
        revert h0
        generalize State.roundPass _ _ _ _ _ _ = s0
        intro h0
        generalize hs1 : (if (decide (q ≠ egAt e1) || !e1.qAdded) = true then _ else s0) = s1
        have h1 : s1.Canon := hs1 ▸ State.canon_ite (State.setDeficit_canon _ _ _ h0) h0
        split
        · exact ih _ _ h1
        · split
          · exact ih _ _ h1
          · exact State.setEgress_canon _ _ _ _ h1

@[simp] theorem State.descFail_canon (s : State) (q : Nat) (hc : s.Canon) :
    (State.descFail s q).Canon := by
  simp (maxDischargeDepth := 99) [State.descFail, hc]

@[simp] theorem State.setConsumer_canon (s : State) (q : Nat) (b : Bool) (hc : s.Canon) :
    (State.setConsumer s q b).Canon := by
  simp (maxDischargeDepth := 99) [State.setConsumer, hc]

@[simp] theorem State.portStart_canon (s : State) (slice port q : Nat) (bad : Bool) (hc : s.Canon) :
    (State.portStart s slice port q bad).Canon := by
  simp (maxDischargeDepth := 99) [State.portStart, hc]

@[simp] theorem State.portTry_canon (s : State) (slice port : Nat) (bad : Bool) (hc : s.Canon) :
    (State.portTry s slice port bad).Canon := by
  unfold State.portTry; dsimp only; (repeat' split) <;> simp +contextual (maxDischargeDepth := 99) [hc, State.canon_foldl]

@[simp] theorem State.slotStart_canon (s : State) (slice port dry : Nat) (bad : Bool) (hc : s.Canon) :
    (State.slotStart s slice port dry bad).Canon := by
  unfold State.slotStart; dsimp only; (repeat' split) <;> simp +contextual (maxDischargeDepth := 99) [hc, State.canon_foldl]

theorem execPortSlotStart_canon (slice port dry : Nat) (descBad : Bool) (s : State) (hc : s.Canon) :
    ∀ t, execPortSlotStart slice port dry descBad s = .next t → t.Canon := by
  intro t h; rw [← Host.Outcome.next.inj h]; simp (maxDischargeDepth := 99) [hc]

end Sys2Proof.Machine
end

