-- ==== Sys2Proof/Laws/CanonQueues.lean ====
section
/-! SUPPORT. The operations of Machine/Queues.lean keep the invariant of a run. -/

namespace Sys2Proof.Machine

@[simp] theorem State.tellProducer_canon (s : State) (p : Producer) (tag q code : Nat) (hc : s.Canon) :
    (State.tellProducer s p tag q code).Canon := by
  simp (maxDischargeDepth := 99) [State.tellProducer, hc]

@[simp] theorem State.qReport_canon (s : State) (p : Producer) (tag q code : Nat) (hc : s.Canon) :
    (State.qReport s p tag q code).Canon := by
  simp (maxDischargeDepth := 99) [State.qReport, hc]

@[simp] theorem State.setOpen_canon (s : State) (q : Nat) (o : Option OpenPkt) (hc : s.Canon) :
    (State.setOpen s q o).Canon := by
  simp (maxDischargeDepth := 99) [State.setOpen, hc]

@[simp] theorem State.admit_canon (s : State) (q len : Nat) (hc : s.Canon) :
    (State.admits s q len).2.Canon := by
  unfold State.admits; dsimp only; (repeat' split) <;> simp +contextual (maxDischargeDepth := 99) [hc, State.canon_foldl]

@[simp] theorem State.startCheck_canon (s : State) (q pktLen : Nat) (hc : s.Canon) :
    (State.startCheck s q pktLen).2.Canon := by
  unfold State.startCheck; dsimp only; (repeat' split) <;> simp +contextual (maxDischargeDepth := 99) [hc, State.canon_foldl]

@[simp] theorem State.dropRest_canon (s : State) (q : Nat) (p : Producer) (hc : s.Canon) :
    (State.dropRest s q p).Canon := by
  simp (maxDischargeDepth := 99) [State.dropRest, hc]

@[simp] theorem State.dropEnd_canon (s : State) (q : Nat) (p : Producer) (hc : s.Canon) :
    (State.dropEnd s q p).Canon := by
  simp (maxDischargeDepth := 99) [State.dropEnd, hc]

@[simp] theorem State.rewind_canon (s : State) (q code : Nat) (more : Bool) (hc : s.Canon) :
    (State.rewind s q code more).Canon := by
  unfold State.rewind; (repeat' split) <;> simp (maxDischargeDepth := 99) [hc]

@[simp] theorem State.writeNear_canon (s : State) (q : Nat) (o : OpenPkt) (data : List Byte) (hc : s.Canon) :
    (State.writeNear s q o data).Canon := by
  simp +contextual (maxDischargeDepth := 99) [State.writeNear, hc, State.canon_foldl]

@[simp] theorem State.writeFar_canon (s : State) (q : Nat) (o : OpenPkt) (last : Bool) (fuel : Nat) (hc : s.Canon) :
    (State.writeFar s q o last fuel).2.2.Canon := by
  induction fuel generalizing s o with
  | zero => exact hc
  | succ n ih =>
    rw [State.writeFar]
    split
    · exact hc
    · split
      · exact State.farNote_canon _ _ hc
      · have h := State.takeCell_canon s (sliceOf q) hc
        dsimp only
        refine ih _ _ (State.linkWrite_canon _ _ _ _ _ ?_)
        split
        · exact State.qmWrite_canon _ _ _ _ h
        · exact State.linkWrite_canon _ _ _ _ _ (State.linkParity_canon _ _ _ (State.qmWrite_canon _ _ _ _ h))

@[simp] theorem State.commitPkt_canon (s : State) (q : Nat) (descBad : Bool) (hc : s.Canon) :
    (State.commitPkt s q descBad).Canon := by
  unfold State.commitPkt; (repeat' split) <;> simp (maxDischargeDepth := 99) [hc]

@[simp] theorem State.segmentWrite_canon (s : State) (q : Nat) (h : NocHead) (g : Segment) (descBad : Bool) (hc : s.Canon) :
    (State.segmentWrite s q h g descBad).Canon := by
  unfold State.segmentWrite; (repeat' split) <;> simp (maxDischargeDepth := 99) [hc]

@[simp] theorem State.segmentStart_canon (s : State) (q : Nat) (h : NocHead) (g : Segment) (descBad : Bool) (hc : s.Canon) :
    (State.segmentStart s q h g descBad).Canon := by
  unfold State.segmentStart
  have h0 := State.dropEnd_canon s q (producerOf h) hc
  dsimp only
  split
  · exact State.qReport_canon _ _ _ _ _ h0
  · have h1 := State.startCheck_canon _ q g.pktLen h0
    split <;> (rename_i e; rw [e] at h1)
    · exact State.qReport_canon _ _ _ _ _ (State.canon_ite h1 (State.dropRest_canon _ _ _ h1))
    · exact State.segmentWrite_canon _ _ _ _ _ (State.setOpen_canon _ _ _ h1)

@[simp] theorem State.protocol_canon (s : State) (q : Nat) (h : NocHead) (hc : s.Canon) :
    (State.protocol s q h).Canon := by
  simp (maxDischargeDepth := 99) [State.protocol, hc]

@[simp] theorem State.segmentTake_canon (s : State) (q : Nat) (h : NocHead) (g : Segment) (descBad : Bool) (hc : s.Canon) :
    (State.segmentTake s q h g descBad).Canon := by
  unfold State.segmentTake; dsimp only; (repeat' split) <;> simp +contextual (maxDischargeDepth := 99) [hc, State.canon_foldl]

@[simp] theorem State.leaveMac_canon (s : State) (h : NocHead) (g : Segment) (hc : s.Canon) :
    (State.leaveMac s h g).Canon := by
  simp (maxDischargeDepth := 99) [State.leaveMac, hc]

@[simp] theorem State.takeWaiting_canon (s : State) (q n : Nat) (hc : s.Canon) : (State.takeWaiting s q n).Canon := by
  induction n generalizing s with
  | zero => exact hc
  | succ n ih =>
    rw [State.takeWaiting]
    split
    · exact hc
    · dsimp only
      split
      · exact hc
      · exact ih _ (State.segmentTake_canon _ _ _ _ _ (State.leaveMac_canon _ _ _ (State.setQueue_canon _ _ _ hc)))

@[simp] theorem State.segmentIn_canon (s : State) (q : Nat) (h : NocHead) (g : Segment) (descBad : Bool) (hc : s.Canon) :
    (State.segmentIn s q h g descBad).Canon := by
  simp (maxDischargeDepth := 99) [State.segmentIn, hc]

@[simp] theorem State.streamArrive_canon (s : State) (h : NocHead) (g : Segment) (descBad : Bool) (hc : s.Canon) :
    (State.streamArrive s h g descBad).Canon := by
  simp (maxDischargeDepth := 99) [State.streamArrive, hc]

@[simp] theorem State.routeEvent_canon (s : State) (h : NocHead) (q : Nat) (hc : s.Canon) :
    (State.routeEvent s h q).Canon := by
  simp (maxDischargeDepth := 99) [State.routeEvent, hc]

@[simp] theorem State.farAck_canon (s : State) (q : Nat) (descBad : Bool) (hc : s.Canon) :
    (State.farAck s q descBad).Canon := by
  unfold State.farAck; (repeat' split) <;> simp (maxDischargeDepth := 99) [hc]

@[simp] theorem State.openTimeout_canon (s : State) (q : Nat) (hc : s.Canon) :
    (State.openTimeout s q).Canon := by
  unfold State.openTimeout; (repeat' split) <;> simp (maxDischargeDepth := 99) [hc]

@[simp] theorem State.queueEnable_canon (s : State) (q : Nat) (hc : s.Canon) :
    (State.queueEnable s q).Canon := by
  simp (maxDischargeDepth := 99) [State.queueEnable, hc]

@[simp] theorem State.queueFields_canon (s : State) (q : Nat) (value : Nat) (hc : s.Canon) :
    (State.queueFields s q value).Canon := by
  simp (maxDischargeDepth := 99) [State.queueFields, hc]

@[simp] theorem State.qmIgnored_canon (s : State) (hc : s.Canon) :
    (State.qmIgnored s).Canon := by
  simp (maxDischargeDepth := 99) [State.qmIgnored, hc]

@[simp] theorem State.queueWrite_canon (s : State) (q value : Nat) (hc : s.Canon) :
    (State.queueWrite s q value).Canon := by
  simp (maxDischargeDepth := 99) [State.queueWrite, hc]

@[simp] theorem State.queueFlush_canon (s : State) (q : Nat) (hc : s.Canon) :
    (State.queueFlush s q).Canon := by
  simp (maxDischargeDepth := 99) [State.queueFlush, hc]

@[simp] theorem State.farCellsWrite_canon (s : State) (slice n : Nat) (hc : s.Canon) :
    (State.farCellsWrite s slice n).Canon := by
  simp (maxDischargeDepth := 99) [State.farCellsWrite, hc]

@[simp] theorem State.spInject_canon (s : State) (sector : Nat) (t : SpOpen) (hc : s.Canon) :
    (State.spInject s sector t).Canon := by
  simp (maxDischargeDepth := 99) [State.spInject, hc]

theorem execSpSegmentInject_canon (sector : Nat) (s : State) (hc : s.Canon) :
    ∀ t, execSpSegmentInject sector s = .next t → t.Canon := by
  intro t h; unfold execSpSegmentInject at h; split at h <;> cases h <;> simp (maxDischargeDepth := 99) [hc]

theorem execSpIdleTimeout_canon (sector : Nat) (s : State) (hc : s.Canon) :
    ∀ t, execSpIdleTimeout sector s = .next t → t.Canon := by
  intro t h; unfold execSpIdleTimeout at h; split at h <;> cases h <;> simp (maxDischargeDepth := 99) [hc]

theorem execFarCellAck_canon (q : Nat) (descBad : Bool) (s : State) (hc : s.Canon) :
    ∀ t, execFarCellAck q descBad s = .next t → t.Canon := by
  intro t h; rw [← Host.Outcome.next.inj h]; simp (maxDischargeDepth := 99) [hc]

theorem execOpenTimeout_canon (q : Nat) (s : State) (hc : s.Canon) :
    ∀ t, execOpenTimeout q s = .next t → t.Canon := by
  intro t h; rw [← Host.Outcome.next.inj h]; simp (maxDischargeDepth := 99) [hc]

theorem execQueueEnable_canon (q : Nat) (value : Word) (s : State) (hc : s.Canon) :
    ∀ t, execQueueEnable q value s = .next t → t.Canon := by
  intro t h; rw [← Host.Outcome.next.inj h]; simp (maxDischargeDepth := 99) [hc]

theorem execQueueDisable_canon (q : Nat) (value : Word) (s : State) (hc : s.Canon) :
    ∀ t, execQueueDisable q value s = .next t → t.Canon := by
  intro t h; rw [← Host.Outcome.next.inj h]; simp (maxDischargeDepth := 99) [hc]

theorem execQueueFlush_canon (q : Nat) (s : State) (hc : s.Canon) :
    ∀ t, execQueueFlush q s = .next t → t.Canon := by
  intro t h; rw [← Host.Outcome.next.inj h]; simp (maxDischargeDepth := 99) [hc]

theorem execFarCellsWrite_canon (slice n : Nat) (s : State) (hc : s.Canon) :
    ∀ t, execFarCellsWrite slice n s = .next t → t.Canon := by
  intro t h; rw [← Host.Outcome.next.inj h]; simp (maxDischargeDepth := 99) [hc]

end Sys2Proof.Machine
end

