-- ==== Sys2Proof/Laws/CanonDeliver.lean ====
section
/-! SUPPORT. The operations of Machine/Deliver.lean keep the invariant of a run. -/

namespace Sys2Proof.Machine

@[simp] theorem State.cellWords_canon (s : State) (q c : Nat) (hc : s.Canon) :
    (State.cellWords s q c).2.Canon := by
  simp (maxDischargeDepth := 99) [State.cellWords, hc]

@[simp] theorem State.packetWords_canon (s : State) (q : Nat) (p : QPkt) (hc : s.Canon) :
    (State.packetWords s q p).2.Canon := by
  unfold State.packetWords
  dsimp only
  split
  · dsimp only
    refine foldl_keeps (fun (a : List (BitVec 512 × Bool) × State) => a.2.Canon) (fun a c ha => ?_) _ hc
    exact State.cellWords_canon a.2 q c ha
  · refine foldl_keeps (fun (a : List (BitVec 512 × Bool) × State) => a.2.Canon) (fun a i ha => ?_) _ hc
    dsimp only at ha ⊢
    exact State.nearRead_canon a.2 _ _ ha

@[simp] theorem State.notePoison_canon (s : State) (q n : Nat) (hc : s.Canon) :
    (State.notePoison s q n).Canon := by
  simp (maxDischargeDepth := 99) [State.notePoison, hc]

@[simp] theorem State.setRing_canon (s : State) (r : Nat) (x : RingSt) (hc : s.Canon) :
    (State.setRing s r x).Canon := by
  simp (maxDischargeDepth := 99) [State.setRing, hc]

@[simp] theorem State.deliverLocal_canon (s : State) (q : Nat) (p : QPkt) (h : NocHead) (words : List (BitVec 512 × Bool))
    (hc : s.Canon) :
    (State.deliverLocal s q p h words).Canon := by
  unfold State.deliverLocal; (repeat' split) <;> simp (maxDischargeDepth := 99) [hc]

@[simp] theorem State.deliverNet_canon (s : State) (q : Nat) (p : QPkt) (words : List (BitVec 512 × Bool)) (hc : s.Canon) :
    (State.deliverNet s q p words).Canon := by
  unfold State.deliverNet
  dsimp only
  split
  · have h := State.nocTravel_canon s (s.deliveredHead q words) hc
    split <;> (rename_i e; rw [e] at h)
    · exact h
    · exact State.deliverLocal_canon _ _ _ _ _ (State.canon_ite (State.routeEvent_canon _ _ _ h) h)
  · have hl := State.sinkPosted_canon _ (State.raise_canon s Flt.NOC_UNROUTABLE [(s.deliveredHead q words).srcNode] 0 hc)
    split
    · exact hl
    · rename_i b _
      exact State.canon_getD (State.groveSend_canon _ _ (State.canon_ite (State.routeEvent_canon _ _ _ hc) hc)) hl

@[simp] theorem State.judge_canon (s : State) (q : Nat) (p : QPkt) (hc : s.Canon) :
    (State.judge s q p).Canon := by
  simp (maxDischargeDepth := 99) [State.judge, hc]

@[simp] theorem State.deliver_canon (s : State) (q : Nat) (p : QPkt) (hc : s.Canon) :
    (State.deliver s q p).Canon := by
  simp (maxDischargeDepth := 99) [State.deliver, hc]

@[simp] theorem State.packetDone_canon (s : State) (slice port dry : Nat) (bad : Bool) (hc : s.Canon) :
    (State.packetDone s slice port dry bad).Canon := by
  unfold State.packetDone; dsimp only; (repeat' split) <;> simp +contextual (maxDischargeDepth := 99) [hc, State.canon_foldl]

theorem execPortPacketDone_canon (slice port dry : Nat) (descBad : Bool) (s : State) (hc : s.Canon) :
    ∀ t, execPortPacketDone slice port dry descBad s = .next t → t.Canon := by
  intro t h; cases h; simp (maxDischargeDepth := 99) [hc]

@[simp] theorem State.classify_canon (s : State) (mac : Nat) (frame : List Byte) (hc : s.Canon) :
    (State.classify s mac frame).2.Canon := by
  unfold State.classify; dsimp only; (repeat' split) <;> simp +contextual (maxDischargeDepth := 99) [hc, State.canon_foldl]

@[simp] theorem State.frameEnter_canon (s : State) (mac q : Nat) (frame : List Byte) (badFcs : Bool) (descBad : Bool)
    (hc : s.Canon) :
    (State.frameEnter s mac q frame badFcs descBad).Canon := by
  unfold State.frameEnter
  repeat' (first
    | (split <;> (rename_i e; have e2 := congrArg Prod.snd e; dsimp only at e2; subst e2))
    | (split <;> (rename_i e; have e2 := congrArg (fun p => p.2.2) e; dsimp only at e2; subst e2))
    | split)
  all_goals simp +contextual (maxDischargeDepth := 99) [hc, State.canon_foldl]

@[simp] theorem State.frameReceive_canon (s : State) (mac : Nat) (data : List Byte) (descBad : Bool) (hc : s.Canon) :
    (State.frameReceive s mac data descBad).Canon := by
  unfold State.frameReceive
  split
  · exact hc
  · split
    · exact State.count_canon _ _ _ _ hc
    · have h := State.classify_canon s mac (data.take (data.length - 4)) hc
      dsimp only
      split <;> (rename_i e; rw [e] at h)
      · exact State.count_canon _ _ _ _ h
      · exact State.frameEnter_canon _ _ _ _ _ _ h

@[simp] theorem State.fecNote_canon (s : State) (mac corrected uncorr : Nat) (hc : s.Canon) :
    (State.fecNote s mac corrected uncorr).Canon := by
  simp (maxDischargeDepth := 99) [State.fecNote, hc]

theorem execFrameReceive_canon (mac : Nat) (data : List Byte) (fecCorrected fecUncorr : Nat) (descBad : Bool) (s : State)
    (hc : s.Canon) :
    ∀ t, execFrameReceive mac data fecCorrected fecUncorr descBad s = .next t → t.Canon := by
  intro t h; cases h; simp (maxDischargeDepth := 99) [hc]

end Sys2Proof.Machine
end

