-- ==== Sys2Proof/Laws/CanonGraft.lean ====
section
/-! SUPPORT. The operations of Machine/Graft.lean keep the invariant of a run. -/

namespace Sys2Proof.Machine

@[simp] theorem State.graftCap_canon (s : State) (b cap : Nat) (hc : s.Canon) :
    (State.graftCap s b cap).Canon := by
  simp (maxDischargeDepth := 99) [State.graftCap, hc]

@[simp] theorem State.grantCredits_canon (s : State) (b : Nat) (hc : s.Canon) :
    (State.grantCredits s b).Canon := by
  simp (maxDischargeDepth := 99) [State.grantCredits, hc]

@[simp] theorem State.latency_canon (s : State) (b t1 t2 t3 t4 : Nat) (hc : s.Canon) :
    (State.latency s b t1 t2 t3 t4).Canon := by
  simp (maxDischargeDepth := 99) [State.latency, hc]

@[simp] theorem State.echo_canon (s : State) (b t1 : Nat) (hc : s.Canon) :
    (State.echo s b t1).Canon := by
  simp (maxDischargeDepth := 99) [State.echo, hc]

@[simp] theorem State.grReplay_canon (s : State) (b : Nat) (hc : s.Canon) :
    (State.grReplay s b).Canon := by
  simp +contextual (maxDischargeDepth := 99) [State.grReplay, hc, State.canon_foldl]

@[simp] theorem State.grNak_canon (s : State) (b : Nat) (hc : s.Canon) :
    (State.grNak s b).Canon := by
  simp (maxDischargeDepth := 99) [State.grNak, hc]

@[simp] theorem State.grDeliver_canon (s : State) (b : Nat) (f : BitVec 512 × BitVec 64) (hc : s.Canon) :
    (State.grDeliver s b f).Canon := by
  unfold State.grDeliver; dsimp only; (repeat' split) <;> simp +contextual (maxDischargeDepth := 99) [hc, State.canon_foldl]

@[simp] theorem State.grControl_canon (s : State) (b ctl : Nat) (hc : s.Canon) :
    (State.grControl s b ctl).Canon := by
  simp (maxDischargeDepth := 99) [State.grControl, hc]

@[simp] theorem State.grGood_canon (s : State) (b : Nat) (d : List Byte) (misaligned : Bool) (hc : s.Canon) :
    (State.grGood s b d misaligned).Canon := by
  simp (maxDischargeDepth := 99) [State.grGood, hc]

@[simp] theorem State.grReceive_canon (s : State) (b : Nat) (wire : List Byte) (misaligned : Bool) (hc : s.Canon) :
    (State.grReceive s b wire misaligned).Canon := by
  unfold State.grReceive; (repeat' split) <;> simp (maxDischargeDepth := 99) [hc]

@[simp] theorem State.timeSend_canon (s : State) (b : Nat) (hc : s.Canon) :
    (State.timeSend s b).Canon := by
  simp (maxDischargeDepth := 99) [State.timeSend, hc]

@[simp] theorem State.timeReceive_canon (s : State) (b stamp : Nat) (hc : s.Canon) :
    (State.timeReceive s b stamp).Canon := by
  simp (maxDischargeDepth := 99) [State.timeReceive, hc]

@[simp] theorem State.timeLost_canon (s : State) (hc : s.Canon) :
    (State.timeLost s).Canon := by
  unfold State.timeLost; (repeat' split) <;> simp (maxDischargeDepth := 99) [hc]

theorem execGraftFlitReceive_canon (bundle : Nat) (wire : List Byte) (misaligned : Bool) (s : State) (hc : s.Canon) :
    ∀ t, execGraftFlitReceive bundle wire misaligned s = .next t → t.Canon := by
  intro t h; cases h; simp (maxDischargeDepth := 99) [hc]

theorem execGraftCapability_canon (bundle : Nat) (word : BitVec 64) (s : State) (hc : s.Canon) :
    ∀ t, execGraftCapability bundle word s = .next t → t.Canon := by
  intro t h; cases h; simp (maxDischargeDepth := 99) [hc]

theorem execEcho_canon (bundle t1 : Nat) (s : State) (hc : s.Canon) :
    ∀ t, execEcho bundle t1 s = .next t → t.Canon := by
  intro t h; cases h; simp (maxDischargeDepth := 99) [hc]

theorem execLatencyMeasure_canon (bundle t1 t2 t3 t4 : Nat) (s : State) (hc : s.Canon) :
    ∀ t, execLatencyMeasure bundle t1 t2 t3 t4 s = .next t → t.Canon := by
  intro t h; cases h; simp (maxDischargeDepth := 99) [hc]

theorem execReplayTimeout_canon (bundle : Nat) (s : State) (hc : s.Canon) :
    ∀ t, execReplayTimeout bundle s = .next t → t.Canon := by
  intro t h; cases h; simp (maxDischargeDepth := 99) [hc]

theorem execGraftRetrainCmd_canon (bundle : Nat) (s : State) (hc : s.Canon) :
    ∀ t, execGraftRetrainCmd bundle s = .next t → t.Canon := by
  intro t h; cases h; simp (maxDischargeDepth := 99) [hc]

theorem execTimeSend_canon (bundle : Nat) (s : State) (hc : s.Canon) :
    ∀ t, execTimeSend bundle s = .next t → t.Canon := by
  intro t h; cases h; simp (maxDischargeDepth := 99) [hc]

theorem execTimeReceive_canon (bundle stamp : Nat) (s : State) (hc : s.Canon) :
    ∀ t, execTimeReceive bundle stamp s = .next t → t.Canon := by
  intro t h; cases h; simp (maxDischargeDepth := 99) [hc]

theorem execGrTimeLost_canon (s : State) (hc : s.Canon) :
    ∀ t, execGrTimeLost s = .next t → t.Canon := by
  intro t h; cases h; simp (maxDischargeDepth := 99) [hc]

end Sys2Proof.Machine
end

