-- ==== Sys2Proof/Laws/CanonContracts.lean ====
section
/-! SUPPORT. The operations of Machine/Contracts.lean keep the invariant of a run. -/

namespace Sys2Proof.Machine

@[simp] theorem State.ctCommit_canon (s : State) (q : Nat) (hc : s.Canon) :
    (State.ctCommit s q).Canon := by
  simp (maxDischargeDepth := 99) [State.ctCommit, hc]

@[simp] theorem State.ctRemove_canon (s : State) (q : Nat) (hc : s.Canon) :
    (State.ctRemove s q).Canon := by
  simp (maxDischargeDepth := 99) [State.ctRemove, hc]

@[simp] theorem State.promiseResume_canon (s : State) (q : Nat) (hc : s.Canon) :
    (State.promiseResume s q).Canon := by
  simp (maxDischargeDepth := 99) [State.promiseResume, hc]

theorem execContractRemove_canon (q : Nat) (s : State) (hc : s.Canon) :
    ∀ t, execContractRemove q s = .next t → t.Canon := by
  intro t h; cases h; simp (maxDischargeDepth := 99) [hc]

theorem execPromiseResume_canon (q : Nat) (s : State) (hc : s.Canon) :
    ∀ t, execPromiseResume q s = .next t → t.Canon := by
  intro t h; cases h; simp (maxDischargeDepth := 99) [hc]

end Sys2Proof.Machine
end

