-- ==== Sys2Proof/Laws/CanonHost.lean ====
section
/-! SUPPORT. The operations of Machine/Host.lean keep the invariant of a run. -/

namespace Sys2Proof.Machine

@[simp] theorem State.ringEnable_canon (s : State) (r : Nat) (hc : s.Canon) :
    (State.ringEnable s r).Canon := by
  simp (maxDischargeDepth := 99) [State.ringEnable, hc]

@[simp] theorem State.pciIgnored_canon (s : State) (hc : s.Canon) :
    (State.pciIgnored s).Canon := by
  simp (maxDischargeDepth := 99) [State.pciIgnored, hc]

@[simp] theorem State.ringWrite_canon (s : State) (r value : Nat) (hc : s.Canon) :
    (State.ringWrite s r value).Canon := by
  simp (maxDischargeDepth := 99) [State.ringWrite, hc]

@[simp] theorem State.ringSegment_canon (s : State) (r : Nat) (sop eop abort : Bool) (data : List Byte) (meta32 : Nat)
    (hc : s.Canon) :
    (State.ringSegment s r sop eop abort data meta32).Canon := by
  simp (maxDischargeDepth := 99) [State.ringSegment, hc]

@[simp] theorem State.ringStop_canon (s : State) (r : Nat) (hc : s.Canon) :
    (State.ringStop s r).Canon := by
  simp (maxDischargeDepth := 99) [State.ringStop, hc]

@[simp] theorem State.ringFault_canon (s : State) (r : Nat) (hc : s.Canon) :
    (State.ringFault s r).Canon := by
  simp (maxDischargeDepth := 99) [State.ringFault, hc]

@[simp] theorem State.stopFunctions_canon (s : State) (fns : List Nat) (hc : s.Canon) :
    (State.stopFunctions s fns).Canon := by
  simp +contextual (maxDischargeDepth := 99) [State.stopFunctions, hc, State.canon_foldl]

@[simp] theorem State.doorbell_canon (s : State) (r idx : Nat) (hc : s.Canon) :
    (State.doorbell s r idx).Canon := by
  simp (maxDischargeDepth := 99) [State.doorbell, hc]

@[simp] theorem State.ringPut_canon (s : State) (r idx meta32 arrival len flags code : Nat) (hc : s.Canon) :
    (State.ringPut s r idx meta32 arrival len flags code).Canon := by
  simp (maxDischargeDepth := 99) [State.ringPut, hc]

@[simp] theorem State.ringVector_canon (s : State) (r : Nat) (hc : s.Canon) :
    (State.ringVector s r).Canon := by
  simp (maxDischargeDepth := 99) [State.ringVector, hc]

@[simp] theorem State.ringIrq_canon (s : State) (r : Nat) (hc : s.Canon) :
    (State.ringIrq s r).Canon := by
  simp (maxDischargeDepth := 99) [State.ringIrq, hc]

@[simp] theorem State.ringConsume_canon (s : State) (r n : Nat) (hc : s.Canon) :
    (State.ringConsume s r n).Canon := by
  simp (maxDischargeDepth := 99) [State.ringConsume, hc]

@[simp] theorem State.ringComplete_canon (s : State) (r addr bufLen : Nat) (fail : Bool) (hc : s.Canon) :
    (State.ringComplete s r addr bufLen fail).Canon := by
  unfold State.ringComplete; dsimp only; (repeat' split) <;> simp +contextual (maxDischargeDepth := 99) [hc, State.canon_foldl]

@[simp] theorem State.ringAnswered_canon (s : State) (r code : Nat) (l : List RingDesc) (hc : s.Canon) :
    (State.ringAnswered s r code l).Canon := by
  simp +contextual (maxDischargeDepth := 99) [State.ringAnswered, hc, State.canon_foldl]

@[simp] theorem State.ringAnswer_canon (s : State) (r code : Nat) (hc : s.Canon) :
    (State.ringAnswer s r code).Canon := by
  unfold State.ringAnswer; dsimp only; (repeat' split) <;> simp +contextual (maxDischargeDepth := 99) [hc, State.canon_foldl]

@[simp] theorem State.ringSend_canon (s : State) (r : Nat) (data : List Byte) (begun eop : Bool) (meta32 fuel : Nat)
    (hc : s.Canon) : (State.ringSend s r data begun eop meta32 fuel).2.2.Canon := by
  induction fuel generalizing s data begun with
  | zero => exact hc
  | succ n ih =>
    rw [State.ringSend]
    dsimp only
    split
    · exact ih _ _ _ (State.ringSegment_canon _ _ _ _ _ _ _ hc)
    · split
      · exact State.ringSegment_canon _ _ _ _ _ _ _ hc
      · split
        · exact hc
        · exact State.ringSegment_canon _ _ _ _ _ _ _ hc

@[simp] theorem State.ringFetch_canon (s : State) (r : Nat) (desc data : List Byte) (fail : Bool) (hc : s.Canon) :
    (State.ringFetch s r desc data fail).Canon := by
  unfold State.ringFetch; dsimp only; (repeat' split) <;> simp +contextual (maxDischargeDepth := 99) [hc, State.canon_foldl]

@[simp] theorem State.ethIgnored_canon (s : State) (hc : s.Canon) :
    (State.ethIgnored s).Canon := by
  simp (maxDischargeDepth := 99) [State.ethIgnored, hc]

@[simp] theorem State.macWrite_canon (s : State) (mac value : Nat) (hc : s.Canon) :
    (State.macWrite s mac value).Canon := by
  simp (maxDischargeDepth := 99) [State.macWrite, hc]

@[simp] theorem State.afterPause_canon (s : State) (mac : Nat) (hc : s.Canon) :
    (State.afterPause s mac).Canon := by
  simp +contextual (maxDischargeDepth := 99) [State.afterPause, hc, State.canon_foldl]

@[simp] theorem State.pauseSet_canon (s : State) (mac pri : Nat) (stop : Bool) (hc : s.Canon) :
    (State.pauseSet s mac pri stop).Canon := by
  simp (maxDischargeDepth := 99) [State.pauseSet, hc]

@[simp] theorem State.stampPop_canon (s : State) (hc : s.Canon) :
    (State.stampPop s).2.Canon := by
  unfold State.stampPop; (repeat' split) <;> simp (maxDischargeDepth := 99) [hc]

theorem execRingEnable_canon (ring : Nat) (value : Word) (s : State) (hc : s.Canon) :
    ∀ t, execRingEnable ring value s = .next t → t.Canon := by
  intro t h; rw [← Host.Outcome.next.inj h]; simp (maxDischargeDepth := 99) [hc]

theorem execDoorbell_canon (ring index : Nat) (s : State) (hc : s.Canon) :
    ∀ t, execDoorbell ring index s = .next t → t.Canon := by
  intro t h; rw [← Host.Outcome.next.inj h]; simp (maxDischargeDepth := 99) [hc]

theorem execFromHostFetch_canon (ring : Nat) (desc data : List Byte) (fail : Bool) (s : State) (hc : s.Canon) :
    ∀ t, execFromHostFetch ring desc data fail s = .next t → t.Canon := by
  intro t h; rw [← Host.Outcome.next.inj h]; simp (maxDischargeDepth := 99) [hc]

theorem execRingCompletion_canon (ring addr bufLen : Nat) (fail : Bool) (s : State) (hc : s.Canon) :
    ∀ t, execRingCompletion ring addr bufLen fail s = .next t → t.Canon := by
  intro t h; rw [← Host.Outcome.next.inj h]; simp (maxDischargeDepth := 99) [hc]

theorem execRingHoldoffExpire_canon (ring : Nat) (s : State) (hc : s.Canon) :
    ∀ t, execRingHoldoffExpire ring s = .next t → t.Canon := by
  intro t h; rw [← Host.Outcome.next.inj h]; simp (maxDischargeDepth := 99) [hc]

theorem execPcieCompletionTimeout_canon (ring : Nat) (s : State) (hc : s.Canon) :
    ∀ t, execPcieCompletionTimeout ring s = .next t → t.Canon := by
  intro t h; rw [← Host.Outcome.next.inj h]; simp (maxDischargeDepth := 99) [hc]

theorem execPcieLinkUp_canon (gen width : Nat) (s : State) (hc : s.Canon) :
    ∀ t, execPcieLinkUp gen width s = .next t → t.Canon := by
  intro t h
  rw [← Host.Outcome.next.inj h]
  exact State.prmRefresh_canon _ (State.setFld_canon _ _ _ _ (State.setFld_canon _ _ _ _ (State.setFlag_canon _ _ _ _
    (State.setFlag_canon _ _ _ _ hc))))

theorem execLtrSend_canon (value : Nat) (s : State) (hc : s.Canon) :
    ∀ t, execLtrSend value s = .next t → t.Canon := by
  intro t h; rw [← Host.Outcome.next.inj h]; simp (maxDischargeDepth := 99) [hc]

theorem execMacEnable_canon (mac : Nat) (value : Word) (s : State) (hc : s.Canon) :
    ∀ t, execMacEnable mac value s = .next t → t.Canon := by
  intro t h; rw [← Host.Outcome.next.inj h]; simp (maxDischargeDepth := 99) [hc]

theorem execMacLinkUp_canon (mac : Nat) (s : State) (hc : s.Canon) :
    ∀ t, execMacLinkUp mac s = .next t → t.Canon := by
  intro t h; rw [← Host.Outcome.next.inj h]; simp (maxDischargeDepth := 99) [hc]

theorem execMacLinkDown_canon (mac : Nat) (s : State) (hc : s.Canon) :
    ∀ t, execMacLinkDown mac s = .next t → t.Canon := by
  intro t h; rw [← Host.Outcome.next.inj h]; simp (maxDischargeDepth := 99) [hc]

theorem execPfcPauseReceive_canon (mac pri : Nat) (stop : Bool) (s : State) (hc : s.Canon) :
    ∀ t, execPfcPauseReceive mac pri stop s = .next t → t.Canon := by
  intro t h; rw [← Host.Outcome.next.inj h]; simp (maxDischargeDepth := 99) [hc]

theorem execPfcPauseExpire_canon (mac pri : Nat) (s : State) (hc : s.Canon) :
    ∀ t, execPfcPauseExpire mac pri s = .next t → t.Canon := by
  intro t h; rw [← Host.Outcome.next.inj h]; simp (maxDischargeDepth := 99) [hc]

theorem execEthTxtsTagRead_canon (s : State) (hc : s.Canon) :
    ∀ t, execEthTxtsTagRead s = .next t → t.Canon := by
  intro t h; rw [← Host.Outcome.next.inj h]; simp (maxDischargeDepth := 99) [hc]

end Sys2Proof.Machine
end

