-- ==== Sys2Proof/Laws/CanonScan.lean ====
section
/-! SUPPORT. The operations of Machine/Scan.lean keep the invariant of a run. -/

namespace Sys2Proof.Machine

@[simp] theorem State.setScanSig_canon (s : State) (k p f v : Nat) (hc : s.Canon) :
    (State.setScanSig s k p f v).Canon := by
  simp (maxDischargeDepth := 99) [State.setScanSig, hc]

@[simp] theorem State.setCiSec_canon (s : State) (k : Nat) (c : CiSec) (hc : s.Canon) :
    (State.setCiSec s k c).Canon := by
  simp (maxDischargeDepth := 99) [State.setCiSec, hc]

@[simp] theorem State.setCiState_canon (s : State) (k v : Nat) (hc : s.Canon) :
    (State.setCiState s k v).Canon := by
  simp (maxDischargeDepth := 99) [State.setCiState, hc]

@[simp] theorem State.ciLast_canon (s : State) (place outcome k p f : Nat) (hc : s.Canon) :
    (State.ciLast s place outcome k p f).Canon := by
  simp (maxDischargeDepth := 99) [State.ciLast, hc]

@[simp] theorem State.ciHalt_canon (s : State) (k : Nat) (f : FaultCode) (loc : List Nat) (hc : s.Canon) :
    (State.ciHalt s k f loc).Canon := by
  simp (maxDischargeDepth := 99) [State.ciHalt, hc]

@[simp] theorem State.ciPersist_canon (s : State) (k p f : Nat) (hc : s.Canon) :
    (State.ciPersist s k p f).Canon := by
  simp (maxDischargeDepth := 99) [State.ciPersist, hc]

@[simp] theorem State.planeBad_canon (s : State) (k p f : Nat) (hc : s.Canon) :
    (State.planeBad s k p f).Canon := by
  simp (maxDischargeDepth := 99) [State.planeBad, hc]

@[simp] theorem State.planeRead_canon (s : State) (k p f : Nat) (flips : List Nat) (hc : s.Canon) :
    (State.planeRead s k p f flips).2.2.Canon := by
  unfold State.planeRead; dsimp only; (repeat' split) <;> simp +contextual (maxDischargeDepth := 99) [hc, State.canon_foldl]

@[simp] theorem State.setLatches_canon (s : State) (k place : Nat) (fr : Frames) (hc : s.Canon) :
    (State.setLatches s k place fr).Canon := by
  simp (maxDischargeDepth := 99) [State.setLatches, hc]

@[simp] theorem State.ciReport_canon (s : State) (k place p f : Nat) (hc : s.Canon) :
    (State.ciReport s k place p f).Canon := by
  simp (maxDischargeDepth := 99) [State.ciReport, hc]

@[simp] theorem State.latchRead_canon (s : State) (k place f : Nat) (flips : List Nat) (hc : s.Canon) :
    (State.latchRead s k place f flips).Canon := by
  simp (maxDischargeDepth := 99) [State.latchRead, hc]

@[simp] theorem State.sigFails_canon (s : State) (k p f : Nat) (hc : s.Canon) :
    (State.sigFails s k p f).Canon := by
  simp (maxDischargeDepth := 99) [State.sigFails, hc]

@[simp] theorem State.scanRead_canon (s : State) (k place p f : Nat) (flips : List Nat) (sigBad : Bool) (hc : s.Canon) :
    (State.scanRead s k place p f flips sigBad).Canon := by
  unfold State.scanRead
  split
  · exact hc
  · dsimp only
    generalize (match place with | 0 => s.livePlane k | 1 => s.fld (F.CTX_STATUS_staged_plane.ctx k) | _ => p) = q
    refine State.canon_ite ?_ (State.canon_ite ?_ (State.canon_ite hc ?_)) <;> simp [hc]

@[simp] theorem State.repairFails_canon (s : State) (k : Nat) (live : Bool) (p f : Nat) (hc : s.Canon) :
    (State.repairFails s k live p f).Canon := by
  simp (maxDischargeDepth := 99) [State.repairFails, hc]

@[simp] theorem State.repairedLaps_canon (s : State) (k p f : Nat) (hc : s.Canon) :
    (State.repairedLaps s k p f).2.Canon := by
  simp (maxDischargeDepth := 99) [State.repairedLaps, hc]

@[simp] theorem State.latchRepair_canon (s : State) (k : Nat) (flips again : List Nat) (hc : s.Canon) :
    (State.latchRepair s k flips again).Canon := by
  unfold State.latchRepair; dsimp only; (repeat' split) <;> simp +contextual (maxDischargeDepth := 99) [hc, State.canon_foldl]

@[simp] theorem State.initFlops_canon (s : State) (k : Nat) (hc : s.Canon) :
    (State.initFlops s k).Canon := by
  simp (maxDischargeDepth := 99) [State.initFlops, hc]

@[simp] theorem State.sectorReload_canon (s : State) (k : Nat) (hc : s.Canon) :
    (State.sectorReload s k).Canon := by
  unfold State.sectorReload; (repeat' split) <;> simp (maxDischargeDepth := 99) [hc]

@[simp] theorem State.ciCommitEnd_canon (s : State) (hc : s.Canon) :
    (State.ciCommitEnd s).Canon := by
  unfold State.ciCommitEnd; (repeat' split) <;> simp +contextual (maxDischargeDepth := 99) [hc, State.canon_foldl]

@[simp] theorem State.lapStarts_canon (s : State) (k : Nat) (hc : s.Canon) :
    (State.lapStarts s k).Canon := by
  simp (maxDischargeDepth := 99) [State.lapStarts, hc]

@[simp] theorem State.ciCommit_canon (s : State) (words : List Nat) (hc : s.Canon) :
    (State.ciCommit s words).Canon := by
  simp +contextual (maxDischargeDepth := 99) [State.ciCommit, hc, State.canon_foldl]

@[simp] theorem State.listFails_canon (s : State) (k : Nat) (hc : s.Canon) :
    (State.listFails s k).Canon := by
  simp (maxDischargeDepth := 99) [State.listFails, hc]

@[simp] theorem State.deviceLap_canon (s : State) (k : Nat) (hc : s.Canon) :
    (State.deviceLap s k).Canon := by
  simp (maxDischargeDepth := 99) [State.deviceLap, hc]

@[simp] theorem State.lapEnds_canon (s : State) (k : Nat) (listBad : Bool) (hc : s.Canon) :
    (State.lapEnds s k listBad).Canon := by
  simp (maxDischargeDepth := 99) [State.lapEnds, hc]

@[simp] theorem State.scanStall_canon (s : State) (k : Nat) (hc : s.Canon) :
    (State.scanStall s k).Canon := by
  simp (maxDischargeDepth := 99) [State.scanStall, hc]

@[simp] theorem State.ciRestart_canon (s : State) (k : Nat) (hc : s.Canon) :
    (State.ciRestart s k).Canon := by
  simp (maxDischargeDepth := 99) [State.ciRestart, hc]

@[simp] theorem State.ciRebuild_canon (s : State) (k : Nat) (hc : s.Canon) :
    (State.ciRebuild s k).Canon := by
  simp +contextual (maxDischargeDepth := 99) [State.ciRebuild, hc, State.canon_foldl]

@[simp] theorem State.ciVote_canon (s : State) (hc : s.Canon) :
    (State.ciVote s).Canon := by
  simp (maxDischargeDepth := 99) [State.ciVote, hc]

@[simp] theorem State.ciRelease_canon (s : State) (island : Nat) (hc : s.Canon) :
    (State.ciRelease s island).Canon := by
  simp (maxDischargeDepth := 99) [State.ciRelease, hc]

theorem execScanFrameRead_canon (sector place plane frame : Nat) (flips : List Nat) (sigBad : Bool) (s : State) (hc : s.Canon) :
    ∀ t, execScanFrameRead sector place plane frame flips sigBad s = .next t → t.Canon := by
  intro t h; cases h; simp (maxDischargeDepth := 99) [hc]

theorem execLatchRepair_canon (sector : Nat) (flips again : List Nat) (s : State) (hc : s.Canon) :
    ∀ t, execLatchRepair sector flips again s = .next t → t.Canon := by
  intro t h; cases h; simp (maxDischargeDepth := 99) [hc]

theorem execSectorReload_canon (sector : Nat) (s : State) (hc : s.Canon) :
    ∀ t, execSectorReload sector s = .next t → t.Canon := by
  intro t h; cases h; simp (maxDischargeDepth := 99) [hc]

theorem execScanLapEnd_canon (sector : Nat) (listBad : Bool) (s : State) (hc : s.Canon) :
    ∀ t, execScanLapEnd sector listBad s = .next t → t.Canon := by
  intro t h; cases h; simp (maxDischargeDepth := 99) [hc]

theorem execVoteCorrection_canon (s : State) (hc : s.Canon) :
    ∀ t, execVoteCorrection s = .next t → t.Canon := by
  intro t h; cases h; simp (maxDischargeDepth := 99) [hc]

theorem execScanStall_canon (sector : Nat) (s : State) (hc : s.Canon) :
    ∀ t, execScanStall sector s = .next t → t.Canon := by
  intro t h; cases h; simp (maxDischargeDepth := 99) [hc]

theorem execRestart_canon (sector : Nat) (s : State) (hc : s.Canon) :
    ∀ t, execRestart sector s = .next t → t.Canon := by
  intro t h; cases h; simp (maxDischargeDepth := 99) [hc]

theorem execRebuild_canon (sector : Nat) (s : State) (hc : s.Canon) :
    ∀ t, execRebuild sector s = .next t → t.Canon := by
  intro t h; cases h; simp (maxDischargeDepth := 99) [hc]

end Sys2Proof.Machine
end

