-- ==== Sys2Proof/Laws/CanonOperands.lean ====
section
/-! SUPPORT. The operations of Machine/Operands.lean keep the invariant of a run. -/

namespace Sys2Proof.Machine

@[simp] theorem State.setEngine_canon (s : State) (e : Nat) (g : Engine) (hc : s.Canon) :
    (State.setEngine s e g).Canon := by
  simp (maxDischargeDepth := 99) [State.setEngine, hc]

@[simp] theorem State.updEngine_canon (s : State) (e : Nat) (f : Engine → Engine) (hc : s.Canon) :
    (State.updEngine s e f).Canon := by
  simp (maxDischargeDepth := 99) [State.updEngine, hc]

@[simp] theorem State.engUpsets_canon (s : State) (e : Nat) (ups : List EngUpset) (hc : s.Canon) :
    (State.engUpsets s e ups).Canon := by
  simp (maxDischargeDepth := 99) [State.engUpsets, hc]

@[simp] theorem State.engUncorr_canon (s : State) (e : Nat) (f : FaultCode) (hc : s.Canon) :
    (State.engUncorr s e f).Canon := by
  simp (maxDischargeDepth := 99) [State.engUncorr, hc]

@[simp] theorem State.dmemRead_canon (s : State) (e a : Nat) (hc : s.Canon) :
    (State.dmemRead s e a).2.2.Canon := by
  unfold State.dmemRead; dsimp only; (repeat' split) <;> simp +contextual (maxDischargeDepth := 99) [hc, State.canon_foldl]

@[simp] theorem State.dmemWrite_canon (s : State) (e a v : Nat) (hc : s.Canon) :
    (State.dmemWrite s e a v).Canon := by
  simp (maxDischargeDepth := 99) [State.dmemWrite, hc]

@[simp] theorem State.pmemRead_canon (s : State) (e a : Nat) (hc : s.Canon) :
    (State.pmemRead s e a).2.2.Canon := by
  unfold State.pmemRead; dsimp only; (repeat' split) <;> simp +contextual (maxDischargeDepth := 99) [hc, State.canon_foldl]

@[simp] theorem State.pmemWrite_canon (s : State) (e a v : Nat) (hc : s.Canon) :
    (State.pmemWrite s e a v).Canon := by
  simp (maxDischargeDepth := 99) [State.pmemWrite, hc]

end Sys2Proof.Machine
end

