-- ==== Sys2Proof/Laws/CanonEngine.lean ====
section
/-! SUPPORT. The operations of Machine/Engine.lean keep the invariant of a run. -/

namespace Sys2Proof.Machine

@[simp] theorem State.engError_canon (s : State) (e : Nat) (hc : s.Canon) :
    (State.engError s e).Canon := by
  simp (maxDischargeDepth := 99) [State.engError, hc]

@[simp] theorem State.slotAccess_canon (s : State) (e sl a : Nat) (hc : s.Canon) :
    (State.slotAccess s e sl a).2.Canon := by
  unfold State.slotAccess; dsimp only; (repeat' split) <;> simp +contextual (maxDischargeDepth := 99) [hc, State.canon_foldl]

@[simp] theorem State.parallel_canon (s : State) (e : Nat) (k : EngKind) (w : Nat) (hc : s.Canon) :
    (State.parallel s e k w).2.Canon := by
  simp (maxDischargeDepth := 99) [State.parallel, hc]

@[simp] theorem State.startXfer_canon (s : State) (e : Nat) (g : Engine) (w : Nat) (hc : s.Canon) :
    (State.startXfer s e g w).Canon := by
  unfold State.startXfer; (repeat' split) <;> simp (maxDischargeDepth := 99) [hc]

@[simp] theorem State.testAndSet_canon (s : State) (e w : Nat) (hc : s.Canon) :
    (State.testAndSet s e w).Canon := by
  simp (maxDischargeDepth := 99) [State.testAndSet, hc]

@[simp] theorem State.control_canon (s : State) (e : Nat) (k : EngKind) (w : Nat) (g0 : Engine) (hc : s.Canon) :
    (State.control s e k w g0).2.Canon := by
  unfold State.control; dsimp only; (repeat' split) <;> simp +contextual (maxDischargeDepth := 99) [hc, State.canon_foldl]

@[simp] theorem State.controlIssue_canon (s : State) (e : Nat) (k : EngKind) (w : Nat) (hc : s.Canon) :
    (State.controlIssue s e k w).2.Canon := by
  unfold State.controlIssue; dsimp only; (repeat' split) <;> simp +contextual (maxDischargeDepth := 99) [hc, State.canon_foldl]

@[simp] theorem State.engRun_canon (s : State) (e : Nat) (k : EngKind) (w : Nat) (hc : s.Canon) :
    (State.engRun s e k w).Canon := by
  unfold State.engRun; (repeat' split) <;> simp (maxDischargeDepth := 99) [hc]

@[simp] theorem State.engFetch_canon (s : State) (e : Nat) (want : Option EngKind) (hc : s.Canon) :
    (State.engFetch s e want).Canon := by
  unfold State.engFetch; dsimp only; (repeat' split) <;> simp +contextual (maxDischargeDepth := 99) [hc, State.canon_foldl]

@[simp] theorem State.engCommand_canon (s : State) (e : Nat) (ups : List EngUpset) (k : EngKind) (hc : s.Canon) :
    (State.engCommand s e ups k).Canon := by
  simp (maxDischargeDepth := 99) [State.engCommand, hc]

end Sys2Proof.Machine
end

