-- ==== Sys2Proof/Laws/CanonEngineCmd.lean ====
section
/-! SUPPORT. The operations of Machine/EngineCmd.lean keep the invariant of a run. -/

namespace Sys2Proof.Machine

@[simp] theorem State.dmemRewrite_canon (s : State) (e : Nat) (hc : s.Canon) :
    (State.dmemRewrite s e).Canon := by
  unfold State.dmemRewrite; dsimp only; (repeat' split) <;> simp +contextual (maxDischargeDepth := 99) [hc, State.canon_foldl]

@[simp] theorem State.timerReload_canon (s : State) (e : Nat) (hc : s.Canon) :
    (State.timerReload s e).Canon := by
  simp (maxDischargeDepth := 99) [State.timerReload, hc]

@[simp] theorem State.watchdogExpire_canon (s : State) (e : Nat) (hc : s.Canon) :
    (State.watchdogExpire s e).Canon := by
  simp (maxDischargeDepth := 99) [State.watchdogExpire, hc]

@[simp] theorem State.interruptEntry_canon (s : State) (e : Nat) (ups : List EngUpset) (hc : s.Canon) :
    (State.interruptEntry s e ups).Canon := by
  unfold State.interruptEntry; dsimp only; (repeat' split) <;> simp +contextual (maxDischargeDepth := 99) [hc, State.canon_foldl]

@[simp] theorem State.engPort_canon (s : State) (e port : Nat) (word : Word) (hc : s.Canon) :
    (State.engPort s e port word).Canon := by
  unfold State.engPort; (repeat' split) <;> simp (maxDischargeDepth := 99) [hc]

@[simp] theorem State.engStepLoop_canon (s : State) (e n : Nat) (hc : s.Canon) : (State.engStepLoop s e n).Canon := by
  induction n generalizing s with
  | zero => exact hc
  | succ n ih =>
    rw [State.engStepLoop]
    split
    · exact ih _ (State.engFetch_canon _ _ _ hc)
    · exact hc

@[simp] theorem State.stallEnd_canon (s : State) (e cycles : Nat) (hc : s.Canon) :
    (State.stallEnd s e cycles).Canon := by
  unfold State.stallEnd; dsimp only; (repeat' split) <;> simp +contextual (maxDischargeDepth := 99) [hc, State.canon_foldl]

@[simp] theorem State.sigDelivered_canon (s : State) (e line : Nat) (hc : s.Canon) :
    (State.sigDelivered s e line).Canon := by
  simp (maxDischargeDepth := 99) [State.sigDelivered, hc]

@[simp] theorem State.xferError_canon (s : State) (e err : Nat) (hc : s.Canon) :
    (State.xferError s e err).Canon := by
  simp (maxDischargeDepth := 99) [State.xferError, hc]

@[simp] theorem State.moverIn_canon (s : State) (e : Nat) (m : Mover) (n : Nat) (hc : s.Canon) :
    (State.moverIn s e m n).Canon := by
  simp +contextual (maxDischargeDepth := 99) [State.moverIn, hc, State.canon_foldl]

@[simp] theorem State.moverOut_canon (s : State) (e : Nat) (m : Mover) (n : Nat) (hc : s.Canon) :
    (State.moverOut s e m n).Canon := by
  have h := foldl_keeps (fun (acc : List Nat × Bool × State) => acc.2.2.Canon)
    (f := fun acc q => (acc.1 ++ [m.toLane (acc.2.2.dmemRead e (m.eaddr + q)).1],
      acc.2.1 || (acc.2.2.dmemRead e (m.eaddr + q)).2.1, (acc.2.2.dmemRead e (m.eaddr + q)).2.2))
    (by intro acc q ht; dsimp only at ht ⊢; exact State.dmemRead_canon acc.2.2 e (m.eaddr + q) ht) (List.range n)
    (b := ([], false, s)) hc
  unfold State.moverOut
  dsimp only
  revert h
  generalize List.foldl _ _ _ = r
  intro h
  split <;> simp (maxDischargeDepth := 99) [h]

@[simp] theorem State.moverWord_canon (s : State) (e : Nat) (ups : List EngUpset) (bankUps : List Nat) (hc : s.Canon) :
    (State.moverWord s e ups bankUps).Canon := by
  simp (maxDischargeDepth := 99) [State.moverWord, hc]

@[simp] theorem State.moverDone_canon (s : State) (e : Nat) (hc : s.Canon) :
    (State.moverDone s e).Canon := by
  simp (maxDischargeDepth := 99) [State.moverDone, hc]

@[simp] theorem State.engHalt_canon (s : State) (e : Nat) (hc : s.Canon) :
    (State.engHalt s e).Canon := by
  simp (maxDischargeDepth := 99) [State.engHalt, hc]

@[simp] theorem State.engResume_canon (s : State) (e : Nat) (hc : s.Canon) :
    (State.engResume s e).Canon := by
  simp (maxDischargeDepth := 99) [State.engResume, hc]

@[simp] theorem State.engStep_canon (s : State) (e : Nat) (hc : s.Canon) :
    (State.engStep s e).Canon := by
  simp (maxDischargeDepth := 99) [State.engStep, hc]

@[simp] theorem State.engReset_canon (s : State) (e : Nat) (hc : s.Canon) :
    (State.engReset s e).Canon := by
  simp (maxDischargeDepth := 99) [State.engReset, hc]

@[simp] theorem State.boundaryHalt_canon (s : State) (e : Nat) (hc : s.Canon) :
    (State.boundaryHalt s e).Canon := by
  simp (maxDischargeDepth := 99) [State.boundaryHalt, hc]

@[simp] theorem State.breakpoint_canon (s : State) (e : Nat) (hc : s.Canon) :
    (State.breakpoint s e).Canon := by
  simp (maxDischargeDepth := 99) [State.breakpoint, hc]

@[simp] theorem State.windowRefused_canon (s : State) (e : Nat) (hc : s.Canon) :
    (State.windowRefused s e).Canon := by
  simp (maxDischargeDepth := 99) [State.windowRefused, hc]

@[simp] theorem State.windowValue_canon (s : State) (e off : Nat) (hc : s.Canon) :
    (State.windowValue s e off).2.Canon := by
  unfold State.windowValue; (repeat' split) <;> simp (maxDischargeDepth := 99) [hc]

@[simp] theorem State.windowRead_canon (s : State) (e off size : Nat) (hc : s.Canon) :
    (State.windowRead s e off size).Canon := by
  simp (maxDischargeDepth := 99) [State.windowRead, hc]

@[simp] theorem State.windowPut_canon (s : State) (e off : Nat) (v : Nat) (hc : s.Canon) :
    (State.windowPut s e off v).Canon := by
  simp (maxDischargeDepth := 99) [State.windowPut, hc]

@[simp] theorem State.windowWrite_canon (s : State) (e off size : Nat) (v : Nat) (hc : s.Canon) :
    (State.windowWrite s e off size v).Canon := by
  simp (maxDischargeDepth := 99) [State.windowWrite, hc]

theorem execNopa_canon (e : Nat) (upsets : List EngUpset) (s : State) (hc : s.Canon) :
    ∀ t, execNopa e upsets s = .next t → t.Canon := by
  intro t h; rw [← Host.Outcome.next.inj h]; simp (maxDischargeDepth := 99) [hc]

theorem execMpy_canon (e : Nat) (upsets : List EngUpset) (s : State) (hc : s.Canon) :
    ∀ t, execMpy e upsets s = .next t → t.Canon := by
  intro t h; rw [← Host.Outcome.next.inj h]; simp (maxDischargeDepth := 99) [hc]

theorem execMac_canon (e : Nat) (upsets : List EngUpset) (s : State) (hc : s.Canon) :
    ∀ t, execMac e upsets s = .next t → t.Canon := by
  intro t h; rw [← Host.Outcome.next.inj h]; simp (maxDischargeDepth := 99) [hc]

theorem execMsu_canon (e : Nat) (upsets : List EngUpset) (s : State) (hc : s.Canon) :
    ∀ t, execMsu e upsets s = .next t → t.Canon := by
  intro t h; rw [← Host.Outcome.next.inj h]; simp (maxDischargeDepth := 99) [hc]

theorem execMpyr_canon (e : Nat) (upsets : List EngUpset) (s : State) (hc : s.Canon) :
    ∀ t, execMpyr e upsets s = .next t → t.Canon := by
  intro t h; rw [← Host.Outcome.next.inj h]; simp (maxDischargeDepth := 99) [hc]

theorem execMacr_canon (e : Nat) (upsets : List EngUpset) (s : State) (hc : s.Canon) :
    ∀ t, execMacr e upsets s = .next t → t.Canon := by
  intro t h; rw [← Host.Outcome.next.inj h]; simp (maxDischargeDepth := 99) [hc]

theorem execMsur_canon (e : Nat) (upsets : List EngUpset) (s : State) (hc : s.Canon) :
    ∀ t, execMsur e upsets s = .next t → t.Canon := by
  intro t h; rw [← Host.Outcome.next.inj h]; simp (maxDischargeDepth := 99) [hc]

theorem execAddx_canon (e : Nat) (upsets : List EngUpset) (s : State) (hc : s.Canon) :
    ∀ t, execAddx e upsets s = .next t → t.Canon := by
  intro t h; rw [← Host.Outcome.next.inj h]; simp (maxDischargeDepth := 99) [hc]

theorem execSubx_canon (e : Nat) (upsets : List EngUpset) (s : State) (hc : s.Canon) :
    ∀ t, execSubx e upsets s = .next t → t.Canon := by
  intro t h; rw [← Host.Outcome.next.inj h]; simp (maxDischargeDepth := 99) [hc]

theorem execClr_canon (e : Nat) (upsets : List EngUpset) (s : State) (hc : s.Canon) :
    ∀ t, execClr e upsets s = .next t → t.Canon := by
  intro t h; rw [← Host.Outcome.next.inj h]; simp (maxDischargeDepth := 99) [hc]

theorem execCpya_canon (e : Nat) (upsets : List EngUpset) (s : State) (hc : s.Canon) :
    ∀ t, execCpya e upsets s = .next t → t.Canon := by
  intro t h; rw [← Host.Outcome.next.inj h]; simp (maxDischargeDepth := 99) [hc]

theorem execNegAcc_canon (e : Nat) (upsets : List EngUpset) (s : State) (hc : s.Canon) :
    ∀ t, execNegAcc e upsets s = .next t → t.Canon := by
  intro t h; rw [← Host.Outcome.next.inj h]; simp (maxDischargeDepth := 99) [hc]

theorem execAbsAcc_canon (e : Nat) (upsets : List EngUpset) (s : State) (hc : s.Canon) :
    ∀ t, execAbsAcc e upsets s = .next t → t.Canon := by
  intro t h; rw [← Host.Outcome.next.inj h]; simp (maxDischargeDepth := 99) [hc]

theorem execAsl1_canon (e : Nat) (upsets : List EngUpset) (s : State) (hc : s.Canon) :
    ∀ t, execAsl1 e upsets s = .next t → t.Canon := by
  intro t h; rw [← Host.Outcome.next.inj h]; simp (maxDischargeDepth := 99) [hc]

theorem execAsr1_canon (e : Nat) (upsets : List EngUpset) (s : State) (hc : s.Canon) :
    ∀ t, execAsr1 e upsets s = .next t → t.Canon := by
  intro t h; rw [← Host.Outcome.next.inj h]; simp (maxDischargeDepth := 99) [hc]

theorem execRnd_canon (e : Nat) (upsets : List EngUpset) (s : State) (hc : s.Canon) :
    ∀ t, execRnd e upsets s = .next t → t.Canon := by
  intro t h; rw [← Host.Outcome.next.inj h]; simp (maxDischargeDepth := 99) [hc]

theorem execNop_canon (e : Nat) (upsets : List EngUpset) (s : State) (hc : s.Canon) :
    ∀ t, execNop e upsets s = .next t → t.Canon := by
  intro t h; rw [← Host.Outcome.next.inj h]; simp (maxDischargeDepth := 99) [hc]

theorem execLdi_canon (e : Nat) (upsets : List EngUpset) (s : State) (hc : s.Canon) :
    ∀ t, execLdi e upsets s = .next t → t.Canon := by
  intro t h; rw [← Host.Outcome.next.inj h]; simp (maxDischargeDepth := 99) [hc]

theorem execLdih_canon (e : Nat) (upsets : List EngUpset) (s : State) (hc : s.Canon) :
    ∀ t, execLdih e upsets s = .next t → t.Canon := by
  intro t h; rw [← Host.Outcome.next.inj h]; simp (maxDischargeDepth := 99) [hc]

theorem execMov_canon (e : Nat) (upsets : List EngUpset) (s : State) (hc : s.Canon) :
    ∀ t, execMov e upsets s = .next t → t.Canon := by
  intro t h; rw [← Host.Outcome.next.inj h]; simp (maxDischargeDepth := 99) [hc]

theorem execLdd_canon (e : Nat) (upsets : List EngUpset) (s : State) (hc : s.Canon) :
    ∀ t, execLdd e upsets s = .next t → t.Canon := by
  intro t h; rw [← Host.Outcome.next.inj h]; simp (maxDischargeDepth := 99) [hc]

theorem execStd_canon (e : Nat) (upsets : List EngUpset) (s : State) (hc : s.Canon) :
    ∀ t, execStd e upsets s = .next t → t.Canon := by
  intro t h; rw [← Host.Outcome.next.inj h]; simp (maxDischargeDepth := 99) [hc]

theorem execBra_canon (e : Nat) (upsets : List EngUpset) (s : State) (hc : s.Canon) :
    ∀ t, execBra e upsets s = .next t → t.Canon := by
  intro t h; rw [← Host.Outcome.next.inj h]; simp (maxDischargeDepth := 99) [hc]

theorem execBcc_canon (e : Nat) (upsets : List EngUpset) (s : State) (hc : s.Canon) :
    ∀ t, execBcc e upsets s = .next t → t.Canon := by
  intro t h; rw [← Host.Outcome.next.inj h]; simp (maxDischargeDepth := 99) [hc]

theorem execCall_canon (e : Nat) (upsets : List EngUpset) (s : State) (hc : s.Canon) :
    ∀ t, execCall e upsets s = .next t → t.Canon := by
  intro t h; rw [← Host.Outcome.next.inj h]; simp (maxDischargeDepth := 99) [hc]

theorem execRet_canon (e : Nat) (upsets : List EngUpset) (s : State) (hc : s.Canon) :
    ∀ t, execRet e upsets s = .next t → t.Canon := by
  intro t h; rw [← Host.Outcome.next.inj h]; simp (maxDischargeDepth := 99) [hc]

theorem execRti_canon (e : Nat) (upsets : List EngUpset) (s : State) (hc : s.Canon) :
    ∀ t, execRti e upsets s = .next t → t.Canon := by
  intro t h; rw [← Host.Outcome.next.inj h]; simp (maxDischargeDepth := 99) [hc]

theorem execDbnz_canon (e : Nat) (upsets : List EngUpset) (s : State) (hc : s.Canon) :
    ∀ t, execDbnz e upsets s = .next t → t.Canon := by
  intro t h; rw [← Host.Outcome.next.inj h]; simp (maxDischargeDepth := 99) [hc]

theorem execRep_canon (e : Nat) (upsets : List EngUpset) (s : State) (hc : s.Canon) :
    ∀ t, execRep e upsets s = .next t → t.Canon := by
  intro t h; rw [← Host.Outcome.next.inj h]; simp (maxDischargeDepth := 99) [hc]

theorem execExp_canon (e : Nat) (upsets : List EngUpset) (s : State) (hc : s.Canon) :
    ∀ t, execExp e upsets s = .next t → t.Canon := by
  intro t h; rw [← Host.Outcome.next.inj h]; simp (maxDischargeDepth := 99) [hc]

theorem execNorm_canon (e : Nat) (upsets : List EngUpset) (s : State) (hc : s.Canon) :
    ∀ t, execNorm e upsets s = .next t → t.Canon := by
  intro t h; rw [← Host.Outcome.next.inj h]; simp (maxDischargeDepth := 99) [hc]

theorem execShl_canon (e : Nat) (upsets : List EngUpset) (s : State) (hc : s.Canon) :
    ∀ t, execShl e upsets s = .next t → t.Canon := by
  intro t h; rw [← Host.Outcome.next.inj h]; simp (maxDischargeDepth := 99) [hc]

theorem execShr_canon (e : Nat) (upsets : List EngUpset) (s : State) (hc : s.Canon) :
    ∀ t, execShr e upsets s = .next t → t.Canon := by
  intro t h; rw [← Host.Outcome.next.inj h]; simp (maxDischargeDepth := 99) [hc]

theorem execSat_canon (e : Nat) (upsets : List EngUpset) (s : State) (hc : s.Canon) :
    ∀ t, execSat e upsets s = .next t → t.Canon := by
  intro t h; rw [← Host.Outcome.next.inj h]; simp (maxDischargeDepth := 99) [hc]

theorem execAndOp_canon (e : Nat) (upsets : List EngUpset) (s : State) (hc : s.Canon) :
    ∀ t, execAndOp e upsets s = .next t → t.Canon := by
  intro t h; rw [← Host.Outcome.next.inj h]; simp (maxDischargeDepth := 99) [hc]

theorem execOrOp_canon (e : Nat) (upsets : List EngUpset) (s : State) (hc : s.Canon) :
    ∀ t, execOrOp e upsets s = .next t → t.Canon := by
  intro t h; rw [← Host.Outcome.next.inj h]; simp (maxDischargeDepth := 99) [hc]

theorem execXorOp_canon (e : Nat) (upsets : List EngUpset) (s : State) (hc : s.Canon) :
    ∀ t, execXorOp e upsets s = .next t → t.Canon := by
  intro t h; rw [← Host.Outcome.next.inj h]; simp (maxDischargeDepth := 99) [hc]

theorem execInPort_canon (e : Nat) (upsets : List EngUpset) (s : State) (hc : s.Canon) :
    ∀ t, execInPort e upsets s = .next t → t.Canon := by
  intro t h; rw [← Host.Outcome.next.inj h]; simp (maxDischargeDepth := 99) [hc]

theorem execOutPort_canon (e : Nat) (upsets : List EngUpset) (s : State) (hc : s.Canon) :
    ∀ t, execOutPort e upsets s = .next t → t.Canon := by
  intro t h; rw [← Host.Outcome.next.inj h]; simp (maxDischargeDepth := 99) [hc]

theorem execWait_canon (e : Nat) (upsets : List EngUpset) (s : State) (hc : s.Canon) :
    ∀ t, execWait e upsets s = .next t → t.Canon := by
  intro t h; rw [← Host.Outcome.next.inj h]; simp (maxDischargeDepth := 99) [hc]

theorem execSig_canon (e : Nat) (upsets : List EngUpset) (s : State) (hc : s.Canon) :
    ∀ t, execSig e upsets s = .next t → t.Canon := by
  intro t h; rw [← Host.Outcome.next.inj h]; simp (maxDischargeDepth := 99) [hc]

theorem execXfer_canon (e : Nat) (upsets : List EngUpset) (s : State) (hc : s.Canon) :
    ∀ t, execXfer e upsets s = .next t → t.Canon := by
  intro t h; rw [← Host.Outcome.next.inj h]; simp (maxDischargeDepth := 99) [hc]

theorem execEi_canon (e : Nat) (upsets : List EngUpset) (s : State) (hc : s.Canon) :
    ∀ t, execEi e upsets s = .next t → t.Canon := by
  intro t h; rw [← Host.Outcome.next.inj h]; simp (maxDischargeDepth := 99) [hc]

theorem execDi_canon (e : Nat) (upsets : List EngUpset) (s : State) (hc : s.Canon) :
    ∀ t, execDi e upsets s = .next t → t.Canon := by
  intro t h; rw [← Host.Outcome.next.inj h]; simp (maxDischargeDepth := 99) [hc]

theorem execLock_canon (e : Nat) (upsets : List EngUpset) (s : State) (hc : s.Canon) :
    ∀ t, execLock e upsets s = .next t → t.Canon := by
  intro t h; rw [← Host.Outcome.next.inj h]; simp (maxDischargeDepth := 99) [hc]

theorem execUnlock_canon (e : Nat) (upsets : List EngUpset) (s : State) (hc : s.Canon) :
    ∀ t, execUnlock e upsets s = .next t → t.Canon := by
  intro t h; rw [← Host.Outcome.next.inj h]; simp (maxDischargeDepth := 99) [hc]

theorem execKick_canon (e : Nat) (upsets : List EngUpset) (s : State) (hc : s.Canon) :
    ∀ t, execKick e upsets s = .next t → t.Canon := by
  intro t h; rw [← Host.Outcome.next.inj h]; simp (maxDischargeDepth := 99) [hc]

theorem execTas_canon (e : Nat) (upsets : List EngUpset) (s : State) (hc : s.Canon) :
    ∀ t, execTas e upsets s = .next t → t.Canon := by
  intro t h; rw [← Host.Outcome.next.inj h]; simp (maxDischargeDepth := 99) [hc]

theorem execHalt_canon (e : Nat) (upsets : List EngUpset) (s : State) (hc : s.Canon) :
    ∀ t, execHalt e upsets s = .next t → t.Canon := by
  intro t h; rw [← Host.Outcome.next.inj h]; simp (maxDischargeDepth := 99) [hc]

theorem execTrap_canon (e : Nat) (upsets : List EngUpset) (s : State) (hc : s.Canon) :
    ∀ t, execTrap e upsets s = .next t → t.Canon := by
  intro t h; rw [← Host.Outcome.next.inj h]; simp (maxDischargeDepth := 99) [hc]

theorem execDmemRewrite_canon (e : Nat) (s : State) (hc : s.Canon) :
    ∀ t, execDmemRewrite e s = .next t → t.Canon := by
  intro t h; rw [← Host.Outcome.next.inj h]; simp (maxDischargeDepth := 99) [hc]

theorem execTimerReload_canon (e : Nat) (s : State) (hc : s.Canon) :
    ∀ t, execTimerReload e s = .next t → t.Canon := by
  intro t h; rw [← Host.Outcome.next.inj h]; simp (maxDischargeDepth := 99) [hc]

theorem execWatchdogExpire_canon (e : Nat) (s : State) (hc : s.Canon) :
    ∀ t, execWatchdogExpire e s = .next t → t.Canon := by
  intro t h; rw [← Host.Outcome.next.inj h]; simp (maxDischargeDepth := 99) [hc]

theorem execInterruptEntry_canon (e : Nat) (upsets : List EngUpset) (s : State) (hc : s.Canon) :
    ∀ t, execInterruptEntry e upsets s = .next t → t.Canon := by
  intro t h; rw [← Host.Outcome.next.inj h]; simp (maxDischargeDepth := 99) [hc]

theorem execEngPortPush_canon (e port : Nat) (word : Word) (s : State) (hc : s.Canon) :
    ∀ t, execEngPortPush e port word s = .next t → t.Canon := by
  intro t h; rw [← Host.Outcome.next.inj h]; simp (maxDischargeDepth := 99) [hc]

theorem execEngStallEnd_canon (e cycles : Nat) (s : State) (hc : s.Canon) :
    ∀ t, execEngStallEnd e cycles s = .next t → t.Canon := by
  intro t h; rw [← Host.Outcome.next.inj h]; simp (maxDischargeDepth := 99) [hc]

theorem execSigPulseDelivered_canon (e line : Nat) (s : State) (hc : s.Canon) :
    ∀ t, execSigPulseDelivered e line s = .next t → t.Canon := by
  intro t h; rw [← Host.Outcome.next.inj h]; simp (maxDischargeDepth := 99) [hc]

theorem execMoverBankWord_canon (e : Nat) (upsets : List EngUpset) (bankUpsets : List Nat) (s : State) (hc : s.Canon) :
    ∀ t, execMoverBankWord e upsets bankUpsets s = .next t → t.Canon := by
  intro t h; rw [← Host.Outcome.next.inj h]; simp (maxDischargeDepth := 99) [hc]

theorem execMoverDone_canon (e : Nat) (s : State) (hc : s.Canon) :
    ∀ t, execMoverDone e s = .next t → t.Canon := by
  intro t h; rw [← Host.Outcome.next.inj h]; simp (maxDischargeDepth := 99) [hc]

theorem execEngCmdHalt_canon (s : State) (hc : s.Canon) :
    ∀ t, execEngCmdHalt s = .next t → t.Canon := by
  intro t h; rw [← Host.Outcome.next.inj h]; simp (maxDischargeDepth := 99) [hc]

theorem execEngCmdResume_canon (s : State) (hc : s.Canon) :
    ∀ t, execEngCmdResume s = .next t → t.Canon := by
  intro t h; rw [← Host.Outcome.next.inj h]; simp (maxDischargeDepth := 99) [hc]

theorem execEngCmdStep_canon (s : State) (hc : s.Canon) :
    ∀ t, execEngCmdStep s = .next t → t.Canon := by
  intro t h; rw [← Host.Outcome.next.inj h]; simp (maxDischargeDepth := 99) [hc]

theorem execEngCmdReset_canon (s : State) (hc : s.Canon) :
    ∀ t, execEngCmdReset s = .next t → t.Canon := by
  intro t h; rw [← Host.Outcome.next.inj h]; simp (maxDischargeDepth := 99) [hc]

theorem execBoundaryHalt_canon (e : Nat) (s : State) (hc : s.Canon) :
    ∀ t, execBoundaryHalt e s = .next t → t.Canon := by
  intro t h; rw [← Host.Outcome.next.inj h]; simp (maxDischargeDepth := 99) [hc]

theorem execBreakpoint_canon (e : Nat) (s : State) (hc : s.Canon) :
    ∀ t, execBreakpoint e s = .next t → t.Canon := by
  intro t h; rw [← Host.Outcome.next.inj h]; simp (maxDischargeDepth := 99) [hc]

theorem execEngineWindowRead_canon (e off size : Nat) (s : State) (hc : s.Canon) :
    ∀ t, execEngineWindowRead e off size s = .next t → t.Canon := by
  intro t h; rw [← Host.Outcome.next.inj h]; simp (maxDischargeDepth := 99) [hc]

theorem execEngineWindowWrite_canon (e off size : Nat) (value : Word) (s : State) (hc : s.Canon) :
    ∀ t, execEngineWindowWrite e off size value s = .next t → t.Canon := by
  intro t h; rw [← Host.Outcome.next.inj h]; simp (maxDischargeDepth := 99) [hc]

end Sys2Proof.Machine
end

