-- ==== Sys2Proof/Laws/CanonDevAccess.lean ====
section
/-! SUPPORT. The operations of Machine/DevAccess.lean keep the invariant of a run. -/

namespace Sys2Proof.Machine

@[simp] theorem State.bankBytes_canon (s : State) (off n : Nat) (hc : s.Canon) :
    (State.bankBytes s off n).2.Canon := by
  have h := foldl_keeps (fun (a : List Byte × Bool × State) => a.2.2.Canon)
    (f := fun a w => (a.1 ++ leBytes 16 (a.2.2.readWord (a.2.2.locate w).1 (a.2.2.locate w).2).1.toNat,
      a.2.1 || (a.2.2.readWord (a.2.2.locate w).1 (a.2.2.locate w).2).2.1, (a.2.2.readWord (a.2.2.locate w).1 (a.2.2.locate w).2).2.2))
    (fun a w ha => State.readWord_canon a.2.2 _ _ ha) (wordsOf off n) (b := ([], false, s)) hc
  simpa only [State.bankBytes] using h

@[simp] theorem State.bankPut_canon (s : State) (off : Nat) (data : List Byte) (hc : s.Canon) :
    (State.bankPut s off data).Canon := by
  simp +contextual (maxDischargeDepth := 99) [State.bankPut, hc, State.canon_foldl]

@[simp] theorem State.devRead_canon (s : State) (cls a n : Nat) (hc : s.Canon) :
    (State.devRead s cls a n).2.Canon := by
  unfold State.devRead
  split
  · exact State.dramRead_canon _ _ _ _ hc
  · split
    · exact State.bankBytes_canon _ _ _ hc
    · exact hc
  · exact hc

@[simp] theorem State.devWrite_canon (s : State) (cls a : Nat) (data : List Byte) (hc : s.Canon) :
    (State.devWrite s cls a data).2.Canon := by
  unfold State.devWrite; (repeat' split) <;> simp (maxDischargeDepth := 99) [hc]

end Sys2Proof.Machine
end

