-- ==== Sys2Proof/Laws/CanonSecurity.lean ====
section
/-! SUPPORT. The operations of Machine/Security.lean keep the invariant of a run. -/

namespace Sys2Proof.Machine

@[simp] theorem State.btRefuse_canon (s : State) (reason : Nat) (hc : s.Canon) :
    (State.btRefuse s reason).Canon := by
  simp (maxDischargeDepth := 99) [State.btRefuse, hc]

theorem freeRange_wf (idx lo n : Nat) (m : SMap BankBits) (hc : SMap.wf 0#144 m = true) :
    SMap.wf 0#144 (freeRange idx lo n m) = true := by
  obtain ⟨hr, hd⟩ := (SMap.wf_iff _ _).mp hc
  refine (SMap.wf_iff _ _).mpr ⟨?_, ?_⟩
  · have h1 : ((m.filter (fun e => decide (e.1 < lo))).map (·.1)).Pairwise (· < ·) :=
      hr.sublist (List.filter_sublist.map _)
    have h3 : ((m.filter (fun e => decide (lo + n ≤ e.1))).map (·.1)).Pairwise (· < ·) :=
      hr.sublist (List.filter_sublist.map _)
    have h2 : ((((List.range n).map fun i => (lo + i, BitVec.ofNat 144 (Config.freeNat (idx + i)))).filter
        (fun e => decide (e.2 ≠ 0))).map (·.1)).Pairwise (· < ·) := by
      refine List.Pairwise.sublist (List.filter_sublist.map _) ?_
      rw [List.map_map]
      refine List.pairwise_map.mpr (List.pairwise_lt_range.imp ?_)
      intro a b h
      show lo + a < lo + b
      omega
    have b2 : ∀ x ∈ (((List.range n).map fun i => (lo + i, BitVec.ofNat 144 (Config.freeNat (idx + i)))).filter
        (fun e => decide (e.2 ≠ 0))).map (·.1), lo ≤ x ∧ x < lo + n := by
      intro x hx
      simp only [List.mem_map, List.mem_filter, List.mem_range] at hx
      obtain ⟨e, ⟨⟨i, hi, rfl⟩, _⟩, rfl⟩ := hx
      exact ⟨Nat.le_add_right _ _, Nat.add_lt_add_left hi _⟩
    unfold freeRange
    rw [List.map_append, List.map_append]
    refine List.pairwise_append.mpr ⟨List.pairwise_append.mpr ⟨h1, h2, ?_⟩, h3, ?_⟩
    · intro a ha b hb
      simp only [List.mem_map, List.mem_filter, decide_eq_true_eq] at ha
      obtain ⟨e, ⟨_, he⟩, rfl⟩ := ha
      exact Nat.lt_of_lt_of_le he (b2 b hb).1
    · intro a ha b hb
      simp only [List.mem_map, List.mem_filter, decide_eq_true_eq] at hb
      obtain ⟨e, ⟨_, he⟩, rfl⟩ := hb
      rcases List.mem_append.mp ha with h | h
      · simp only [List.mem_map, List.mem_filter, decide_eq_true_eq] at h
        obtain ⟨e1, ⟨_, he1⟩, rfl⟩ := h
        omega
      · exact Nat.lt_of_lt_of_le (b2 a h).2 he
  · intro e he
    simp only [freeRange, List.mem_append, List.mem_filter, decide_eq_true_eq] at he
    rcases he with (h | h) | h
    · exact hd e h.1
    · exact h.2
    · exact hd e h.1

@[simp] theorem State.bistSave_canon (s : State) (hc : s.Canon) :
    (State.bistSave s).Canon := by
  exact hc.withWords (freeRange_wf _ _ _ _ hc.words)

@[simp] theorem State.bistClears_canon (s : State) (kind index : Nat) (hc : s.Canon) :
    (State.bistClears s kind index).Canon := by
  unfold State.bistClears; (repeat' split) <;> simp (maxDischargeDepth := 99) [hc]

@[simp] theorem State.bistRun_canon (s : State) (kind index : Nat) (hc : s.Canon) :
    (State.bistRun s kind index).Canon := by
  simp (maxDischargeDepth := 99) [State.bistRun, hc]

@[simp] theorem State.bistEnd_canon (s : State) (result : Nat) (hc : s.Canon) :
    (State.bistEnd s result).Canon := by
  unfold State.bistEnd; (repeat' split) <;> simp (maxDischargeDepth := 99) [hc]

@[simp] theorem State.wipeStart_canon (s : State) (source : Nat) (after : AfterWipe) (hc : s.Canon) :
    (State.wipeStart s source after).Canon := by
  unfold State.wipeStart; dsimp only; (repeat' split) <;> simp +contextual (maxDischargeDepth := 99) [hc, State.canon_foldl]

@[simp] theorem State.wipeAll_canon (s : State) (hc : s.Canon) :
    (State.wipeAll s).Canon := by
  simp +contextual (maxDischargeDepth := 99) [State.wipeAll, hc, State.canon_foldl]

@[simp] theorem State.killAll_canon (s : State) (hc : s.Canon) :
    (State.killAll s).Canon := by
  simp (maxDischargeDepth := 99) [State.killAll, hc]

@[simp] theorem State.scanState_canon (s : State) (hc : s.Canon) :
    (State.scanState s).Canon := by
  simp +contextual (maxDischargeDepth := 99) [State.scanState, hc, State.canon_foldl]

@[simp] theorem State.afterWipe_canon (s : State) (a : AfterWipe) (hc : s.Canon) :
    (State.afterWipe s a).Canon := by
  unfold State.afterWipe; (repeat' split) <;> simp (maxDischargeDepth := 99) [hc]

@[simp] theorem State.wipeDone_canon (s : State) (hc : s.Canon) :
    (State.wipeDone s).Canon := by
  unfold State.wipeDone; (repeat' split) <;> simp +contextual (maxDischargeDepth := 99) [hc, State.canon_foldl]

@[simp] theorem State.bistGo_canon (s : State) (value : Nat) (baseOk : Bool) (hc : s.Canon) :
    (State.bistGo s value baseOk).Canon := by
  simp (maxDischargeDepth := 99) [State.bistGo, hc]

@[simp] theorem State.bistDone_canon (s : State) (misr expected : Nat) (restoreBad : Bool) (hc : s.Canon) :
    (State.bistDone s misr expected restoreBad).Canon := by
  unfold State.bistDone; (repeat' split) <;> simp +contextual (maxDischargeDepth := 99) [hc, State.canon_foldl]

@[simp] theorem State.anaGo_canon (s : State) (value : Nat) (hc : s.Canon) :
    (State.anaGo s value).Canon := by
  simp (maxDischargeDepth := 99) [State.anaGo, hc]

@[simp] theorem State.anaDone_canon (s : State) (worstItem worst : Nat) (fail : Bool) (sensors : List Nat) (hc : s.Canon) :
    (State.anaDone s worstItem worst fail sensors).Canon := by
  unfold State.anaDone; (repeat' split) <;> simp +contextual (maxDischargeDepth := 99) [hc, State.canon_foldl]

@[simp] theorem State.tapUpdate_canon (s : State) (op : Nat) (hc : s.Canon) :
    (State.tapUpdate s op).Canon := by
  simp (maxDischargeDepth := 99) [State.tapUpdate, hc]

@[simp] theorem State.secRefuse_canon (s : State) (hc : s.Canon) :
    (State.secRefuse s).Canon := by
  simp (maxDischargeDepth := 99) [State.secRefuse, hc]

@[simp] theorem State.lcTransition_canon (s : State) (value : Nat) (hc : s.Canon) :
    (State.lcTransition s value).Canon := by
  simp (maxDischargeDepth := 99) [State.lcTransition, hc]

@[simp] theorem State.burnDone_canon (s : State) (good : Bool) (hc : s.Canon) :
    (State.burnDone s good).Canon := by
  unfold State.burnDone; (repeat' split) <;> simp (maxDischargeDepth := 99) [hc]

@[simp] theorem State.tamper_canon (s : State) (mask : Nat) (hc : s.Canon) :
    (State.tamper s mask).Canon := by
  simp (maxDischargeDepth := 99) [State.tamper, hc]

@[simp] theorem State.secStatus_canon (s : State) (status : Nat) (hc : s.Canon) :
    (State.secStatus s status).Canon := by
  simp (maxDischargeDepth := 99) [State.secStatus, hc]

@[simp] theorem State.progSlot_canon (s : State) (slot : Nat) (good : Bool) (hc : s.Canon) :
    (State.progSlot s slot good).Canon := by
  unfold State.progSlot
  have h := State.devRead_canon s 1 s.secAddr 48 hc
  refine State.canon_ite (State.secStatus_canon _ _ hc) (State.canon_ite (State.secStatus_canon _ _ hc) ?_)
  split <;> (rename_i e; rw [e] at h) <;> simp (maxDischargeDepth := 99) [show _ from h]

@[simp] theorem State.revoke_canon (s : State) (slot : Nat) (good : Bool) (hc : s.Canon) :
    (State.revoke s slot good).Canon := by
  simp (maxDischargeDepth := 99) [State.revoke, hc]

@[simp] theorem State.provision_canon (s : State) (label : Nat) (good : Bool) (hc : s.Canon) :
    (State.provision s label good).Canon := by
  unfold State.provision
  have h := State.devRead_canon s 1 s.secAddr 160 hc
  refine State.canon_ite (State.secStatus_canon _ _ hc) (State.canon_ite (State.secStatus_canon _ _ hc) ?_)
  split <;> (rename_i e; rw [e] at h)
  · exact State.secStatus_canon _ _ h
  · refine State.canon_ite (State.secStatus_canon _ _ h) ?_
    split
    · exact State.secStatus_canon _ _ h
    · exact State.canon_ite (State.secStatus_canon _ _ h)
        (State.secStatus_canon _ _ (State.fuseView_canon _ (State.Canon.withSecu h _)))

@[simp] theorem State.kill_canon (s : State) (label : Nat) (good : Bool) (hc : s.Canon) :
    (State.kill s label good).Canon := by
  simp (maxDischargeDepth := 99) [State.kill, hc]

@[simp] theorem State.getDevpub_canon (s : State) (hc : s.Canon) :
    (State.getDevpub s).Canon := by
  simp (maxDischargeDepth := 99) [State.getDevpub, hc]

@[simp] theorem State.factoryWrite_canon (s : State) (good : Bool) (hc : s.Canon) :
    (State.factoryWrite s good).Canon := by
  unfold State.factoryWrite
  have h := State.devRead_canon s 1 s.secAddr 4096 hc
  refine State.canon_ite (State.secStatus_canon _ _ hc) ?_
  split <;> (rename_i e; rw [e] at h)
  · exact State.secStatus_canon _ _ h
  · refine State.canon_ite (State.secStatus_canon _ _ h) (State.canon_ite ?_ ?_)
    · exact State.secStatus_canon _ _ (State.takeFree_canon _ (State.Canon.withStu h _))
    · exact State.secStatus_canon _ _ (State.Canon.withStu h _)

@[simp] theorem State.secCmdWrite_canon (s : State) (v : Nat) (hc : s.Canon) :
    (State.secCmdWrite s v).Canon := by
  unfold State.secCmdWrite; (repeat' split) <;> simp (maxDischargeDepth := 99) [hc]

theorem execBistGo_canon (value : Nat) (baseOk : Bool) (s : State) (hc : s.Canon) :
    ∀ t, execBistGo value baseOk s = .next t → t.Canon := by
  intro t h; rw [← Host.Outcome.next.inj h]; simp (maxDischargeDepth := 99) [hc]

theorem execBistAbort_canon (s : State) (hc : s.Canon) :
    ∀ t, execBistAbort s = .next t → t.Canon := by
  intro t h; rw [← Host.Outcome.next.inj h]; simp (maxDischargeDepth := 99) [hc]

theorem execBistRunDone_canon (misr expected : Nat) (restoreBad : Bool) (s : State) (hc : s.Canon) :
    ∀ t, execBistRunDone misr expected restoreBad s = .next t → t.Canon := by
  intro t h; rw [← Host.Outcome.next.inj h]; simp (maxDischargeDepth := 99) [hc]

theorem execAnalogueCheckGo_canon (value : Nat) (s : State) (hc : s.Canon) :
    ∀ t, execAnalogueCheckGo value s = .next t → t.Canon := by
  intro t h; rw [← Host.Outcome.next.inj h]; simp (maxDischargeDepth := 99) [hc]

theorem execAnalogueCheckDone_canon (worstItem worst : Nat) (fail : Bool) (sensors : List Nat) (s : State) (hc : s.Canon) :
    ∀ t, execAnalogueCheckDone worstItem worst fail sensors s = .next t → t.Canon := by
  intro t h; rw [← Host.Outcome.next.inj h]; simp (maxDischargeDepth := 99) [hc]

theorem execTapUpdateIr_canon (op : Nat) (s : State) (hc : s.Canon) :
    ∀ t, execTapUpdateIr op s = .next t → t.Canon := by
  intro t h; rw [← Host.Outcome.next.inj h]; simp (maxDischargeDepth := 99) [hc]

theorem execTapReset_canon (s : State) (hc : s.Canon) :
    ∀ t, execTapReset s = .next t → t.Canon := by
  intro t h; rw [← Host.Outcome.next.inj h]; simp (maxDischargeDepth := 99) [hc]

theorem execLcTransition_canon (value : Nat) (s : State) (hc : s.Canon) :
    ∀ t, execLcTransition value s = .next t → t.Canon := by
  intro t h; rw [← Host.Outcome.next.inj h]; simp (maxDischargeDepth := 99) [hc]

theorem execFuseBurnDone_canon (good : Bool) (s : State) (hc : s.Canon) :
    ∀ t, execFuseBurnDone good s = .next t → t.Canon := by
  intro t h; rw [← Host.Outcome.next.inj h]; simp (maxDischargeDepth := 99) [hc]

theorem execWipeDone_canon (s : State) (hc : s.Canon) :
    ∀ t, execWipeDone s = .next t → t.Canon := by
  intro t h; rw [← Host.Outcome.next.inj h]; simp (maxDischargeDepth := 99) [hc]

theorem execTamper_canon (mask : Nat) (s : State) (hc : s.Canon) :
    ∀ t, execTamper mask s = .next t → t.Canon := by
  intro t h; rw [← Host.Outcome.next.inj h]; simp (maxDischargeDepth := 99) [hc]

theorem execProgSlot_canon (slot : Nat) (good : Bool) (s : State) (hc : s.Canon) :
    ∀ t, execProgSlot slot good s = .next t → t.Canon := by
  intro t h; rw [← Host.Outcome.next.inj h]; simp (maxDischargeDepth := 99) [hc]

theorem execRevoke_canon (slot : Nat) (good : Bool) (s : State) (hc : s.Canon) :
    ∀ t, execRevoke slot good s = .next t → t.Canon := by
  intro t h; rw [← Host.Outcome.next.inj h]; simp (maxDischargeDepth := 99) [hc]

theorem execProvision_canon (label : Nat) (good : Bool) (s : State) (hc : s.Canon) :
    ∀ t, execProvision label good s = .next t → t.Canon := by
  intro t h; rw [← Host.Outcome.next.inj h]; simp (maxDischargeDepth := 99) [hc]

theorem execKill_canon (label : Nat) (good : Bool) (s : State) (hc : s.Canon) :
    ∀ t, execKill label good s = .next t → t.Canon := by
  intro t h; rw [← Host.Outcome.next.inj h]; simp (maxDischargeDepth := 99) [hc]

theorem execGetDevpub_canon (s : State) (hc : s.Canon) :
    ∀ t, execGetDevpub s = .next t → t.Canon := by
  intro t h; rw [← Host.Outcome.next.inj h]; simp (maxDischargeDepth := 99) [hc]

theorem execSecWipeCmd_canon (s : State) (hc : s.Canon) :
    ∀ t, execSecWipeCmd s = .next t → t.Canon := by
  intro t h; rw [← Host.Outcome.next.inj h]; simp (maxDischargeDepth := 99) [hc]

theorem execFactoryWrite_canon (good : Bool) (s : State) (hc : s.Canon) :
    ∀ t, execFactoryWrite good s = .next t → t.Canon := by
  intro t h; rw [← Host.Outcome.next.inj h]; simp (maxDischargeDepth := 99) [hc]

theorem execTrngHealthFail_canon (s : State) (hc : s.Canon) :
    ∀ t, execTrngHealthFail s = .next t → t.Canon := by
  intro t h; rw [← Host.Outcome.next.inj h]; simp (maxDischargeDepth := 99) [hc]

theorem execTrngHealthRecover_canon (s : State) (hc : s.Canon) :
    ∀ t, execTrngHealthRecover s = .next t → t.Canon := by
  intro t h; rw [← Host.Outcome.next.inj h]; simp (maxDischargeDepth := 99) [hc]

end Sys2Proof.Machine
end

