-- ==== Sys2Proof/Laws/CanonFabric.lean ====
section
/-! SUPPORT. The operations of Machine/Fabric.lean keep the invariant of a run. -/

namespace Sys2Proof.Machine

@[simp] theorem State.rowRefuse_canon (s : State) (bank : Nat) (hc : s.Canon) :
    (State.rowRefuse s bank).Canon := by
  simp (maxDischargeDepth := 99) [State.rowRefuse, hc]

@[simp] theorem State.rowCommand_canon (s : State) (sector tile row : Nat) (store : Bool) (hc : s.Canon) :
    (State.rowCommand s sector tile row store).Canon := by
  simp (maxDischargeDepth := 99) [State.rowCommand, hc]

@[simp] theorem State.crossFlips_canon (s : State) (bank row : Nat) (errors : List (Nat × Nat)) (hc : s.Canon) :
    (State.crossFlips s bank row errors).Canon := by
  simp +contextual (maxDischargeDepth := 99) [State.crossFlips, hc, State.canon_foldl]

@[simp] theorem State.rowDone_canon (s : State) (sector tile : Nat) (errors : List (Nat × Nat)) (hc : s.Canon) :
    (State.rowDone s sector tile errors).Canon := by
  unfold State.rowDone; dsimp only; (repeat' split) <;> simp +contextual (maxDischargeDepth := 99) [hc, State.canon_foldl]

@[simp] theorem State.upperCommand_canon (s : State) (sector tile : Nat) (u : Burst) (hc : s.Canon) :
    (State.upperCommand s sector tile u).Canon := by
  unfold State.upperCommand; dsimp only; (repeat' split) <;> simp +contextual (maxDischargeDepth := 99) [hc, State.canon_foldl]

@[simp] theorem State.upperDone_canon (s : State) (sector tile : Nat) (hc : s.Canon) :
    (State.upperDone s sector tile).Canon := by
  unfold State.upperDone; dsimp only; (repeat' split) <;> simp +contextual (maxDischargeDepth := 99) [hc, State.canon_foldl]

@[simp] theorem State.zUpset_canon (s : State) (sector tile wire : Nat) (hc : s.Canon) :
    (State.zUpset s sector tile wire).Canon := by
  simp (maxDischargeDepth := 99) [State.zUpset, hc]

@[simp] theorem State.zResolve_canon (s : State) (island tile wire : Nat) (hc : s.Canon) :
    (State.zResolve s island tile wire).Canon := by
  simp (maxDischargeDepth := 99) [State.zResolve, hc]

@[simp] theorem State.setSerialPort_canon (s : State) (p : Nat) (v : SerialPort) (hc : s.Canon) :
    (State.setSerialPort s p v).Canon := by
  simp (maxDischargeDepth := 99) [State.setSerialPort, hc]

@[simp] theorem State.flashResult_canon (s : State) (w : Half) (hc : s.Canon) :
    (State.flashResult s w).Canon := by
  simp (maxDischargeDepth := 99) [State.flashResult, hc]

@[simp] theorem State.flashTake_canon (s : State) (op address : Nat) (data : List Half) (hc : s.Canon) :
    (State.flashTake s op address data).Canon := by
  simp (maxDischargeDepth := 99) [State.flashTake, hc]

@[simp] theorem State.setSkew_canon (s : State) (island v : Nat) (hc : s.Canon) :
    (State.setSkew s island v).Canon := by
  simp (maxDischargeDepth := 99) [State.setSkew, hc]

@[simp] theorem State.capture_canon (s : State) (edges : List Nat) (hc : s.Canon) :
    (State.capture s edges).Canon := by
  simp +contextual (maxDischargeDepth := 99) [State.capture, hc, State.canon_foldl]

theorem execRowLoad_canon (sector tile row : Nat) (s : State) (hc : s.Canon) :
    ∀ t, execRowLoad sector tile row s = .next t → t.Canon := by
  intro t h; rw [← Host.Outcome.next.inj h]; simp (maxDischargeDepth := 99) [hc]

theorem execRowStore_canon (sector tile row : Nat) (s : State) (hc : s.Canon) :
    ∀ t, execRowStore sector tile row s = .next t → t.Canon := by
  intro t h; rw [← Host.Outcome.next.inj h]; simp (maxDischargeDepth := 99) [hc]

theorem execRowCmdDone_canon (sector tile : Nat) (errors : List (Nat × Nat)) (s : State) (hc : s.Canon) :
    ∀ t, execRowCmdDone sector tile errors s = .next t → t.Canon := by
  intro t h; rw [← Host.Outcome.next.inj h]; simp (maxDischargeDepth := 99) [hc]

theorem execUpperRead_canon (sector tile group count : Nat) (s : State) (hc : s.Canon) :
    ∀ t, execUpperRead sector tile group count s = .next t → t.Canon := by
  intro t h; rw [← Host.Outcome.next.inj h]; simp (maxDischargeDepth := 99) [hc]

theorem execUpperWrite_canon (sector tile group mask : Nat) (data : List (BitVec 256)) (s : State) (hc : s.Canon) :
    ∀ t, execUpperWrite sector tile group mask data s = .next t → t.Canon := by
  intro t h; rw [← Host.Outcome.next.inj h]; simp (maxDischargeDepth := 99) [hc]

theorem execUpperBurstDone_canon (sector tile : Nat) (s : State) (hc : s.Canon) :
    ∀ t, execUpperBurstDone sector tile s = .next t → t.Canon := by
  intro t h; rw [← Host.Outcome.next.inj h]; simp (maxDischargeDepth := 99) [hc]

theorem execZConflict_canon (island tile wire : Nat) (upper : Bool) (s : State) (hc : s.Canon) :
    ∀ t, execZConflict island tile wire upper s = .next t → t.Canon := by
  intro t h; rw [← Host.Outcome.next.inj h]; simp (maxDischargeDepth := 99) [hc]

theorem execEdgeChannelWord_canon (sector edge channel : Nat) (word : Half) (s : State) (hc : s.Canon) :
    ∀ t, execEdgeChannelWord sector edge channel word s = .next t → t.Canon := by
  intro t h; unfold execEdgeChannelWord at h; dsimp only at h; (repeat' split at h) <;> cases h <;> simp +contextual (maxDischargeDepth := 99) [hc, State.canon_foldl]

theorem execSerialSettingsWord_canon (port : Nat) (word : Half) (s : State) (hc : s.Canon) :
    ∀ t, execSerialSettingsWord port word s = .next t → t.Canon := by
  intro t h; rw [← Host.Outcome.next.inj h]; simp (maxDischargeDepth := 99) [hc]

theorem execSerialDataWord_canon (port : Nat) (word : Half) (received : List Half) (s : State) (hc : s.Canon) :
    ∀ t, execSerialDataWord port word received s = .next t → t.Canon := by
  intro t h; rw [← Host.Outcome.next.inj h]; simp (maxDischargeDepth := 99) [hc]

theorem execFlashUserRead_canon (address : Nat) (s : State) (hc : s.Canon) :
    ∀ t, execFlashUserRead address s = .next t → t.Canon := by
  intro t h; rw [← Host.Outcome.next.inj h]; simp (maxDischargeDepth := 99) [hc]

theorem execFlashUserProgram_canon (address : Nat) (word : Half) (s : State) (hc : s.Canon) :
    ∀ t, execFlashUserProgram address word s = .next t → t.Canon := by
  intro t h; unfold execFlashUserProgram at h; dsimp only at h; (repeat' split at h) <;> cases h <;> simp +contextual (maxDischargeDepth := 99) [hc, State.canon_foldl]

theorem execFlashUserErase_canon (address : Nat) (s : State) (hc : s.Canon) :
    ∀ t, execFlashUserErase address s = .next t → t.Canon := by
  intro t h; rw [← Host.Outcome.next.inj h]; simp (maxDischargeDepth := 99) [hc]

theorem execCaptureGoCommand_canon (edges : List Nat) (s : State) (hc : s.Canon) :
    ∀ t, execCaptureGoCommand edges s = .next t → t.Canon := by
  intro t h; unfold execCaptureGoCommand at h; split at h <;> cases h <;> simp (maxDischargeDepth := 99) [hc]

theorem execCaptureArm_canon (s : State) (hc : s.Canon) :
    ∀ t, execCaptureArm s = .next t → t.Canon := by
  intro t h; unfold execCaptureArm at h; split at h <;> cases h <;> simp (maxDischargeDepth := 99) [hc]

theorem execCaptureFabricTrigger_canon (sector : Nat) (edges : List Nat) (s : State) (hc : s.Canon) :
    ∀ t, execCaptureFabricTrigger sector edges s = .next t → t.Canon := by
  intro t h; unfold execCaptureFabricTrigger at h; split at h <;> cases h <;> simp (maxDischargeDepth := 99) [hc]

theorem execCaptureDrainDone_canon (s : State) (hc : s.Canon) :
    ∀ t, execCaptureDrainDone s = .next t → t.Canon := by
  intro t h; unfold execCaptureDrainDone at h; split at h <;> cases h <;> simp (maxDischargeDepth := 99) [hc]

end Sys2Proof.Machine
end

