-- ==== Sys2Proof/Laws/CanonPower.lean ====
section
/-! SUPPORT. The operations of Machine/Power.lean keep the invariant of a run. -/

namespace Sys2Proof.Machine

@[simp] theorem State.devWake_canon (s : State) (hc : s.Canon) :
    (State.devWake s).Canon := by
  simp (maxDischargeDepth := 99) [State.devWake, hc]

@[simp] theorem State.islWake_canon (s : State) (k : Nat) (hc : s.Canon) :
    (State.islWake s k).Canon := by
  simp (maxDischargeDepth := 99) [State.islWake, hc]

@[simp] theorem State.islRaise_canon (s : State) (k : Nat) (hc : s.Canon) :
    (State.islRaise s k).Canon := by
  simp (maxDischargeDepth := 99) [State.islRaise, hc]

@[simp] theorem State.lpFollow_canon (s : State) (st : Nat) (hc : s.Canon) :
    (State.lpFollow s st).Canon := by
  simp +contextual (maxDischargeDepth := 99) [State.lpFollow, hc, State.canon_foldl]

@[simp] theorem State.devRaise_canon (s : State) (hc : s.Canon) :
    (State.devRaise s).Canon := by
  simp (maxDischargeDepth := 99) [State.devRaise, hc]

@[simp] theorem State.raiseAll_canon (s : State) (hc : s.Canon) :
    (State.raiseAll s).Canon := by
  simp +contextual (maxDischargeDepth := 99) [State.raiseAll, hc, State.canon_foldl]

@[simp] theorem State.commitsProceed_canon (s : State) (hc : s.Canon) :
    (State.commitsProceed s).Canon := by
  simp +contextual (maxDischargeDepth := 99) [State.commitsProceed, hc, State.canon_foldl]

@[simp] theorem State.islWakeDone_canon (s : State) (k : Nat) (hc : s.Canon) :
    (State.islWakeDone s k).Canon := by
  unfold State.islWakeDone; (repeat' split) <;> simp (maxDischargeDepth := 99) [hc]

@[simp] theorem State.devWakeDone_canon (s : State) (hc : s.Canon) :
    (State.devWakeDone s).Canon := by
  unfold State.devWakeDone; (repeat' split) <;> simp +contextual (maxDischargeDepth := 99) [hc, State.canon_foldl]

@[simp] theorem State.entryDone_canon (s : State) (device : Bool) (k : Nat) (hc : s.Canon) :
    (State.entryDone s device k).Canon := by
  simp (maxDischargeDepth := 99) [State.entryDone, hc]

@[simp] theorem State.govIsland_canon (idle : List Nat) (s : State) (k : Nat) (hc : s.Canon) :
    (State.govIsland idle s k).Canon := by
  simp (maxDischargeDepth := 99) [State.govIsland, hc]

@[simp] theorem State.govDevice_canon (s : State) (hc : s.Canon) :
    (State.govDevice s).Canon := by
  simp +contextual (maxDischargeDepth := 99) [State.govDevice, hc, State.canon_foldl]

@[simp] theorem State.governor_canon (s : State) (idle : List Nat) (hc : s.Canon) :
    (State.governor s idle).Canon := by
  simp +contextual (maxDischargeDepth := 99) [State.governor, hc, State.canon_foldl]

@[simp] theorem State.enterD4_canon (s : State) (hc : s.Canon) :
    (State.enterD4 s).Canon := by
  simp (maxDischargeDepth := 99) [State.enterD4, hc]

@[simp] theorem State.powerStop_canon (s : State) (hc : s.Canon) :
    (State.powerStop s).Canon := by
  simp (maxDischargeDepth := 99) [State.powerStop, hc]

@[simp] theorem State.regFault_canon (s : State) (rail : Bool) (unit : Nat) (hc : s.Canon) :
    (State.regFault s rail unit).Canon := by
  simp (maxDischargeDepth := 99) [State.regFault, hc]

@[simp] theorem State.contractCommit_canon (s : State) (q : Nat) (hc : s.Canon) :
    (State.contractCommit s q).Canon := by
  simp (maxDischargeDepth := 99) [State.contractCommit, hc]

@[simp] theorem State.hostTol_canon (s : State) (hc : s.Canon) :
    (State.hostTol s).Canon := by
  simp (maxDischargeDepth := 99) [State.hostTol, hc]

@[simp] theorem State.ltrUpdate_canon (s : State) (on : Bool) (snoop noSnoop : Nat) (hc : s.Canon) :
    (State.ltrUpdate s on snoop noSnoop).Canon := by
  simp (maxDischargeDepth := 99) [State.ltrUpdate, hc]

theorem execContractCommit_canon (q : Nat) (s : State) (hc : s.Canon) :
    ∀ t, execContractCommit q s = .next t → t.Canon := by
  intro t h; cases h; simp (maxDischargeDepth := 99) [hc]

theorem execLtrUpdate_canon (on : Bool) (snoop noSnoop : Nat) (s : State) (hc : s.Canon) :
    ∀ t, execLtrUpdate on snoop noSnoop s = .next t → t.Canon := by
  intro t h; cases h; simp (maxDischargeDepth := 99) [hc]

theorem execPcieL1Entry_canon (s : State) (hc : s.Canon) :
    ∀ t, execPcieL1Entry s = .next t → t.Canon := by
  intro t h; cases h; simp (maxDischargeDepth := 99) [hc]

theorem execPcieL1Exit_canon (s : State) (hc : s.Canon) :
    ∀ t, execPcieL1Exit s = .next t → t.Canon := by
  intro t h; cases h; simp (maxDischargeDepth := 99) [hc]

theorem execGovernorEval_canon (idle : List Nat) (s : State) (hc : s.Canon) :
    ∀ t, execGovernorEval idle s = .next t → t.Canon := by
  intro t h; cases h; simp (maxDischargeDepth := 99) [hc]

theorem execIslandWake_canon (island : Nat) (s : State) (hc : s.Canon) :
    ∀ t, execIslandWake island s = .next t → t.Canon := by
  intro t h; cases h; simp (maxDischargeDepth := 99) [hc]

theorem execIslandWakeDone_canon (island : Nat) (s : State) (hc : s.Canon) :
    ∀ t, execIslandWakeDone island s = .next t → t.Canon := by
  intro t h; cases h; simp (maxDischargeDepth := 99) [hc]

theorem execDeviceWake_canon (s : State) (hc : s.Canon) :
    ∀ t, execDeviceWake s = .next t → t.Canon := by
  intro t h; cases h; simp (maxDischargeDepth := 99) [hc]

theorem execDeviceWakeDone_canon (s : State) (hc : s.Canon) :
    ∀ t, execDeviceWakeDone s = .next t → t.Canon := by
  intro t h; cases h; simp (maxDischargeDepth := 99) [hc]

theorem execSleepEntryDone_canon (device : Bool) (island : Nat) (s : State) (hc : s.Canon) :
    ∀ t, execSleepEntryDone device island s = .next t → t.Canon := by
  intro t h; cases h; simp (maxDischargeDepth := 99) [hc]

theorem execPmOff_canon (s : State) (hc : s.Canon) :
    ∀ t, execPmOff s = .next t → t.Canon := by
  intro t h; cases h; simp (maxDischargeDepth := 99) [hc]

theorem execRegulatorFault_canon (rail : Bool) (unit : Nat) (s : State) (hc : s.Canon) :
    ∀ t, execRegulatorFault rail unit s = .next t → t.Canon := by
  intro t h; cases h; simp (maxDischargeDepth := 99) [hc]

end Sys2Proof.Machine
end

