-- ==== Sys2Proof/Laws/CanonThermal.lean ====
section
/-! SUPPORT. The operations of Machine/Thermal.lean keep the invariant of a run. -/

namespace Sys2Proof.Machine

@[simp] theorem State.sensorRead_canon (s : State) (n : Nat) (r : Option Int) (hc : s.Canon) :
    (State.sensorRead s n r).Canon := by
  unfold State.sensorRead; (repeat' split) <;> simp (maxDischargeDepth := 99) [hc]

@[simp] theorem State.riseNote_canon (s : State) (n : Nat) (hc : s.Canon) :
    (State.riseNote s n).Canon := by
  simp (maxDischargeDepth := 99) [State.riseNote, hc]

@[simp] theorem State.setSuspect_canon (s : State) (k : Nat) (hc : s.Canon) :
    (State.setSuspect s k).Canon := by
  simp (maxDischargeDepth := 99) [State.setSuspect, hc]

@[simp] theorem State.suspectAny_canon (s : State) (hc : s.Canon) :
    (State.suspectAny s).Canon := by
  simp (maxDischargeDepth := 99) [State.suspectAny, hc]

@[simp] theorem State.disagree_canon (s : State) (k : Nat) (est : Option Int) (hc : s.Canon) :
    (State.disagree s k est).Canon := by
  unfold State.disagree; (repeat' split) <;> simp (maxDischargeDepth := 99) [hc]

@[simp] theorem State.throttle_canon (s : State) (k r : Nat) (hc : s.Canon) :
    (State.throttle s k r).Canon := by
  simp (maxDischargeDepth := 99) [State.throttle, hc]

@[simp] theorem State.warn_canon (s : State) (k : Nat) (t : Int) (hc : s.Canon) :
    (State.warn s k t).Canon := by
  simp (maxDischargeDepth := 99) [State.warn, hc]

@[simp] theorem State.islandBand_canon (s : State) (k : Nat) (t : Int) (hc : s.Canon) :
    (State.islandBand s k t).Canon := by
  simp (maxDischargeDepth := 99) [State.islandBand, hc]

@[simp] theorem State.islandSample_canon (s : State) (k act : Nat) (hc : s.Canon) :
    (State.islandSample s k act).Canon := by
  unfold State.islandSample; dsimp only; (repeat' split) <;> simp +contextual (maxDischargeDepth := 99) [hc, State.canon_foldl]

@[simp] theorem State.baseBand_canon (s : State) (n : Nat) (hc : s.Canon) :
    (State.baseBand s n).Canon := by
  unfold State.baseBand; (repeat' split) <;> simp (maxDischargeDepth := 99) [hc]

@[simp] theorem State.thermalStop_canon (s : State) (hc : s.Canon) :
    (State.thermalStop s).Canon := by
  simp (maxDischargeDepth := 99) [State.thermalStop, hc]

@[simp] theorem State.critical_canon (s : State) (hc : s.Canon) :
    (State.critical s).Canon := by
  simp (maxDischargeDepth := 99) [State.critical, hc]

@[simp] theorem State.thCommit0_canon (s : State) (hc : s.Canon) :
    (State.thCommit0 s).Canon := by
  simp +contextual (maxDischargeDepth := 99) [State.thCommit0, hc, State.canon_foldl]

@[simp] theorem State.thCommitAsk_canon (s : State) (hc : s.Canon) :
    (State.thCommitAsk s).Canon := by
  simp (maxDischargeDepth := 99) [State.thCommitAsk, hc]

@[simp] theorem State.thCommits_canon (s : State) (hc : s.Canon) :
    (State.thCommits s).Canon := by
  simp (maxDischargeDepth := 99) [State.thCommits, hc]

@[simp] theorem State.sample_canon (s : State) (readings : List (Option Int)) (act : List (Nat × Nat × Nat × Nat))
    (dw : Nat) (hc : s.Canon) :
    (State.sample s readings act dw).Canon := by
  simp +contextual (maxDischargeDepth := 99) [State.sample, hc, State.canon_foldl]

theorem execSensorSample_canon (readings : List (Option Int)) (activity : List (Nat × Nat × Nat × Nat)) (dw : Nat)
    (s : State) (hc : s.Canon) :
    ∀ t, execSensorSample readings activity dw s = .next t → t.Canon := by
  intro t h; cases h; simp (maxDischargeDepth := 99) [hc]

end Sys2Proof.Machine
end

