-- ==== Sys2Proof/Laws/CanonCsr.lean ====
section
/-! SUPPORT. The operations of Machine/Csr.lean keep the invariant of a run. -/

namespace Sys2Proof.Machine

@[simp] theorem State.csrRead_canon (s : State) (off : Nat) (peek : Bool) (hc : s.Canon) :
    (State.csrRead s off peek).2.Canon := by
  unfold State.csrRead; dsimp only; (repeat' split) <;> simp +contextual (maxDischargeDepth := 99) [hc, State.canon_foldl]

@[simp] theorem State.wrIgnored_canon (s : State) (off : Nat) (hc : s.Canon) :
    (State.wrIgnored s off).Canon := by
  unfold State.wrIgnored; (repeat' split) <;> simp (maxDischargeDepth := 99) [hc]

@[simp] theorem State.writeFields_canon (s : State) (off inst : Nat) (d : RegDesc) (v : Nat) (hc : s.Canon) :
    (State.writeFields s off inst d v).Canon := by
  simp (maxDischargeDepth := 99) [State.writeFields, hc]

@[simp] theorem State.meeCommit_canon (s : State) (base : Nat) (hc : s.Canon) :
    (State.meeCommit s base).Canon := by
  simp +contextual (maxDischargeDepth := 99) [State.meeCommit, hc, State.canon_foldl]

@[simp] theorem State.commitAsk_canon (s : State) (base group : Nat) (hc : s.Canon) :
    (State.commitAsk s base group).Canon := by
  unfold State.commitAsk; (repeat' split) <;> simp (maxDischargeDepth := 99) [hc]

@[simp] theorem State.blkCommitWrite_canon (s : State) (off v : Nat) (hc : s.Canon) :
    (State.blkCommitWrite s off v).Canon := by
  unfold State.blkCommitWrite
  generalize findReg off = r
  rcases r with _ | ⟨d, _⟩
  · exact hc
  · refine State.canon_foldl (fun t f ht => ?_) _ hc
    split
    · exact ht
    · exact State.commitAsk_canon _ _ _ ht

@[simp] theorem State.safePoint_canon (s : State) (base group : Nat) (hc : s.Canon) :
    (State.safePoint s base group).Canon := by
  unfold State.safePoint
  refine State.canon_ite hc ?_
  generalize blockOf base = b
  split
  all_goals repeat' (first | (with_reducible exact hc) | (with_reducible apply State.canon_ite) | split)
  all_goals first
    | (simp (maxDischargeDepth := 99) [hc]; done)
    | exact State.canon_foldl (fun t b ht => State.setReg_canon _ _ _ _ ht) _ (State.commitEnds_canon _ _ _ hc)

theorem State.via_canon (s : State) (f : State → Result) (hc : s.Canon) (hf : ∀ t, f s = .next t → t.Canon) :
    (State.via s f).Canon := by
  unfold State.via
  split
  · rename_i e; exact hf _ e
  · exact hc

@[simp] theorem State.lnCtrlWrite_canon (s : State) (off : Nat) (d : RegDesc) (v : Nat) (hc : s.Canon) :
    (State.lnCtrlWrite s off d v).Canon := by
  simp (maxDischargeDepth := 99) [State.lnCtrlWrite, hc]

@[simp] theorem State.regionWrite_canon (s : State) (r : Nat) (d : RegDesc) (v : Nat) (hc : s.Canon) :
    (State.regionWrite s r d v).Canon := by
  simp (maxDischargeDepth := 99) [State.regionWrite, hc]

@[simp] theorem State.codeWrite_canon (s : State) (off inst : Nat) (d : RegDesc) (v : Nat) (hc : s.Canon) :
    (State.codeWrite s off inst d v).Canon := by
  simp +contextual (maxDischargeDepth := 99) [State.codeWrite, hc, State.canon_foldl]

@[simp] theorem State.capWrite_canon (s : State) (d : RegDesc) (v : Nat) (hc : s.Canon) :
    (State.capWrite s d v).Canon := by
  simp (maxDischargeDepth := 99) [State.capWrite, hc]

@[simp] theorem State.suspectClear_canon (s : State) (lo v : Nat) (hc : s.Canon) :
    (State.suspectClear s lo v).Canon := by
  simp +contextual (maxDischargeDepth := 99) [State.suspectClear, hc, State.canon_foldl]

theorem State.afterWrite_canon (s s1 : State) (off inst v : Nat) (hc : s1.Canon) :
    (State.afterWrite s s1 off inst v).Canon := by
  have a1 := fun b k => State.via_canon s1 (execFsKill b k) hc (execFsKill_canon _ _ _ hc)
  have a2 := fun b => State.via_canon s1 (execLpRetrain b) hc (execLpRetrain_canon _ _ hc)
  have a3 := fun b => State.via_canon s1 (execLpSwitch b) hc (execLpSwitch_canon _ _ hc)
  have a4 := fun a b c => State.via_canon s1 (execKeyLoad a b c) hc (execKeyLoad_canon _ _ _ _ hc)
  have a5 := fun a b => State.via_canon s1 (execRekey a b) hc (execRekey_canon _ _ _ hc)
  have a6 := fun a => State.via_canon s1 (execMeeInit a) hc (execMeeInit_canon _ _ hc)
  have a7 := State.via_canon s1 execMeeFlush hc (execMeeFlush_canon _ hc)
  have a8 := fun a => State.via_canon s1 (execGraftRetrainCmd a) hc (execGraftRetrainCmd_canon _ _ hc)
  unfold State.afterWrite
  dsimp only
  split
  all_goals repeat' (first | (with_reducible exact hc) | (with_reducible apply State.canon_ite) | split)
  all_goals simp (maxDischargeDepth := 99) [hc, a1, a2, a3, a4, a5, a6, a7, a8]

@[simp] theorem State.csrWrite_canon (s : State) (off value : Nat) (hc : s.Canon) :
    (State.csrWrite s off value).Canon := by
  have w := fun o i d v => State.writeFields_canon s o i d v hc
  have a1 := fun a => State.via_canon s (execLtrSend a) hc (execLtrSend_canon _ _ hc)
  unfold State.csrWrite
  refine State.canon_ite (State.streamWrite_canon _ _ hc) ?_
  generalize findReg off = r
  rcases r with _ | ⟨d, _⟩
  · exact hc
  · dsimp only
    repeat' (with_reducible apply State.canon_ite)
    all_goals first
      | (with_reducible exact hc.withTime _)
      | (with_reducible exact State.afterWrite_canon _ _ _ _ _ (w _ _ _ _))
      | simp (maxDischargeDepth := 99) [hc, a1, w]

theorem execRegisterWrite_canon (off : Nat) (value : Word) (size : Nat) (s : State) (hc : s.Canon) :
    ∀ t, execRegisterWrite off value size s = .next t → t.Canon := by
  intro t h; cases h; simp (maxDischargeDepth := 99) [hc]

theorem execReadClear_canon (off size : Nat) (s : State) (hc : s.Canon) :
    ∀ t, execReadClear off size s = .next t → t.Canon := by
  intro t h; cases h; simp (maxDischargeDepth := 99) [hc]

theorem execBlkCommitWrite_canon (off : Nat) (value : Word) (s : State) (hc : s.Canon) :
    ∀ t, execBlkCommitWrite off value s = .next t → t.Canon := by
  intro t h; cases h; simp (maxDischargeDepth := 99) [hc]

theorem execCommitSafePoint_canon (off group : Nat) (s : State) (hc : s.Canon) :
    ∀ t, execCommitSafePoint off group s = .next t → t.Canon := by
  intro t h; cases h; simp (maxDischargeDepth := 99) [hc]

end Sys2Proof.Machine
end

