-- ==== Sys2Proof/Laws/CanonTarget.lean ====
section
/-! SUPPORT. The operations of Machine/Target.lean keep the invariant of a run. -/

namespace Sys2Proof.Machine

@[simp] theorem State.csrRange_canon (s : State) (off n : Nat) (peek : Bool) (hc : s.Canon) :
    (State.csrRange s off n peek).2.Canon := by
  unfold State.csrRange
  split
  · exact hc
  · have h := foldl_keeps (fun (a : List Byte × State) => a.2.Canon)
      (f := fun a i => (a.1 ++ leBytes 4 (a.2.csrRead (off + 4 * i) peek).1, (a.2.csrRead (off + 4 * i) peek).2))
      (fun a i ha => State.csrRead_canon a.2 _ _ ha) (List.range (n / 4)) (b := ([], s)) hc
    exact h

@[simp] theorem State.csrRangePut_canon (s : State) (off : Nat) (data : List Byte) (hc : s.Canon) :
    (State.csrRangePut s off data).2.Canon := by
  unfold State.csrRangePut; (repeat' split) <;> simp +contextual (maxDischargeDepth := 99) [hc, State.canon_foldl]

theorem State.windowBar_canon (s : State) (off n : Nat) (hc : s.Canon) :
    ∀ t, State.windowBar s off n = some t → t.Canon := by
  unfold State.windowBar; (repeat' split) <;> simp (maxDischargeDepth := 99) [hc]

@[simp] theorem State.windowRange_canon (s : State) (off n : Nat) (hc : s.Canon) :
    (State.windowRange s off n).2.Canon := by
  unfold State.windowRange
  split
  · rename_i t e
    exact State.windowBar_canon _ _ _ hc _ e
  · have h := foldl_keeps (fun (a : List Byte × State) => a.2.Canon)
      (f := fun a i => (a.1 ++ leBytes 4 (a.2.windowValue ((off + 4 * i) / 65536) ((off + 4 * i) % 65536)).1,
        (a.2.windowValue ((off + 4 * i) / 65536) ((off + 4 * i) % 65536)).2))
      (fun a i ha => State.windowValue_canon a.2 _ _ ha) (List.range (n / 4)) (b := ([], s)) hc
    exact h

@[simp] theorem State.windowRangePut_canon (s : State) (off : Nat) (data : List Byte) (hc : s.Canon) :
    (State.windowRangePut s off data).2.Canon := by
  unfold State.windowRangePut
  split
  · rename_i t e
    exact State.windowBar_canon _ _ _ hc _ e
  · have h := State.canon_foldl (f := fun (t : State) i =>
      t.windowPut ((off + 4 * i) / 65536) ((off + 4 * i) % 65536) (fieldAt data (4 * i) 4))
      (fun t i ht => State.windowPut_canon _ _ _ _ ht) (List.range (data.length / 4)) hc
    exact h

@[simp] theorem State.barred_canon (s : State) (master node : Nat) (t : Target) (hc : s.Canon) :
    (State.barred s master node t).Canon := by
  unfold State.barred; (repeat' split) <;> simp (maxDischargeDepth := 99) [hc]

@[simp] theorem State.targetRead_canon (s : State) (master node : Nat) (t : Target) (n : Nat) (hc : s.Canon) :
    (State.targetRead s master node t n).2.Canon := by
  unfold State.targetRead; (repeat' split) <;> simp (maxDischargeDepth := 99) [hc]

@[simp] theorem State.targetPut_canon (s : State) (master node : Nat) (t : Target) (data : List Byte) (hc : s.Canon) :
    (State.targetPut s master node t data).2.Canon := by
  unfold State.targetPut; (repeat' split) <;> simp (maxDischargeDepth := 99) [hc]

@[simp] theorem State.bulkRead_canon (s : State) (a n : Nat) (hc : s.Canon) :
    (State.bulkRead s a n).2.Canon := by
  unfold State.bulkRead; (repeat' split) <;> simp (maxDischargeDepth := 99) [hc]

@[simp] theorem State.bulkWrite_canon (s : State) (a : Nat) (data : List Byte) (hc : s.Canon) :
    (State.bulkWrite s a data).2.Canon := by
  unfold State.bulkWrite; (repeat' split) <;> simp (maxDischargeDepth := 99) [hc]

end Sys2Proof.Machine
end

