-- ==== Sys2Proof/Laws/CanonMgmt.lean ====
section
/-! SUPPORT. The operations of Machine/Mgmt.lean keep the invariant of a run. -/

namespace Sys2Proof.Machine

@[simp] theorem State.updMgt_canon (s : State) (f : MgtSt → MgtSt) (hc : s.Canon) :
    (State.updMgt s f).Canon := by
  simp (maxDischargeDepth := 99) [State.updMgt, hc]

@[simp] theorem State.bar2Put_canon (s : State) (off : Nat) (data : List Byte) (hc : s.Canon) :
    (State.bar2Put s off data).Canon := by
  simp (maxDischargeDepth := 99) [State.bar2Put, hc]

@[simp] theorem State.shedMove_canon (s : State) (left : Bool) (idleUs : Nat) (hc : s.Canon) :
    (State.shedMove s left idleUs).Canon := by
  simp (maxDischargeDepth := 99) [State.shedMove, hc]

@[simp] theorem State.statistics_canon (s : State) (safetyUs busyUs : Nat) (hc : s.Canon) :
    (State.statistics s safetyUs busyUs).Canon := by
  simp (maxDischargeDepth := 99) [State.statistics, hc]

@[simp] theorem State.warmStart_canon (s : State) (hc : s.Canon) :
    (State.warmStart s).Canon := by
  simp (maxDischargeDepth := 99) [State.warmStart, hc]

@[simp] theorem State.setOther_canon (s : State) (b : List Byte) (hc : s.Canon) :
    (State.setOther s b).Canon := by
  simp (maxDischargeDepth := 99) [State.setOther, hc]

@[simp] theorem State.setSpoilt_canon (s : State) (hc : s.Canon) :
    (State.setSpoilt s).Canon := by
  simp (maxDischargeDepth := 99) [State.setSpoilt, hc]

@[simp] theorem State.settingsWrite_canon (s : State) (data : List Byte) (good : Bool) (hc : s.Canon) :
    (State.settingsWrite s data good).2.Canon := by
  unfold State.settingsWrite; (repeat' split) <;> simp (maxDischargeDepth := 99) [hc]

@[simp] theorem State.engSignal_canon (s : State) (e : Nat) (hc : s.Canon) :
    (State.engSignal s e).Canon := by
  simp (maxDischargeDepth := 99) [State.engSignal, hc]

@[simp] theorem State.m2hFlush_canon (s : State) (hc : s.Canon) :
    (State.m2hFlush s).Canon := by
  simp +contextual (maxDischargeDepth := 99) [State.m2hFlush, hc, State.canon_foldl]

end Sys2Proof.Machine
end

