-- ==== Sys2Proof/Laws/CanonMailbox.lean ====
section
/-! SUPPORT. The operations of Machine/Mailbox.lean keep the invariant of a run. -/

namespace Sys2Proof.Machine

@[simp] theorem State.mbRespond_canon (s : State) (opcode tag : Nat) (a : MbAnswer) (hc : s.Canon) :
    (State.mbRespond s opcode tag a).Canon := by
  simp (maxDischargeDepth := 99) [State.mbRespond, hc]

@[simp] theorem State.mbTake_canon (s : State) (hc : s.Canon) :
    (State.mbTake s).Canon := by
  simp (maxDischargeDepth := 99) [State.mbTake, hc]

theorem State.mbRun_canon (s : State) (op minor : Nat) (f : State → List Byte → MbAnswer × State) (hc : s.Canon)
    (hf : ∀ t e, t.Canon → (f t e).2.Canon) : (State.mbRun s op minor f).Canon := by
  have ht := State.mbTake_canon s hc
  unfold State.mbRun
  refine State.canon_ite hc ?_
  dsimp only
  refine State.mbRespond_canon _ _ _ _ ?_
  split
  · exact hf _ _ ht
  · split
    · exact ht
    · split
      · exact ht
      · exact hf _ _ ht

@[simp] theorem State.mbBulk_canon (s : State) (e : List Byte) (data : List Byte) (result : List Byte) (hc : s.Canon) :
    (State.mbBulk s e data result).2.Canon := by
  unfold State.mbBulk; dsimp only; (repeat' split) <;> simp +contextual (maxDischargeDepth := 99) [hc, State.canon_foldl]

@[simp] theorem State.mbVersion_canon (s : State) (e : List Byte) (hc : s.Canon) :
    (State.mbVersion s e).2.Canon := by
  unfold State.mbVersion; (repeat' split) <;> simp (maxDischargeDepth := 99) [hc]

@[simp] theorem State.mbSettings_canon (s : State) (e : List Byte) (hc : s.Canon) :
    (State.mbSettings s e).2.Canon := by
  unfold State.mbSettings; (repeat' split) <;> simp (maxDischargeDepth := 99) [hc]

@[simp] theorem State.mbSetSettings_canon (good : Bool) (s : State) (e : List Byte) (hc : s.Canon) :
    (State.mbSetSettings good s e).2.Canon := by
  unfold State.mbSetSettings
  repeat' (first
    | (split <;> (rename_i e; have e2 := congrArg Prod.snd e; dsimp only at e2; subst e2))
    | (split <;> (rename_i e; have e2 := congrArg (fun p => p.2.2) e; dsimp only at e2; subst e2))
    | split)
  all_goals simp +contextual (maxDischargeDepth := 99) [hc, State.canon_foldl]

@[simp] theorem State.mbVxMap_canon (s : State) (e : List Byte) (hc : s.Canon) :
    (State.mbVxMap s e).2.Canon := by
  unfold State.mbVxMap; (repeat' split) <;> simp (maxDischargeDepth := 99) [hc]

@[simp] theorem State.mbFaults_canon (s : State) (e : List Byte) (hc : s.Canon) :
    (State.mbFaults s e).2.Canon := by
  simp (maxDischargeDepth := 99) [State.mbFaults, hc]

@[simp] theorem State.mbSignal_canon (s : State) (e : List Byte) (hc : s.Canon) :
    (State.mbSignal s e).2.Canon := by
  unfold State.mbSignal; (repeat' split) <;> simp (maxDischargeDepth := 99) [hc]

@[simp] theorem State.mbFlowOp_canon (s : State) (e : List Byte) (hc : s.Canon) :
    (State.mbFlowOp s e).2.Canon := by
  unfold State.mbFlowOp
  have h := State.bulkRead_canon s (mbParam e 0 8) 128 hc
  split <;> (rename_i e2; rw [e2] at h)
  · exact h
  · rename_i b s1
    have h1 := State.flowOp_canon s1 (flowOpOf b).1 (flowOpOf b).2 h
    dsimp only
    split
    · exact h
    · split
      · exact State.mbBulk_canon _ _ _ _ h1
      · exact h1

@[simp] theorem State.mbCapture_canon (s : State) (e : List Byte) (hc : s.Canon) :
    (State.mbCapture s e).2.Canon := by
  unfold State.mbCapture; (repeat' split) <;> simp (maxDischargeDepth := 99) [hc]

@[simp] theorem State.mbUnknown_canon (s : State) (n : Nat) (hc : s.Canon) : (State.mbUnknown s n).Canon := by
  induction n generalizing s with
  | zero => exact hc
  | succ n ih =>
    rw [State.mbUnknown]
    dsimp only
    split
    · exact ih _ (State.mbRespond_canon _ _ _ _ (State.mbTake_canon _ hc))
    · exact hc

@[simp] theorem State.mgmtFrame_canon (s : State) (left done : Bool) (idleUs safetyUs busyUs : Nat) (hc : s.Canon) :
    (State.mgmtFrame s left done idleUs safetyUs busyUs).Canon := by
  simp (maxDischargeDepth := 99) [State.mgmtFrame, hc]

@[simp] theorem State.interrupted_canon (s : State) (hc : s.Canon) :
    (State.interrupted s).Canon := by
  simp (maxDischargeDepth := 99) [State.interrupted, hc]

@[simp] theorem State.warmReset_canon (s : State) (f : FaultCode) (executing : Bool) (hc : s.Canon) :
    (State.warmReset s f executing).Canon := by
  simp (maxDischargeDepth := 99) [State.warmReset, hc]

@[simp] theorem State.heartwood_canon (s : State) (hc : s.Canon) :
    (State.heartwood s).Canon := by
  unfold State.heartwood; (repeat' split) <;> simp (maxDischargeDepth := 99) [hc]

theorem execMgmtFrame_canon (left done : Bool) (idleUs safetyUs busyUs : Nat) (s : State) (hc : s.Canon) :
    ∀ t, execMgmtFrame left done idleUs safetyUs busyUs s = .next t → t.Canon := by
  intro t h; rw [← Host.Outcome.next.inj h]; simp (maxDischargeDepth := 99) [hc]

theorem execHeartbeatMiss_canon (executing : Bool) (s : State) (hc : s.Canon) :
    ∀ t, execHeartbeatMiss executing s = .next t → t.Canon := by
  intro t h; rw [← Host.Outcome.next.inj h]; simp (maxDischargeDepth := 99) [hc]

theorem execLockstepMismatch_canon (executing : Bool) (s : State) (hc : s.Canon) :
    ∀ t, execLockstepMismatch executing s = .next t → t.Canon := by
  intro t h; rw [← Host.Outcome.next.inj h]; simp (maxDischargeDepth := 99) [hc]

theorem execHeartwoodRestart_canon (s : State) (hc : s.Canon) :
    ∀ t, execHeartwoodRestart s = .next t → t.Canon := by
  intro t h; rw [← Host.Outcome.next.inj h]; simp (maxDischargeDepth := 99) [hc]

theorem execMbCmdPost_canon (prod : Nat) (s : State) (hc : s.Canon) :
    ∀ t, execMbCmdPost prod s = .next t → t.Canon := by
  intro t h; rw [← Host.Outcome.next.inj h]; simp (maxDischargeDepth := 99) [hc]

theorem execMbResetRing_canon (s : State) (hc : s.Canon) :
    ∀ t, execMbResetRing s = .next t → t.Canon := by
  intro t h; rw [← Host.Outcome.next.inj h]; simp (maxDischargeDepth := 99) [hc]

theorem execGetVersion_canon (s : State) (hc : s.Canon) :
    ∀ t, execGetVersion s = .next t → t.Canon := by
  intro t h
  rw [← Host.Outcome.next.inj h]
  refine State.mbRun_canon _ _ _ _ hc (fun t e ht => ?_)
  simp (maxDischargeDepth := 99) [ht]

theorem execGetFactory_canon (s : State) (hc : s.Canon) :
    ∀ t, execGetFactory s = .next t → t.Canon := by
  intro t h
  rw [← Host.Outcome.next.inj h]
  refine State.mbRun_canon _ _ _ _ hc (fun t e ht => ?_)
  simp (maxDischargeDepth := 99) [ht]

theorem execGetSettings_canon (s : State) (hc : s.Canon) :
    ∀ t, execGetSettings s = .next t → t.Canon := by
  intro t h
  rw [← Host.Outcome.next.inj h]
  refine State.mbRun_canon _ _ _ _ hc (fun t e ht => ?_)
  simp (maxDischargeDepth := 99) [ht]

theorem execSetSettings_canon (good : Bool) (s : State) (hc : s.Canon) :
    ∀ t, execSetSettings good s = .next t → t.Canon := by
  intro t h
  rw [← Host.Outcome.next.inj h]
  exact State.mbRun_canon _ _ _ _ hc (fun t e ht => State.mbSetSettings_canon good t e ht)

theorem execReboot_canon (s : State) (hc : s.Canon) :
    ∀ t, execReboot s = .next t → t.Canon := by
  intro t h
  have h1 := State.mbRun_canon s 5 0 (fun t _ => ({ status := 0 }, t)) hc (fun t e ht => ht)
  rw [← Host.Outcome.next.inj h]
  exact State.canon_ite (State.startUp_canon _ _ _ h1) h1

theorem execGetVxMap_canon (s : State) (hc : s.Canon) :
    ∀ t, execGetVxMap s = .next t → t.Canon := by
  intro t h
  rw [← Host.Outcome.next.inj h]
  refine State.mbRun_canon _ _ _ _ hc (fun t e ht => ?_)
  simp (maxDischargeDepth := 99) [ht]

theorem execGetFaults_canon (s : State) (hc : s.Canon) :
    ∀ t, execGetFaults s = .next t → t.Canon := by
  intro t h
  rw [← Host.Outcome.next.inj h]
  refine State.mbRun_canon _ _ _ _ hc (fun t e ht => ?_)
  simp (maxDischargeDepth := 99) [ht]

theorem execEngSignal_canon (s : State) (hc : s.Canon) :
    ∀ t, execEngSignal s = .next t → t.Canon := by
  intro t h
  rw [← Host.Outcome.next.inj h]
  refine State.mbRun_canon _ _ _ _ hc (fun t e ht => ?_)
  simp (maxDischargeDepth := 99) [ht]

theorem execFlowOp_canon (s : State) (hc : s.Canon) :
    ∀ t, execFlowOp s = .next t → t.Canon := by
  intro t h
  rw [← Host.Outcome.next.inj h]
  refine State.mbRun_canon _ _ _ _ hc (fun t e ht => ?_)
  simp (maxDischargeDepth := 99) [ht]

theorem execReadCapture_canon (s : State) (hc : s.Canon) :
    ∀ t, execReadCapture s = .next t → t.Canon := by
  intro t h
  rw [← Host.Outcome.next.inj h]
  refine State.mbRun_canon _ _ _ _ hc (fun t e ht => ?_)
  simp (maxDischargeDepth := 99) [ht]

end Sys2Proof.Machine
end

