-- ==== Sys2Proof/Laws/CanonMonitor.lean ====
section
/-! SUPPORT. The operations of Machine/Monitor.lean keep the invariant of a run. -/

namespace Sys2Proof.Machine

@[simp] theorem State.monSend_canon (s : State) (transport : Nat) (b : List Byte) (hc : s.Canon) :
    (State.monSend s transport b).Canon := by
  simp (maxDischargeDepth := 99) [State.monSend, hc]

@[simp] theorem State.monRespond_canon (s : State) (r : MonReq) (status : Nat) (data : List Byte) (hc : s.Canon) :
    (State.monRespond s r status data).Canon := by
  simp (maxDischargeDepth := 99) [State.monRespond, hc]

@[simp] theorem State.monDiscard_canon (s : State) (transport : Nat) (hc : s.Canon) :
    (State.monDiscard s transport).Canon := by
  simp (maxDischargeDepth := 99) [State.monDiscard, hc]

@[simp] theorem State.monAccept_canon (s : State) (r : MonReq) (hc : s.Canon) :
    (State.monAccept s r).Canon := by
  unfold State.monAccept; (repeat' split) <;> simp (maxDischargeDepth := 99) [hc]

@[simp] theorem State.monTake_canon (s : State) (transport : Nat) (y0 : MonRx) (hc : s.Canon) :
    (State.monTake s transport y0).Canon := by
  unfold State.monTake; (repeat' split) <;> simp (maxDischargeDepth := 99) [hc]

@[simp] theorem State.monFrame_canon (s : State) (transport : Nat) (b : List Byte) (hc : s.Canon) :
    (State.monFrame s transport b).Canon := by
  simp (maxDischargeDepth := 99) [State.monFrame, hc]

theorem State.monRun_canon (s : State) (cmd minor : Nat) (size : Nat → Bool) (f : State → List Byte → Nat × List Byte × State)
    (hc : s.Canon) (hf : ∀ t p, t.Canon → (f t p).2.2.Canon) : (State.monRun s cmd minor size f).Canon := by
  unfold State.monRun
  split
  · exact hc
  · rename_i r l _
    refine State.canon_ite hc (State.srcSince_canon _ _ _ (State.monRespond_canon _ _ _ _ ?_))
    have ht := State.updMgt_canon s (fun m => { m with requests := l }) hc
    have hx : ∀ (c d : Bool), (if c then (1, [], s.updMgt fun m => { m with requests := l })
        else if d then (2, [], s.updMgt fun m => { m with requests := l })
        else f (s.updMgt fun m => { m with requests := l }) r.payload).2.2.Canon := by
      intro c d
      cases c <;> cases d <;> first | exact ht | exact hf _ _ ht
    exact hx _ _

@[simp] theorem State.monHello_canon (s : State) (p : List Byte) (hc : s.Canon) :
    (State.monHello s p).2.2.Canon := by
  unfold State.monHello; (repeat' split) <;> simp (maxDischargeDepth := 99) [hc]

@[simp] theorem State.monReadReg_canon (peek : Bool) (s : State) (p : List Byte) (hc : s.Canon) :
    (State.monReadReg peek s p).2.2.Canon := by
  unfold State.monReadReg
  have h := State.csrRange_canon s (fieldAt p 0 4) (4 * fieldAt p 4 1) peek hc
  dsimp only
  split
  · exact hc
  · split <;> (rename_i e2; rw [e2] at h) <;> exact h

@[simp] theorem State.monWriteReg_canon (s : State) (p : List Byte) (hc : s.Canon) :
    (State.monWriteReg s p).2.2.Canon := by
  unfold State.monWriteReg; dsimp only; (repeat' split) <;> simp +contextual (maxDischargeDepth := 99) [hc, State.canon_foldl]

@[simp] theorem State.monRead_canon (s : State) (p : List Byte) (hc : s.Canon) :
    (State.monRead s p).2.2.Canon := by
  have hd : ∀ (r : Option (List Byte) × State), r.2.Canon →
      ((match r with | (some b, t) => (0, b, t) | (none, t) => (6, [], t) : Nat × List Byte × State)).2.2.Canon := by
    rintro ⟨o, t⟩ h
    cases o <;> exact h
  unfold State.monRead
  dsimp only
  split
  · exact hc
  · split
    · exact hd _ (State.devRead_canon _ _ _ _ hc)
    · split
      · exact hd _ (State.devRead_canon _ _ _ _ hc)
      · exact State.raise_canon _ _ _ _ hc
    · exact hd _ (State.targetRead_canon _ _ _ _ _ hc)

@[simp] theorem State.monWrite_canon (s : State) (p : List Byte) (hc : s.Canon) :
    (State.monWrite s p).2.2.Canon := by
  unfold State.monWrite; dsimp only; (repeat' split) <;> simp +contextual (maxDischargeDepth := 99) [hc, State.canon_foldl]

@[simp] theorem State.monBreak_canon (s : State) (p : List Byte) (hc : s.Canon) :
    (State.monBreak s p).2.2.Canon := by
  unfold State.monBreak; dsimp only; (repeat' split) <;> simp +contextual (maxDischargeDepth := 99) [hc, State.canon_foldl]

@[simp] theorem State.monSignal_canon (s : State) (p : List Byte) (hc : s.Canon) :
    (State.monSignal s p).2.2.Canon := by
  unfold State.monSignal; (repeat' split) <;> simp (maxDischargeDepth := 99) [hc]

@[simp] theorem State.monFaults_canon (s : State) (p : List Byte) (hc : s.Canon) :
    (State.monFaults s p).2.2.Canon := by
  simp (maxDischargeDepth := 99) [State.monFaults, hc]

@[simp] theorem State.monSettings_canon (good : Bool) (s : State) (p : List Byte) (hc : s.Canon) :
    (State.monSettings good s p).2.2.Canon := by
  unfold State.monSettings; dsimp only; (repeat' split) <;> simp +contextual (maxDischargeDepth := 99) [hc, State.canon_foldl]

@[simp] theorem State.monVxMap_canon (s : State) (p : List Byte) (hc : s.Canon) :
    (State.monVxMap s p).2.2.Canon := by
  simp (maxDischargeDepth := 99) [State.monVxMap, hc]

@[simp] theorem State.monCapture_canon (s : State) (p : List Byte) (hc : s.Canon) :
    (State.monCapture s p).2.2.Canon := by
  unfold State.monCapture; (repeat' split) <;> simp +contextual (maxDischargeDepth := 99) [hc, State.canon_foldl]

@[simp] theorem State.monReadCapture_canon (s : State) (p : List Byte) (hc : s.Canon) :
    (State.monReadCapture s p).2.2.Canon := by
  unfold State.monReadCapture; dsimp only; (repeat' split) <;> simp +contextual (maxDischargeDepth := 99) [hc, State.canon_foldl]

@[simp] theorem State.engOp_canon (s : State) (e op : Nat) (hc : s.Canon) :
    (State.engOp s e op).Canon := by
  unfold State.engOp; (repeat' split) <;> simp (maxDischargeDepth := 99) [hc]

@[simp] theorem State.engCtrl_canon (s : State) (hc : s.Canon) :
    (State.engCtrl s).Canon := by
  unfold State.engCtrl
  split
  · exact hc
  · dsimp only
    split
    · exact hc
    · split
      · exact State.monRun_canon _ _ _ _ _ hc (fun t e ht => ht)
      · split <;> (split <;> simp (maxDischargeDepth := 99) [hc])

@[simp] theorem State.engCtrlPending_canon (s : State) (hc : s.Canon) :
    (State.engCtrlPending s).Canon := by
  unfold State.engCtrlPending; (repeat' split) <;> simp (maxDischargeDepth := 99) [hc]

theorem execMonFrame_canon (transport : Nat) (bytes : List Byte) (s : State) (hc : s.Canon) :
    ∀ t, execMonFrame transport bytes s = .next t → t.Canon := by
  intro t h; rw [← Host.Outcome.next.inj h]; simp (maxDischargeDepth := 99) [hc]

theorem execHello_canon (s : State) (hc : s.Canon) :
    ∀ t, execHello s = .next t → t.Canon := by
  intro t h
  rw [← Host.Outcome.next.inj h]
  refine State.monRun_canon _ _ _ _ _ hc (fun t e ht => ?_)
  simp (maxDischargeDepth := 99) [ht]

theorem execReadReg_canon (s : State) (hc : s.Canon) :
    ∀ t, execReadReg s = .next t → t.Canon := by
  intro t h
  rw [← Host.Outcome.next.inj h]
  refine State.monRun_canon _ _ _ _ _ hc (fun t e ht => ?_)
  simp (maxDischargeDepth := 99) [ht]

theorem execReadRegLive_canon (s : State) (hc : s.Canon) :
    ∀ t, execReadRegLive s = .next t → t.Canon := by
  intro t h
  rw [← Host.Outcome.next.inj h]
  refine State.monRun_canon _ _ _ _ _ hc (fun t e ht => ?_)
  simp (maxDischargeDepth := 99) [ht]

theorem execWriteReg_canon (s : State) (hc : s.Canon) :
    ∀ t, execWriteReg s = .next t → t.Canon := by
  intro t h
  rw [← Host.Outcome.next.inj h]
  refine State.monRun_canon _ _ _ _ _ hc (fun t e ht => ?_)
  simp (maxDischargeDepth := 99) [ht]

theorem execReadMem_canon (s : State) (hc : s.Canon) :
    ∀ t, execReadMem s = .next t → t.Canon := by
  intro t h
  rw [← Host.Outcome.next.inj h]
  refine State.monRun_canon _ _ _ _ _ hc (fun t e ht => ?_)
  simp (maxDischargeDepth := 99) [ht]

theorem execWriteMem_canon (s : State) (hc : s.Canon) :
    ∀ t, execWriteMem s = .next t → t.Canon := by
  intro t h
  rw [← Host.Outcome.next.inj h]
  refine State.monRun_canon _ _ _ _ _ hc (fun t e ht => ?_)
  simp (maxDischargeDepth := 99) [ht]

theorem execEngCtrl_canon (s : State) (hc : s.Canon) :
    ∀ t, execEngCtrl s = .next t → t.Canon := by
  intro t h; rw [← Host.Outcome.next.inj h]; simp (maxDischargeDepth := 99) [hc]

theorem execEngCtrlPending_canon (s : State) (hc : s.Canon) :
    ∀ t, execEngCtrlPending s = .next t → t.Canon := by
  intro t h; rw [← Host.Outcome.next.inj h]; simp (maxDischargeDepth := 99) [hc]

theorem execBreakCmd_canon (s : State) (hc : s.Canon) :
    ∀ t, execBreakCmd s = .next t → t.Canon := by
  intro t h
  rw [← Host.Outcome.next.inj h]
  refine State.monRun_canon _ _ _ _ _ hc (fun t e ht => ?_)
  simp (maxDischargeDepth := 99) [ht]

theorem execMonEngSignal_canon (s : State) (hc : s.Canon) :
    ∀ t, execMonEngSignal s = .next t → t.Canon := by
  intro t h
  rw [← Host.Outcome.next.inj h]
  refine State.monRun_canon _ _ _ _ _ hc (fun t e ht => ?_)
  simp (maxDischargeDepth := 99) [ht]

theorem execMonGetFaults_canon (s : State) (hc : s.Canon) :
    ∀ t, execMonGetFaults s = .next t → t.Canon := by
  intro t h
  rw [← Host.Outcome.next.inj h]
  refine State.monRun_canon _ _ _ _ _ hc (fun t e ht => ?_)
  simp (maxDischargeDepth := 99) [ht]

theorem execSettings_canon (good : Bool) (s : State) (hc : s.Canon) :
    ∀ t, execSettings good s = .next t → t.Canon := by
  intro t h
  rw [← Host.Outcome.next.inj h]
  refine State.monRun_canon _ _ _ _ _ hc (fun t e ht => ?_)
  simp (maxDischargeDepth := 99) [ht]

theorem execMonGetFactory_canon (s : State) (hc : s.Canon) :
    ∀ t, execMonGetFactory s = .next t → t.Canon := by
  intro t h
  rw [← Host.Outcome.next.inj h]
  refine State.monRun_canon _ _ _ _ _ hc (fun t e ht => ?_)
  simp (maxDischargeDepth := 99) [ht]

theorem execMonReboot_canon (s : State) (hc : s.Canon) :
    ∀ t, execMonReboot s = .next t → t.Canon := by
  intro t h
  have h1 := State.monRun_canon s 13 0 (fun n => decide (n = 0)) (fun t _ => (0, [], t)) hc (fun t e ht => ht)
  rw [← Host.Outcome.next.inj h]
  exact State.canon_ite (State.startUp_canon _ _ _ h1) h1

theorem execMonGetVxMap_canon (s : State) (hc : s.Canon) :
    ∀ t, execMonGetVxMap s = .next t → t.Canon := by
  intro t h
  rw [← Host.Outcome.next.inj h]
  refine State.monRun_canon _ _ _ _ _ hc (fun t e ht => ?_)
  simp (maxDischargeDepth := 99) [ht]

theorem execCapture_canon (s : State) (hc : s.Canon) :
    ∀ t, execCapture s = .next t → t.Canon := by
  intro t h
  rw [← Host.Outcome.next.inj h]
  refine State.monRun_canon _ _ _ _ _ hc (fun t e ht => ?_)
  simp (maxDischargeDepth := 99) [ht]

theorem execMonReadCapture_canon (s : State) (hc : s.Canon) :
    ∀ t, execMonReadCapture s = .next t → t.Canon := by
  intro t h
  rw [← Host.Outcome.next.inj h]
  refine State.monRun_canon _ _ _ _ _ hc (fun t e ht => ?_)
  simp (maxDischargeDepth := 99) [ht]

theorem execMonFrameGapTimeout_canon (s : State) (hc : s.Canon) :
    ∀ t, execMonFrameGapTimeout s = .next t → t.Canon := by
  intro t h; rw [← Host.Outcome.next.inj h]; simp (maxDischargeDepth := 99) [hc]

theorem execI3cDynamicAddress_canon (address : Nat) (s : State) (hc : s.Canon) :
    ∀ t, execI3cDynamicAddress address s = .next t → t.Canon := by
  intro t h; rw [← Host.Outcome.next.inj h]; simp (maxDischargeDepth := 99) [hc]

end Sys2Proof.Machine
end

