-- ==== Sys2Proof/Laws/CanonAccess.lean ====
section
/-! SUPPORT. The operations of Machine/Access.lean keep the invariant of a run. -/

namespace Sys2Proof.Machine

@[simp] theorem State.hostUr_canon (s : State) (tag : Nat) (hc : s.Canon) :
    (State.hostUr s tag).Canon := by
  simp (maxDischargeDepth := 99) [State.hostUr, hc]

@[simp] theorem State.hostGot_canon (s : State) (tag status : Nat) (data : List Byte) (hc : s.Canon) :
    (State.hostGot s tag status data).Canon := by
  unfold State.hostGot; (repeat' split) <;> simp (maxDischargeDepth := 99) [hc]

@[simp] theorem State.dmaBegin_canon (s : State) (j : MemJob) (ops : List (Nat × MemOp)) (hc : s.Canon) :
    (State.dmaBegin s j ops).Canon := by
  simp +contextual (maxDischargeDepth := 99) [State.dmaBegin, hc, State.canon_foldl]

@[simp] theorem State.dmaPoison_canon (s : State) (off n : Nat) (hc : s.Canon) :
    (State.dmaPoison s off n).2.Canon := by
  unfold State.dmaPoison; dsimp only; (repeat' split) <;> simp +contextual (maxDischargeDepth := 99) [hc, State.canon_foldl]

@[simp] theorem State.dramPoison_canon (s : State) (cls a n : Nat) (hc : s.Canon) :
    (State.dramPoison s cls a n).2.Canon := by
  unfold State.dramPoison; (repeat' split) <;> simp +contextual (maxDischargeDepth := 99) [hc, State.canon_foldl]

@[simp] theorem State.readAt_canon (s : State) (h : NocHead) (a n : Nat) (hc : s.Canon) :
    (State.readAt s h a n).Canon := by
  unfold State.readAt
  repeat' (first
    | (split <;> (rename_i e; have e2 := congrArg Prod.snd e; dsimp only at e2; subst e2))
    | (split <;> (rename_i e; have e2 := congrArg (fun p => p.2.2) e; dsimp only at e2; subst e2))
    | split)
  all_goals simp +contextual (maxDischargeDepth := 99) [hc, State.canon_foldl]

@[simp] theorem State.writeEnds_canon (s : State) (h : NocHead) (posted : Bool) (status : Nat) (hc : s.Canon) :
    (State.writeEnds s h posted status).Canon := by
  simp (maxDischargeDepth := 99) [State.writeEnds, hc]

@[simp] theorem State.writeAt_canon (s : State) (h : NocHead) (a : Nat) (data : List Byte) (posted : Bool) (hc : s.Canon) :
    (State.writeAt s h a data posted).Canon := by
  unfold State.writeAt; dsimp only; (repeat' split) <;> simp +contextual (maxDischargeDepth := 99) [hc, State.canon_foldl]

@[simp] theorem State.respAt_canon (s : State) (h : NocHead) (op status : Nat) (data : List Byte) (hc : s.Canon) :
    (State.respAt s h op status data).Canon := by
  unfold State.respAt
  repeat' (first
    | (split <;> (rename_i e; have e2 := congrArg Prod.snd e; dsimp only at e2; subst e2))
    | (split <;> (rename_i e; have e2 := congrArg (fun p => p.2.2) e; dsimp only at e2; subst e2))
    | split)
  all_goals simp +contextual (maxDischargeDepth := 99) [hc, State.canon_foldl]

@[simp] theorem State.streamAt_canon (s : State) (p : NocPacket) (g : Segment) (descBad : Bool) (hc : s.Canon) :
    (State.streamAt s p g descBad).Canon := by
  unfold State.streamAt; dsimp only; (repeat' split) <;> simp +contextual (maxDischargeDepth := 99) [hc, State.canon_foldl]

@[simp] theorem State.packetArrive_canon (s : State) (p : NocPacket) (descBad : Bool) (hc : s.Canon) :
    (State.packetArrive s p descBad).Canon := by
  unfold State.packetArrive; (repeat' split) <;> simp (maxDischargeDepth := 99) [hc]

@[simp] theorem State.onTheWay_canon (s : State) (p : NocPacket) (hc : s.Canon) :
    (State.onTheWay s p).Canon := by
  unfold State.onTheWay; (repeat' split) <;> simp (maxDischargeDepth := 99) [hc]

@[simp] theorem State.unroutable_canon (s : State) (p : NocPacket) (hc : s.Canon) :
    (State.unroutable s p).Canon := by
  simp (maxDischargeDepth := 99) [State.unroutable, hc]

@[simp] theorem State.packetSend_canon (s : State) (p : NocPacket) (descBad : Bool) (hc : s.Canon) :
    (State.packetSend s p descBad).Canon := by
  unfold State.packetSend
  split
  · split
    · rename_i t e
      exact State.groveSend_canon _ _ hc _ e
    · exact State.unroutable_canon _ _ hc
  · have h := State.nocTravel_canon s p.head hc
    split <;> (rename_i e; rw [e] at h)
    · exact State.onTheWay_canon _ _ h
    · rename_i h1 s1
      have h2 : (if h1.vc ≠ p.head.vc then s1.onTheWay p else s1).Canon := State.canon_ite (State.onTheWay_canon _ _ h) h
      exact State.canon_ite (State.holdHead_canon _ _ h2) (State.packetArrive_canon _ _ _ h2)

@[simp] theorem State.requestSend_canon (s : State) (h : NocHead) (op : NocOp) (a n kind space : Nat) (hc : s.Canon) :
    (State.requestSend s h op a n kind space).Canon := by
  have hi : ∀ t, (if h.srcDev = s.fld F.NOC_GROVE_devnum ∧ !isPosted op then s.issued h.srcNode h.srcPort h.tag kind space
      else some s) = some t → t.Canon := by
    intro t ht
    split at ht
    · exact State.issued_canon _ _ _ _ _ _ hc _ ht
    · cases ht; exact hc
  unfold State.requestSend
  dsimp only
  split
  · exact hc
  · rename_i s1 e
    have h1 := hi s1 e
    split
    · exact State.packetSend_canon _ _ _ h1
    · split
      · exact State.unroutable_canon _ _ h1
      · split
        · exact State.packetSend_canon _ _ _ h1
        · exact State.writeEnds_canon _ _ _ _ (State.barred_canon _ _ _ _ h1)

@[simp] theorem State.wakeForward_canon (s : State) (node : Nat) (hc : s.Canon) :
    (State.wakeForward s node).Canon := by
  unfold State.wakeForward; dsimp only; (repeat' split) <;> simp +contextual (maxDischargeDepth := 99) [hc, State.canon_foldl]

theorem State.hostIssue_canon (s : State) (l : List (Nat × Nat)) (hc : s.Canon) :
    ∀ r, State.hostIssue s l = some r → r.2.Canon := by
  induction l generalizing s with
  | nil => intro r h; cases h; exact hc
  | cons a l ih =>
    obtain ⟨x, n⟩ := a
    intro r h
    rw [State.hostIssue] at h
    split at h
    · cases h
    · rename_i t _
      obtain ⟨q, e1, e2⟩ := Option.map_eq_some_iff.mp h
      rw [← e2]
      exact ih _ (by simp (maxDischargeDepth := 99) [hc]) q e1

@[simp] theorem State.hostRead_canon (s : State) (fn bar off n tag : Nat) (hc : s.Canon) :
    (State.hostRead s fn bar off n tag).Canon := by
  have h0 := State.csrRange_canon s off n false hc
  unfold State.hostRead
  refine State.canon_ite hc ?_
  split
  · refine State.canon_ite (State.hostUr_canon _ _ hc) (State.canon_ite (State.emit_canon _ _ hc) ?_)
    split <;> (rename_i e2; rw [e2] at h0)
    · exact State.emit_canon _ _ h0
    · exact State.hostUr_canon _ _ h0
  · exact State.emit_canon _ _ hc
  · refine State.canon_ite (State.hostUr_canon _ _ hc) ?_
    split
    · exact hc
    · rename_i r e
      exact (State.hostIssue_canon _ _ hc r e).withPci _

@[simp] theorem State.hostDrop_canon (s : State) (hc : s.Canon) :
    (State.hostDrop s).Canon := by
  simp (maxDischargeDepth := 99) [State.hostDrop, hc]

@[simp] theorem State.bar2Write_canon (s : State) (fn off : Nat) (data : List Byte) (hc : s.Canon) :
    (State.bar2Write s fn off data).Canon := by
  unfold State.bar2Write; (repeat' split) <;> simp (maxDischargeDepth := 99) [hc]

@[simp] theorem State.hostWrite_canon (s : State) (fn bar off : Nat) (data : List Byte) (poison : Bool) (hc : s.Canon) :
    (State.hostWrite s fn bar off data poison).Canon := by
  unfold State.hostWrite; (repeat' split) <;> simp +contextual (maxDischargeDepth := 99) [hc, State.canon_foldl]

@[simp] theorem State.functionReset_canon (s : State) (functions : List Nat) (linkDown : Bool) (hc : s.Canon) :
    (State.functionReset s functions linkDown).Canon := by
  simp (maxDischargeDepth := 99) [State.functionReset, hc]

@[simp] theorem State.perst_canon (s : State) (hc : s.Canon) :
    (State.perst s).Canon := by
  simp (maxDischargeDepth := 99) [State.perst, hc]

theorem execNocRead_canon (head : NocHead) (addr bytes : Nat) (s : State) (hc : s.Canon) :
    ∀ t, execNocRead head addr bytes s = .next t → t.Canon := by
  intro t h; rw [← Host.Outcome.next.inj h]; simp (maxDischargeDepth := 99) [hc]

theorem execNocWrite_canon (head : NocHead) (addr : Nat) (data : List Byte) (s : State) (hc : s.Canon) :
    ∀ t, execNocWrite head addr data s = .next t → t.Canon := by
  intro t h; rw [← Host.Outcome.next.inj h]; simp (maxDischargeDepth := 99) [hc]

theorem execWritePosted_canon (head : NocHead) (addr : Nat) (data : List Byte) (s : State) (hc : s.Canon) :
    ∀ t, execWritePosted head addr data s = .next t → t.Canon := by
  intro t h; rw [← Host.Outcome.next.inj h]; simp (maxDischargeDepth := 99) [hc]

theorem execReadResp_canon (head : NocHead) (status : Nat) (data : List Byte) (s : State) (hc : s.Canon) :
    ∀ t, execReadResp head status data s = .next t → t.Canon := by
  intro t h; rw [← Host.Outcome.next.inj h]; simp (maxDischargeDepth := 99) [hc]

theorem execWriteAck_canon (head : NocHead) (status info : Nat) (s : State) (hc : s.Canon) :
    ∀ t, execWriteAck head status info s = .next t → t.Canon := by
  intro t h; rw [← Host.Outcome.next.inj h]; simp (maxDischargeDepth := 99) [hc]

theorem execStreamSegment_canon (head : NocHead) (seg : Segment) (descBad : Bool) (s : State) (hc : s.Canon) :
    ∀ t, execStreamSegment head seg descBad s = .next t → t.Canon := by
  intro t h; rw [← Host.Outcome.next.inj h]; simp (maxDischargeDepth := 99) [hc]

theorem execRespTimeout_canon (node port tag : Nat) (s : State) (hc : s.Canon) :
    ∀ t, execRespTimeout node port tag s = .next t → t.Canon := by
  intro t h; rw [← Host.Outcome.next.inj h]; simp (maxDischargeDepth := 99) [hc]

theorem execWakeForward_canon (node : Nat) (s : State) (hc : s.Canon) :
    ∀ t, execWakeForward node s = .next t → t.Canon := by
  intro t h; rw [← Host.Outcome.next.inj h]; simp (maxDischargeDepth := 99) [hc]

theorem execHostRead_canon (function bar off bytes tag : Nat) (s : State) (hc : s.Canon) :
    ∀ t, execHostRead function bar off bytes tag s = .next t → t.Canon := by
  intro t h; rw [← Host.Outcome.next.inj h]; simp (maxDischargeDepth := 99) [hc]

theorem execHostWrite_canon (function bar off : Nat) (data : List Byte) (poison : Bool) (s : State) (hc : s.Canon) :
    ∀ t, execHostWrite function bar off data poison s = .next t → t.Canon := by
  intro t h; rw [← Host.Outcome.next.inj h]; simp (maxDischargeDepth := 99) [hc]

theorem execPcieFunctionReset_canon (functions : List Nat) (linkDown : Bool) (s : State) (hc : s.Canon) :
    ∀ t, execPcieFunctionReset functions linkDown s = .next t → t.Canon := by
  intro t h; rw [← Host.Outcome.next.inj h]; simp (maxDischargeDepth := 99) [hc]

theorem execPciePerst_canon (s : State) (hc : s.Canon) :
    ∀ t, execPciePerst s = .next t → t.Canon := by
  intro t h; rw [← Host.Outcome.next.inj h]; simp (maxDischargeDepth := 99) [hc]

end Sys2Proof.Machine
end

