-- ==== Sys2Proof/Laws/CanonEdge.lean ====
section
/-! SUPPORT. The operations of Machine/Edge.lean keep the invariant of a run. -/

namespace Sys2Proof.Machine

@[simp] theorem State.engEdge_canon (s : State) (pins : Nat → Nat → Nat → Nat) (sector : Nat) (atts : List (Nat × Nat))
    (hc : s.Canon) :
    (State.engEdge s pins sector atts).Canon := by
  simp +contextual (maxDischargeDepth := 99) [State.engEdge, hc, State.canon_foldl]

@[simp] theorem State.spTake_canon (s : State) (sector : Nat) (pins : Nat → Nat → Nat) (hc : s.Canon) :
    (State.spTake s sector pins).Canon := by
  unfold State.spTake; (repeat' split) <;> simp (maxDischargeDepth := 99) [hc]

@[simp] theorem State.spEdge_canon (s : State) (pins : Nat → Nat → Nat) (sector : Nat) (hc : s.Canon) :
    (State.spEdge s pins sector).Canon := by
  simp (maxDischargeDepth := 99) [State.spEdge, hc]

@[simp] theorem State.flEdge_canon (s : State) (pins : Nat → Nat → Nat) (sector : Nat) (hc : s.Canon) :
    (State.flEdge s pins sector).Canon := by
  simp (maxDischargeDepth := 99) [State.flEdge, hc]

@[simp] theorem State.channelEdge_canon (s : State) (pins : Nat → Nat → Nat → Nat) (sector : Nat) (hc : s.Canon) :
    (State.channelEdge s pins sector).Canon := by
  simp +contextual (maxDischargeDepth := 99) [State.channelEdge, hc, State.canon_foldl]

@[simp] theorem State.serialEdge_canon (s : State) (pins : Nat → Nat → Nat) (sector : Nat) (hc : s.Canon) :
    (State.serialEdge s pins sector).Canon := by
  unfold State.serialEdge; (repeat' split) <;> simp (maxDischargeDepth := 99) [hc]

@[simp] theorem State.landEdge_canon (s : State) (r : FabNode → Bool) (island : Nat) (hc : s.Canon) :
    (State.landEdge s r island).Canon := by
  simp +contextual (maxDischargeDepth := 99) [State.landEdge, hc, State.canon_foldl]

@[simp] theorem State.portsEdge_canon (s : State) (r : FabNode → Bool) (sector : Nat) (atts : List (Nat × Nat)) (hc : s.Canon) :
    (State.portsEdge s r sector atts).Canon := by
  simp (maxDischargeDepth := 99) [State.portsEdge, hc]

@[simp] theorem State.ctxEdge_canon (s : State) (k : Nat) (hc : s.Canon) :
    (State.ctxEdge s k).Canon := by
  simp (maxDischargeDepth := 99) [State.ctxEdge, hc]

theorem State.sectorEdge_canon (s : State) (r : FabNode → Bool) (t : State) (sector : Nat) (hc : t.Canon) :
    (State.sectorEdge s r t sector).Canon := by
  have h1 : ({ t with fab := { t.fab with
      ff := SMap.set [] t.fab.ff sector (s.ffEdge r sector)
      live := SMap.set [] t.fab.live sector (s.memEdge r sector) } } : State).Canon := hc.of_eq rfl rfl rfl rfl rfl rfl rfl rfl
  have h2 := State.ctxEdge_canon _ sector (State.portsEdge_canon _ r sector (s.attTiles sector) h1)
  exact h2.withFlt _

@[simp] theorem State.edgeWith_canon (s : State) (r : FabNode → Bool) (island : Nat) (slow : Bool) (fast : Nat) (hc : s.Canon) :
    (State.edgeWith s r island slow fast).Canon := by
  unfold State.edgeWith
  have h1 : ((([island, island + 48].foldl (State.sectorEdge s r) s)).landEdge r island).Canon :=
    State.landEdge_canon _ r island (State.canon_foldl (fun t k ht => State.sectorEdge_canon s r t k ht) _ hc)
  revert h1
  generalize (([island, island + 48].foldl (State.sectorEdge s r) s)).landEdge r island = s1
  intro h1
  refine State.takeFree_canon _ ?_
  rw [State.canon_mk]
  exact ⟨h1.1, h1.2.1, h1.words, h1.spares, h1.secure, h1.flowWords, h1.lines, h1.flash⟩

@[simp] theorem State.fabEdge_canon (s : State) (island : Nat) (slow : Bool) (fast : Nat) (hc : s.Canon) :
    (State.fabEdge s island slow fast).Canon :=
  State.edgeWith_canon s (s.sig fabFuel) island slow fast hc

theorem execFabricClockEdge_canon (island : Nat) (slow : Bool) (fast : Nat) (s : State) (hc : s.Canon) :
    ∀ t, execFabricClockEdge island slow fast s = .next t → t.Canon := by
  intro t h; cases h; simp (maxDischargeDepth := 99) [hc]

end Sys2Proof.Machine
end

