-- ==== Sys2Proof/Laws/CanonImageRead.lean ====
section
/-! SUPPORT. The operations of Machine/ImageRead.lean keep the invariant of a run. -/

namespace Sys2Proof.Machine

theorem State.srcTake_canon (s : State) (b : List Byte) (hc : s.Canon) : ∀ r, State.srcTake s b = some r → r.2.Canon := by
  have hd := State.devRead_canon s 1 (s.stu.load.addr + s.stu.load.image.length) b.length hc
  intro r h
  unfold State.srcTake at h
  dsimp only at h
  split at h
  · split at h
    · cases h; exact State.Canon.withStu (hc.withStu _) _
    · cases h
  · split at h <;> (rename_i e; rw [e] at hd)
    · split at h
      · cases h; exact State.Canon.withStu hd _
      · cases h
    · cases h; exact hd
  · split at h
    · cases h; exact hc
    · split at h
      · cases h; exact hc.withStu _
      · cases h
  · cases h; exact hc.withStu _

@[simp] theorem State.headerCheck_canon (s : State) (hc : s.Canon) :
    (State.headerCheck s).Canon := by
  simp (maxDischargeDepth := 99) [State.headerCheck, hc]

@[simp] theorem State.headerRead_canon (s : State) (b : List Byte) (hc : s.Canon) :
    (State.headerRead s b).Canon := by
  unfold State.headerRead
  refine State.canon_ite hc (State.canon_ite (State.loadFail_canon _ _ _ hc) ?_)
  split
  · exact hc
  · rename_i ok t e
    have h := State.srcTake_canon s b hc _ e
    simp (maxDischargeDepth := 99) [show t.Canon from h]

theorem State.recordTake_canon (s : State) (want : Nat) (b : List Byte) (hc : s.Canon) :
    (∀ t, State.recordTake s want b = .error t → t.Canon) ∧ ∀ r, State.recordTake s want b = .ok r → r.2.Canon := by
  have h1 := State.srcTake_canon s (b.take 8) hc
  have h2 := State.srcTake_canon s b hc
  unfold State.recordTake
  dsimp only
  split
  · exact ⟨fun t h => by cases h; exact hc, fun r h => by cases h⟩
  · split
    · split
      · exact ⟨fun t h => by cases h; exact hc, fun r h => by cases h⟩
      · rename_i e
        exact ⟨fun t h => by cases h; exact State.loadFail_canon _ _ _ (h1 _ e), fun r h => by cases h⟩
    · split
      · exact ⟨fun t h => by cases h; exact hc, fun r h => by cases h⟩
      · split
        · exact ⟨fun t h => by cases h; exact hc, fun r h => by cases h⟩
        · rename_i e
          exact ⟨fun t h => by cases h; exact State.loadFail_canon _ _ _ (h2 _ e), fun r h => by cases h⟩
        · rename_i u e
          have hu : ({ u with stu := { u.stu with load := { u.stu.load with count := s.stu.load.count + 1 } } } : State).Canon :=
            State.Canon.withStu (h2 _ e) _
          revert hu
          generalize ({ u with stu := { u.stu with load := { u.stu.load with count := s.stu.load.count + 1 } } } : State) = v
          intro hu
          split
          · exact ⟨fun t h => by cases h; exact State.loadFail_canon _ _ _ hu, fun r h => by cases h⟩
          · split
            · exact ⟨fun t h => by cases h; exact State.loadFail_canon _ _ _ hu, fun r h => by cases h⟩
            · exact ⟨fun t h => (by cases h), fun r h => by cases h; exact hu⟩

theorem State.withRecord_canon (s : State) (want : Nat) (b : List Byte) (f : ImgRec → State → State) (hc : s.Canon)
    (hf : ∀ r t, t.Canon → (f r t).Canon) : (State.withRecord s want b f).Canon := by
  have h := State.recordTake_canon s want b hc
  unfold State.withRecord
  split
  · rename_i e; exact h.1 _ e
  · rename_i e; exact hf _ _ (h.2 _ e)

@[simp] theorem State.holdRecord_canon (s : State) (r : ImgRec) (keep : Bool) (hc : s.Canon) :
    (State.holdRecord s r keep).Canon := by
  simp (maxDischargeDepth := 99) [State.holdRecord, hc]

@[simp] theorem State.putFrame_canon (s : State) (kind sector plane f : Nat) (v : RowBits) (hc : s.Canon) :
    (State.putFrame s kind sector plane f v).Canon := by
  unfold State.putFrame
  split
  · exact (State.setPlane_canon _ _ _ _ hc).withStu _
  · exact (State.updEngine_canon _ _ _ hc).withStu _
  · exact State.updEngine_canon _ _ _ hc
  · exact State.writeRow_canon _ _ _ _ hc

@[simp] theorem State.stagedStale_canon (s : State) (k p : Nat) (hc : s.Canon) :
    (State.stagedStale s k p).Canon := by
  simp (maxDischargeDepth := 99) [State.stagedStale, hc]

@[simp] theorem State.putRun_canon (s : State) (a : FAddr) (fs : List RowBits) (hc : s.Canon) :
    (State.putRun s a fs).Canon := by
  simp +contextual (maxDischargeDepth := 99) [State.putRun, hc, State.canon_foldl]

@[simp] theorem State.putRecord_canon (s : State) (runs : List FAddr) (fs : List RowBits) (hc : s.Canon) :
    (State.putRecord s runs fs).Canon := by
  simp +contextual (maxDischargeDepth := 99) [State.putRecord, hc, State.canon_foldl]

@[simp] theorem State.frameRecord_canon (r : ImgRec) (s : State) (hc : s.Canon) :
    (State.frameRecord r s).Canon := by
  unfold State.frameRecord; (repeat' split) <;> simp (maxDischargeDepth := 99) [hc]

end Sys2Proof.Machine
end

