-- ==== Sys2Proof/Laws/CanonImageTables.lean ====
section
/-! SUPPORT. The operations of Machine/ImageTables.lean keep the invariant of a run. -/

namespace Sys2Proof.Machine

@[simp] theorem State.layoutApply_canon (s : State) (col : Nat) (b : List Byte) (hc : s.Canon) :
    (State.layoutApply s col b).Canon := by
  simp +contextual (maxDischargeDepth := 99) [State.layoutApply, hc, State.canon_foldl]

@[simp] theorem State.fwWrite_canon (s : State) (off inst v : Nat) (hc : s.Canon) :
    (State.fwWrite s off inst v).Canon := by
  unfold State.fwWrite; (repeat' split) <;> simp (maxDischargeDepth := 99) [hc]

@[simp] theorem State.tableWrites_canon (s : State) (kind scope : Nat) (b : List Byte) (hc : s.Canon) :
    (State.tableWrites s kind scope b).Canon := by
  simp +contextual (maxDischargeDepth := 99) [State.tableWrites, hc, State.canon_foldl]

@[simp] theorem State.tableCommit_canon (s : State) (base group : Nat) (hc : s.Canon) :
    (State.tableCommit s base group).Canon := by
  simp (maxDischargeDepth := 99) [State.tableCommit, hc]

@[simp] theorem State.guarTable_canon (s : State) (b : List Byte) (hc : s.Canon) :
    (State.guarTable s b).Canon := by
  simp (maxDischargeDepth := 99) [State.guarTable, hc]

theorem State.tableApply_canon (s : State) (wb : Nat → Nat) (kind scope : Nat) (b : List Byte) (hc : s.Canon) :
    ∀ t, State.tableApply s wb kind scope b = some t → t.Canon := by
  unfold State.tableApply; dsimp only; (repeat' split) <;> simp +contextual (maxDischargeDepth := 99) [hc, State.canon_foldl]

theorem State.tablesApply_canon (s : State) (wb : Nat → Nat) (l : List ImgTable) (hc : s.Canon) :
    ∀ t, State.tablesApply s wb l = .ok t → t.Canon := by
  induction l generalizing s with
  | nil => intro t h; cases h; exact hc
  | cons a l ih =>
    intro t h
    rw [State.tablesApply] at h
    split at h
    · rename_i e; exact ih _ (State.tableApply_canon _ _ _ _ _ hc _ e) t h
    · cases h

end Sys2Proof.Machine
end

