-- ==== Sys2Proof/Laws/CanonImages.lean ====
section
/-! SUPPORT. The operations of Machine/Images.lean keep the invariant of a run. -/

namespace Sys2Proof.Machine

@[simp] theorem State.tableRead_canon (r : ImgRec) (s : State) (hc : s.Canon) :
    (State.tableRead r s).Canon := by
  unfold State.tableRead; dsimp only; (repeat' split) <;> simp +contextual (maxDischargeDepth := 99) [hc, State.canon_foldl]

@[simp] theorem State.csrWrites_canon (s : State) (l : List (Nat × Nat)) (hc : s.Canon) :
    (State.csrWrites s l).Canon := by
  simp +contextual (maxDischargeDepth := 99) [State.csrWrites, hc, State.canon_foldl]

@[simp] theorem State.csrRun_canon (r : ImgRec) (s : State) (hc : s.Canon) :
    (State.csrRun r s).Canon := by
  simp (maxDischargeDepth := 99) [State.csrRun, hc]

@[simp] theorem State.signaturesRead_canon (r : ImgRec) (s : State) (hc : s.Canon) :
    (State.signaturesRead r s).Canon := by
  unfold State.signaturesRead; (repeat' split) <;> simp (maxDischargeDepth := 99) [hc]

@[simp] theorem State.regionRead_canon (r : ImgRec) (s : State) (hc : s.Canon) :
    (State.regionRead r s).Canon := by
  simp (maxDischargeDepth := 99) [State.regionRead, hc]

@[simp] theorem State.chainBuffer_canon (s : State) (b : List Byte) (hc : s.Canon) :
    (State.chainBuffer s b).Canon := by
  simp +contextual (maxDischargeDepth := 99) [State.chainBuffer, hc, State.canon_foldl]

@[simp] theorem State.chainRead_canon (r : ImgRec) (s : State) (hc : s.Canon) :
    (State.chainRead r s).Canon := by
  simp (maxDischargeDepth := 99) [State.chainRead, hc]

@[simp] theorem State.planesDrop_canon (s : State) (bad : List (Nat × FaultEntry)) (hc : s.Canon) :
    (State.planesDrop s bad).Canon := by
  simp +contextual (maxDischargeDepth := 99) [State.planesDrop, hc, State.canon_foldl]

@[simp] theorem State.imageSigs_canon (s : State) (hc : s.Canon) :
    (State.imageSigs s).Canon := by
  simp +contextual (maxDischargeDepth := 99) [State.imageSigs, hc, State.canon_foldl]

@[simp] theorem State.planeLoad_canon (s : State) (k p : Nat) (hc : s.Canon) :
    (State.planeLoad s k p).Canon := by
  simp (maxDischargeDepth := 99) [State.planeLoad, hc]

@[simp] theorem State.startFull_canon (s : State) (t : StartTable) (hc : s.Canon) :
    (State.startFull s t).Canon := by
  unfold State.startFull; (repeat' split) <;> simp (maxDischargeDepth := 99) [hc]

@[simp] theorem State.imgLoaded_canon (s : State) (part gen : Nat) (hc : s.Canon) :
    (State.imgLoaded s part gen).Canon := by
  simp (maxDischargeDepth := 99) [State.imgLoaded, hc]

@[simp] theorem State.fullAccept_canon (s : State) (tables : List ImgTable) (starts : List StartTable) (hc : s.Canon) :
    (State.fullAccept s tables starts).Canon := by
  simp +contextual (maxDischargeDepth := 99) [State.fullAccept, hc, State.canon_foldl]

@[simp] theorem State.fullEnd_canon (s : State) (hc : s.Canon) :
    (State.fullEnd s).Canon := by
  have h1 := State.planesDrop_canon s s.badPlanes hc
  unfold State.fullEnd
  dsimp only
  revert h1
  generalize State.planesDrop s s.badPlanes = s1
  intro h1
  split
  · exact State.loadEnds_canon _ _ h1
  · split
    · exact State.loadFail_canon _ _ _ h1
    · split
      · exact State.loadEnds_canon _ _ (State.raiseGroup_canon _ _ h1)
      · split
        · exact State.loadFail_canon _ _ _ h1
        · rename_i e
          refine State.fullAccept_canon _ _ _ (State.tablesApply_canon _ _ _ (State.imageSigs_canon _ ?_) _ e)
          exact State.canon_foldl (fun t k ht => State.planeLoad_canon _ _ _ ht) _ h1

theorem State.keptApply_canon (s : State) (wb : Nat → Nat) (r : ImgRec) (hc : s.Canon) :
    ∀ t, State.keptApply s wb r = some t → t.Canon := by
  intro t h
  unfold State.keptApply at h
  split at h
  · dsimp only at h
    split at h
    · cases h; exact hc
    · split at h
      · cases h; exact State.layoutApply_canon _ _ _ hc
      · exact State.tableApply_canon _ _ _ _ _ hc _ h
  · cases h; exact State.csrWrites_canon _ _ hc
  · cases h; exact State.putRecord_canon _ _ _ hc

theorem State.keptApplyAll_canon (s : State) (wb : Nat → Nat) (l : List ImgRec) (hc : s.Canon) :
    ∀ t, State.keptApplyAll s wb l = .ok t → t.Canon := by
  induction l generalizing s with
  | nil => intro t h; cases h; exact hc
  | cons a l ih =>
    intro t h
    rw [State.keptApplyAll] at h
    split at h
    · rename_i e; exact ih _ (State.keptApply_canon _ _ _ hc _ e) t h
    · cases h

@[simp] theorem State.islandRelease_canon (s : State) (starts : List StartTable) (k : Nat) (hc : s.Canon) :
    (State.islandRelease s starts k).Canon := by
  simp +contextual (maxDischargeDepth := 99) [State.islandRelease, hc, State.canon_foldl]

@[simp] theorem State.rowPortsFree_canon (s : State) (k : Nat) (hc : s.Canon) :
    (State.rowPortsFree s k).Canon := by
  simp (maxDischargeDepth := 99) [State.rowPortsFree, hc]

@[simp] theorem State.startPartial_canon (s : State) (t : StartTable) (hc : s.Canon) :
    (State.startPartial s t).Canon := by
  simp (maxDischargeDepth := 99) [State.startPartial, hc]

@[simp] theorem State.partialAccept_canon (s : State) (starts : List StartTable) (rel : List Nat) (hc : s.Canon) :
    (State.partialAccept s starts rel).Canon := by
  simp +contextual (maxDischargeDepth := 99) [State.partialAccept, hc, State.canon_foldl]

@[simp] theorem State.partialEnd_canon (s : State) (hc : s.Canon) :
    (State.partialEnd s).Canon := by
  have h1 := State.planesDrop_canon s s.badPlanes hc
  unfold State.partialEnd
  dsimp only
  revert h1
  generalize State.planesDrop s s.badPlanes = s1
  intro h1
  split
  · exact State.loadEnds_canon _ _ h1
  · split
    · exact State.loadFail_canon _ _ _ h1
    · split
      · exact State.loadFail_canon _ _ _ h1
      · split
        · exact State.loadFail_canon _ _ _ h1
        · split
          · exact State.loadEnds_canon _ _ (State.raiseGroup_canon _ _ h1)
          · split
            · exact State.loadFail_canon _ _ _ h1
            · rename_i e
              refine State.partialAccept_canon _ _ _ (State.keptApplyAll_canon _ _ _ (State.imageSigs_canon _ ?_) _ e)
              exact State.canon_foldl (fun t k ht => State.planeLoad_canon _ _ _ ht) _ h1

@[simp] theorem State.endRead_canon (s : State) (b auth : List Byte) (hc : s.Canon) :
    (State.endRead s b auth).Canon := by
  have h := State.recordTake_canon s 13 b hc
  unfold State.endRead
  split
  · rename_i e; exact h.1 _ e
  · rename_i t e
    have ht := h.2 _ e
    have h2 := State.srcTake_canon t auth ht
    refine State.canon_ite hc ?_
    split
    · exact hc
    · rename_i u e2
      exact State.loadFail_canon _ _ _ (h2 _ e2)
    · rename_i u e2
      have hu := h2 _ e2
      split
      · exact State.loadFail_canon _ _ _ hu
      · exact State.canon_ite (State.partialEnd_canon _ hu) (State.fullEnd_canon _ hu)

theorem execImageHeader_canon (bytes : List Byte) (s : State) (hc : s.Canon) :
    ∀ t, execImageHeader bytes s = .next t → t.Canon := by
  intro t h; rw [← Host.Outcome.next.inj h]; simp (maxDischargeDepth := 99) [hc]

theorem execFrameRecord_canon (bytes : List Byte) (s : State) (hc : s.Canon) :
    ∀ t, execFrameRecord bytes s = .next t → t.Canon := by
  intro t h
  rw [← Host.Outcome.next.inj h]
  refine State.srcSince_canon _ _ _ (State.withRecord_canon _ _ _ _ hc (fun r t ht => ?_))
  simp (maxDischargeDepth := 99) [ht]

theorem execRangeRecord_canon (bytes : List Byte) (s : State) (hc : s.Canon) :
    ∀ t, execRangeRecord bytes s = .next t → t.Canon := by
  intro t h
  rw [← Host.Outcome.next.inj h]
  refine State.srcSince_canon _ _ _ (State.withRecord_canon _ _ _ _ hc (fun r t ht => ?_))
  simp (maxDischargeDepth := 99) [ht]

theorem execRepeatRecord_canon (bytes : List Byte) (s : State) (hc : s.Canon) :
    ∀ t, execRepeatRecord bytes s = .next t → t.Canon := by
  intro t h
  rw [← Host.Outcome.next.inj h]
  refine State.srcSince_canon _ _ _ (State.withRecord_canon _ _ _ _ hc (fun r t ht => ?_))
  simp (maxDischargeDepth := 99) [ht]

theorem execFillRecord_canon (bytes : List Byte) (s : State) (hc : s.Canon) :
    ∀ t, execFillRecord bytes s = .next t → t.Canon := by
  intro t h
  rw [← Host.Outcome.next.inj h]
  refine State.srcSince_canon _ _ _ (State.withRecord_canon _ _ _ _ hc (fun r t ht => ?_))
  simp (maxDischargeDepth := 99) [ht]

theorem execEngineProgRecord_canon (bytes : List Byte) (s : State) (hc : s.Canon) :
    ∀ t, execEngineProgRecord bytes s = .next t → t.Canon := by
  intro t h
  rw [← Host.Outcome.next.inj h]
  refine State.srcSince_canon _ _ _ (State.withRecord_canon _ _ _ _ hc (fun r t ht => ?_))
  simp (maxDischargeDepth := 99) [ht]

theorem execEngineDataRecord_canon (bytes : List Byte) (s : State) (hc : s.Canon) :
    ∀ t, execEngineDataRecord bytes s = .next t → t.Canon := by
  intro t h
  rw [← Host.Outcome.next.inj h]
  refine State.srcSince_canon _ _ _ (State.withRecord_canon _ _ _ _ hc (fun r t ht => ?_))
  simp (maxDischargeDepth := 99) [ht]

theorem execMeminitRecord_canon (bytes : List Byte) (s : State) (hc : s.Canon) :
    ∀ t, execMeminitRecord bytes s = .next t → t.Canon := by
  intro t h
  rw [← Host.Outcome.next.inj h]
  refine State.srcSince_canon _ _ _ (State.withRecord_canon _ _ _ _ hc (fun r t ht => ?_))
  simp (maxDischargeDepth := 99) [ht]

theorem execTableRecord_canon (bytes : List Byte) (s : State) (hc : s.Canon) :
    ∀ t, execTableRecord bytes s = .next t → t.Canon := by
  intro t h
  rw [← Host.Outcome.next.inj h]
  refine State.srcSince_canon _ _ _ (State.withRecord_canon _ _ _ _ hc (fun r t ht => ?_))
  simp (maxDischargeDepth := 99) [ht]

theorem execCsrRecord_canon (bytes : List Byte) (s : State) (hc : s.Canon) :
    ∀ t, execCsrRecord bytes s = .next t → t.Canon := by
  intro t h
  rw [← Host.Outcome.next.inj h]
  refine State.srcSince_canon _ _ _ (State.withRecord_canon _ _ _ _ hc (fun r t ht => ?_))
  simp (maxDischargeDepth := 99) [ht]

theorem execSignaturesRecord_canon (bytes : List Byte) (s : State) (hc : s.Canon) :
    ∀ t, execSignaturesRecord bytes s = .next t → t.Canon := by
  intro t h
  rw [← Host.Outcome.next.inj h]
  refine State.srcSince_canon _ _ _ (State.withRecord_canon _ _ _ _ hc (fun r t ht => ?_))
  simp (maxDischargeDepth := 99) [ht]

theorem execRegionRecord_canon (bytes : List Byte) (s : State) (hc : s.Canon) :
    ∀ t, execRegionRecord bytes s = .next t → t.Canon := by
  intro t h
  rw [← Host.Outcome.next.inj h]
  refine State.srcSince_canon _ _ _ (State.withRecord_canon _ _ _ _ hc (fun r t ht => ?_))
  simp (maxDischargeDepth := 99) [ht]

theorem execChainRecord_canon (bytes : List Byte) (s : State) (hc : s.Canon) :
    ∀ t, execChainRecord bytes s = .next t → t.Canon := by
  intro t h
  rw [← Host.Outcome.next.inj h]
  refine State.canon_ite hc (State.srcSince_canon _ _ _ (State.withRecord_canon _ _ _ _ hc (fun r t ht => ?_)))
  simp (maxDischargeDepth := 99) [ht]

theorem execEndRecord_canon (bytes auth : List Byte) (s : State) (hc : s.Canon) :
    ∀ t, execEndRecord bytes auth s = .next t → t.Canon := by
  intro t h; rw [← Host.Outcome.next.inj h]; simp (maxDischargeDepth := 99) [hc]

theorem execImageStreamWrite_canon (data : List Byte) (s : State) (hc : s.Canon) :
    ∀ t, execImageStreamWrite data s = .next t → t.Canon := by
  intro t h; rw [← Host.Outcome.next.inj h]; simp (maxDischargeDepth := 99) [hc]

end Sys2Proof.Machine
end

