-- ==== Sys2Proof/Laws/CanonStartup.lean ====
section
/-! SUPPORT. The operations of Machine/Startup.lean keep the invariant of a run. -/

namespace Sys2Proof.Machine

@[simp] theorem State.porRelease_canon (s : State) (mode : Nat) (slew hot : Bool) (hc : s.Canon) :
    (State.porRelease s mode slew hot).Canon := by
  simp (maxDischargeDepth := 99) [State.porRelease, hc]

@[simp] theorem State.latchedTamper_canon (s : State) (hc : s.Canon) :
    (State.latchedTamper s).Canon := by
  simp (maxDischargeDepth := 99) [State.latchedTamper, hc]

@[simp] theorem State.recordsDone_canon (s : State) (hc : s.Canon) :
    (State.recordsDone s).Canon := by
  simp +contextual (maxDischargeDepth := 99) [State.recordsDone, hc, State.canon_foldl]

@[simp] theorem State.mapApply_canon (s : State) (e : MapEntry) (hc : s.Canon) :
    (State.mapApply s e).Canon := by
  unfold State.mapApply; (repeat' split) <;> simp (maxDischargeDepth := 99) [hc]

@[simp] theorem State.lineSwept_canon (s : State) (w : Nat × Nat × Nat) (hc : s.Canon) :
    (State.lineSwept s w).Canon := by
  simp (maxDischargeDepth := 99) [State.lineSwept, hc]

@[simp] theorem State.remapApply_canon (s : State) (hc : s.Canon) :
    (State.remapApply s).Canon := by
  simp +contextual (maxDischargeDepth := 99) [State.remapApply, hc, State.canon_foldl]

@[simp] theorem State.prepare_canon (s : State) (hc : s.Canon) :
    (State.prepare s).Canon := by
  simp +contextual (maxDischargeDepth := 99) [State.prepare, hc, State.canon_foldl]

@[simp] theorem State.prepareDone_canon (s : State) (windows : List (Nat × Nat × Nat)) (marchFails : List (Nat × Nat))
    (hc : s.Canon) :
    (State.prepareDone s windows marchFails).Canon := by
  simp +contextual (maxDischargeDepth := 99) [State.prepareDone, hc, State.canon_foldl]

@[simp] theorem State.finishDone_canon (s : State) (hc : s.Canon) :
    (State.finishDone s).Canon := by
  simp +contextual (maxDischargeDepth := 99) [State.finishDone, hc, State.canon_foldl]

@[simp] theorem State.stageDone_canon (s : State) (windows : List (Nat × Nat × Nat)) (marchFails : List (Nat × Nat))
    (hc : s.Canon) :
    (State.stageDone s windows marchFails).Canon := by
  unfold State.stageDone; (repeat' split) <;> simp (maxDischargeDepth := 99) [hc]

@[simp] theorem State.releaseState_canon (s : State) (hc : s.Canon) :
    (State.releaseState s).Canon := by
  simp +contextual (maxDischargeDepth := 99) [State.releaseState, hc, State.canon_foldl]

@[simp] theorem State.enableWrites_canon (s : State) (hc : s.Canon) :
    (State.enableWrites s).Canon := by
  simp +contextual (maxDischargeDepth := 99) [State.enableWrites, hc, State.canon_foldl]

@[simp] theorem State.releaseIo_canon (s : State) (hc : s.Canon) :
    (State.releaseIo s).Canon := by
  simp +contextual (maxDischargeDepth := 99) [State.releaseIo, hc, State.canon_foldl]

@[simp] theorem State.doneStep_canon (s : State) (hc : s.Canon) :
    (State.doneStep s).Canon := by
  simp (maxDischargeDepth := 99) [State.doneStep, hc]

@[simp] theorem State.seqStep_canon (s : State) (dram : Bool) (hc : s.Canon) :
    (State.seqStep s dram).Canon := by
  unfold State.seqStep; (repeat' split) <;> simp (maxDischargeDepth := 99) [hc]

@[simp] theorem State.lockTimeout_canon (s : State) (hc : s.Canon) :
    (State.lockTimeout s).Canon := by
  unfold State.lockTimeout; (repeat' split) <;> simp (maxDischargeDepth := 99) [hc]

@[simp] theorem State.loadTimeout_canon (s : State) (hc : s.Canon) :
    (State.loadTimeout s).Canon := by
  simp (maxDischargeDepth := 99) [State.loadTimeout, hc]

@[simp] theorem State.chainForward_canon (s : State) (frdy : Bool) (count : Nat) (hc : s.Canon) :
    (State.chainForward s frdy count).Canon := by
  simp (maxDischargeDepth := 99) [State.chainForward, hc]

@[simp] theorem State.chainTimeout_canon (s : State) (hc : s.Canon) :
    (State.chainTimeout s).Canon := by
  simp (maxDischargeDepth := 99) [State.chainTimeout, hc]

@[simp] theorem State.resendRequest_canon (s : State) (hc : s.Canon) :
    (State.resendRequest s).Canon := by
  simp (maxDischargeDepth := 99) [State.resendRequest, hc]

theorem execPorRelease_canon (mode : Nat) (slew hot : Bool) (s : State) (hc : s.Canon) :
    ∀ t, execPorRelease mode slew hot s = .next t → t.Canon := by
  intro t h; rw [← Host.Outcome.next.inj h]; simp (maxDischargeDepth := 99) [hc]

theorem execStartupStageDone_canon (windows : List (Nat × Nat × Nat)) (marchFails : List (Nat × Nat)) (s : State)
    (hc : s.Canon) :
    ∀ t, execStartupStageDone windows marchFails s = .next t → t.Canon := by
  intro t h; rw [← Host.Outcome.next.inj h]; simp (maxDischargeDepth := 99) [hc]

theorem execSeqStep_canon (dramLocked : Bool) (s : State) (hc : s.Canon) :
    ∀ t, execSeqStep dramLocked s = .next t → t.Canon := by
  intro t h; rw [← Host.Outcome.next.inj h]; simp (maxDischargeDepth := 99) [hc]

theorem execLockTimeout_canon (s : State) (hc : s.Canon) :
    ∀ t, execLockTimeout s = .next t → t.Canon := by
  intro t h; rw [← Host.Outcome.next.inj h]; simp (maxDischargeDepth := 99) [hc]

theorem execLoadTimeout_canon (s : State) (hc : s.Canon) :
    ∀ t, execLoadTimeout s = .next t → t.Canon := by
  intro t h; rw [← Host.Outcome.next.inj h]; simp (maxDischargeDepth := 99) [hc]

theorem execChainForward_canon (frdy : Bool) (count : Nat) (s : State) (hc : s.Canon) :
    ∀ t, execChainForward frdy count s = .next t → t.Canon := by
  intro t h; rw [← Host.Outcome.next.inj h]; simp (maxDischargeDepth := 99) [hc]

theorem execChainFrdyTimeout_canon (s : State) (hc : s.Canon) :
    ∀ t, execChainFrdyTimeout s = .next t → t.Canon := by
  intro t h; rw [← Host.Outcome.next.inj h]; simp (maxDischargeDepth := 99) [hc]

theorem execResendRequest_canon (s : State) (hc : s.Canon) :
    ∀ t, execResendRequest s = .next t → t.Canon := by
  intro t h; rw [← Host.Outcome.next.inj h]; simp (maxDischargeDepth := 99) [hc]

theorem execPartialLoadGo_canon (s : State) (hc : s.Canon) :
    ∀ t, execPartialLoadGo s = .next t → t.Canon := by
  intro t h; rw [← Host.Outcome.next.inj h]; simp (maxDischargeDepth := 99) [hc]

end Sys2Proof.Machine
end

