-- ==== Sys2Proof/Laws/Codes.lean ====
section
/-! SUPPORT. The codes of stored words: remainders, parities and groups of bits. -/

namespace Sys2Proof.Machine

/-- A remainder has fewer bits than the generator. -/
theorem polyRem_lt (g deg n v : Nat) (hg : 2 ^ deg ≤ g ∧ g < 2 ^ (deg + 1)) : polyRem g deg n v < 2 ^ deg := by
  induction n generalizing v with
  | zero => exact Nat.two_pow_pos _
  | succ n ih =>
    unfold polyRem
    dsimp only
    have h := ih (v / 2)
    have hr : 2 * polyRem g deg n (v / 2) + v % 2 < 2 ^ (deg + 1) := by rw [pow_succ]; omega
    have e : ∀ r : Nat, r < 2 ^ (deg + 1) → (bit r deg = true ↔ 2 ^ deg ≤ r) := by
      intro r hr
      unfold bit
      rw [decide_eq_true_iff]
      constructor
      · intro h1
        by_contra h2
        rw [Nat.div_eq_of_lt (by omega)] at h1
        omega
      · intro h1
        have : r / 2 ^ deg = 1 := by
          apply Nat.div_eq_of_lt_le <;> [omega; (rw [pow_succ] at hr; omega)]
        omega
    split
    · rename_i hb
      have h1 := (e _ hr).mp hb
      have t1 : (2 * polyRem g deg n (v / 2) + v % 2).testBit deg = true := by
        rw [Nat.testBit_eq_decide_div_mod_eq]; exact hb
      have t2 : g.testBit deg = true := by
        rw [Nat.testBit_eq_decide_div_mod_eq]; exact (e g hg.2).mpr hg.1
      apply Nat.lt_of_testBit deg
      · rw [Nat.testBit_xor, t1, t2]; rfl
      · exact Nat.testBit_two_pow_self
      · intro j hj
        have hx : ((2 * polyRem g deg n (v / 2) + v % 2) ^^^ g) < 2 ^ (deg + 1) := Nat.xor_lt_two_pow hr hg.2
        rw [Nat.testBit_lt_two_pow (lt_of_lt_of_le hx (Nat.pow_le_pow_right (by decide) hj)), Nat.testBit_two_pow_of_ne (by omega)]
    · rename_i hb
      by_contra h2
      exact hb ((e _ hr).mpr (by omega))

/-- One more bit on top: counted with the others. -/
theorem popCount_top (n c b : Nat) (hc : c < 2 ^ n) (hb : b < 2) : popCount (n + 1) (c + b * 2 ^ n) = popCount n c + b := by
  induction n generalizing c with
  | zero => simp [popCount]; omega
  | succ n ih =>
    have e1 : (c + b * 2 ^ (n + 1)) % 2 = c % 2 := by rw [pow_succ, ← Nat.mul_assoc]; omega
    have e2 : (c + b * 2 ^ (n + 1)) / 2 = c / 2 + b * 2 ^ n := by rw [pow_succ, ← Nat.mul_assoc]; omega
    have h := ih (c / 2) (by rw [pow_succ] at hc; omega)
    rw [popCount, e1, e2, h, popCount]
    omega

/-- A parity bit on top: the parity of the rest with it. -/
theorem parity_top (n c : Nat) (b : Bool) (hc : c < 2 ^ n) : parity (n + 1) (c + b.toNat * 2 ^ n) = (parity n c ^^ b) := by
  unfold parity
  rw [popCount_top n c b.toNat hc (by cases b <;> decide)]
  cases b
  · simp
  · rcases Nat.mod_two_eq_zero_or_one (popCount n c) with h | h <;> simp [Nat.add_mod, h]

theorem ungroups_lt (w : Nat) (l : List Nat) : ungroups w l < 2 ^ (w * l.length) := by
  induction l with
  | nil => exact Nat.two_pow_pos _
  | cons x l ih =>
    rw [ungroups, List.length_cons, Nat.mul_succ, Nat.add_comm (w * l.length) w, pow_add]
    have h1 : x % 2 ^ w < 2 ^ w := Nat.mod_lt _ (Nat.two_pow_pos _)
    calc x % 2 ^ w + 2 ^ w * ungroups w l < 2 ^ w + 2 ^ w * ungroups w l := by omega
      _ = 2 ^ w * (ungroups w l + 1) := by ring
      _ ≤ 2 ^ w * 2 ^ (w * l.length) := Nat.mul_le_mul_left _ ih

theorem groups_ungroups (w : Nat) (l : List Nat) (h : ∀ x ∈ l, x < 2 ^ w) : groups w l.length (ungroups w l) = l := by
  induction l with
  | nil => rfl
  | cons x l ih =>
    have hx := h x (by simp)
    rw [ungroups, List.length_cons, groups, Nat.mod_eq_of_lt hx, Nat.add_mul_mod_self_left, Nat.mod_eq_of_lt hx,
      Nat.add_mul_div_left _ _ (Nat.two_pow_pos _), Nat.div_eq_of_lt hx, Nat.zero_add, ih fun y hy => h y (by simp [hy])]

theorem ungroups_groups (w k v : Nat) : ungroups w (groups w k v) = v % 2 ^ (w * k) := by
  induction k generalizing v with
  | zero => simp [groups, ungroups, Nat.mod_one]
  | succ k ih =>
    rw [groups, ungroups, ih, Nat.mod_mod, Nat.mul_succ, Nat.add_comm (w * k) w, pow_add, Nat.mod_mul]

theorem length_groups (w k v : Nat) : (groups w k v).length = k := by
  induction k generalizing v with
  | zero => rfl
  | succ k ih => rw [groups, List.length_cons, ih]

theorem groups_lt (w k v : Nat) : ∀ x ∈ groups w k v, x < 2 ^ w := by
  induction k generalizing v with
  | zero => simp [groups]
  | succ k ih =>
    intro x hx
    rw [groups, List.mem_cons] at hx
    rcases hx with rfl | hx
    · exact Nat.mod_lt _ (Nat.two_pow_pos _)
    · exact ih _ x hx

/-- A syndrome fits the positions' bits. -/
theorem hamSyndrome_lt (last width d n : Nat) (h : ∀ p ∈ hamPositions last, p < 2 ^ n) : hamSyndrome last width d < 2 ^ n := by
  unfold hamSyndrome
  have : ∀ (l : List (Nat × Nat)) (a : Nat), (∀ p ∈ l, p.1 < 2 ^ n) → a < 2 ^ n →
      l.foldl (fun a p => if bit d p.2 then a ^^^ p.1 else a) a < 2 ^ n := by
    intro l
    induction l with
    | nil => intro a _ ha; exact ha
    | cons x l ih =>
      intro a hl ha
      rw [List.foldl_cons]
      refine ih _ (fun p hp => hl p (by simp [hp])) ?_
      split
      · exact Nat.xor_lt_two_pow ha (hl x (by simp))
      · exact ha
  refine this _ 0 (fun p hp => h _ (List.of_mem_zip hp).1) (Nat.two_pow_pos _)

end Sys2Proof.Machine
end

