-- ==== Sys2Proof/Laws/State.lean ====
section
/-! SUPPORT. What the shared register, fault and output operations leave alone, and what a register reads after a write. -/

namespace Sys2Proof.Machine

@[simp] theorem State.setReg_staged (s : State) (off : Nat) (v : Word) (i : Nat) :
    (s.setReg off v i).staged = s.staged := by exact rfl
@[simp] theorem State.setReg_locked (s : State) (off : Nat) (v : Word) (i : Nat) :
    (s.setReg off v i).locked = s.locked := by exact rfl
@[simp] theorem State.setReg_firsts (s : State) (off : Nat) (v : Word) (i : Nat) :
    (s.setReg off v i).firsts = s.firsts := by exact rfl
@[simp] theorem State.setReg_time (s : State) (off : Nat) (v : Word) (i : Nat) :
    (s.setReg off v i).time = s.time := by exact rfl
@[simp] theorem State.setReg_flt (s : State) (off : Nat) (v : Word) (i : Nat) : (s.setReg off v i).flt = s.flt := by exact rfl
@[simp] theorem State.setReg_out (s : State) (off : Nat) (v : Word) (i : Nat) : (s.setReg off v i).out = s.out := by exact rfl
@[simp] theorem State.setReg_vx (s : State) (off : Nat) (v : Word) (i : Nat) : (s.setReg off v i).vx = s.vx := by exact rfl
@[simp] theorem State.setReg_fab (s : State) (off : Nat) (v : Word) (i : Nat) : (s.setReg off v i).fab = s.fab := by exact rfl
@[simp] theorem State.setReg_ctx (s : State) (off : Nat) (v : Word) (i : Nat) : (s.setReg off v i).ctx = s.ctx := by exact rfl
@[simp] theorem State.setReg_mem (s : State) (off : Nat) (v : Word) (i : Nat) : (s.setReg off v i).mem = s.mem := by exact rfl
@[simp] theorem State.setReg_eng (s : State) (off : Nat) (v : Word) (i : Nat) : (s.setReg off v i).eng = s.eng := by exact rfl
@[simp] theorem State.setReg_sems (s : State) (off : Nat) (v : Word) (i : Nat) :
    (s.setReg off v i).sems = s.sems := by exact rfl
@[simp] theorem State.setReg_noc (s : State) (off : Nat) (v : Word) (i : Nat) : (s.setReg off v i).noc = s.noc := by exact rfl
@[simp] theorem State.setReg_qm (s : State) (off : Nat) (v : Word) (i : Nat) : (s.setReg off v i).qm = s.qm := by exact rfl
@[simp] theorem State.setReg_flow (s : State) (off : Nat) (v : Word) (i : Nat) :
    (s.setReg off v i).flow = s.flow := by exact rfl
@[simp] theorem State.setReg_lp (s : State) (off : Nat) (v : Word) (i : Nat) : (s.setReg off v i).lp = s.lp := by exact rfl
@[simp] theorem State.setReg_mee (s : State) (off : Nat) (v : Word) (i : Nat) : (s.setReg off v i).mee = s.mee := by exact rfl
@[simp] theorem State.setReg_ln (s : State) (off : Nat) (v : Word) (i : Nat) : (s.setReg off v i).ln = s.ln := by exact rfl
@[simp] theorem State.setReg_gr (s : State) (off : Nat) (v : Word) (i : Nat) : (s.setReg off v i).gr = s.gr := by exact rfl
@[simp] theorem State.setReg_eth (s : State) (off : Nat) (v : Word) (i : Nat) : (s.setReg off v i).eth = s.eth := by exact rfl
@[simp] theorem State.setReg_pci (s : State) (off : Nat) (v : Word) (i : Nat) : (s.setReg off v i).pci = s.pci := by exact rfl
@[simp] theorem State.setReg_mgt (s : State) (off : Nat) (v : Word) (i : Nat) : (s.setReg off v i).mgt = s.mgt := by exact rfl
@[simp] theorem State.setReg_secu (s : State) (off : Nat) (v : Word) (i : Nat) :
    (s.setReg off v i).secu = s.secu := by exact rfl
@[simp] theorem State.setReg_stu (s : State) (off : Nat) (v : Word) (i : Nat) : (s.setReg off v i).stu = s.stu := by exact rfl
@[simp] theorem State.setReg_ci (s : State) (off : Nat) (v : Word) (i : Nat) : (s.setReg off v i).ci = s.ci := by exact rfl
@[simp] theorem State.setReg_clk (s : State) (off : Nat) (v : Word) (i : Nat) : (s.setReg off v i).clk = s.clk := by exact rfl
@[simp] theorem State.setReg_pm (s : State) (off : Nat) (v : Word) (i : Nat) : (s.setReg off v i).pm = s.pm := by exact rfl
@[simp] theorem State.setReg_th (s : State) (off : Nat) (v : Word) (i : Nat) : (s.setReg off v i).th = s.th := by exact rfl
@[simp] theorem State.setReg_prm (s : State) (off : Nat) (v : Word) (i : Nat) : (s.setReg off v i).prm = s.prm := by exact rfl
@[simp] theorem State.setReg_sp (s : State) (off : Nat) (v : Word) (i : Nat) : (s.setReg off v i).sp = s.sp := by exact rfl
@[simp] theorem State.setReg_freeIdx (s : State) (off : Nat) (v : Word) (i : Nat) :
    (s.setReg off v i).freeIdx = s.freeIdx := by exact rfl
@[simp] theorem State.setReg_pending (s : State) (off : Nat) (v : Word) (i : Nat) :
    (s.setReg off v i).pending = s.pending := by exact rfl

@[simp] theorem State.setFld_staged (s : State) (f : FieldRef) (v i : Nat) : (s.setFld f v i).staged = s.staged := by exact rfl
@[simp] theorem State.setFld_locked (s : State) (f : FieldRef) (v i : Nat) : (s.setFld f v i).locked = s.locked := by exact rfl
@[simp] theorem State.setFld_firsts (s : State) (f : FieldRef) (v i : Nat) : (s.setFld f v i).firsts = s.firsts := by exact rfl
@[simp] theorem State.setFld_time (s : State) (f : FieldRef) (v i : Nat) : (s.setFld f v i).time = s.time := by exact rfl
@[simp] theorem State.setFld_flt (s : State) (f : FieldRef) (v i : Nat) : (s.setFld f v i).flt = s.flt := by exact rfl
@[simp] theorem State.setFld_out (s : State) (f : FieldRef) (v i : Nat) : (s.setFld f v i).out = s.out := by exact rfl
@[simp] theorem State.setFld_vx (s : State) (f : FieldRef) (v i : Nat) : (s.setFld f v i).vx = s.vx := by exact rfl
@[simp] theorem State.setFld_fab (s : State) (f : FieldRef) (v i : Nat) : (s.setFld f v i).fab = s.fab := by exact rfl
@[simp] theorem State.setFld_ctx (s : State) (f : FieldRef) (v i : Nat) : (s.setFld f v i).ctx = s.ctx := by exact rfl
@[simp] theorem State.setFld_mem (s : State) (f : FieldRef) (v i : Nat) : (s.setFld f v i).mem = s.mem := by exact rfl
@[simp] theorem State.setFld_eng (s : State) (f : FieldRef) (v i : Nat) : (s.setFld f v i).eng = s.eng := by exact rfl
@[simp] theorem State.setFld_sems (s : State) (f : FieldRef) (v i : Nat) : (s.setFld f v i).sems = s.sems := by exact rfl
@[simp] theorem State.setFld_noc (s : State) (f : FieldRef) (v i : Nat) : (s.setFld f v i).noc = s.noc := by exact rfl
@[simp] theorem State.setFld_qm (s : State) (f : FieldRef) (v i : Nat) : (s.setFld f v i).qm = s.qm := by exact rfl
@[simp] theorem State.setFld_flow (s : State) (f : FieldRef) (v i : Nat) : (s.setFld f v i).flow = s.flow := by exact rfl
@[simp] theorem State.setFld_lp (s : State) (f : FieldRef) (v i : Nat) : (s.setFld f v i).lp = s.lp := by exact rfl
@[simp] theorem State.setFld_mee (s : State) (f : FieldRef) (v i : Nat) : (s.setFld f v i).mee = s.mee := by exact rfl
@[simp] theorem State.setFld_ln (s : State) (f : FieldRef) (v i : Nat) : (s.setFld f v i).ln = s.ln := by exact rfl
@[simp] theorem State.setFld_gr (s : State) (f : FieldRef) (v i : Nat) : (s.setFld f v i).gr = s.gr := by exact rfl
@[simp] theorem State.setFld_eth (s : State) (f : FieldRef) (v i : Nat) : (s.setFld f v i).eth = s.eth := by exact rfl
@[simp] theorem State.setFld_pci (s : State) (f : FieldRef) (v i : Nat) : (s.setFld f v i).pci = s.pci := by exact rfl
@[simp] theorem State.setFld_mgt (s : State) (f : FieldRef) (v i : Nat) : (s.setFld f v i).mgt = s.mgt := by exact rfl
@[simp] theorem State.setFld_secu (s : State) (f : FieldRef) (v i : Nat) : (s.setFld f v i).secu = s.secu := by exact rfl
@[simp] theorem State.setFld_stu (s : State) (f : FieldRef) (v i : Nat) : (s.setFld f v i).stu = s.stu := by exact rfl
@[simp] theorem State.setFld_ci (s : State) (f : FieldRef) (v i : Nat) : (s.setFld f v i).ci = s.ci := by exact rfl
@[simp] theorem State.setFld_clk (s : State) (f : FieldRef) (v i : Nat) : (s.setFld f v i).clk = s.clk := by exact rfl
@[simp] theorem State.setFld_pm (s : State) (f : FieldRef) (v i : Nat) : (s.setFld f v i).pm = s.pm := by exact rfl
@[simp] theorem State.setFld_th (s : State) (f : FieldRef) (v i : Nat) : (s.setFld f v i).th = s.th := by exact rfl
@[simp] theorem State.setFld_prm (s : State) (f : FieldRef) (v i : Nat) : (s.setFld f v i).prm = s.prm := by exact rfl
@[simp] theorem State.setFld_sp (s : State) (f : FieldRef) (v i : Nat) : (s.setFld f v i).sp = s.sp := by exact rfl
@[simp] theorem State.setFld_freeIdx (s : State) (f : FieldRef) (v i : Nat) :
    (s.setFld f v i).freeIdx = s.freeIdx := by exact rfl
@[simp] theorem State.setFld_pending (s : State) (f : FieldRef) (v i : Nat) :
    (s.setFld f v i).pending = s.pending := by exact rfl

@[simp] theorem State.setFlag_staged (s : State) (f : FieldRef) (b : Bool) (i : Nat) :
    (s.setFlag f b i).staged = s.staged := by exact rfl
@[simp] theorem State.setFlag_locked (s : State) (f : FieldRef) (b : Bool) (i : Nat) :
    (s.setFlag f b i).locked = s.locked := by exact rfl
@[simp] theorem State.setFlag_firsts (s : State) (f : FieldRef) (b : Bool) (i : Nat) :
    (s.setFlag f b i).firsts = s.firsts := by exact rfl
@[simp] theorem State.setFlag_time (s : State) (f : FieldRef) (b : Bool) (i : Nat) :
    (s.setFlag f b i).time = s.time := by exact rfl
@[simp] theorem State.setFlag_flt (s : State) (f : FieldRef) (b : Bool) (i : Nat) :
    (s.setFlag f b i).flt = s.flt := by exact rfl
@[simp] theorem State.setFlag_out (s : State) (f : FieldRef) (b : Bool) (i : Nat) :
    (s.setFlag f b i).out = s.out := by exact rfl
@[simp] theorem State.setFlag_vx (s : State) (f : FieldRef) (b : Bool) (i : Nat) : (s.setFlag f b i).vx = s.vx := by exact rfl
@[simp] theorem State.setFlag_fab (s : State) (f : FieldRef) (b : Bool) (i : Nat) :
    (s.setFlag f b i).fab = s.fab := by exact rfl
@[simp] theorem State.setFlag_ctx (s : State) (f : FieldRef) (b : Bool) (i : Nat) :
    (s.setFlag f b i).ctx = s.ctx := by exact rfl
@[simp] theorem State.setFlag_mem (s : State) (f : FieldRef) (b : Bool) (i : Nat) :
    (s.setFlag f b i).mem = s.mem := by exact rfl
@[simp] theorem State.setFlag_eng (s : State) (f : FieldRef) (b : Bool) (i : Nat) :
    (s.setFlag f b i).eng = s.eng := by exact rfl
@[simp] theorem State.setFlag_sems (s : State) (f : FieldRef) (b : Bool) (i : Nat) :
    (s.setFlag f b i).sems = s.sems := by exact rfl
@[simp] theorem State.setFlag_noc (s : State) (f : FieldRef) (b : Bool) (i : Nat) :
    (s.setFlag f b i).noc = s.noc := by exact rfl
@[simp] theorem State.setFlag_qm (s : State) (f : FieldRef) (b : Bool) (i : Nat) : (s.setFlag f b i).qm = s.qm := by exact rfl
@[simp] theorem State.setFlag_flow (s : State) (f : FieldRef) (b : Bool) (i : Nat) :
    (s.setFlag f b i).flow = s.flow := by exact rfl
@[simp] theorem State.setFlag_lp (s : State) (f : FieldRef) (b : Bool) (i : Nat) : (s.setFlag f b i).lp = s.lp := by exact rfl
@[simp] theorem State.setFlag_mee (s : State) (f : FieldRef) (b : Bool) (i : Nat) :
    (s.setFlag f b i).mee = s.mee := by exact rfl
@[simp] theorem State.setFlag_ln (s : State) (f : FieldRef) (b : Bool) (i : Nat) : (s.setFlag f b i).ln = s.ln := by exact rfl
@[simp] theorem State.setFlag_gr (s : State) (f : FieldRef) (b : Bool) (i : Nat) : (s.setFlag f b i).gr = s.gr := by exact rfl
@[simp] theorem State.setFlag_eth (s : State) (f : FieldRef) (b : Bool) (i : Nat) :
    (s.setFlag f b i).eth = s.eth := by exact rfl
@[simp] theorem State.setFlag_pci (s : State) (f : FieldRef) (b : Bool) (i : Nat) :
    (s.setFlag f b i).pci = s.pci := by exact rfl
@[simp] theorem State.setFlag_mgt (s : State) (f : FieldRef) (b : Bool) (i : Nat) :
    (s.setFlag f b i).mgt = s.mgt := by exact rfl
@[simp] theorem State.setFlag_secu (s : State) (f : FieldRef) (b : Bool) (i : Nat) :
    (s.setFlag f b i).secu = s.secu := by exact rfl
@[simp] theorem State.setFlag_stu (s : State) (f : FieldRef) (b : Bool) (i : Nat) :
    (s.setFlag f b i).stu = s.stu := by exact rfl
@[simp] theorem State.setFlag_ci (s : State) (f : FieldRef) (b : Bool) (i : Nat) : (s.setFlag f b i).ci = s.ci := by exact rfl
@[simp] theorem State.setFlag_clk (s : State) (f : FieldRef) (b : Bool) (i : Nat) :
    (s.setFlag f b i).clk = s.clk := by exact rfl
@[simp] theorem State.setFlag_pm (s : State) (f : FieldRef) (b : Bool) (i : Nat) : (s.setFlag f b i).pm = s.pm := by exact rfl
@[simp] theorem State.setFlag_th (s : State) (f : FieldRef) (b : Bool) (i : Nat) : (s.setFlag f b i).th = s.th := by exact rfl
@[simp] theorem State.setFlag_prm (s : State) (f : FieldRef) (b : Bool) (i : Nat) :
    (s.setFlag f b i).prm = s.prm := by exact rfl
@[simp] theorem State.setFlag_sp (s : State) (f : FieldRef) (b : Bool) (i : Nat) : (s.setFlag f b i).sp = s.sp := by exact rfl
@[simp] theorem State.setFlag_freeIdx (s : State) (f : FieldRef) (b : Bool) (i : Nat) :
    (s.setFlag f b i).freeIdx = s.freeIdx := by exact rfl
@[simp] theorem State.setFlag_pending (s : State) (f : FieldRef) (b : Bool) (i : Nat) :
    (s.setFlag f b i).pending = s.pending := by exact rfl

@[simp] theorem State.count_staged (s : State) (f : FieldRef) (n i : Nat) : (s.count f n i).staged = s.staged := by exact rfl
@[simp] theorem State.count_locked (s : State) (f : FieldRef) (n i : Nat) : (s.count f n i).locked = s.locked := by exact rfl
@[simp] theorem State.count_firsts (s : State) (f : FieldRef) (n i : Nat) : (s.count f n i).firsts = s.firsts := by exact rfl
@[simp] theorem State.count_time (s : State) (f : FieldRef) (n i : Nat) : (s.count f n i).time = s.time := by exact rfl
@[simp] theorem State.count_flt (s : State) (f : FieldRef) (n i : Nat) : (s.count f n i).flt = s.flt := by exact rfl
@[simp] theorem State.count_out (s : State) (f : FieldRef) (n i : Nat) : (s.count f n i).out = s.out := by exact rfl
@[simp] theorem State.count_vx (s : State) (f : FieldRef) (n i : Nat) : (s.count f n i).vx = s.vx := by exact rfl
@[simp] theorem State.count_fab (s : State) (f : FieldRef) (n i : Nat) : (s.count f n i).fab = s.fab := by exact rfl
@[simp] theorem State.count_ctx (s : State) (f : FieldRef) (n i : Nat) : (s.count f n i).ctx = s.ctx := by exact rfl
@[simp] theorem State.count_mem (s : State) (f : FieldRef) (n i : Nat) : (s.count f n i).mem = s.mem := by exact rfl
@[simp] theorem State.count_eng (s : State) (f : FieldRef) (n i : Nat) : (s.count f n i).eng = s.eng := by exact rfl
@[simp] theorem State.count_sems (s : State) (f : FieldRef) (n i : Nat) : (s.count f n i).sems = s.sems := by exact rfl
@[simp] theorem State.count_noc (s : State) (f : FieldRef) (n i : Nat) : (s.count f n i).noc = s.noc := by exact rfl
@[simp] theorem State.count_qm (s : State) (f : FieldRef) (n i : Nat) : (s.count f n i).qm = s.qm := by exact rfl
@[simp] theorem State.count_flow (s : State) (f : FieldRef) (n i : Nat) : (s.count f n i).flow = s.flow := by exact rfl
@[simp] theorem State.count_lp (s : State) (f : FieldRef) (n i : Nat) : (s.count f n i).lp = s.lp := by exact rfl
@[simp] theorem State.count_mee (s : State) (f : FieldRef) (n i : Nat) : (s.count f n i).mee = s.mee := by exact rfl
@[simp] theorem State.count_ln (s : State) (f : FieldRef) (n i : Nat) : (s.count f n i).ln = s.ln := by exact rfl
@[simp] theorem State.count_gr (s : State) (f : FieldRef) (n i : Nat) : (s.count f n i).gr = s.gr := by exact rfl
@[simp] theorem State.count_eth (s : State) (f : FieldRef) (n i : Nat) : (s.count f n i).eth = s.eth := by exact rfl
@[simp] theorem State.count_pci (s : State) (f : FieldRef) (n i : Nat) : (s.count f n i).pci = s.pci := by exact rfl
@[simp] theorem State.count_mgt (s : State) (f : FieldRef) (n i : Nat) : (s.count f n i).mgt = s.mgt := by exact rfl
@[simp] theorem State.count_secu (s : State) (f : FieldRef) (n i : Nat) : (s.count f n i).secu = s.secu := by exact rfl
@[simp] theorem State.count_stu (s : State) (f : FieldRef) (n i : Nat) : (s.count f n i).stu = s.stu := by exact rfl
@[simp] theorem State.count_ci (s : State) (f : FieldRef) (n i : Nat) : (s.count f n i).ci = s.ci := by exact rfl
@[simp] theorem State.count_clk (s : State) (f : FieldRef) (n i : Nat) : (s.count f n i).clk = s.clk := by exact rfl
@[simp] theorem State.count_pm (s : State) (f : FieldRef) (n i : Nat) : (s.count f n i).pm = s.pm := by exact rfl
@[simp] theorem State.count_th (s : State) (f : FieldRef) (n i : Nat) : (s.count f n i).th = s.th := by exact rfl
@[simp] theorem State.count_prm (s : State) (f : FieldRef) (n i : Nat) : (s.count f n i).prm = s.prm := by exact rfl
@[simp] theorem State.count_sp (s : State) (f : FieldRef) (n i : Nat) : (s.count f n i).sp = s.sp := by exact rfl
@[simp] theorem State.count_freeIdx (s : State) (f : FieldRef) (n i : Nat) : (s.count f n i).freeIdx = s.freeIdx := by exact rfl
@[simp] theorem State.count_pending (s : State) (f : FieldRef) (n i : Nat) : (s.count f n i).pending = s.pending := by exact rfl

@[simp] theorem State.countWrap_staged (s : State) (f : FieldRef) (n i : Nat) :
    (s.countWrap f n i).staged = s.staged := by exact rfl
@[simp] theorem State.countWrap_locked (s : State) (f : FieldRef) (n i : Nat) :
    (s.countWrap f n i).locked = s.locked := by exact rfl
@[simp] theorem State.countWrap_firsts (s : State) (f : FieldRef) (n i : Nat) :
    (s.countWrap f n i).firsts = s.firsts := by exact rfl
@[simp] theorem State.countWrap_time (s : State) (f : FieldRef) (n i : Nat) : (s.countWrap f n i).time = s.time := by exact rfl
@[simp] theorem State.countWrap_flt (s : State) (f : FieldRef) (n i : Nat) : (s.countWrap f n i).flt = s.flt := by exact rfl
@[simp] theorem State.countWrap_out (s : State) (f : FieldRef) (n i : Nat) : (s.countWrap f n i).out = s.out := by exact rfl
@[simp] theorem State.countWrap_vx (s : State) (f : FieldRef) (n i : Nat) : (s.countWrap f n i).vx = s.vx := by exact rfl
@[simp] theorem State.countWrap_fab (s : State) (f : FieldRef) (n i : Nat) : (s.countWrap f n i).fab = s.fab := by exact rfl
@[simp] theorem State.countWrap_ctx (s : State) (f : FieldRef) (n i : Nat) : (s.countWrap f n i).ctx = s.ctx := by exact rfl
@[simp] theorem State.countWrap_mem (s : State) (f : FieldRef) (n i : Nat) : (s.countWrap f n i).mem = s.mem := by exact rfl
@[simp] theorem State.countWrap_eng (s : State) (f : FieldRef) (n i : Nat) : (s.countWrap f n i).eng = s.eng := by exact rfl
@[simp] theorem State.countWrap_sems (s : State) (f : FieldRef) (n i : Nat) : (s.countWrap f n i).sems = s.sems := by exact rfl
@[simp] theorem State.countWrap_noc (s : State) (f : FieldRef) (n i : Nat) : (s.countWrap f n i).noc = s.noc := by exact rfl
@[simp] theorem State.countWrap_qm (s : State) (f : FieldRef) (n i : Nat) : (s.countWrap f n i).qm = s.qm := by exact rfl
@[simp] theorem State.countWrap_flow (s : State) (f : FieldRef) (n i : Nat) : (s.countWrap f n i).flow = s.flow := by exact rfl
@[simp] theorem State.countWrap_lp (s : State) (f : FieldRef) (n i : Nat) : (s.countWrap f n i).lp = s.lp := by exact rfl
@[simp] theorem State.countWrap_mee (s : State) (f : FieldRef) (n i : Nat) : (s.countWrap f n i).mee = s.mee := by exact rfl
@[simp] theorem State.countWrap_ln (s : State) (f : FieldRef) (n i : Nat) : (s.countWrap f n i).ln = s.ln := by exact rfl
@[simp] theorem State.countWrap_gr (s : State) (f : FieldRef) (n i : Nat) : (s.countWrap f n i).gr = s.gr := by exact rfl
@[simp] theorem State.countWrap_eth (s : State) (f : FieldRef) (n i : Nat) : (s.countWrap f n i).eth = s.eth := by exact rfl
@[simp] theorem State.countWrap_pci (s : State) (f : FieldRef) (n i : Nat) : (s.countWrap f n i).pci = s.pci := by exact rfl
@[simp] theorem State.countWrap_mgt (s : State) (f : FieldRef) (n i : Nat) : (s.countWrap f n i).mgt = s.mgt := by exact rfl
@[simp] theorem State.countWrap_secu (s : State) (f : FieldRef) (n i : Nat) : (s.countWrap f n i).secu = s.secu := by exact rfl
@[simp] theorem State.countWrap_stu (s : State) (f : FieldRef) (n i : Nat) : (s.countWrap f n i).stu = s.stu := by exact rfl
@[simp] theorem State.countWrap_ci (s : State) (f : FieldRef) (n i : Nat) : (s.countWrap f n i).ci = s.ci := by exact rfl
@[simp] theorem State.countWrap_clk (s : State) (f : FieldRef) (n i : Nat) : (s.countWrap f n i).clk = s.clk := by exact rfl
@[simp] theorem State.countWrap_pm (s : State) (f : FieldRef) (n i : Nat) : (s.countWrap f n i).pm = s.pm := by exact rfl
@[simp] theorem State.countWrap_th (s : State) (f : FieldRef) (n i : Nat) : (s.countWrap f n i).th = s.th := by exact rfl
@[simp] theorem State.countWrap_prm (s : State) (f : FieldRef) (n i : Nat) : (s.countWrap f n i).prm = s.prm := by exact rfl
@[simp] theorem State.countWrap_sp (s : State) (f : FieldRef) (n i : Nat) : (s.countWrap f n i).sp = s.sp := by exact rfl
@[simp] theorem State.countWrap_freeIdx (s : State) (f : FieldRef) (n i : Nat) :
    (s.countWrap f n i).freeIdx = s.freeIdx := by exact rfl
@[simp] theorem State.countWrap_pending (s : State) (f : FieldRef) (n i : Nat) :
    (s.countWrap f n i).pending = s.pending := by exact rfl

@[simp] theorem State.setPair_staged (s : State) (lo hi v i : Nat) : (s.setPair lo hi v i).staged = s.staged := by exact rfl
@[simp] theorem State.setPair_locked (s : State) (lo hi v i : Nat) : (s.setPair lo hi v i).locked = s.locked := by exact rfl
@[simp] theorem State.setPair_firsts (s : State) (lo hi v i : Nat) : (s.setPair lo hi v i).firsts = s.firsts := by exact rfl
@[simp] theorem State.setPair_time (s : State) (lo hi v i : Nat) : (s.setPair lo hi v i).time = s.time := by exact rfl
@[simp] theorem State.setPair_flt (s : State) (lo hi v i : Nat) : (s.setPair lo hi v i).flt = s.flt := by exact rfl
@[simp] theorem State.setPair_out (s : State) (lo hi v i : Nat) : (s.setPair lo hi v i).out = s.out := by exact rfl
@[simp] theorem State.setPair_vx (s : State) (lo hi v i : Nat) : (s.setPair lo hi v i).vx = s.vx := by exact rfl
@[simp] theorem State.setPair_fab (s : State) (lo hi v i : Nat) : (s.setPair lo hi v i).fab = s.fab := by exact rfl
@[simp] theorem State.setPair_ctx (s : State) (lo hi v i : Nat) : (s.setPair lo hi v i).ctx = s.ctx := by exact rfl
@[simp] theorem State.setPair_mem (s : State) (lo hi v i : Nat) : (s.setPair lo hi v i).mem = s.mem := by exact rfl
@[simp] theorem State.setPair_eng (s : State) (lo hi v i : Nat) : (s.setPair lo hi v i).eng = s.eng := by exact rfl
@[simp] theorem State.setPair_sems (s : State) (lo hi v i : Nat) : (s.setPair lo hi v i).sems = s.sems := by exact rfl
@[simp] theorem State.setPair_noc (s : State) (lo hi v i : Nat) : (s.setPair lo hi v i).noc = s.noc := by exact rfl
@[simp] theorem State.setPair_qm (s : State) (lo hi v i : Nat) : (s.setPair lo hi v i).qm = s.qm := by exact rfl
@[simp] theorem State.setPair_flow (s : State) (lo hi v i : Nat) : (s.setPair lo hi v i).flow = s.flow := by exact rfl
@[simp] theorem State.setPair_lp (s : State) (lo hi v i : Nat) : (s.setPair lo hi v i).lp = s.lp := by exact rfl
@[simp] theorem State.setPair_mee (s : State) (lo hi v i : Nat) : (s.setPair lo hi v i).mee = s.mee := by exact rfl
@[simp] theorem State.setPair_ln (s : State) (lo hi v i : Nat) : (s.setPair lo hi v i).ln = s.ln := by exact rfl
@[simp] theorem State.setPair_gr (s : State) (lo hi v i : Nat) : (s.setPair lo hi v i).gr = s.gr := by exact rfl
@[simp] theorem State.setPair_eth (s : State) (lo hi v i : Nat) : (s.setPair lo hi v i).eth = s.eth := by exact rfl
@[simp] theorem State.setPair_pci (s : State) (lo hi v i : Nat) : (s.setPair lo hi v i).pci = s.pci := by exact rfl
@[simp] theorem State.setPair_mgt (s : State) (lo hi v i : Nat) : (s.setPair lo hi v i).mgt = s.mgt := by exact rfl
@[simp] theorem State.setPair_secu (s : State) (lo hi v i : Nat) : (s.setPair lo hi v i).secu = s.secu := by exact rfl
@[simp] theorem State.setPair_stu (s : State) (lo hi v i : Nat) : (s.setPair lo hi v i).stu = s.stu := by exact rfl
@[simp] theorem State.setPair_ci (s : State) (lo hi v i : Nat) : (s.setPair lo hi v i).ci = s.ci := by exact rfl
@[simp] theorem State.setPair_clk (s : State) (lo hi v i : Nat) : (s.setPair lo hi v i).clk = s.clk := by exact rfl
@[simp] theorem State.setPair_pm (s : State) (lo hi v i : Nat) : (s.setPair lo hi v i).pm = s.pm := by exact rfl
@[simp] theorem State.setPair_th (s : State) (lo hi v i : Nat) : (s.setPair lo hi v i).th = s.th := by exact rfl
@[simp] theorem State.setPair_prm (s : State) (lo hi v i : Nat) : (s.setPair lo hi v i).prm = s.prm := by exact rfl
@[simp] theorem State.setPair_sp (s : State) (lo hi v i : Nat) : (s.setPair lo hi v i).sp = s.sp := by exact rfl
@[simp] theorem State.setPair_freeIdx (s : State) (lo hi v i : Nat) : (s.setPair lo hi v i).freeIdx = s.freeIdx := by exact rfl
@[simp] theorem State.setPair_pending (s : State) (lo hi v i : Nat) : (s.setPair lo hi v i).pending = s.pending := by exact rfl

@[simp] theorem State.raise_csr (s : State) (f : FaultCode) (l : List Nat) (src : Nat) :
    (s.raise f l src).csr = s.csr := by exact rfl
@[simp] theorem State.raise_staged (s : State) (f : FaultCode) (l : List Nat) (src : Nat) :
    (s.raise f l src).staged = s.staged := by exact rfl
@[simp] theorem State.raise_locked (s : State) (f : FaultCode) (l : List Nat) (src : Nat) :
    (s.raise f l src).locked = s.locked := by exact rfl
@[simp] theorem State.raise_firsts (s : State) (f : FaultCode) (l : List Nat) (src : Nat) :
    (s.raise f l src).firsts = s.firsts := by exact rfl
@[simp] theorem State.raise_time (s : State) (f : FaultCode) (l : List Nat) (src : Nat) :
    (s.raise f l src).time = s.time := by exact rfl
@[simp] theorem State.raise_out (s : State) (f : FaultCode) (l : List Nat) (src : Nat) :
    (s.raise f l src).out = s.out := by exact rfl
@[simp] theorem State.raise_vx (s : State) (f : FaultCode) (l : List Nat) (src : Nat) :
    (s.raise f l src).vx = s.vx := by exact rfl
@[simp] theorem State.raise_fab (s : State) (f : FaultCode) (l : List Nat) (src : Nat) :
    (s.raise f l src).fab = s.fab := by exact rfl
@[simp] theorem State.raise_ctx (s : State) (f : FaultCode) (l : List Nat) (src : Nat) :
    (s.raise f l src).ctx = s.ctx := by exact rfl
@[simp] theorem State.raise_mem (s : State) (f : FaultCode) (l : List Nat) (src : Nat) :
    (s.raise f l src).mem = s.mem := by exact rfl
@[simp] theorem State.raise_eng (s : State) (f : FaultCode) (l : List Nat) (src : Nat) :
    (s.raise f l src).eng = s.eng := by exact rfl
@[simp] theorem State.raise_sems (s : State) (f : FaultCode) (l : List Nat) (src : Nat) :
    (s.raise f l src).sems = s.sems := by exact rfl
@[simp] theorem State.raise_noc (s : State) (f : FaultCode) (l : List Nat) (src : Nat) :
    (s.raise f l src).noc = s.noc := by exact rfl
@[simp] theorem State.raise_qm (s : State) (f : FaultCode) (l : List Nat) (src : Nat) :
    (s.raise f l src).qm = s.qm := by exact rfl
@[simp] theorem State.raise_flow (s : State) (f : FaultCode) (l : List Nat) (src : Nat) :
    (s.raise f l src).flow = s.flow := by exact rfl
@[simp] theorem State.raise_lp (s : State) (f : FaultCode) (l : List Nat) (src : Nat) :
    (s.raise f l src).lp = s.lp := by exact rfl
@[simp] theorem State.raise_mee (s : State) (f : FaultCode) (l : List Nat) (src : Nat) :
    (s.raise f l src).mee = s.mee := by exact rfl
@[simp] theorem State.raise_ln (s : State) (f : FaultCode) (l : List Nat) (src : Nat) :
    (s.raise f l src).ln = s.ln := by exact rfl
@[simp] theorem State.raise_gr (s : State) (f : FaultCode) (l : List Nat) (src : Nat) :
    (s.raise f l src).gr = s.gr := by exact rfl
@[simp] theorem State.raise_eth (s : State) (f : FaultCode) (l : List Nat) (src : Nat) :
    (s.raise f l src).eth = s.eth := by exact rfl
@[simp] theorem State.raise_pci (s : State) (f : FaultCode) (l : List Nat) (src : Nat) :
    (s.raise f l src).pci = s.pci := by exact rfl
@[simp] theorem State.raise_mgt (s : State) (f : FaultCode) (l : List Nat) (src : Nat) :
    (s.raise f l src).mgt = s.mgt := by exact rfl
@[simp] theorem State.raise_secu (s : State) (f : FaultCode) (l : List Nat) (src : Nat) :
    (s.raise f l src).secu = s.secu := by exact rfl
@[simp] theorem State.raise_stu (s : State) (f : FaultCode) (l : List Nat) (src : Nat) :
    (s.raise f l src).stu = s.stu := by exact rfl
@[simp] theorem State.raise_ci (s : State) (f : FaultCode) (l : List Nat) (src : Nat) :
    (s.raise f l src).ci = s.ci := by exact rfl
@[simp] theorem State.raise_clk (s : State) (f : FaultCode) (l : List Nat) (src : Nat) :
    (s.raise f l src).clk = s.clk := by exact rfl
@[simp] theorem State.raise_pm (s : State) (f : FaultCode) (l : List Nat) (src : Nat) :
    (s.raise f l src).pm = s.pm := by exact rfl
@[simp] theorem State.raise_th (s : State) (f : FaultCode) (l : List Nat) (src : Nat) :
    (s.raise f l src).th = s.th := by exact rfl
@[simp] theorem State.raise_prm (s : State) (f : FaultCode) (l : List Nat) (src : Nat) :
    (s.raise f l src).prm = s.prm := by exact rfl
@[simp] theorem State.raise_sp (s : State) (f : FaultCode) (l : List Nat) (src : Nat) :
    (s.raise f l src).sp = s.sp := by exact rfl
@[simp] theorem State.raise_freeIdx (s : State) (f : FaultCode) (l : List Nat) (src : Nat) :
    (s.raise f l src).freeIdx = s.freeIdx := by exact rfl
@[simp] theorem State.raise_pending (s : State) (f : FaultCode) (l : List Nat) (src : Nat) :
    (s.raise f l src).pending = s.pending := by exact rfl

@[simp] theorem State.raiseSev_csr (s : State) (f : FaultCode) (sev : Nat) (l : List Nat) (src : Nat) :
    (s.raiseSev f sev l src).csr = s.csr := by exact rfl
@[simp] theorem State.raiseSev_staged (s : State) (f : FaultCode) (sev : Nat) (l : List Nat) (src : Nat) :
    (s.raiseSev f sev l src).staged = s.staged := by exact rfl
@[simp] theorem State.raiseSev_locked (s : State) (f : FaultCode) (sev : Nat) (l : List Nat) (src : Nat) :
    (s.raiseSev f sev l src).locked = s.locked := by exact rfl
@[simp] theorem State.raiseSev_firsts (s : State) (f : FaultCode) (sev : Nat) (l : List Nat) (src : Nat) :
    (s.raiseSev f sev l src).firsts = s.firsts := by exact rfl
@[simp] theorem State.raiseSev_time (s : State) (f : FaultCode) (sev : Nat) (l : List Nat) (src : Nat) :
    (s.raiseSev f sev l src).time = s.time := by exact rfl
@[simp] theorem State.raiseSev_out (s : State) (f : FaultCode) (sev : Nat) (l : List Nat) (src : Nat) :
    (s.raiseSev f sev l src).out = s.out := by exact rfl
@[simp] theorem State.raiseSev_vx (s : State) (f : FaultCode) (sev : Nat) (l : List Nat) (src : Nat) :
    (s.raiseSev f sev l src).vx = s.vx := by exact rfl
@[simp] theorem State.raiseSev_fab (s : State) (f : FaultCode) (sev : Nat) (l : List Nat) (src : Nat) :
    (s.raiseSev f sev l src).fab = s.fab := by exact rfl
@[simp] theorem State.raiseSev_ctx (s : State) (f : FaultCode) (sev : Nat) (l : List Nat) (src : Nat) :
    (s.raiseSev f sev l src).ctx = s.ctx := by exact rfl
@[simp] theorem State.raiseSev_mem (s : State) (f : FaultCode) (sev : Nat) (l : List Nat) (src : Nat) :
    (s.raiseSev f sev l src).mem = s.mem := by exact rfl
@[simp] theorem State.raiseSev_eng (s : State) (f : FaultCode) (sev : Nat) (l : List Nat) (src : Nat) :
    (s.raiseSev f sev l src).eng = s.eng := by exact rfl
@[simp] theorem State.raiseSev_sems (s : State) (f : FaultCode) (sev : Nat) (l : List Nat) (src : Nat) :
    (s.raiseSev f sev l src).sems = s.sems := by exact rfl
@[simp] theorem State.raiseSev_noc (s : State) (f : FaultCode) (sev : Nat) (l : List Nat) (src : Nat) :
    (s.raiseSev f sev l src).noc = s.noc := by exact rfl
@[simp] theorem State.raiseSev_qm (s : State) (f : FaultCode) (sev : Nat) (l : List Nat) (src : Nat) :
    (s.raiseSev f sev l src).qm = s.qm := by exact rfl
@[simp] theorem State.raiseSev_flow (s : State) (f : FaultCode) (sev : Nat) (l : List Nat) (src : Nat) :
    (s.raiseSev f sev l src).flow = s.flow := by exact rfl
@[simp] theorem State.raiseSev_lp (s : State) (f : FaultCode) (sev : Nat) (l : List Nat) (src : Nat) :
    (s.raiseSev f sev l src).lp = s.lp := by exact rfl
@[simp] theorem State.raiseSev_mee (s : State) (f : FaultCode) (sev : Nat) (l : List Nat) (src : Nat) :
    (s.raiseSev f sev l src).mee = s.mee := by exact rfl
@[simp] theorem State.raiseSev_ln (s : State) (f : FaultCode) (sev : Nat) (l : List Nat) (src : Nat) :
    (s.raiseSev f sev l src).ln = s.ln := by exact rfl
@[simp] theorem State.raiseSev_gr (s : State) (f : FaultCode) (sev : Nat) (l : List Nat) (src : Nat) :
    (s.raiseSev f sev l src).gr = s.gr := by exact rfl
@[simp] theorem State.raiseSev_eth (s : State) (f : FaultCode) (sev : Nat) (l : List Nat) (src : Nat) :
    (s.raiseSev f sev l src).eth = s.eth := by exact rfl
@[simp] theorem State.raiseSev_pci (s : State) (f : FaultCode) (sev : Nat) (l : List Nat) (src : Nat) :
    (s.raiseSev f sev l src).pci = s.pci := by exact rfl
@[simp] theorem State.raiseSev_mgt (s : State) (f : FaultCode) (sev : Nat) (l : List Nat) (src : Nat) :
    (s.raiseSev f sev l src).mgt = s.mgt := by exact rfl
@[simp] theorem State.raiseSev_secu (s : State) (f : FaultCode) (sev : Nat) (l : List Nat) (src : Nat) :
    (s.raiseSev f sev l src).secu = s.secu := by exact rfl
@[simp] theorem State.raiseSev_stu (s : State) (f : FaultCode) (sev : Nat) (l : List Nat) (src : Nat) :
    (s.raiseSev f sev l src).stu = s.stu := by exact rfl
@[simp] theorem State.raiseSev_ci (s : State) (f : FaultCode) (sev : Nat) (l : List Nat) (src : Nat) :
    (s.raiseSev f sev l src).ci = s.ci := by exact rfl
@[simp] theorem State.raiseSev_clk (s : State) (f : FaultCode) (sev : Nat) (l : List Nat) (src : Nat) :
    (s.raiseSev f sev l src).clk = s.clk := by exact rfl
@[simp] theorem State.raiseSev_pm (s : State) (f : FaultCode) (sev : Nat) (l : List Nat) (src : Nat) :
    (s.raiseSev f sev l src).pm = s.pm := by exact rfl
@[simp] theorem State.raiseSev_th (s : State) (f : FaultCode) (sev : Nat) (l : List Nat) (src : Nat) :
    (s.raiseSev f sev l src).th = s.th := by exact rfl
@[simp] theorem State.raiseSev_prm (s : State) (f : FaultCode) (sev : Nat) (l : List Nat) (src : Nat) :
    (s.raiseSev f sev l src).prm = s.prm := by exact rfl
@[simp] theorem State.raiseSev_sp (s : State) (f : FaultCode) (sev : Nat) (l : List Nat) (src : Nat) :
    (s.raiseSev f sev l src).sp = s.sp := by exact rfl
@[simp] theorem State.raiseSev_freeIdx (s : State) (f : FaultCode) (sev : Nat) (l : List Nat) (src : Nat) :
    (s.raiseSev f sev l src).freeIdx = s.freeIdx := by exact rfl
@[simp] theorem State.raiseSev_pending (s : State) (f : FaultCode) (sev : Nat) (l : List Nat) (src : Nat) :
    (s.raiseSev f sev l src).pending = s.pending := by exact rfl

@[simp] theorem State.emit_csr (s : State) (m : OutMsg) : (s.emit m).csr = s.csr := by exact rfl
@[simp] theorem State.emit_staged (s : State) (m : OutMsg) : (s.emit m).staged = s.staged := by exact rfl
@[simp] theorem State.emit_locked (s : State) (m : OutMsg) : (s.emit m).locked = s.locked := by exact rfl
@[simp] theorem State.emit_firsts (s : State) (m : OutMsg) : (s.emit m).firsts = s.firsts := by exact rfl
@[simp] theorem State.emit_time (s : State) (m : OutMsg) : (s.emit m).time = s.time := by exact rfl
@[simp] theorem State.emit_flt (s : State) (m : OutMsg) : (s.emit m).flt = s.flt := by exact rfl
@[simp] theorem State.emit_vx (s : State) (m : OutMsg) : (s.emit m).vx = s.vx := by exact rfl
@[simp] theorem State.emit_fab (s : State) (m : OutMsg) : (s.emit m).fab = s.fab := by exact rfl
@[simp] theorem State.emit_ctx (s : State) (m : OutMsg) : (s.emit m).ctx = s.ctx := by exact rfl
@[simp] theorem State.emit_mem (s : State) (m : OutMsg) : (s.emit m).mem = s.mem := by exact rfl
@[simp] theorem State.emit_eng (s : State) (m : OutMsg) : (s.emit m).eng = s.eng := by exact rfl
@[simp] theorem State.emit_sems (s : State) (m : OutMsg) : (s.emit m).sems = s.sems := by exact rfl
@[simp] theorem State.emit_noc (s : State) (m : OutMsg) : (s.emit m).noc = s.noc := by exact rfl
@[simp] theorem State.emit_qm (s : State) (m : OutMsg) : (s.emit m).qm = s.qm := by exact rfl
@[simp] theorem State.emit_flow (s : State) (m : OutMsg) : (s.emit m).flow = s.flow := by exact rfl
@[simp] theorem State.emit_lp (s : State) (m : OutMsg) : (s.emit m).lp = s.lp := by exact rfl
@[simp] theorem State.emit_mee (s : State) (m : OutMsg) : (s.emit m).mee = s.mee := by exact rfl
@[simp] theorem State.emit_ln (s : State) (m : OutMsg) : (s.emit m).ln = s.ln := by exact rfl
@[simp] theorem State.emit_gr (s : State) (m : OutMsg) : (s.emit m).gr = s.gr := by exact rfl
@[simp] theorem State.emit_eth (s : State) (m : OutMsg) : (s.emit m).eth = s.eth := by exact rfl
@[simp] theorem State.emit_pci (s : State) (m : OutMsg) : (s.emit m).pci = s.pci := by exact rfl
@[simp] theorem State.emit_mgt (s : State) (m : OutMsg) : (s.emit m).mgt = s.mgt := by exact rfl
@[simp] theorem State.emit_secu (s : State) (m : OutMsg) : (s.emit m).secu = s.secu := by exact rfl
@[simp] theorem State.emit_stu (s : State) (m : OutMsg) : (s.emit m).stu = s.stu := by exact rfl
@[simp] theorem State.emit_ci (s : State) (m : OutMsg) : (s.emit m).ci = s.ci := by exact rfl
@[simp] theorem State.emit_clk (s : State) (m : OutMsg) : (s.emit m).clk = s.clk := by exact rfl
@[simp] theorem State.emit_pm (s : State) (m : OutMsg) : (s.emit m).pm = s.pm := by exact rfl
@[simp] theorem State.emit_th (s : State) (m : OutMsg) : (s.emit m).th = s.th := by exact rfl
@[simp] theorem State.emit_prm (s : State) (m : OutMsg) : (s.emit m).prm = s.prm := by exact rfl
@[simp] theorem State.emit_sp (s : State) (m : OutMsg) : (s.emit m).sp = s.sp := by exact rfl
@[simp] theorem State.emit_freeIdx (s : State) (m : OutMsg) : (s.emit m).freeIdx = s.freeIdx := by exact rfl
@[simp] theorem State.emit_pending (s : State) (m : OutMsg) : (s.emit m).pending = s.pending := by exact rfl

@[simp] theorem State.answer_csr (s : State) (dst status : Nat) (data : List Byte) :
    (s.answer dst status data).csr = s.csr := by exact rfl
@[simp] theorem State.answer_staged (s : State) (dst status : Nat) (data : List Byte) :
    (s.answer dst status data).staged = s.staged := by exact rfl
@[simp] theorem State.answer_locked (s : State) (dst status : Nat) (data : List Byte) :
    (s.answer dst status data).locked = s.locked := by exact rfl
@[simp] theorem State.answer_firsts (s : State) (dst status : Nat) (data : List Byte) :
    (s.answer dst status data).firsts = s.firsts := by exact rfl
@[simp] theorem State.answer_time (s : State) (dst status : Nat) (data : List Byte) :
    (s.answer dst status data).time = s.time := by exact rfl
@[simp] theorem State.answer_flt (s : State) (dst status : Nat) (data : List Byte) :
    (s.answer dst status data).flt = s.flt := by exact rfl
@[simp] theorem State.answer_vx (s : State) (dst status : Nat) (data : List Byte) :
    (s.answer dst status data).vx = s.vx := by exact rfl
@[simp] theorem State.answer_fab (s : State) (dst status : Nat) (data : List Byte) :
    (s.answer dst status data).fab = s.fab := by exact rfl
@[simp] theorem State.answer_ctx (s : State) (dst status : Nat) (data : List Byte) :
    (s.answer dst status data).ctx = s.ctx := by exact rfl
@[simp] theorem State.answer_mem (s : State) (dst status : Nat) (data : List Byte) :
    (s.answer dst status data).mem = s.mem := by exact rfl
@[simp] theorem State.answer_eng (s : State) (dst status : Nat) (data : List Byte) :
    (s.answer dst status data).eng = s.eng := by exact rfl
@[simp] theorem State.answer_sems (s : State) (dst status : Nat) (data : List Byte) :
    (s.answer dst status data).sems = s.sems := by exact rfl
@[simp] theorem State.answer_noc (s : State) (dst status : Nat) (data : List Byte) :
    (s.answer dst status data).noc = s.noc := by exact rfl
@[simp] theorem State.answer_qm (s : State) (dst status : Nat) (data : List Byte) :
    (s.answer dst status data).qm = s.qm := by exact rfl
@[simp] theorem State.answer_flow (s : State) (dst status : Nat) (data : List Byte) :
    (s.answer dst status data).flow = s.flow := by exact rfl
@[simp] theorem State.answer_lp (s : State) (dst status : Nat) (data : List Byte) :
    (s.answer dst status data).lp = s.lp := by exact rfl
@[simp] theorem State.answer_mee (s : State) (dst status : Nat) (data : List Byte) :
    (s.answer dst status data).mee = s.mee := by exact rfl
@[simp] theorem State.answer_ln (s : State) (dst status : Nat) (data : List Byte) :
    (s.answer dst status data).ln = s.ln := by exact rfl
@[simp] theorem State.answer_gr (s : State) (dst status : Nat) (data : List Byte) :
    (s.answer dst status data).gr = s.gr := by exact rfl
@[simp] theorem State.answer_eth (s : State) (dst status : Nat) (data : List Byte) :
    (s.answer dst status data).eth = s.eth := by exact rfl
@[simp] theorem State.answer_pci (s : State) (dst status : Nat) (data : List Byte) :
    (s.answer dst status data).pci = s.pci := by exact rfl
@[simp] theorem State.answer_mgt (s : State) (dst status : Nat) (data : List Byte) :
    (s.answer dst status data).mgt = s.mgt := by exact rfl
@[simp] theorem State.answer_secu (s : State) (dst status : Nat) (data : List Byte) :
    (s.answer dst status data).secu = s.secu := by exact rfl
@[simp] theorem State.answer_stu (s : State) (dst status : Nat) (data : List Byte) :
    (s.answer dst status data).stu = s.stu := by exact rfl
@[simp] theorem State.answer_ci (s : State) (dst status : Nat) (data : List Byte) :
    (s.answer dst status data).ci = s.ci := by exact rfl
@[simp] theorem State.answer_clk (s : State) (dst status : Nat) (data : List Byte) :
    (s.answer dst status data).clk = s.clk := by exact rfl
@[simp] theorem State.answer_pm (s : State) (dst status : Nat) (data : List Byte) :
    (s.answer dst status data).pm = s.pm := by exact rfl
@[simp] theorem State.answer_th (s : State) (dst status : Nat) (data : List Byte) :
    (s.answer dst status data).th = s.th := by exact rfl
@[simp] theorem State.answer_prm (s : State) (dst status : Nat) (data : List Byte) :
    (s.answer dst status data).prm = s.prm := by exact rfl
@[simp] theorem State.answer_sp (s : State) (dst status : Nat) (data : List Byte) :
    (s.answer dst status data).sp = s.sp := by exact rfl
@[simp] theorem State.answer_freeIdx (s : State) (dst status : Nat) (data : List Byte) :
    (s.answer dst status data).freeIdx = s.freeIdx := by exact rfl
@[simp] theorem State.answer_pending (s : State) (dst status : Nat) (data : List Byte) :
    (s.answer dst status data).pending = s.pending := by exact rfl

@[simp] theorem State.takeFree_csr (s : State) : (s.takeFree).csr = s.csr := by exact rfl
@[simp] theorem State.takeFree_staged (s : State) : (s.takeFree).staged = s.staged := by exact rfl
@[simp] theorem State.takeFree_locked (s : State) : (s.takeFree).locked = s.locked := by exact rfl
@[simp] theorem State.takeFree_firsts (s : State) : (s.takeFree).firsts = s.firsts := by exact rfl
@[simp] theorem State.takeFree_time (s : State) : (s.takeFree).time = s.time := by exact rfl
@[simp] theorem State.takeFree_flt (s : State) : (s.takeFree).flt = s.flt := by exact rfl
@[simp] theorem State.takeFree_out (s : State) : (s.takeFree).out = s.out := by exact rfl
@[simp] theorem State.takeFree_vx (s : State) : (s.takeFree).vx = s.vx := by exact rfl
@[simp] theorem State.takeFree_fab (s : State) : (s.takeFree).fab = s.fab := by exact rfl
@[simp] theorem State.takeFree_ctx (s : State) : (s.takeFree).ctx = s.ctx := by exact rfl
@[simp] theorem State.takeFree_mem (s : State) : (s.takeFree).mem = s.mem := by exact rfl
@[simp] theorem State.takeFree_eng (s : State) : (s.takeFree).eng = s.eng := by exact rfl
@[simp] theorem State.takeFree_sems (s : State) : (s.takeFree).sems = s.sems := by exact rfl
@[simp] theorem State.takeFree_noc (s : State) : (s.takeFree).noc = s.noc := by exact rfl
@[simp] theorem State.takeFree_qm (s : State) : (s.takeFree).qm = s.qm := by exact rfl
@[simp] theorem State.takeFree_flow (s : State) : (s.takeFree).flow = s.flow := by exact rfl
@[simp] theorem State.takeFree_lp (s : State) : (s.takeFree).lp = s.lp := by exact rfl
@[simp] theorem State.takeFree_mee (s : State) : (s.takeFree).mee = s.mee := by exact rfl
@[simp] theorem State.takeFree_ln (s : State) : (s.takeFree).ln = s.ln := by exact rfl
@[simp] theorem State.takeFree_gr (s : State) : (s.takeFree).gr = s.gr := by exact rfl
@[simp] theorem State.takeFree_eth (s : State) : (s.takeFree).eth = s.eth := by exact rfl
@[simp] theorem State.takeFree_pci (s : State) : (s.takeFree).pci = s.pci := by exact rfl
@[simp] theorem State.takeFree_mgt (s : State) : (s.takeFree).mgt = s.mgt := by exact rfl
@[simp] theorem State.takeFree_secu (s : State) : (s.takeFree).secu = s.secu := by exact rfl
@[simp] theorem State.takeFree_stu (s : State) : (s.takeFree).stu = s.stu := by exact rfl
@[simp] theorem State.takeFree_ci (s : State) : (s.takeFree).ci = s.ci := by exact rfl
@[simp] theorem State.takeFree_clk (s : State) : (s.takeFree).clk = s.clk := by exact rfl
@[simp] theorem State.takeFree_pm (s : State) : (s.takeFree).pm = s.pm := by exact rfl
@[simp] theorem State.takeFree_th (s : State) : (s.takeFree).th = s.th := by exact rfl
@[simp] theorem State.takeFree_prm (s : State) : (s.takeFree).prm = s.prm := by exact rfl
@[simp] theorem State.takeFree_sp (s : State) : (s.takeFree).sp = s.sp := by exact rfl
@[simp] theorem State.takeFree_pending (s : State) : (s.takeFree).pending = s.pending := by exact rfl

@[simp] theorem State.reg_raise (s : State) (f : FaultCode) (l : List Nat) (src : Nat) (off i : Nat) :
    (s.raise f l src).reg off i = s.reg off i := by exact rfl
@[simp] theorem State.fld_raise (s : State) (f : FaultCode) (l : List Nat) (src : Nat) (g : FieldRef) (i : Nat) :
    (s.raise f l src).fld g i = s.fld g i := by exact rfl
@[simp] theorem State.flag_raise (s : State) (f : FaultCode) (l : List Nat) (src : Nat) (g : FieldRef) (i : Nat) :
    (s.raise f l src).flag g i = s.flag g i := by exact rfl
@[simp] theorem State.reg_raiseSev (s : State) (f : FaultCode) (sev : Nat) (l : List Nat) (src : Nat) (off i : Nat) :
    (s.raiseSev f sev l src).reg off i = s.reg off i := by exact rfl
@[simp] theorem State.fld_raiseSev (s : State) (f : FaultCode) (sev : Nat) (l : List Nat) (src : Nat) (g : FieldRef)
    (i : Nat) : (s.raiseSev f sev l src).fld g i = s.fld g i := by exact rfl
@[simp] theorem State.flag_raiseSev (s : State) (f : FaultCode) (sev : Nat) (l : List Nat) (src : Nat) (g : FieldRef)
    (i : Nat) : (s.raiseSev f sev l src).flag g i = s.flag g i := by exact rfl
@[simp] theorem State.reg_emit (s : State) (m : OutMsg) (off i : Nat) : (s.emit m).reg off i = s.reg off i := by exact rfl
@[simp] theorem State.fld_emit (s : State) (m : OutMsg) (g : FieldRef) (i : Nat) :
    (s.emit m).fld g i = s.fld g i := by exact rfl
@[simp] theorem State.flag_emit (s : State) (m : OutMsg) (g : FieldRef) (i : Nat) :
    (s.emit m).flag g i = s.flag g i := by exact rfl
@[simp] theorem State.reg_answer (s : State) (dst status : Nat) (data : List Byte) (off i : Nat) :
    (s.answer dst status data).reg off i = s.reg off i := by exact rfl
@[simp] theorem State.fld_answer (s : State) (dst status : Nat) (data : List Byte) (g : FieldRef) (i : Nat) :
    (s.answer dst status data).fld g i = s.fld g i := by exact rfl
@[simp] theorem State.flag_answer (s : State) (dst status : Nat) (data : List Byte) (g : FieldRef) (i : Nat) :
    (s.answer dst status data).flag g i = s.flag g i := by exact rfl
@[simp] theorem State.reg_takeFree (s : State) (off i : Nat) : (s.takeFree).reg off i = s.reg off i := by exact rfl
@[simp] theorem State.fld_takeFree (s : State) (g : FieldRef) (i : Nat) : (s.takeFree).fld g i = s.fld g i := by exact rfl
@[simp] theorem State.flag_takeFree (s : State) (g : FieldRef) (i : Nat) : (s.takeFree).flag g i = s.flag g i := by exact rfl

/-! ## Registers -/

theorem regKey_inj {a b i j : Nat} (ha : a < 2 ^ 28) (hb : b < 2 ^ 28) : regKey a i = regKey b j ↔ a = b ∧ i = j := by
  unfold regKey
  constructor
  · intro h; omega
  · rintro ⟨rfl, rfl⟩; rfl

/-- A register just written holds what was written. -/
@[simp] theorem State.reg_setReg_same (s : State) (off : Nat) (v : Word) (i : Nat) : (s.setReg off v i).reg off i = v :=
  SMap.get_set_same _ _ _ _

/-- A write of a register leaves every other register alone. -/
theorem State.reg_setReg_other (s : State) (a : Nat) (v : Word) (i b j : Nat) (h : regKey b j ≠ regKey a i) :
    (s.setReg a v i).reg b j = s.reg b j := by
  unfold State.setReg State.reg
  by_cases hk : regReset b j = regReset a i
  · rw [← hk]; exact SMap.get_set_other _ _ _ _ _ h
  · unfold SMap.set
    dsimp only
    split
    · exact SMap.get_erase_other _ _ _ _ h
    · exact SMap.get_insert_other _ _ _ _ _ h

/-- A register after a field of it is written: that field's bits replaced. -/
@[simp] theorem State.reg_setFld_same (s : State) (f : FieldRef) (v i : Nat) :
    (s.setFld f v i).reg f.reg i = BitVec.ofNat 32 (putBits (s.reg f.reg i).toNat f.hi f.lo v) :=
  State.reg_setReg_same _ _ _ _

/-- A field written leaves every other register alone. -/
theorem State.reg_setFld_other (s : State) (f : FieldRef) (v i b j : Nat) (h : regKey b j ≠ regKey f.reg i) :
    (s.setFld f v i).reg b j = s.reg b j := State.reg_setReg_other _ _ _ _ _ _ h

/-- A field just written reads as the low bits of what was written. -/
theorem State.fld_setFld_same (s : State) (f : FieldRef) (v i : Nat) (h1 : f.lo ≤ f.hi) (h2 : f.hi < 32) :
    (s.setFld f v i).fld f i = v % 2 ^ (f.hi + 1 - f.lo) := by
  unfold State.fld
  rw [State.reg_setFld_same, BitVec.toNat_ofNat, Nat.mod_eq_of_lt (putBits_lt _ _ _ _ 32 (BitVec.isLt _) h1 h2),
    bits_putBits_same _ _ _ _ h1]

/-- A field of another register is left alone. -/
theorem State.fld_setFld_other (s : State) (f g : FieldRef) (v i j : Nat) (h : regKey g.reg j ≠ regKey f.reg i) :
    (s.setFld f v i).fld g j = s.fld g j := by
  unfold State.fld
  rw [State.reg_setFld_other _ _ _ _ _ _ h]

/-- A field of the same register that does not overlap is left alone. -/
theorem State.fld_setFld_beside (s : State) (f g : FieldRef) (v i : Nat) (hr : g.reg = f.reg) (h1 : f.lo ≤ f.hi)
    (h2 : f.hi < 32) (h : g.hi < f.lo ∨ f.hi < g.lo) : (s.setFld f v i).fld g i = s.fld g i := by
  unfold State.fld
  rw [hr, State.reg_setFld_same, BitVec.toNat_ofNat, Nat.mod_eq_of_lt (putBits_lt _ _ _ _ 32 (BitVec.isLt _) h1 h2)]
  rcases h with h | h
  · exact bits_putBits_below _ _ _ _ _ _ h1 h
  · exact bits_putBits_above _ _ _ _ _ _ h1 h

/-- A one-bit field just written reads as what was written. -/
theorem State.flag_setFlag_same (s : State) (f : FieldRef) (b : Bool) (i : Nat) (h1 : f.lo = f.hi) (h2 : f.hi < 32) :
    (s.setFlag f b i).flag f i = b := by
  unfold State.flag State.setFlag
  rw [State.fld_setFld_same _ _ _ _ (le_of_eq h1) h2, h1, Nat.add_sub_cancel_left]
  cases b <;> rfl

/-- A field of another register is left alone, whatever the copies. -/
theorem State.fld_setFld_ne (s : State) (f g : FieldRef) (v i j : Nat) (h : f.reg ≠ g.reg) (hf : f.reg < 2 ^ 28)
    (hg : g.reg < 2 ^ 28) : (s.setFld f v i).fld g j = s.fld g j :=
  State.fld_setFld_other _ _ _ _ _ _ fun e => h ((regKey_inj hg hf).mp e).1.symm

theorem State.fld_setFlag_ne (s : State) (f g : FieldRef) (b : Bool) (i j : Nat) (h : f.reg ≠ g.reg) (hf : f.reg < 2 ^ 28)
    (hg : g.reg < 2 ^ 28) : (s.setFlag f b i).fld g j = s.fld g j := State.fld_setFld_ne _ _ _ _ _ _ h hf hg

theorem State.fld_count_ne (s : State) (f g : FieldRef) (n i j : Nat) (h : f.reg ≠ g.reg) (hf : f.reg < 2 ^ 28)
    (hg : g.reg < 2 ^ 28) : (s.count f n i).fld g j = s.fld g j := State.fld_setFld_ne _ _ _ _ _ _ h hf hg

theorem State.flag_setFld_ne (s : State) (f g : FieldRef) (v i j : Nat) (h : f.reg ≠ g.reg) (hf : f.reg < 2 ^ 28)
    (hg : g.reg < 2 ^ 28) : (s.setFld f v i).flag g j = s.flag g j := by
  unfold State.flag; rw [State.fld_setFld_ne _ _ _ _ _ _ h hf hg]

theorem State.flag_setFlag_ne (s : State) (f g : FieldRef) (b : Bool) (i j : Nat) (h : f.reg ≠ g.reg) (hf : f.reg < 2 ^ 28)
    (hg : g.reg < 2 ^ 28) : (s.setFlag f b i).flag g j = s.flag g j := State.flag_setFld_ne _ _ _ _ _ _ h hf hg

theorem State.flag_count_ne (s : State) (f g : FieldRef) (n i j : Nat) (h : f.reg ≠ g.reg) (hf : f.reg < 2 ^ 28)
    (hg : g.reg < 2 ^ 28) : (s.count f n i).flag g j = s.flag g j := State.flag_setFld_ne _ _ _ _ _ _ h hf hg

/-- A count just increased. -/
theorem State.fld_count_same (s : State) (f : FieldRef) (n i : Nat) (h1 : f.lo ≤ f.hi) (h2 : f.hi < 32) :
    (s.count f n i).fld f i = satAdd (f.hi + 1 - f.lo) (s.fld f i) n := by
  unfold State.count
  rw [State.fld_setFld_same _ _ _ _ h1 h2]
  refine Nat.mod_eq_of_lt ?_
  have : 0 < 2 ^ (f.hi + 1 - f.lo) := by positivity
  unfold satAdd
  omega

/-- States that agree in every part are equal. -/
theorem State.eq_of {s t : State}
    (h_csr : s.csr = t.csr) (h_staged : s.staged = t.staged) (h_locked : s.locked = t.locked) (h_firsts : s.firsts =
    t.firsts) (h_time : s.time = t.time) (h_flt : s.flt = t.flt) (h_out : s.out = t.out) (h_vx : s.vx = t.vx) (h_fab :
    s.fab = t.fab) (h_ctx : s.ctx = t.ctx) (h_mem : s.mem = t.mem) (h_eng : s.eng = t.eng) (h_sems : s.sems = t.sems)
    (h_noc : s.noc = t.noc) (h_qm : s.qm = t.qm) (h_flow : s.flow = t.flow) (h_lp : s.lp = t.lp) (h_mee : s.mee =
    t.mee) (h_ln : s.ln = t.ln) (h_gr : s.gr = t.gr) (h_eth : s.eth = t.eth) (h_pci : s.pci = t.pci) (h_mgt : s.mgt =
    t.mgt) (h_secu : s.secu = t.secu) (h_stu : s.stu = t.stu) (h_ci : s.ci = t.ci) (h_clk : s.clk = t.clk) (h_pm :
    s.pm = t.pm) (h_th : s.th = t.th) (h_prm : s.prm = t.prm) (h_sp : s.sp = t.sp) (h_freeIdx : s.freeIdx = t.freeIdx)
    (h_pending : s.pending = t.pending) : s = t := by
  cases s; cases t; simp_all

/-! ## Parts of the state -/

@[simp] theorem State.setBundle_csr (s : State) (i t : Nat) (b : Bundle) : (s.setBundle i t b).csr = s.csr := by exact rfl
@[simp] theorem State.setBundle_staged (s : State) (i t : Nat) (b : Bundle) :
    (s.setBundle i t b).staged = s.staged := by exact rfl
@[simp] theorem State.setBundle_locked (s : State) (i t : Nat) (b : Bundle) :
    (s.setBundle i t b).locked = s.locked := by exact rfl
@[simp] theorem State.setBundle_firsts (s : State) (i t : Nat) (b : Bundle) :
    (s.setBundle i t b).firsts = s.firsts := by exact rfl
@[simp] theorem State.setBundle_time (s : State) (i t : Nat) (b : Bundle) : (s.setBundle i t b).time = s.time := by exact rfl
@[simp] theorem State.setBundle_flt (s : State) (i t : Nat) (b : Bundle) : (s.setBundle i t b).flt = s.flt := by exact rfl
@[simp] theorem State.setBundle_out (s : State) (i t : Nat) (b : Bundle) : (s.setBundle i t b).out = s.out := by exact rfl
@[simp] theorem State.setBundle_fab (s : State) (i t : Nat) (b : Bundle) : (s.setBundle i t b).fab = s.fab := by exact rfl
@[simp] theorem State.setBundle_ctx (s : State) (i t : Nat) (b : Bundle) : (s.setBundle i t b).ctx = s.ctx := by exact rfl
@[simp] theorem State.setBundle_mem (s : State) (i t : Nat) (b : Bundle) : (s.setBundle i t b).mem = s.mem := by exact rfl
@[simp] theorem State.setBundle_eng (s : State) (i t : Nat) (b : Bundle) : (s.setBundle i t b).eng = s.eng := by exact rfl
@[simp] theorem State.setBundle_sems (s : State) (i t : Nat) (b : Bundle) : (s.setBundle i t b).sems = s.sems := by exact rfl
@[simp] theorem State.setBundle_noc (s : State) (i t : Nat) (b : Bundle) : (s.setBundle i t b).noc = s.noc := by exact rfl
@[simp] theorem State.setBundle_qm (s : State) (i t : Nat) (b : Bundle) : (s.setBundle i t b).qm = s.qm := by exact rfl
@[simp] theorem State.setBundle_flow (s : State) (i t : Nat) (b : Bundle) : (s.setBundle i t b).flow = s.flow := by exact rfl
@[simp] theorem State.setBundle_lp (s : State) (i t : Nat) (b : Bundle) : (s.setBundle i t b).lp = s.lp := by exact rfl
@[simp] theorem State.setBundle_mee (s : State) (i t : Nat) (b : Bundle) : (s.setBundle i t b).mee = s.mee := by exact rfl
@[simp] theorem State.setBundle_ln (s : State) (i t : Nat) (b : Bundle) : (s.setBundle i t b).ln = s.ln := by exact rfl
@[simp] theorem State.setBundle_gr (s : State) (i t : Nat) (b : Bundle) : (s.setBundle i t b).gr = s.gr := by exact rfl
@[simp] theorem State.setBundle_eth (s : State) (i t : Nat) (b : Bundle) : (s.setBundle i t b).eth = s.eth := by exact rfl
@[simp] theorem State.setBundle_pci (s : State) (i t : Nat) (b : Bundle) : (s.setBundle i t b).pci = s.pci := by exact rfl
@[simp] theorem State.setBundle_mgt (s : State) (i t : Nat) (b : Bundle) : (s.setBundle i t b).mgt = s.mgt := by exact rfl
@[simp] theorem State.setBundle_secu (s : State) (i t : Nat) (b : Bundle) : (s.setBundle i t b).secu = s.secu := by exact rfl
@[simp] theorem State.setBundle_stu (s : State) (i t : Nat) (b : Bundle) : (s.setBundle i t b).stu = s.stu := by exact rfl
@[simp] theorem State.setBundle_ci (s : State) (i t : Nat) (b : Bundle) : (s.setBundle i t b).ci = s.ci := by exact rfl
@[simp] theorem State.setBundle_clk (s : State) (i t : Nat) (b : Bundle) : (s.setBundle i t b).clk = s.clk := by exact rfl
@[simp] theorem State.setBundle_pm (s : State) (i t : Nat) (b : Bundle) : (s.setBundle i t b).pm = s.pm := by exact rfl
@[simp] theorem State.setBundle_th (s : State) (i t : Nat) (b : Bundle) : (s.setBundle i t b).th = s.th := by exact rfl
@[simp] theorem State.setBundle_prm (s : State) (i t : Nat) (b : Bundle) : (s.setBundle i t b).prm = s.prm := by exact rfl
@[simp] theorem State.setBundle_sp (s : State) (i t : Nat) (b : Bundle) : (s.setBundle i t b).sp = s.sp := by exact rfl
@[simp] theorem State.setBundle_freeIdx (s : State) (i t : Nat) (b : Bundle) :
    (s.setBundle i t b).freeIdx = s.freeIdx := by exact rfl
@[simp] theorem State.setBundle_pending (s : State) (i t : Nat) (b : Bundle) :
    (s.setBundle i t b).pending = s.pending := by exact rfl
@[simp] theorem State.reg_setBundle (s : State) (i t : Nat) (b : Bundle) (o j : Nat) :
    (s.setBundle i t b).reg o j = s.reg o j := by exact rfl
@[simp] theorem State.fld_setBundle (s : State) (i t : Nat) (b : Bundle) (g : FieldRef) (j : Nat) :
    (s.setBundle i t b).fld g j = s.fld g j := by exact rfl
@[simp] theorem State.flag_setBundle (s : State) (i t : Nat) (b : Bundle) (g : FieldRef) (j : Nat) :
    (s.setBundle i t b).flag g j = s.flag g j := by exact rfl

@[simp] theorem State.setSec_csr (s : State) (k : Nat) (c : CtxSec) : (s.setSec k c).csr = s.csr := by exact rfl
@[simp] theorem State.setSec_staged (s : State) (k : Nat) (c : CtxSec) : (s.setSec k c).staged = s.staged := by exact rfl
@[simp] theorem State.setSec_locked (s : State) (k : Nat) (c : CtxSec) : (s.setSec k c).locked = s.locked := by exact rfl
@[simp] theorem State.setSec_firsts (s : State) (k : Nat) (c : CtxSec) : (s.setSec k c).firsts = s.firsts := by exact rfl
@[simp] theorem State.setSec_time (s : State) (k : Nat) (c : CtxSec) : (s.setSec k c).time = s.time := by exact rfl
@[simp] theorem State.setSec_flt (s : State) (k : Nat) (c : CtxSec) : (s.setSec k c).flt = s.flt := by exact rfl
@[simp] theorem State.setSec_out (s : State) (k : Nat) (c : CtxSec) : (s.setSec k c).out = s.out := by exact rfl
@[simp] theorem State.setSec_vx (s : State) (k : Nat) (c : CtxSec) : (s.setSec k c).vx = s.vx := by exact rfl
@[simp] theorem State.setSec_fab (s : State) (k : Nat) (c : CtxSec) : (s.setSec k c).fab = s.fab := by exact rfl
@[simp] theorem State.setSec_mem (s : State) (k : Nat) (c : CtxSec) : (s.setSec k c).mem = s.mem := by exact rfl
@[simp] theorem State.setSec_eng (s : State) (k : Nat) (c : CtxSec) : (s.setSec k c).eng = s.eng := by exact rfl
@[simp] theorem State.setSec_sems (s : State) (k : Nat) (c : CtxSec) : (s.setSec k c).sems = s.sems := by exact rfl
@[simp] theorem State.setSec_noc (s : State) (k : Nat) (c : CtxSec) : (s.setSec k c).noc = s.noc := by exact rfl
@[simp] theorem State.setSec_qm (s : State) (k : Nat) (c : CtxSec) : (s.setSec k c).qm = s.qm := by exact rfl
@[simp] theorem State.setSec_flow (s : State) (k : Nat) (c : CtxSec) : (s.setSec k c).flow = s.flow := by exact rfl
@[simp] theorem State.setSec_lp (s : State) (k : Nat) (c : CtxSec) : (s.setSec k c).lp = s.lp := by exact rfl
@[simp] theorem State.setSec_mee (s : State) (k : Nat) (c : CtxSec) : (s.setSec k c).mee = s.mee := by exact rfl
@[simp] theorem State.setSec_ln (s : State) (k : Nat) (c : CtxSec) : (s.setSec k c).ln = s.ln := by exact rfl
@[simp] theorem State.setSec_gr (s : State) (k : Nat) (c : CtxSec) : (s.setSec k c).gr = s.gr := by exact rfl
@[simp] theorem State.setSec_eth (s : State) (k : Nat) (c : CtxSec) : (s.setSec k c).eth = s.eth := by exact rfl
@[simp] theorem State.setSec_pci (s : State) (k : Nat) (c : CtxSec) : (s.setSec k c).pci = s.pci := by exact rfl
@[simp] theorem State.setSec_mgt (s : State) (k : Nat) (c : CtxSec) : (s.setSec k c).mgt = s.mgt := by exact rfl
@[simp] theorem State.setSec_secu (s : State) (k : Nat) (c : CtxSec) : (s.setSec k c).secu = s.secu := by exact rfl
@[simp] theorem State.setSec_stu (s : State) (k : Nat) (c : CtxSec) : (s.setSec k c).stu = s.stu := by exact rfl
@[simp] theorem State.setSec_ci (s : State) (k : Nat) (c : CtxSec) : (s.setSec k c).ci = s.ci := by exact rfl
@[simp] theorem State.setSec_clk (s : State) (k : Nat) (c : CtxSec) : (s.setSec k c).clk = s.clk := by exact rfl
@[simp] theorem State.setSec_pm (s : State) (k : Nat) (c : CtxSec) : (s.setSec k c).pm = s.pm := by exact rfl
@[simp] theorem State.setSec_th (s : State) (k : Nat) (c : CtxSec) : (s.setSec k c).th = s.th := by exact rfl
@[simp] theorem State.setSec_prm (s : State) (k : Nat) (c : CtxSec) : (s.setSec k c).prm = s.prm := by exact rfl
@[simp] theorem State.setSec_sp (s : State) (k : Nat) (c : CtxSec) : (s.setSec k c).sp = s.sp := by exact rfl
@[simp] theorem State.setSec_freeIdx (s : State) (k : Nat) (c : CtxSec) : (s.setSec k c).freeIdx = s.freeIdx := by exact rfl
@[simp] theorem State.setSec_pending (s : State) (k : Nat) (c : CtxSec) : (s.setSec k c).pending = s.pending := by exact rfl
@[simp] theorem State.reg_setSec (s : State) (k : Nat) (c : CtxSec) (o j : Nat) :
    (s.setSec k c).reg o j = s.reg o j := by exact rfl
@[simp] theorem State.fld_setSec (s : State) (k : Nat) (c : CtxSec) (g : FieldRef) (j : Nat) :
    (s.setSec k c).fld g j = s.fld g j := by exact rfl
@[simp] theorem State.flag_setSec (s : State) (k : Nat) (c : CtxSec) (g : FieldRef) (j : Nat) :
    (s.setSec k c).flag g j = s.flag g j := by exact rfl

@[simp] theorem State.setPlane_csr (s : State) (k p : Nat) (x : Frames) : (s.setPlane k p x).csr = s.csr := by exact rfl
@[simp] theorem State.setPlane_staged (s : State) (k p : Nat) (x : Frames) :
    (s.setPlane k p x).staged = s.staged := by exact rfl
@[simp] theorem State.setPlane_locked (s : State) (k p : Nat) (x : Frames) :
    (s.setPlane k p x).locked = s.locked := by exact rfl
@[simp] theorem State.setPlane_firsts (s : State) (k p : Nat) (x : Frames) :
    (s.setPlane k p x).firsts = s.firsts := by exact rfl
@[simp] theorem State.setPlane_time (s : State) (k p : Nat) (x : Frames) : (s.setPlane k p x).time = s.time := by exact rfl
@[simp] theorem State.setPlane_flt (s : State) (k p : Nat) (x : Frames) : (s.setPlane k p x).flt = s.flt := by exact rfl
@[simp] theorem State.setPlane_out (s : State) (k p : Nat) (x : Frames) : (s.setPlane k p x).out = s.out := by exact rfl
@[simp] theorem State.setPlane_vx (s : State) (k p : Nat) (x : Frames) : (s.setPlane k p x).vx = s.vx := by exact rfl
@[simp] theorem State.setPlane_fab (s : State) (k p : Nat) (x : Frames) : (s.setPlane k p x).fab = s.fab := by exact rfl
@[simp] theorem State.setPlane_mem (s : State) (k p : Nat) (x : Frames) : (s.setPlane k p x).mem = s.mem := by exact rfl
@[simp] theorem State.setPlane_eng (s : State) (k p : Nat) (x : Frames) : (s.setPlane k p x).eng = s.eng := by exact rfl
@[simp] theorem State.setPlane_sems (s : State) (k p : Nat) (x : Frames) : (s.setPlane k p x).sems = s.sems := by exact rfl
@[simp] theorem State.setPlane_noc (s : State) (k p : Nat) (x : Frames) : (s.setPlane k p x).noc = s.noc := by exact rfl
@[simp] theorem State.setPlane_qm (s : State) (k p : Nat) (x : Frames) : (s.setPlane k p x).qm = s.qm := by exact rfl
@[simp] theorem State.setPlane_flow (s : State) (k p : Nat) (x : Frames) : (s.setPlane k p x).flow = s.flow := by exact rfl
@[simp] theorem State.setPlane_lp (s : State) (k p : Nat) (x : Frames) : (s.setPlane k p x).lp = s.lp := by exact rfl
@[simp] theorem State.setPlane_mee (s : State) (k p : Nat) (x : Frames) : (s.setPlane k p x).mee = s.mee := by exact rfl
@[simp] theorem State.setPlane_ln (s : State) (k p : Nat) (x : Frames) : (s.setPlane k p x).ln = s.ln := by exact rfl
@[simp] theorem State.setPlane_gr (s : State) (k p : Nat) (x : Frames) : (s.setPlane k p x).gr = s.gr := by exact rfl
@[simp] theorem State.setPlane_eth (s : State) (k p : Nat) (x : Frames) : (s.setPlane k p x).eth = s.eth := by exact rfl
@[simp] theorem State.setPlane_pci (s : State) (k p : Nat) (x : Frames) : (s.setPlane k p x).pci = s.pci := by exact rfl
@[simp] theorem State.setPlane_mgt (s : State) (k p : Nat) (x : Frames) : (s.setPlane k p x).mgt = s.mgt := by exact rfl
@[simp] theorem State.setPlane_secu (s : State) (k p : Nat) (x : Frames) : (s.setPlane k p x).secu = s.secu := by exact rfl
@[simp] theorem State.setPlane_stu (s : State) (k p : Nat) (x : Frames) : (s.setPlane k p x).stu = s.stu := by exact rfl
@[simp] theorem State.setPlane_ci (s : State) (k p : Nat) (x : Frames) : (s.setPlane k p x).ci = s.ci := by exact rfl
@[simp] theorem State.setPlane_clk (s : State) (k p : Nat) (x : Frames) : (s.setPlane k p x).clk = s.clk := by exact rfl
@[simp] theorem State.setPlane_pm (s : State) (k p : Nat) (x : Frames) : (s.setPlane k p x).pm = s.pm := by exact rfl
@[simp] theorem State.setPlane_th (s : State) (k p : Nat) (x : Frames) : (s.setPlane k p x).th = s.th := by exact rfl
@[simp] theorem State.setPlane_prm (s : State) (k p : Nat) (x : Frames) : (s.setPlane k p x).prm = s.prm := by exact rfl
@[simp] theorem State.setPlane_sp (s : State) (k p : Nat) (x : Frames) : (s.setPlane k p x).sp = s.sp := by exact rfl
@[simp] theorem State.setPlane_freeIdx (s : State) (k p : Nat) (x : Frames) :
    (s.setPlane k p x).freeIdx = s.freeIdx := by exact rfl
@[simp] theorem State.setPlane_pending (s : State) (k p : Nat) (x : Frames) :
    (s.setPlane k p x).pending = s.pending := by exact rfl
@[simp] theorem State.reg_setPlane (s : State) (k p : Nat) (x : Frames) (o j : Nat) :
    (s.setPlane k p x).reg o j = s.reg o j := by exact rfl
@[simp] theorem State.fld_setPlane (s : State) (k p : Nat) (x : Frames) (g : FieldRef) (j : Nat) :
    (s.setPlane k p x).fld g j = s.fld g j := by exact rfl
@[simp] theorem State.flag_setPlane (s : State) (k p : Nat) (x : Frames) (g : FieldRef) (j : Nat) :
    (s.setPlane k p x).flag g j = s.flag g j := by exact rfl

@[simp] theorem State.setLive_csr (s : State) (k : Nat) (x : Frames) : (s.setLive k x).csr = s.csr := by exact rfl
@[simp] theorem State.setLive_staged (s : State) (k : Nat) (x : Frames) : (s.setLive k x).staged = s.staged := by exact rfl
@[simp] theorem State.setLive_locked (s : State) (k : Nat) (x : Frames) : (s.setLive k x).locked = s.locked := by exact rfl
@[simp] theorem State.setLive_firsts (s : State) (k : Nat) (x : Frames) : (s.setLive k x).firsts = s.firsts := by exact rfl
@[simp] theorem State.setLive_time (s : State) (k : Nat) (x : Frames) : (s.setLive k x).time = s.time := by exact rfl
@[simp] theorem State.setLive_flt (s : State) (k : Nat) (x : Frames) : (s.setLive k x).flt = s.flt := by exact rfl
@[simp] theorem State.setLive_out (s : State) (k : Nat) (x : Frames) : (s.setLive k x).out = s.out := by exact rfl
@[simp] theorem State.setLive_vx (s : State) (k : Nat) (x : Frames) : (s.setLive k x).vx = s.vx := by exact rfl
@[simp] theorem State.setLive_ctx (s : State) (k : Nat) (x : Frames) : (s.setLive k x).ctx = s.ctx := by exact rfl
@[simp] theorem State.setLive_mem (s : State) (k : Nat) (x : Frames) : (s.setLive k x).mem = s.mem := by exact rfl
@[simp] theorem State.setLive_eng (s : State) (k : Nat) (x : Frames) : (s.setLive k x).eng = s.eng := by exact rfl
@[simp] theorem State.setLive_sems (s : State) (k : Nat) (x : Frames) : (s.setLive k x).sems = s.sems := by exact rfl
@[simp] theorem State.setLive_noc (s : State) (k : Nat) (x : Frames) : (s.setLive k x).noc = s.noc := by exact rfl
@[simp] theorem State.setLive_qm (s : State) (k : Nat) (x : Frames) : (s.setLive k x).qm = s.qm := by exact rfl
@[simp] theorem State.setLive_flow (s : State) (k : Nat) (x : Frames) : (s.setLive k x).flow = s.flow := by exact rfl
@[simp] theorem State.setLive_lp (s : State) (k : Nat) (x : Frames) : (s.setLive k x).lp = s.lp := by exact rfl
@[simp] theorem State.setLive_mee (s : State) (k : Nat) (x : Frames) : (s.setLive k x).mee = s.mee := by exact rfl
@[simp] theorem State.setLive_ln (s : State) (k : Nat) (x : Frames) : (s.setLive k x).ln = s.ln := by exact rfl
@[simp] theorem State.setLive_gr (s : State) (k : Nat) (x : Frames) : (s.setLive k x).gr = s.gr := by exact rfl
@[simp] theorem State.setLive_eth (s : State) (k : Nat) (x : Frames) : (s.setLive k x).eth = s.eth := by exact rfl
@[simp] theorem State.setLive_pci (s : State) (k : Nat) (x : Frames) : (s.setLive k x).pci = s.pci := by exact rfl
@[simp] theorem State.setLive_mgt (s : State) (k : Nat) (x : Frames) : (s.setLive k x).mgt = s.mgt := by exact rfl
@[simp] theorem State.setLive_secu (s : State) (k : Nat) (x : Frames) : (s.setLive k x).secu = s.secu := by exact rfl
@[simp] theorem State.setLive_stu (s : State) (k : Nat) (x : Frames) : (s.setLive k x).stu = s.stu := by exact rfl
@[simp] theorem State.setLive_ci (s : State) (k : Nat) (x : Frames) : (s.setLive k x).ci = s.ci := by exact rfl
@[simp] theorem State.setLive_clk (s : State) (k : Nat) (x : Frames) : (s.setLive k x).clk = s.clk := by exact rfl
@[simp] theorem State.setLive_pm (s : State) (k : Nat) (x : Frames) : (s.setLive k x).pm = s.pm := by exact rfl
@[simp] theorem State.setLive_th (s : State) (k : Nat) (x : Frames) : (s.setLive k x).th = s.th := by exact rfl
@[simp] theorem State.setLive_prm (s : State) (k : Nat) (x : Frames) : (s.setLive k x).prm = s.prm := by exact rfl
@[simp] theorem State.setLive_sp (s : State) (k : Nat) (x : Frames) : (s.setLive k x).sp = s.sp := by exact rfl
@[simp] theorem State.setLive_freeIdx (s : State) (k : Nat) (x : Frames) : (s.setLive k x).freeIdx = s.freeIdx := by exact rfl
@[simp] theorem State.setLive_pending (s : State) (k : Nat) (x : Frames) : (s.setLive k x).pending = s.pending := by exact rfl
@[simp] theorem State.reg_setLive (s : State) (k : Nat) (x : Frames) (o j : Nat) :
    (s.setLive k x).reg o j = s.reg o j := by exact rfl
@[simp] theorem State.fld_setLive (s : State) (k : Nat) (x : Frames) (g : FieldRef) (j : Nat) :
    (s.setLive k x).fld g j = s.fld g j := by exact rfl
@[simp] theorem State.flag_setLive (s : State) (k : Nat) (x : Frames) (g : FieldRef) (j : Nat) :
    (s.setLive k x).flag g j = s.flag g j := by exact rfl

@[simp] theorem State.setStaged_csr (s : State) (k : Nat) (x : Frames) : (s.setStaged k x).csr = s.csr := by exact rfl
@[simp] theorem State.setStaged_staged (s : State) (k : Nat) (x : Frames) : (s.setStaged k x).staged = s.staged := by exact rfl
@[simp] theorem State.setStaged_locked (s : State) (k : Nat) (x : Frames) : (s.setStaged k x).locked = s.locked := by exact rfl
@[simp] theorem State.setStaged_firsts (s : State) (k : Nat) (x : Frames) : (s.setStaged k x).firsts = s.firsts := by exact rfl
@[simp] theorem State.setStaged_time (s : State) (k : Nat) (x : Frames) : (s.setStaged k x).time = s.time := by exact rfl
@[simp] theorem State.setStaged_flt (s : State) (k : Nat) (x : Frames) : (s.setStaged k x).flt = s.flt := by exact rfl
@[simp] theorem State.setStaged_out (s : State) (k : Nat) (x : Frames) : (s.setStaged k x).out = s.out := by exact rfl
@[simp] theorem State.setStaged_vx (s : State) (k : Nat) (x : Frames) : (s.setStaged k x).vx = s.vx := by exact rfl
@[simp] theorem State.setStaged_ctx (s : State) (k : Nat) (x : Frames) : (s.setStaged k x).ctx = s.ctx := by exact rfl
@[simp] theorem State.setStaged_mem (s : State) (k : Nat) (x : Frames) : (s.setStaged k x).mem = s.mem := by exact rfl
@[simp] theorem State.setStaged_eng (s : State) (k : Nat) (x : Frames) : (s.setStaged k x).eng = s.eng := by exact rfl
@[simp] theorem State.setStaged_sems (s : State) (k : Nat) (x : Frames) : (s.setStaged k x).sems = s.sems := by exact rfl
@[simp] theorem State.setStaged_noc (s : State) (k : Nat) (x : Frames) : (s.setStaged k x).noc = s.noc := by exact rfl
@[simp] theorem State.setStaged_qm (s : State) (k : Nat) (x : Frames) : (s.setStaged k x).qm = s.qm := by exact rfl
@[simp] theorem State.setStaged_flow (s : State) (k : Nat) (x : Frames) : (s.setStaged k x).flow = s.flow := by exact rfl
@[simp] theorem State.setStaged_lp (s : State) (k : Nat) (x : Frames) : (s.setStaged k x).lp = s.lp := by exact rfl
@[simp] theorem State.setStaged_mee (s : State) (k : Nat) (x : Frames) : (s.setStaged k x).mee = s.mee := by exact rfl
@[simp] theorem State.setStaged_ln (s : State) (k : Nat) (x : Frames) : (s.setStaged k x).ln = s.ln := by exact rfl
@[simp] theorem State.setStaged_gr (s : State) (k : Nat) (x : Frames) : (s.setStaged k x).gr = s.gr := by exact rfl
@[simp] theorem State.setStaged_eth (s : State) (k : Nat) (x : Frames) : (s.setStaged k x).eth = s.eth := by exact rfl
@[simp] theorem State.setStaged_pci (s : State) (k : Nat) (x : Frames) : (s.setStaged k x).pci = s.pci := by exact rfl
@[simp] theorem State.setStaged_mgt (s : State) (k : Nat) (x : Frames) : (s.setStaged k x).mgt = s.mgt := by exact rfl
@[simp] theorem State.setStaged_secu (s : State) (k : Nat) (x : Frames) : (s.setStaged k x).secu = s.secu := by exact rfl
@[simp] theorem State.setStaged_stu (s : State) (k : Nat) (x : Frames) : (s.setStaged k x).stu = s.stu := by exact rfl
@[simp] theorem State.setStaged_ci (s : State) (k : Nat) (x : Frames) : (s.setStaged k x).ci = s.ci := by exact rfl
@[simp] theorem State.setStaged_clk (s : State) (k : Nat) (x : Frames) : (s.setStaged k x).clk = s.clk := by exact rfl
@[simp] theorem State.setStaged_pm (s : State) (k : Nat) (x : Frames) : (s.setStaged k x).pm = s.pm := by exact rfl
@[simp] theorem State.setStaged_th (s : State) (k : Nat) (x : Frames) : (s.setStaged k x).th = s.th := by exact rfl
@[simp] theorem State.setStaged_prm (s : State) (k : Nat) (x : Frames) : (s.setStaged k x).prm = s.prm := by exact rfl
@[simp] theorem State.setStaged_sp (s : State) (k : Nat) (x : Frames) : (s.setStaged k x).sp = s.sp := by exact rfl
@[simp] theorem State.setStaged_freeIdx (s : State) (k : Nat) (x : Frames) :
    (s.setStaged k x).freeIdx = s.freeIdx := by exact rfl
@[simp] theorem State.setStaged_pending (s : State) (k : Nat) (x : Frames) :
    (s.setStaged k x).pending = s.pending := by exact rfl
@[simp] theorem State.reg_setStaged (s : State) (k : Nat) (x : Frames) (o j : Nat) :
    (s.setStaged k x).reg o j = s.reg o j := by exact rfl
@[simp] theorem State.fld_setStaged (s : State) (k : Nat) (x : Frames) (g : FieldRef) (j : Nat) :
    (s.setStaged k x).fld g j = s.fld g j := by exact rfl
@[simp] theorem State.flag_setStaged (s : State) (k : Nat) (x : Frames) (g : FieldRef) (j : Nat) :
    (s.setStaged k x).flag g j = s.flag g j := by exact rfl

@[simp] theorem State.setLand_csr (s : State) (b : Nat) (l : Landing) : (s.setLand b l).csr = s.csr := by exact rfl
@[simp] theorem State.setLand_staged (s : State) (b : Nat) (l : Landing) : (s.setLand b l).staged = s.staged := by exact rfl
@[simp] theorem State.setLand_locked (s : State) (b : Nat) (l : Landing) : (s.setLand b l).locked = s.locked := by exact rfl
@[simp] theorem State.setLand_firsts (s : State) (b : Nat) (l : Landing) : (s.setLand b l).firsts = s.firsts := by exact rfl
@[simp] theorem State.setLand_time (s : State) (b : Nat) (l : Landing) : (s.setLand b l).time = s.time := by exact rfl
@[simp] theorem State.setLand_flt (s : State) (b : Nat) (l : Landing) : (s.setLand b l).flt = s.flt := by exact rfl
@[simp] theorem State.setLand_out (s : State) (b : Nat) (l : Landing) : (s.setLand b l).out = s.out := by exact rfl
@[simp] theorem State.setLand_vx (s : State) (b : Nat) (l : Landing) : (s.setLand b l).vx = s.vx := by exact rfl
@[simp] theorem State.setLand_ctx (s : State) (b : Nat) (l : Landing) : (s.setLand b l).ctx = s.ctx := by exact rfl
@[simp] theorem State.setLand_mem (s : State) (b : Nat) (l : Landing) : (s.setLand b l).mem = s.mem := by exact rfl
@[simp] theorem State.setLand_eng (s : State) (b : Nat) (l : Landing) : (s.setLand b l).eng = s.eng := by exact rfl
@[simp] theorem State.setLand_sems (s : State) (b : Nat) (l : Landing) : (s.setLand b l).sems = s.sems := by exact rfl
@[simp] theorem State.setLand_noc (s : State) (b : Nat) (l : Landing) : (s.setLand b l).noc = s.noc := by exact rfl
@[simp] theorem State.setLand_qm (s : State) (b : Nat) (l : Landing) : (s.setLand b l).qm = s.qm := by exact rfl
@[simp] theorem State.setLand_flow (s : State) (b : Nat) (l : Landing) : (s.setLand b l).flow = s.flow := by exact rfl
@[simp] theorem State.setLand_lp (s : State) (b : Nat) (l : Landing) : (s.setLand b l).lp = s.lp := by exact rfl
@[simp] theorem State.setLand_mee (s : State) (b : Nat) (l : Landing) : (s.setLand b l).mee = s.mee := by exact rfl
@[simp] theorem State.setLand_ln (s : State) (b : Nat) (l : Landing) : (s.setLand b l).ln = s.ln := by exact rfl
@[simp] theorem State.setLand_gr (s : State) (b : Nat) (l : Landing) : (s.setLand b l).gr = s.gr := by exact rfl
@[simp] theorem State.setLand_eth (s : State) (b : Nat) (l : Landing) : (s.setLand b l).eth = s.eth := by exact rfl
@[simp] theorem State.setLand_pci (s : State) (b : Nat) (l : Landing) : (s.setLand b l).pci = s.pci := by exact rfl
@[simp] theorem State.setLand_mgt (s : State) (b : Nat) (l : Landing) : (s.setLand b l).mgt = s.mgt := by exact rfl
@[simp] theorem State.setLand_secu (s : State) (b : Nat) (l : Landing) : (s.setLand b l).secu = s.secu := by exact rfl
@[simp] theorem State.setLand_stu (s : State) (b : Nat) (l : Landing) : (s.setLand b l).stu = s.stu := by exact rfl
@[simp] theorem State.setLand_ci (s : State) (b : Nat) (l : Landing) : (s.setLand b l).ci = s.ci := by exact rfl
@[simp] theorem State.setLand_clk (s : State) (b : Nat) (l : Landing) : (s.setLand b l).clk = s.clk := by exact rfl
@[simp] theorem State.setLand_pm (s : State) (b : Nat) (l : Landing) : (s.setLand b l).pm = s.pm := by exact rfl
@[simp] theorem State.setLand_th (s : State) (b : Nat) (l : Landing) : (s.setLand b l).th = s.th := by exact rfl
@[simp] theorem State.setLand_prm (s : State) (b : Nat) (l : Landing) : (s.setLand b l).prm = s.prm := by exact rfl
@[simp] theorem State.setLand_sp (s : State) (b : Nat) (l : Landing) : (s.setLand b l).sp = s.sp := by exact rfl
@[simp] theorem State.setLand_freeIdx (s : State) (b : Nat) (l : Landing) : (s.setLand b l).freeIdx = s.freeIdx := by exact rfl
@[simp] theorem State.setLand_pending (s : State) (b : Nat) (l : Landing) : (s.setLand b l).pending = s.pending := by exact rfl
@[simp] theorem State.reg_setLand (s : State) (b : Nat) (l : Landing) (o j : Nat) :
    (s.setLand b l).reg o j = s.reg o j := by exact rfl
@[simp] theorem State.fld_setLand (s : State) (b : Nat) (l : Landing) (g : FieldRef) (j : Nat) :
    (s.setLand b l).fld g j = s.fld g j := by exact rfl
@[simp] theorem State.flag_setLand (s : State) (b : Nat) (l : Landing) (g : FieldRef) (j : Nat) :
    (s.setLand b l).flag g j = s.flag g j := by exact rfl

@[simp] theorem State.bundle_setBundle_same (s : State) (i t : Nat) (b : Bundle) : (s.setBundle i t b).bundle i t = b :=
  SMap.get_set_same _ _ _ _
@[simp] theorem State.sec_setSec_same (s : State) (k : Nat) (c : CtxSec) : (s.setSec k c).sec k = c := SMap.get_set_same _ _ _ _
@[simp] theorem State.plane_setPlane_same (s : State) (k p : Nat) (x : Frames) : (s.setPlane k p x).plane k p = x :=
  SMap.get_set_same _ _ _ _
@[simp] theorem State.liveOf_setLive_same (s : State) (k : Nat) (x : Frames) :
    (s.setLive k x).liveOf k = x := SMap.get_set_same _ _ _ _
@[simp] theorem State.stagedOf_setStaged_same (s : State) (k : Nat) (x : Frames) : (s.setStaged k x).stagedOf k = x :=
  SMap.get_set_same _ _ _ _
@[simp] theorem State.land_setLand_same (s : State) (b : Nat) (l : Landing) :
    (s.setLand b l).land b = l := SMap.get_set_same _ _ _ _

@[simp] theorem State.setBundle_vx (s : State) (i t : Nat) (b : Bundle) :
    (s.setBundle i t b).vx = { s.vx with bundles := SMap.set {} s.vx.bundles (i * 1024 + t) b } := by exact rfl
@[simp] theorem State.setSec_ctx (s : State) (k : Nat) (c : CtxSec) :
    (s.setSec k c).ctx = { s.ctx with secs := SMap.set {} s.ctx.secs k c } := by exact rfl
@[simp] theorem State.setPlane_ctx (s : State) (k p : Nat) (x : Frames) :
    (s.setPlane k p x).ctx = { s.ctx with planes := SMap.set [] s.ctx.planes (k * 8 + p) x } := by exact rfl
@[simp] theorem State.setLive_fab (s : State) (k : Nat) (x : Frames) :
    (s.setLive k x).fab = { s.fab with live := SMap.set [] s.fab.live k x } := by exact rfl
@[simp] theorem State.setStaged_fab (s : State) (k : Nat) (x : Frames) :
    (s.setStaged k x).fab = { s.fab with staged := SMap.set [] s.fab.staged k x } := by exact rfl
@[simp] theorem State.setLand_fab (s : State) (b : Nat) (l : Landing) :
    (s.setLand b l).fab = { s.fab with landing := SMap.set {} s.fab.landing b l } := by exact rfl

/-! ## Registers of a sector's window -/

theorem State.fld_setFld_ctx_ne (s : State) (f g : FieldRef) (k v : Nat) (h : f.reg ≠ g.reg) :
    (s.setFld (f.ctx k) v).fld (g.ctx k) = s.fld (g.ctx k) := by
  refine State.fld_setFld_other _ _ _ _ _ _ fun hk => ?_
  simp only [regKey, FieldRef.ctx] at hk
  omega

theorem State.fld_setFld_ctx_beside (s : State) (f g : FieldRef) (k v : Nat) (h0 : f.reg = g.reg) (h1 : f.lo ≤ f.hi)
    (h2 : f.hi < 32) (h3 : g.hi < f.lo ∨ f.hi < g.lo) : (s.setFld (f.ctx k) v).fld (g.ctx k) = s.fld (g.ctx k) :=
  State.fld_setFld_beside _ _ _ _ _ (by simp only [FieldRef.ctx, h0]) h1 h2 h3

theorem State.fld_setFld_ctx_same (s : State) (f : FieldRef) (k v : Nat) (h1 : f.lo ≤ f.hi) (h2 : f.hi < 32) :
    (s.setFld (f.ctx k) v).fld (f.ctx k) = v % 2 ^ (f.hi + 1 - f.lo) := State.fld_setFld_same _ _ _ _ h1 h2

/-- A field fits its bits. -/
theorem State.fld_lt (s : State) (f : FieldRef) (i : Nat) : s.fld f i < 2 ^ (f.hi + 1 - f.lo) := Nat.mod_lt _ (by positivity)

/-! ## Faults -/

@[simp] theorem State.raise_raised (s : State) (f : FaultCode) (l : List Nat) (src : Nat) :
    (s.raise f l src).flt.raised = s.flt.raised ++ [[f.entry l src]] := by exact rfl

@[simp] theorem State.emit_out (s : State) (m : OutMsg) : (s.emit m).out = m :: s.out := by exact rfl

/-- A fault recorded only once in an interval: recorded where no earlier one of the unit was. -/
theorem State.raiseFirst_first (s : State) (f : FaultCode) (unit now : Nat) (l : List Nat) (src : Nat)
    (h : SMap.get 0 s.firsts (firstKey f unit) ≠ now + 1) :
    (s.raiseFirst f unit now l src).flt.raised = s.flt.raised ++ [[f.entry l src]] := by
  unfold State.raiseFirst
  rw [if_neg h]
  rfl

/-- A second one in the same interval changes nothing. -/
theorem State.raiseFirst_again (s : State) (f : FaultCode) (unit now : Nat) (l : List Nat) (src : Nat)
    (h : SMap.get 0 s.firsts (firstKey f unit) = now + 1) : s.raiseFirst f unit now l src = s := by
  unfold State.raiseFirst
  rw [if_pos h]

/-! ## Operations that change registers only -/

theorem State.setReg_ex (s : State) (off : Nat) (v : Word) (i : Nat) :
    ∃ c, s.setReg off v i = { s with csr := c } ∧ (s.setReg off v i).csr = c := ⟨_, rfl, rfl⟩
theorem State.setFld_ex (s : State) (f : FieldRef) (v i : Nat) :
    ∃ c, s.setFld f v i = { s with csr := c } ∧ (s.setFld f v i).csr = c := ⟨_, rfl, rfl⟩
theorem State.setFlag_ex (s : State) (f : FieldRef) (b : Bool) (i : Nat) :
    ∃ c, s.setFlag f b i = { s with csr := c } ∧ (s.setFlag f b i).csr = c := ⟨_, rfl, rfl⟩
theorem State.count_ex (s : State) (f : FieldRef) (n i : Nat) :
    ∃ c, s.count f n i = { s with csr := c } ∧ (s.count f n i).csr = c := ⟨_, rfl, rfl⟩
theorem State.countWrap_ex (s : State) (f : FieldRef) (n i : Nat) :
    ∃ c, s.countWrap f n i = { s with csr := c } ∧ (s.countWrap f n i).csr = c := ⟨_, rfl, rfl⟩
theorem State.setPair_ex (s : State) (lo hi v i : Nat) :
    ∃ c, s.setPair lo hi v i = { s with csr := c } ∧ (s.setPair lo hi v i).csr = c := ⟨_, rfl, rfl⟩

/-! ## A fault recorded once in an interval -/

@[simp] theorem State.raiseFirst_csr (s : State) (f : FaultCode) (u n : Nat) (l : List Nat) (src : Nat) :
    (s.raiseFirst f u n l src).csr = s.csr := by unfold State.raiseFirst; split <;> rfl
@[simp] theorem State.raiseFirst_staged (s : State) (f : FaultCode) (u n : Nat) (l : List Nat) (src : Nat) :
    (s.raiseFirst f u n l src).staged = s.staged := by unfold State.raiseFirst; split <;> rfl
@[simp] theorem State.raiseFirst_locked (s : State) (f : FaultCode) (u n : Nat) (l : List Nat) (src : Nat) :
    (s.raiseFirst f u n l src).locked = s.locked := by unfold State.raiseFirst; split <;> rfl
@[simp] theorem State.raiseFirst_time (s : State) (f : FaultCode) (u n : Nat) (l : List Nat) (src : Nat) :
    (s.raiseFirst f u n l src).time = s.time := by unfold State.raiseFirst; split <;> rfl
@[simp] theorem State.raiseFirst_out (s : State) (f : FaultCode) (u n : Nat) (l : List Nat) (src : Nat) :
    (s.raiseFirst f u n l src).out = s.out := by unfold State.raiseFirst; split <;> rfl
@[simp] theorem State.raiseFirst_vx (s : State) (f : FaultCode) (u n : Nat) (l : List Nat) (src : Nat) :
    (s.raiseFirst f u n l src).vx = s.vx := by unfold State.raiseFirst; split <;> rfl
@[simp] theorem State.raiseFirst_fab (s : State) (f : FaultCode) (u n : Nat) (l : List Nat) (src : Nat) :
    (s.raiseFirst f u n l src).fab = s.fab := by unfold State.raiseFirst; split <;> rfl
@[simp] theorem State.raiseFirst_ctx (s : State) (f : FaultCode) (u n : Nat) (l : List Nat) (src : Nat) :
    (s.raiseFirst f u n l src).ctx = s.ctx := by unfold State.raiseFirst; split <;> rfl
@[simp] theorem State.raiseFirst_mem (s : State) (f : FaultCode) (u n : Nat) (l : List Nat) (src : Nat) :
    (s.raiseFirst f u n l src).mem = s.mem := by unfold State.raiseFirst; split <;> rfl
@[simp] theorem State.raiseFirst_eng (s : State) (f : FaultCode) (u n : Nat) (l : List Nat) (src : Nat) :
    (s.raiseFirst f u n l src).eng = s.eng := by unfold State.raiseFirst; split <;> rfl
@[simp] theorem State.raiseFirst_sems (s : State) (f : FaultCode) (u n : Nat) (l : List Nat) (src : Nat) :
    (s.raiseFirst f u n l src).sems = s.sems := by unfold State.raiseFirst; split <;> rfl
@[simp] theorem State.raiseFirst_noc (s : State) (f : FaultCode) (u n : Nat) (l : List Nat) (src : Nat) :
    (s.raiseFirst f u n l src).noc = s.noc := by unfold State.raiseFirst; split <;> rfl
@[simp] theorem State.raiseFirst_qm (s : State) (f : FaultCode) (u n : Nat) (l : List Nat) (src : Nat) :
    (s.raiseFirst f u n l src).qm = s.qm := by unfold State.raiseFirst; split <;> rfl
@[simp] theorem State.raiseFirst_flow (s : State) (f : FaultCode) (u n : Nat) (l : List Nat) (src : Nat) :
    (s.raiseFirst f u n l src).flow = s.flow := by unfold State.raiseFirst; split <;> rfl
@[simp] theorem State.raiseFirst_lp (s : State) (f : FaultCode) (u n : Nat) (l : List Nat) (src : Nat) :
    (s.raiseFirst f u n l src).lp = s.lp := by unfold State.raiseFirst; split <;> rfl
@[simp] theorem State.raiseFirst_mee (s : State) (f : FaultCode) (u n : Nat) (l : List Nat) (src : Nat) :
    (s.raiseFirst f u n l src).mee = s.mee := by unfold State.raiseFirst; split <;> rfl
@[simp] theorem State.raiseFirst_ln (s : State) (f : FaultCode) (u n : Nat) (l : List Nat) (src : Nat) :
    (s.raiseFirst f u n l src).ln = s.ln := by unfold State.raiseFirst; split <;> rfl
@[simp] theorem State.raiseFirst_gr (s : State) (f : FaultCode) (u n : Nat) (l : List Nat) (src : Nat) :
    (s.raiseFirst f u n l src).gr = s.gr := by unfold State.raiseFirst; split <;> rfl
@[simp] theorem State.raiseFirst_eth (s : State) (f : FaultCode) (u n : Nat) (l : List Nat) (src : Nat) :
    (s.raiseFirst f u n l src).eth = s.eth := by unfold State.raiseFirst; split <;> rfl
@[simp] theorem State.raiseFirst_pci (s : State) (f : FaultCode) (u n : Nat) (l : List Nat) (src : Nat) :
    (s.raiseFirst f u n l src).pci = s.pci := by unfold State.raiseFirst; split <;> rfl
@[simp] theorem State.raiseFirst_mgt (s : State) (f : FaultCode) (u n : Nat) (l : List Nat) (src : Nat) :
    (s.raiseFirst f u n l src).mgt = s.mgt := by unfold State.raiseFirst; split <;> rfl
@[simp] theorem State.raiseFirst_secu (s : State) (f : FaultCode) (u n : Nat) (l : List Nat) (src : Nat) :
    (s.raiseFirst f u n l src).secu = s.secu := by unfold State.raiseFirst; split <;> rfl
@[simp] theorem State.raiseFirst_stu (s : State) (f : FaultCode) (u n : Nat) (l : List Nat) (src : Nat) :
    (s.raiseFirst f u n l src).stu = s.stu := by unfold State.raiseFirst; split <;> rfl
@[simp] theorem State.raiseFirst_ci (s : State) (f : FaultCode) (u n : Nat) (l : List Nat) (src : Nat) :
    (s.raiseFirst f u n l src).ci = s.ci := by unfold State.raiseFirst; split <;> rfl
@[simp] theorem State.raiseFirst_clk (s : State) (f : FaultCode) (u n : Nat) (l : List Nat) (src : Nat) :
    (s.raiseFirst f u n l src).clk = s.clk := by unfold State.raiseFirst; split <;> rfl
@[simp] theorem State.raiseFirst_pm (s : State) (f : FaultCode) (u n : Nat) (l : List Nat) (src : Nat) :
    (s.raiseFirst f u n l src).pm = s.pm := by unfold State.raiseFirst; split <;> rfl
@[simp] theorem State.raiseFirst_th (s : State) (f : FaultCode) (u n : Nat) (l : List Nat) (src : Nat) :
    (s.raiseFirst f u n l src).th = s.th := by unfold State.raiseFirst; split <;> rfl
@[simp] theorem State.raiseFirst_prm (s : State) (f : FaultCode) (u n : Nat) (l : List Nat) (src : Nat) :
    (s.raiseFirst f u n l src).prm = s.prm := by unfold State.raiseFirst; split <;> rfl
@[simp] theorem State.raiseFirst_sp (s : State) (f : FaultCode) (u n : Nat) (l : List Nat) (src : Nat) :
    (s.raiseFirst f u n l src).sp = s.sp := by unfold State.raiseFirst; split <;> rfl
@[simp] theorem State.raiseFirst_freeIdx (s : State) (f : FaultCode) (u n : Nat) (l : List Nat) (src : Nat) :
    (s.raiseFirst f u n l src).freeIdx = s.freeIdx := by unfold State.raiseFirst; split <;> rfl
@[simp] theorem State.raiseFirst_pending (s : State) (f : FaultCode) (u n : Nat) (l : List Nat) (src : Nat) :
    (s.raiseFirst f u n l src).pending = s.pending := by unfold State.raiseFirst; split <;> rfl
@[simp] theorem State.reg_raiseFirst (s : State) (f : FaultCode) (u n : Nat) (l : List Nat) (src off i : Nat) :
    (s.raiseFirst f u n l src).reg off i = s.reg off i := by unfold State.raiseFirst; split <;> rfl
@[simp] theorem State.fld_raiseFirst (s : State) (f : FaultCode) (u n : Nat) (l : List Nat) (src : Nat) (g : FieldRef) (i : Nat) :
    (s.raiseFirst f u n l src).fld g i = s.fld g i := by unfold State.raiseFirst; split <;> rfl
@[simp] theorem State.flag_raiseFirst (s : State) (f : FaultCode) (u n : Nat) (l : List Nat) (src : Nat) (g : FieldRef) (i : Nat) :
    (s.raiseFirst f u n l src).flag g i = s.flag g i := by unfold State.raiseFirst; split <;> rfl

end Sys2Proof.Machine
end

