-- ==== Sys2Proof/Laws/Csr.lean ====
section
/-! SUPPORT. Register writes: which writes are only writes of fields, and what a write of fields leaves, by access type. -/

namespace Sys2Proof.Machine

/-- The offsets, in the first window of their block, at which a write does more than write fields. -/
def writeCommands : List Nat :=
  [R.QM_Q_CFG0, R.QM_FAR_CELLS, R.PCI_RING_CFG, R.ETH_MAC_CFG, R.MEE_REG_CFG, R.LN_CTRL, R.FAB_CAP_CTRL, R.MEM_RC_CTRL, R.ETH_TIME_LO,
   R.ETH_TIME_HI, R.ETH_TIME_STEP, R.ETH_STATUS, R.CLK_ISL_OP, R.MB_CMD_IDX, R.PCI_LTR, R.CTX_CMD, R.MI_REMAP_CMD, R.MI_SCRUB_CTRL,
   R.MI_RAW_CTRL, R.MI_MARCH_CTRL, R.ENG_CMD, R.QM_Q_CFG4, R.QM_Q_CMD, R.QM_CT_CMD, R.FS_AGE_CTRL, R.FS_KILL, R.LP_CMD, R.MEE_KEY_CMD,
   R.MEE_CMD, R.LN_INJ, R.GR_CMD, R.CFG_LOAD_CMD, R.CI_CMD, R.PM_LAT_TOL, R.PM_ISL_CTRL, R.PM_DEV_CMD, R.TH_SUSPECT_LO, R.TH_SUSPECT_HI,
   R.MB_CTRL, R.BT_CTRL, R.BT_ANA_CTRL, R.SEC_LC_CMD, R.SEC_CMD, R.VX_SEL, R.FAB_LAND_SEL, R.CLK_ISL_SEL, R.PM_ISL_SEL, R.MEM_COL_SEL,
   R.MI_COL_SEL, R.ENG_SEL, R.MON_BP_SEL, R.GR_SEL, R.ETH_SEL, R.CI_SEL, R.TH_SEL, R.QM_PSEL, R.CLK_TRIM]

/-- Whether a write at an offset only writes fields: a register none of those commands, no code map word, no commit register, and
outside the image stream window. -/
def plainWrite (off : Nat) (d : RegDesc) : Bool :=
  decide (unwindow off ∉ writeCommands) && !(decide (R.MI_CODE ≤ unwindow off) && decide (unwindow off ≤ R.MI_CODE + 0x3C))
    && !(d.fields.any fun f => decide (f.2.2 = .w1s)) && !(decide (off / 0x100000 = 4) && decide (0x80000 ≤ off % 0x100000))

/-- A write of a plain register writes its fields and does nothing else. -/
theorem State.csrWrite_plain (s : State) {off : Nat} {d : RegDesc} {n : Nat} (v : Nat) (hv : v < 2 ^ 32)
    (hd : findReg off = some (d, n)) (hp : plainWrite off d = true) :
    s.csrWrite off v = s.writeFields off (s.instAt off d) d v := by
  unfold plainWrite at hp
  simp only [Bool.and_eq_true, decide_eq_true_eq, Bool.not_eq_true', Bool.and_eq_false_iff, decide_eq_false_iff_not] at hp
  obtain ⟨⟨⟨h1, h2⟩, h3⟩, h4⟩ := hp
  have h2' : ¬(R.MI_CODE ≤ unwindow off ∧ unwindow off ≤ R.MI_CODE + 0x3C) := by tauto
  have h4' : ¬(off / 0x100000 = 4 ∧ 0x80000 ≤ off % 0x100000) := by tauto
  unfold writeCommands at h1
  simp only [List.mem_cons, List.not_mem_nil, or_false, not_or] at h1
  unfold State.csrWrite
  rw [Nat.mod_eq_of_lt hv]
  dsimp only
  rw [if_neg h4', hd]
  dsimp only
  have hc : clampSel (unwindow off) v = v := by
    unfold clampSel
    simp only [h1, or_self, if_false]
  rw [hc]
  simp only [h3, h1, h2', false_and, Bool.false_eq_true, if_false]
  unfold State.afterWrite
  dsimp only
  split <;> simp only [h1, false_and, Bool.false_eq_true, if_false]

/-- What a write of fields leaves of a register with no RWS, RWH or RWL field: RW fields take the value, W1C fields lose
the bits written 1, every other bit stays. -/
theorem State.writeFields_simple (s : State) (off inst : Nat) (d : RegDesc) (v : Nat)
    (hs : accMask d (fun x => decide (x = .rws)) = 0) (hh : accMask d (fun x => decide (x = .rwh)) = 0)
    (hl : accMask d (fun x => decide (x = .rwl)) = 0) :
    s.writeFields off inst d v
      = s.setReg off (BitVec.ofNat 32 (mix (s.reg off inst).toNat v (accMask d fun x => decide (x = .rw))
          - (mix (s.reg off inst).toNat v (accMask d fun x => decide (x = .rw)) &&& v &&& accMask d fun x => decide (x = .w1c)))) inst := by
  unfold State.writeFields
  simp [hs, hh, hl]

/-- The offsets, in the first window of their block, whose reads show other state or have effects of their own. -/
def readViews : List Nat :=
  [R.VX_STATUS, R.VX_ISL_STAT, R.VX_ISL_ROW, R.HSP_STATUS, R.MEM_COL_STAT, R.MI_STATUS, R.ENG_STATE, R.ENG_XFER_STAT, R.QM_Q_DEPTH,
   R.QM_Q_PKTS, R.QM_FAR_FREE, R.FS_STATUS, R.FS_OCC, R.MEE_STATUS, R.ETH_TIME_LO, R.ETH_TIME_HI, R.ETH_TXTS_TAG, R.CFG_STATUS,
   R.PM_ISL_STAT, R.FLT_STATUS]

/-- Whether a read at an offset shows the register and nothing else. -/
def plainRead (off : Nat) (d : RegDesc) : Bool :=
  decide (unwindow off ∉ readViews) && decide (off ≠ R.ETH_TIME_LO) && decide (off ≠ R.ETH_TXTS_TAG) && decide (rwsMask d = 0)
    && !(decide (off / 0x100000 = 25) && decide (0x8000 ≤ off % 0x100000) && decide (off % 0x100000 < 0x10000))

/-- A read of a plain register answers its value; it clears its RC fields unless it is a peek. -/
theorem State.csrRead_plain (s : State) {off : Nat} {d : RegDesc} {n : Nat} (peek : Bool) (hd : findReg off = some (d, n))
    (hp : plainRead off d = true) :
    s.csrRead off peek = ((s.reg off (s.instAt off d)).toNat,
      if peek = true ∨ accMask d (fun a => decide (a = .rc)) = 0 then s
      else s.setReg off (BitVec.ofNat 32 ((s.reg off (s.instAt off d)).toNat
        - ((s.reg off (s.instAt off d)).toNat &&& accMask d fun a => decide (a = .rc)))) (s.instAt off d)) := by
  unfold plainRead at hp
  simp only [Bool.and_eq_true, decide_eq_true_eq, Bool.not_eq_true', Bool.and_eq_false_iff, decide_eq_false_iff_not] at hp
  obtain ⟨⟨⟨⟨h1, h2⟩, h3⟩, h4⟩, h5⟩ := hp
  unfold readViews at h1
  simp only [List.mem_cons, List.not_mem_nil, or_false, not_or] at h1
  have h5' : ¬(off / 0x100000 = 25 ∧ 0x8000 ≤ off % 0x100000 ∧ off % 0x100000 < 0x10000) := by tauto
  unfold State.csrRead
  rw [if_neg h5', hd]
  have hv : ∀ i, s.readValue off i d = (s.reg off i).toNat := by
    intro i
    unfold State.readValue
    have : s.regView off i = (s.reg off i).toNat := by
      unfold State.regView
      simp only [h1, if_false]
    simp [this, h4]
  simp only [hv, h2, h3, if_false]
  cases peek
  · simp only [Bool.false_eq_true, if_false, false_or]
    split <;> rfl
  · simp

theorem mix_all (old v : Nat) (ho : old < 2 ^ 32) (hv : v < 2 ^ 32) : mix old v (2 ^ 32 - 1) = v := by
  unfold mix
  rw [Nat.and_two_pow_sub_one_of_lt_two_pow ho, Nat.and_two_pow_sub_one_of_lt_two_pow hv]
  omega

theorem mix_none (old v : Nat) : mix old v 0 = old := by
  unfold mix; simp

/-- A write of a register whose written fields are all RWH: it takes the value while the block is stopped; otherwise the fields
keep theirs, and a value that would have changed one is ignored on the record. -/
theorem State.writeFields_rwh (s : State) (off inst : Nat) (d : RegDesc) (v m : Nat)
    (hw : accMask d (fun x => decide (x = .rw)) = 0) (hs : accMask d (fun x => decide (x = .rws)) = 0)
    (hl : accMask d (fun x => decide (x = .rwl)) = 0) (hc : accMask d (fun x => decide (x = .w1c)) = 0)
    (hh : accMask d (fun x => decide (x = .rwh)) = m) :
    s.writeFields off inst d v
      = if (v ^^^ (s.reg off inst).toNat) &&& m = 0 then s.setReg off (s.reg off inst) inst
        else if s.rwhStopped off inst = true then s.setReg off (BitVec.ofNat 32 (mix (s.reg off inst).toNat v m)) inst
        else (s.setReg off (s.reg off inst) inst).wrIgnored off := by
  unfold State.writeFields
  simp only [hw, hs, hl, hc, hh, mix_none]
  by_cases h1 : (v ^^^ (s.reg off inst).toNat) &&& m = 0 <;> cases h2 : s.rwhStopped off inst <;> simp [h1]

/-- A write of a register whose written fields are all RWL: the first after a reset is taken and locks; a later one is ignored, on
the record where the value differs. -/
theorem State.writeFields_rwl (s : State) (off inst : Nat) (d : RegDesc) (v m : Nat) (hm : m ≠ 0)
    (hw : accMask d (fun x => decide (x = .rw)) = 0) (hs : accMask d (fun x => decide (x = .rws)) = 0)
    (hh : accMask d (fun x => decide (x = .rwh)) = 0) (hc : accMask d (fun x => decide (x = .w1c)) = 0)
    (hl : accMask d (fun x => decide (x = .rwl)) = m) :
    s.writeFields off inst d v
      = if NSet.has s.locked (regKey off inst) = true then
          (if (v ^^^ (s.reg off inst).toNat) &&& m = 0
            then ({ s with locked := NSet.put s.locked (regKey off inst) true }).setReg off (s.reg off inst) inst
            else (({ s with locked := NSet.put s.locked (regKey off inst) true }).setReg off (s.reg off inst) inst).wrIgnored off)
        else ({ s with locked := NSet.put s.locked (regKey off inst) true }).setReg off
          (BitVec.ofNat 32 (mix (s.reg off inst).toNat v m)) inst := by
  unfold State.writeFields
  simp only [hw, hs, hl, hc, hh, mix_none]
  cases h2 : NSet.has s.locked (regKey off inst) <;> by_cases h1 : (v ^^^ (s.reg off inst).toNat) &&& m = 0 <;> simp [h1, hm]

/-- A write of a register whose written fields are all RWS: staged, or ignored on the record while a commit of its group pends. -/
theorem State.writeFields_rws (s : State) (off inst : Nat) (d : RegDesc) (v m : Nat) (hm : m ≠ 0)
    (hw : accMask d (fun x => decide (x = .rw)) = 0) (hl : accMask d (fun x => decide (x = .rwl)) = 0)
    (hh : accMask d (fun x => decide (x = .rwh)) = 0) (hc : accMask d (fun x => decide (x = .w1c)) = 0)
    (hs : accMask d (fun x => decide (x = .rws)) = m) :
    s.writeFields off inst d v
      = if s.commitPends (windowBase off) d.group = true then (s.setReg off (s.reg off inst) inst).wrIgnored off
        else (s.setReg off (s.reg off inst) inst).setStagedAt off
          (mix (s.stagedAt off inst) v m) inst := by
  unfold State.writeFields
  simp only [hw, hs, hl, hc, hh, mix_none]
  cases h2 : s.commitPends (windowBase off) d.group <;> simp [hm]

end Sys2Proof.Machine
end

