-- ==== Sys2Proof/Laws/Engine.lean ====
section
/-! SUPPORT. The signal engine's operations: what reading a register, an accumulator or an engine gives after each update. -/

namespace Sys2Proof.Machine

@[simp] theorem State.engine_setEngine_same (s : State) (e : Nat) (g : Engine) : (s.setEngine e g).engine e = g :=
  SMap.get_set_same _ _ _ _

theorem State.engine_setEngine_other (s : State) (e j : Nat) (g : Engine) (h : j ≠ e) : (s.setEngine e g).engine j = s.engine j :=
  SMap.get_set_other _ _ _ _ _ h

@[simp] theorem State.engine_updEngine_same (s : State) (e : Nat) (f : Engine → Engine) : (s.updEngine e f).engine e = f (s.engine e) :=
  State.engine_setEngine_same _ _ _

theorem State.engine_updEngine_other (s : State) (e j : Nat) (f : Engine → Engine) (h : j ≠ e) :
    (s.updEngine e f).engine j = s.engine j := State.engine_setEngine_other _ _ _ _ h

/-- A write of one key leaves every other key alone, whatever either reads where nothing is listed. -/
theorem SMap.get_set_ne {α : Type} [DecidableEq α] (d d2 : α) (m : SMap α) (k j : Nat) (v : α) (h : j ≠ k) :
    SMap.get d (SMap.set d2 m k v) j = SMap.get d m j := by
  unfold SMap.set
  split
  · exact SMap.get_erase_other _ _ _ _ h
  · exact SMap.get_insert_other _ _ _ _ _ h

/-- A register just written reads as the low bits of what was written. -/
theorem Engine.reg_setReg_same (g : Engine) (r v : Nat) (h : engWidth r ≠ 0) : (g.setReg r v).reg r = v % 2 ^ engWidth r := by
  unfold Engine.setReg Engine.reg
  rw [if_neg h]
  by_cases h2 : r = 23
  · subst h2
    dsimp only
    rw [if_pos rfl, SMap.get_set_ne _ _ _ _ _ _ (by decide)]
    exact SMap.get_set_same _ _ _ _
  · rw [if_neg h2]; exact SMap.get_set_same _ _ _ _

/-- A write of a register leaves every other register alone, except that wdt_per loads wdt. -/
theorem Engine.reg_setReg_other (g : Engine) (r j v : Nat) (h : j ≠ r) (h2 : r ≠ 23 ∨ j ≠ 53) : (g.setReg r v).reg j = g.reg j := by
  unfold Engine.setReg
  split
  · rfl
  · unfold Engine.reg
    dsimp only
    split
    · rename_i hr
      subst hr
      have : j ≠ 53 := by rcases h2 with h2 | h2 <;> [exact absurd rfl h2; exact h2]
      rw [SMap.get_set_ne _ _ _ _ _ _ this, SMap.get_set_ne _ _ _ _ _ _ h]
    · exact SMap.get_set_ne _ _ _ _ _ _ h

/-- A write of wdt_per loads wdt (09 R275). -/
theorem Engine.wdt_setReg_per (g : Engine) (v : Nat) : (g.setReg 23 v).reg 53 = v % 2 ^ 24 := by
  unfold Engine.setReg Engine.reg
  rw [if_neg (by decide), if_pos rfl]
  exact SMap.get_set_same _ _ _ _

/-- A write of a register changes registers only. -/
theorem Engine.setReg_eq (g : Engine) (r v : Nat) : g.setReg r v = { g with regs := (g.setReg r v).regs } := by
  unfold Engine.setReg; split <;> rfl

@[simp] theorem Engine.setReg_lagAcc (g : Engine) (r v : Nat) : (g.setReg r v).lagAcc = g.lagAcc := by
  unfold Engine.setReg; split <;> rfl

@[simp] theorem Engine.setReg_lagSt (g : Engine) (r v : Nat) : (g.setReg r v).lagSt = g.lagSt := by
  unfold Engine.setReg; split <;> rfl

@[simp] theorem Engine.setReg_pend (g : Engine) (r v : Nat) : (g.setReg r v).pend = g.pend := by
  unfold Engine.setReg; split <;> rfl

@[simp] theorem Engine.setReg_halted (g : Engine) (r v : Nat) : (g.setReg r v).halted = g.halted := by
  unfold Engine.setReg; split <;> rfl

@[simp] theorem Engine.setReg_cause (g : Engine) (r v : Nat) : (g.setReg r v).cause = g.cause := by
  unfold Engine.setReg; split <;> rfl

@[simp] theorem Engine.setReg_stalled (g : Engine) (r v : Nat) : (g.setReg r v).stalled = g.stalled := by
  unfold Engine.setReg; split <;> rfl

@[simp] theorem Engine.setReg_waiting (g : Engine) (r v : Nat) : (g.setReg r v).waiting = g.waiting := by
  unfold Engine.setReg; split <;> rfl

@[simp] theorem Engine.setReg_stepping (g : Engine) (r v : Nat) : (g.setReg r v).stepping = g.stepping := by
  unfold Engine.setReg; split <;> rfl

@[simp] theorem Engine.setReg_fresh (g : Engine) (r v : Nat) : (g.setReg r v).fresh = g.fresh := by
  unfold Engine.setReg; split <;> rfl

@[simp] theorem Engine.setReg_cmdHalt (g : Engine) (r v : Nat) : (g.setReg r v).cmdHalt = g.cmdHalt := by
  unfold Engine.setReg; split <;> rfl

@[simp] theorem Engine.setReg_delay (g : Engine) (r v : Nat) : (g.setReg r v).delay = g.delay := by
  unfold Engine.setReg; split <;> rfl

@[simp] theorem Engine.setReg_target (g : Engine) (r v : Nat) : (g.setReg r v).target = g.target := by
  unfold Engine.setReg; split <;> rfl

@[simp] theorem Engine.setReg_rep (g : Engine) (r v : Nat) : (g.setReg r v).rep = g.rep := by
  unfold Engine.setReg; split <;> rfl

@[simp] theorem Engine.setReg_lock (g : Engine) (r v : Nat) : (g.setReg r v).lock = g.lock := by
  unfold Engine.setReg; split <;> rfl

@[simp] theorem Engine.setReg_handler (g : Engine) (r v : Nat) : (g.setReg r v).handler = g.handler := by
  unfold Engine.setReg; split <;> rfl

@[simp] theorem Engine.setReg_timerPend (g : Engine) (r v : Nat) : (g.setReg r v).timerPend = g.timerPend := by
  unfold Engine.setReg; split <;> rfl

@[simp] theorem Engine.setReg_mboxPend (g : Engine) (r v : Nat) : (g.setReg r v).mboxPend = g.mboxPend := by
  unfold Engine.setReg; split <;> rfl

@[simp] theorem Engine.setReg_evt (g : Engine) (r v : Nat) : (g.setReg r v).evt = g.evt := by
  unfold Engine.setReg; split <;> rfl

@[simp] theorem Engine.setReg_dmem (g : Engine) (r v : Nat) : (g.setReg r v).dmem = g.dmem := by
  unfold Engine.setReg; split <;> rfl

@[simp] theorem Engine.setReg_pmem (g : Engine) (r v : Nat) : (g.setReg r v).pmem = g.pmem := by
  unfold Engine.setReg; split <;> rfl

@[simp] theorem Engine.setReg_rewrite (g : Engine) (r v : Nat) : (g.setReg r v).rewrite = g.rewrite := by
  unfold Engine.setReg; split <;> rfl

@[simp] theorem Engine.setReg_in0 (g : Engine) (r v : Nat) : (g.setReg r v).in0 = g.in0 := by
  unfold Engine.setReg; split <;> rfl

@[simp] theorem Engine.setReg_in1 (g : Engine) (r v : Nat) : (g.setReg r v).in1 = g.in1 := by
  unfold Engine.setReg; split <;> rfl

@[simp] theorem Engine.setReg_out0 (g : Engine) (r v : Nat) : (g.setReg r v).out0 = g.out0 := by
  unfold Engine.setReg; split <;> rfl

@[simp] theorem Engine.setReg_out1 (g : Engine) (r v : Nat) : (g.setReg r v).out1 = g.out1 := by
  unfold Engine.setReg; split <;> rfl

@[simp] theorem Engine.setReg_sig (g : Engine) (r v : Nat) : (g.setReg r v).sig = g.sig := by
  unfold Engine.setReg; split <;> rfl

@[simp] theorem Engine.setReg_sigOut (g : Engine) (r v : Nat) : (g.setReg r v).sigOut = g.sigOut := by
  unfold Engine.setReg; split <;> rfl

@[simp] theorem Engine.setReg_mover (g : Engine) (r v : Nat) : (g.setReg r v).mover = g.mover := by
  unfold Engine.setReg; split <;> rfl

@[simp] theorem Engine.setAcc_lagAcc (g : Engine) (n v : Nat) : (g.setAcc n v).lagAcc = g.lagAcc := by
  unfold Engine.setAcc; simp

@[simp] theorem Engine.setAcc_lagSt (g : Engine) (n v : Nat) : (g.setAcc n v).lagSt = g.lagSt := by
  unfold Engine.setAcc; simp

@[simp] theorem Engine.setAcc_pend (g : Engine) (n v : Nat) : (g.setAcc n v).pend = g.pend := by
  unfold Engine.setAcc; simp

@[simp] theorem Engine.setAcc_halted (g : Engine) (n v : Nat) : (g.setAcc n v).halted = g.halted := by
  unfold Engine.setAcc; simp

@[simp] theorem Engine.setAcc_cause (g : Engine) (n v : Nat) : (g.setAcc n v).cause = g.cause := by
  unfold Engine.setAcc; simp

@[simp] theorem Engine.setAcc_stalled (g : Engine) (n v : Nat) : (g.setAcc n v).stalled = g.stalled := by
  unfold Engine.setAcc; simp

@[simp] theorem Engine.setAcc_waiting (g : Engine) (n v : Nat) : (g.setAcc n v).waiting = g.waiting := by
  unfold Engine.setAcc; simp

@[simp] theorem Engine.setAcc_stepping (g : Engine) (n v : Nat) : (g.setAcc n v).stepping = g.stepping := by
  unfold Engine.setAcc; simp

@[simp] theorem Engine.setAcc_fresh (g : Engine) (n v : Nat) : (g.setAcc n v).fresh = g.fresh := by
  unfold Engine.setAcc; simp

@[simp] theorem Engine.setAcc_cmdHalt (g : Engine) (n v : Nat) : (g.setAcc n v).cmdHalt = g.cmdHalt := by
  unfold Engine.setAcc; simp

@[simp] theorem Engine.setAcc_delay (g : Engine) (n v : Nat) : (g.setAcc n v).delay = g.delay := by
  unfold Engine.setAcc; simp

@[simp] theorem Engine.setAcc_target (g : Engine) (n v : Nat) : (g.setAcc n v).target = g.target := by
  unfold Engine.setAcc; simp

@[simp] theorem Engine.setAcc_rep (g : Engine) (n v : Nat) : (g.setAcc n v).rep = g.rep := by
  unfold Engine.setAcc; simp

@[simp] theorem Engine.setAcc_lock (g : Engine) (n v : Nat) : (g.setAcc n v).lock = g.lock := by
  unfold Engine.setAcc; simp

@[simp] theorem Engine.setAcc_handler (g : Engine) (n v : Nat) : (g.setAcc n v).handler = g.handler := by
  unfold Engine.setAcc; simp

@[simp] theorem Engine.setAcc_timerPend (g : Engine) (n v : Nat) : (g.setAcc n v).timerPend = g.timerPend := by
  unfold Engine.setAcc; simp

@[simp] theorem Engine.setAcc_mboxPend (g : Engine) (n v : Nat) : (g.setAcc n v).mboxPend = g.mboxPend := by
  unfold Engine.setAcc; simp

@[simp] theorem Engine.setAcc_evt (g : Engine) (n v : Nat) : (g.setAcc n v).evt = g.evt := by
  unfold Engine.setAcc; simp

@[simp] theorem Engine.setAcc_dmem (g : Engine) (n v : Nat) : (g.setAcc n v).dmem = g.dmem := by
  unfold Engine.setAcc; simp

@[simp] theorem Engine.setAcc_pmem (g : Engine) (n v : Nat) : (g.setAcc n v).pmem = g.pmem := by
  unfold Engine.setAcc; simp

@[simp] theorem Engine.setAcc_rewrite (g : Engine) (n v : Nat) : (g.setAcc n v).rewrite = g.rewrite := by
  unfold Engine.setAcc; simp

@[simp] theorem Engine.setAcc_in0 (g : Engine) (n v : Nat) : (g.setAcc n v).in0 = g.in0 := by
  unfold Engine.setAcc; simp

@[simp] theorem Engine.setAcc_in1 (g : Engine) (n v : Nat) : (g.setAcc n v).in1 = g.in1 := by
  unfold Engine.setAcc; simp

@[simp] theorem Engine.setAcc_out0 (g : Engine) (n v : Nat) : (g.setAcc n v).out0 = g.out0 := by
  unfold Engine.setAcc; simp

@[simp] theorem Engine.setAcc_out1 (g : Engine) (n v : Nat) : (g.setAcc n v).out1 = g.out1 := by
  unfold Engine.setAcc; simp

@[simp] theorem Engine.setAcc_sig (g : Engine) (n v : Nat) : (g.setAcc n v).sig = g.sig := by
  unfold Engine.setAcc; simp

@[simp] theorem Engine.setAcc_sigOut (g : Engine) (n v : Nat) : (g.setAcc n v).sigOut = g.sigOut := by
  unfold Engine.setAcc; simp

@[simp] theorem Engine.setAcc_mover (g : Engine) (n v : Nat) : (g.setAcc n v).mover = g.mover := by
  unfold Engine.setAcc; simp

@[simp] theorem Engine.tick_lagAcc (g : Engine) : g.tick.lagAcc = g.lagAcc := by
  unfold Engine.tick; dsimp only; split <;> split <;> simp

@[simp] theorem Engine.tick_lagSt (g : Engine) : g.tick.lagSt = g.lagSt := by
  unfold Engine.tick; dsimp only; split <;> split <;> simp

@[simp] theorem Engine.tick_pend (g : Engine) : g.tick.pend = g.pend := by
  unfold Engine.tick; dsimp only; split <;> split <;> simp

@[simp] theorem Engine.tick_halted (g : Engine) : g.tick.halted = g.halted := by
  unfold Engine.tick; dsimp only; split <;> split <;> simp

@[simp] theorem Engine.tick_cause (g : Engine) : g.tick.cause = g.cause := by
  unfold Engine.tick; dsimp only; split <;> split <;> simp

@[simp] theorem Engine.tick_stalled (g : Engine) : g.tick.stalled = g.stalled := by
  unfold Engine.tick; dsimp only; split <;> split <;> simp

@[simp] theorem Engine.tick_waiting (g : Engine) : g.tick.waiting = g.waiting := by
  unfold Engine.tick; dsimp only; split <;> split <;> simp

@[simp] theorem Engine.tick_stepping (g : Engine) : g.tick.stepping = g.stepping := by
  unfold Engine.tick; dsimp only; split <;> split <;> simp

@[simp] theorem Engine.tick_fresh (g : Engine) : g.tick.fresh = g.fresh := by
  unfold Engine.tick; dsimp only; split <;> split <;> simp

@[simp] theorem Engine.tick_cmdHalt (g : Engine) : g.tick.cmdHalt = g.cmdHalt := by
  unfold Engine.tick; dsimp only; split <;> split <;> simp

@[simp] theorem Engine.tick_delay (g : Engine) : g.tick.delay = g.delay := by
  unfold Engine.tick; dsimp only; split <;> split <;> simp

@[simp] theorem Engine.tick_target (g : Engine) : g.tick.target = g.target := by
  unfold Engine.tick; dsimp only; split <;> split <;> simp

@[simp] theorem Engine.tick_rep (g : Engine) : g.tick.rep = g.rep := by
  unfold Engine.tick; dsimp only; split <;> split <;> simp

@[simp] theorem Engine.tick_lock (g : Engine) : g.tick.lock = g.lock := by
  unfold Engine.tick; dsimp only; split <;> split <;> simp

@[simp] theorem Engine.tick_handler (g : Engine) : g.tick.handler = g.handler := by
  unfold Engine.tick; dsimp only; split <;> split <;> simp

@[simp] theorem Engine.tick_timerPend (g : Engine) : g.tick.timerPend = g.timerPend := by
  unfold Engine.tick; dsimp only; split <;> split <;> simp

@[simp] theorem Engine.tick_mboxPend (g : Engine) : g.tick.mboxPend = g.mboxPend := by
  unfold Engine.tick; dsimp only; split <;> split <;> simp

@[simp] theorem Engine.tick_evt (g : Engine) : g.tick.evt = g.evt := by
  unfold Engine.tick; dsimp only; split <;> split <;> simp

@[simp] theorem Engine.tick_dmem (g : Engine) : g.tick.dmem = g.dmem := by
  unfold Engine.tick; dsimp only; split <;> split <;> simp

@[simp] theorem Engine.tick_pmem (g : Engine) : g.tick.pmem = g.pmem := by
  unfold Engine.tick; dsimp only; split <;> split <;> simp

@[simp] theorem Engine.tick_rewrite (g : Engine) : g.tick.rewrite = g.rewrite := by
  unfold Engine.tick; dsimp only; split <;> split <;> simp

@[simp] theorem Engine.tick_in0 (g : Engine) : g.tick.in0 = g.in0 := by
  unfold Engine.tick; dsimp only; split <;> split <;> simp

@[simp] theorem Engine.tick_in1 (g : Engine) : g.tick.in1 = g.in1 := by
  unfold Engine.tick; dsimp only; split <;> split <;> simp

@[simp] theorem Engine.tick_out0 (g : Engine) : g.tick.out0 = g.out0 := by
  unfold Engine.tick; dsimp only; split <;> split <;> simp

@[simp] theorem Engine.tick_out1 (g : Engine) : g.tick.out1 = g.out1 := by
  unfold Engine.tick; dsimp only; split <;> split <;> simp

@[simp] theorem Engine.tick_sig (g : Engine) : g.tick.sig = g.sig := by
  unfold Engine.tick; dsimp only; split <;> split <;> simp

@[simp] theorem Engine.tick_sigOut (g : Engine) : g.tick.sigOut = g.sigOut := by
  unfold Engine.tick; dsimp only; split <;> split <;> simp

@[simp] theorem Engine.tick_mover (g : Engine) : g.tick.mover = g.mover := by
  unfold Engine.tick; dsimp only; split <;> split <;> simp

@[simp] theorem Engine.applyPend_lagAcc (g : Engine) : g.applyPend.lagAcc = g.lagAcc := by
  unfold Engine.applyPend; split <;> simp

@[simp] theorem Engine.applyPend_lagSt (g : Engine) : g.applyPend.lagSt = g.lagSt := by
  unfold Engine.applyPend; split <;> simp

@[simp] theorem Engine.applyPend_halted (g : Engine) : g.applyPend.halted = g.halted := by
  unfold Engine.applyPend; split <;> simp

@[simp] theorem Engine.applyPend_cause (g : Engine) : g.applyPend.cause = g.cause := by
  unfold Engine.applyPend; split <;> simp

@[simp] theorem Engine.applyPend_stalled (g : Engine) : g.applyPend.stalled = g.stalled := by
  unfold Engine.applyPend; split <;> simp

@[simp] theorem Engine.applyPend_waiting (g : Engine) : g.applyPend.waiting = g.waiting := by
  unfold Engine.applyPend; split <;> simp

@[simp] theorem Engine.applyPend_stepping (g : Engine) : g.applyPend.stepping = g.stepping := by
  unfold Engine.applyPend; split <;> simp

@[simp] theorem Engine.applyPend_fresh (g : Engine) : g.applyPend.fresh = g.fresh := by
  unfold Engine.applyPend; split <;> simp

@[simp] theorem Engine.applyPend_cmdHalt (g : Engine) : g.applyPend.cmdHalt = g.cmdHalt := by
  unfold Engine.applyPend; split <;> simp

@[simp] theorem Engine.applyPend_delay (g : Engine) : g.applyPend.delay = g.delay := by
  unfold Engine.applyPend; split <;> simp

@[simp] theorem Engine.applyPend_target (g : Engine) : g.applyPend.target = g.target := by
  unfold Engine.applyPend; split <;> simp

@[simp] theorem Engine.applyPend_rep (g : Engine) : g.applyPend.rep = g.rep := by
  unfold Engine.applyPend; split <;> simp

@[simp] theorem Engine.applyPend_lock (g : Engine) : g.applyPend.lock = g.lock := by
  unfold Engine.applyPend; split <;> simp

@[simp] theorem Engine.applyPend_handler (g : Engine) : g.applyPend.handler = g.handler := by
  unfold Engine.applyPend; split <;> simp

@[simp] theorem Engine.applyPend_timerPend (g : Engine) : g.applyPend.timerPend = g.timerPend := by
  unfold Engine.applyPend; split <;> simp

@[simp] theorem Engine.applyPend_mboxPend (g : Engine) : g.applyPend.mboxPend = g.mboxPend := by
  unfold Engine.applyPend; split <;> simp

@[simp] theorem Engine.applyPend_evt (g : Engine) : g.applyPend.evt = g.evt := by
  unfold Engine.applyPend; split <;> simp

@[simp] theorem Engine.applyPend_dmem (g : Engine) : g.applyPend.dmem = g.dmem := by
  unfold Engine.applyPend; split <;> simp

@[simp] theorem Engine.applyPend_pmem (g : Engine) : g.applyPend.pmem = g.pmem := by
  unfold Engine.applyPend; split <;> simp

@[simp] theorem Engine.applyPend_rewrite (g : Engine) : g.applyPend.rewrite = g.rewrite := by
  unfold Engine.applyPend; split <;> simp

@[simp] theorem Engine.applyPend_in0 (g : Engine) : g.applyPend.in0 = g.in0 := by
  unfold Engine.applyPend; split <;> simp

@[simp] theorem Engine.applyPend_in1 (g : Engine) : g.applyPend.in1 = g.in1 := by
  unfold Engine.applyPend; split <;> simp

@[simp] theorem Engine.applyPend_out0 (g : Engine) : g.applyPend.out0 = g.out0 := by
  unfold Engine.applyPend; split <;> simp

@[simp] theorem Engine.applyPend_out1 (g : Engine) : g.applyPend.out1 = g.out1 := by
  unfold Engine.applyPend; split <;> simp

@[simp] theorem Engine.applyPend_sig (g : Engine) : g.applyPend.sig = g.sig := by
  unfold Engine.applyPend; split <;> simp

@[simp] theorem Engine.applyPend_sigOut (g : Engine) : g.applyPend.sigOut = g.sigOut := by
  unfold Engine.applyPend; split <;> simp

@[simp] theorem Engine.applyPend_mover (g : Engine) : g.applyPend.mover = g.mover := by
  unfold Engine.applyPend; split <;> simp

@[simp] theorem Engine.applyPend_pend (g : Engine) : g.applyPend.pend = none := by
  unfold Engine.applyPend; split
  · assumption
  · rfl

/-- A pending write of an address register leaves every other register alone. -/
theorem Engine.reg_applyPend (g : Engine) (r : Nat) (h : r < 24 ∨ 48 ≤ r) : g.applyPend.reg r = g.reg r := by
  unfold Engine.applyPend
  split
  · rfl
  · exact Engine.reg_setReg_other _ _ _ _ (by omega) (by omega)

/-- An edge leaves every register alone but tmr and wdt. -/
theorem Engine.reg_tick (g : Engine) (r : Nat) (h1 : r ≠ 50) (h2 : r ≠ 53) : g.tick.reg r = g.reg r := by
  unfold Engine.tick; dsimp only
  split <;> split
  all_goals (try rw [Engine.reg_setReg_other _ _ _ _ h2 (by omega)])
  all_goals (try rw [Engine.reg_setReg_other _ _ _ _ h1 (by omega)])
  all_goals rfl

/-- Nor any accumulator. -/
theorem Engine.acc_tick (g : Engine) (n : Nat) (h : n < 4) : g.tick.acc n = g.acc n := by
  unfold Engine.acc
  rw [Engine.reg_tick _ _ (by omega) (by omega), Engine.reg_tick _ _ (by omega) (by omega), Engine.reg_tick _ _ (by omega) (by omega)]

/-- An accumulator just written reads as the low 56 bits of what was written (07 R204). -/
theorem Engine.acc_setAcc_same (g : Engine) (n v : Nat) (h : n < 4) : (g.setAcc n v).acc n = v % 2 ^ 56 := by
  unfold Engine.setAcc Engine.acc
  have w0 : engWidth (4 + 4 * n) = 24 := by interval_cases n <;> rfl
  have w1 : engWidth (5 + 4 * n) = 24 := by interval_cases n <;> rfl
  have w2 : engWidth (6 + 4 * n) = 8 := by interval_cases n <;> rfl
  rw [Engine.reg_setReg_other _ _ _ _ (by omega) (by omega), Engine.reg_setReg_other _ _ _ _ (by omega) (by omega),
    Engine.reg_setReg_other _ _ (5 + 4 * n) _ (by omega) (by omega),
    Engine.reg_setReg_same _ _ _ (by omega), Engine.reg_setReg_same _ _ _ (by omega), Engine.reg_setReg_same _ _ _ (by omega), w0, w1, w2]
  unfold accMod
  omega

/-- A write of an accumulator leaves every register alone but its own three. -/
theorem Engine.reg_setAcc_other (g : Engine) (n v j : Nat) (hn : n < 4) (h : j < 4 + 4 * n ∨ 6 + 4 * n < j) :
    (g.setAcc n v).reg j = g.reg j := by
  unfold Engine.setAcc
  rw [Engine.reg_setReg_other _ _ _ _ (by omega) (by omega), Engine.reg_setReg_other _ _ _ _ (by omega) (by omega),
    Engine.reg_setReg_other _ _ _ _ (by omega) (by omega)]

/-- A write of an accumulator leaves the others alone. -/
theorem Engine.acc_setAcc_other (g : Engine) (n m v : Nat) (hn : n < 4) (h : m ≠ n) : (g.setAcc n v).acc m = g.acc m := by
  unfold Engine.acc
  rw [Engine.reg_setAcc_other _ _ _ _ hn (by omega), Engine.reg_setAcc_other _ _ _ _ hn (by omega),
    Engine.reg_setAcc_other _ _ _ _ hn (by omega)]

/-- An accumulator's value does not depend on another register. -/
theorem Engine.acc_setReg (g : Engine) (r m v : Nat) (hm : m < 4) (h : r < 4 ∨ 20 ≤ r) : (g.setReg r v).acc m = g.acc m := by
  unfold Engine.acc
  rw [Engine.reg_setReg_other _ _ _ _ (by omega) (by omega), Engine.reg_setReg_other _ _ _ _ (by omega) (by omega),
    Engine.reg_setReg_other _ _ _ _ (by omega) (by omega)]

/-- What an instruction command does when its instruction executes: its format's effect, then the place of the next one; HALT halts,
and so does an uncorrectable read. -/
theorem State.engCommand_issues (s : State) (e w : Nat) (k : EngKind) (h : s.engIssues e w k) (ht : k ≠ .trap) :
    s.engCommand e [] k =
      (let g := s.engine e
       let s0 := s.setEngine e { g with stalled := false, waiting := false, fresh := false }
       let r := if bit w 31 then s0.parallel e k w else s0.controlIssue e k w
       r.2.updEngine e fun g =>
         let g1 := g.advance k
         if k = .halt then g1.haltAt 5 (g1.reg 54)
         else if r.1 then g1.noFlow.haltAt 6 (g1.reg 54)
         else if g1.stepDone then g1.haltAt 1 (g1.reg 54) else g1) := by
  obtain ⟨h1, h2, h3, h4, h5, h6, h7, h8, h9, h10⟩ := h
  have e1 : s.pmemRead e ((s.engine e).reg 54) = (w, false, s) := by unfold State.pmemRead; dsimp only; rw [h6]
  unfold State.engCommand
  rw [h1, if_pos (by simp [Engine.canIssue, h2, h3, h4])]
  unfold State.engUpsets
  rw [if_pos rfl]
  unfold State.engFetch
  dsimp only
  rw [e1]
  dsimp only
  rw [if_neg (by decide), h7]
  dsimp only
  rw [if_pos (by simp)]
  unfold State.engRun
  dsimp only
  rw [if_neg (by simp [h8, h9]), if_neg ht, if_neg (by simp [h10])]

/-- The place of the next instruction leaves every register alone but pc. -/
theorem Engine.reg_advance (g : Engine) (k : EngKind) (r : Nat) (h : r ≠ 54) : (g.advance k).reg r = g.reg r := by
  unfold Engine.advance
  dsimp only
  repeat' split
  all_goals first | rfl | exact Engine.reg_setReg_other _ _ _ _ h (by omega)

/-- Nor any accumulator. -/
theorem Engine.acc_advance (g : Engine) (k : EngKind) (n : Nat) (h : n < 4) : (g.advance k).acc n = g.acc n := by
  unfold Engine.acc
  rw [Engine.reg_advance _ _ _ (by omega), Engine.reg_advance _ _ _ (by omega), Engine.reg_advance _ _ _ (by omega)]

@[simp] theorem Engine.advance_lagAcc (g : Engine) (k : EngKind) : (g.advance k).lagAcc = g.lagAcc := by
  unfold Engine.advance; dsimp only; repeat' split
  all_goals simp

@[simp] theorem Engine.advance_lagSt (g : Engine) (k : EngKind) : (g.advance k).lagSt = g.lagSt := by
  unfold Engine.advance; dsimp only; repeat' split
  all_goals simp

@[simp] theorem Engine.advance_pend (g : Engine) (k : EngKind) : (g.advance k).pend = g.pend := by
  unfold Engine.advance; dsimp only; repeat' split
  all_goals simp

@[simp] theorem Engine.advance_halted (g : Engine) (k : EngKind) : (g.advance k).halted = g.halted := by
  unfold Engine.advance; dsimp only; repeat' split
  all_goals simp

@[simp] theorem Engine.advance_cause (g : Engine) (k : EngKind) : (g.advance k).cause = g.cause := by
  unfold Engine.advance; dsimp only; repeat' split
  all_goals simp

@[simp] theorem Engine.advance_stalled (g : Engine) (k : EngKind) : (g.advance k).stalled = g.stalled := by
  unfold Engine.advance; dsimp only; repeat' split
  all_goals simp

@[simp] theorem Engine.advance_waiting (g : Engine) (k : EngKind) : (g.advance k).waiting = g.waiting := by
  unfold Engine.advance; dsimp only; repeat' split
  all_goals simp

@[simp] theorem Engine.advance_stepping (g : Engine) (k : EngKind) : (g.advance k).stepping = g.stepping := by
  unfold Engine.advance; dsimp only; repeat' split
  all_goals simp

@[simp] theorem Engine.advance_fresh (g : Engine) (k : EngKind) : (g.advance k).fresh = g.fresh := by
  unfold Engine.advance; dsimp only; repeat' split
  all_goals simp

@[simp] theorem Engine.advance_cmdHalt (g : Engine) (k : EngKind) : (g.advance k).cmdHalt = g.cmdHalt := by
  unfold Engine.advance; dsimp only; repeat' split
  all_goals simp

@[simp] theorem Engine.advance_handler (g : Engine) (k : EngKind) : (g.advance k).handler = g.handler := by
  unfold Engine.advance; dsimp only; repeat' split
  all_goals simp

@[simp] theorem Engine.advance_timerPend (g : Engine) (k : EngKind) : (g.advance k).timerPend = g.timerPend := by
  unfold Engine.advance; dsimp only; repeat' split
  all_goals simp

@[simp] theorem Engine.advance_mboxPend (g : Engine) (k : EngKind) : (g.advance k).mboxPend = g.mboxPend := by
  unfold Engine.advance; dsimp only; repeat' split
  all_goals simp

@[simp] theorem Engine.advance_evt (g : Engine) (k : EngKind) : (g.advance k).evt = g.evt := by
  unfold Engine.advance; dsimp only; repeat' split
  all_goals simp

@[simp] theorem Engine.advance_dmem (g : Engine) (k : EngKind) : (g.advance k).dmem = g.dmem := by
  unfold Engine.advance; dsimp only; repeat' split
  all_goals simp

@[simp] theorem Engine.advance_pmem (g : Engine) (k : EngKind) : (g.advance k).pmem = g.pmem := by
  unfold Engine.advance; dsimp only; repeat' split
  all_goals simp

@[simp] theorem Engine.advance_rewrite (g : Engine) (k : EngKind) : (g.advance k).rewrite = g.rewrite := by
  unfold Engine.advance; dsimp only; repeat' split
  all_goals simp

@[simp] theorem Engine.advance_in0 (g : Engine) (k : EngKind) : (g.advance k).in0 = g.in0 := by
  unfold Engine.advance; dsimp only; repeat' split
  all_goals simp

@[simp] theorem Engine.advance_in1 (g : Engine) (k : EngKind) : (g.advance k).in1 = g.in1 := by
  unfold Engine.advance; dsimp only; repeat' split
  all_goals simp

@[simp] theorem Engine.advance_out0 (g : Engine) (k : EngKind) : (g.advance k).out0 = g.out0 := by
  unfold Engine.advance; dsimp only; repeat' split
  all_goals simp

@[simp] theorem Engine.advance_out1 (g : Engine) (k : EngKind) : (g.advance k).out1 = g.out1 := by
  unfold Engine.advance; dsimp only; repeat' split
  all_goals simp

@[simp] theorem Engine.advance_sig (g : Engine) (k : EngKind) : (g.advance k).sig = g.sig := by
  unfold Engine.advance; dsimp only; repeat' split
  all_goals simp

@[simp] theorem Engine.advance_sigOut (g : Engine) (k : EngKind) : (g.advance k).sigOut = g.sigOut := by
  unfold Engine.advance; dsimp only; repeat' split
  all_goals simp

@[simp] theorem Engine.advance_mover (g : Engine) (k : EngKind) : (g.advance k).mover = g.mover := by
  unfold Engine.advance; dsimp only; repeat' split
  all_goals simp

end Sys2Proof.Machine
end

