-- ==== Sys2Proof/Tests/Slice0.lean ====
section
/-! SUPPORT. The model's own tests: the well-formedness checks, single steps, and for each statement of
Certificates/Slice0/Obligations.lean that has hypotheses, states and operands that meet them. -/

namespace Sys2Proof.Tests

set_option Elab.async false

open Sys2Proof Sys2Proof.Machine

/-- A packet head with every field 0. -/
def headZero : NocHead :=
  { srcDev := 0, srcNode := 0, srcPort := 0, entry := 0, dstDev := 0, dstNode := 0, dstPort := 0, vc := 0, tag := 0, poison := false, cls := 0, flits := 1,
    badHead := none, badFlit := none }

/-- A segment with every field 0 and no payload. -/
def segZero : Segment :=
  { queue := 0, sop := false, eop := false, abort := false, ack := false, pktLen := 0, lastBytes := 0, meta32 := 0, arrival := 0, payload := [] }

/-- A device that runs: released, stores enabled, every island's clock running. -/
def run : State := { State.reset with stu := { State.reset.stu with released := true, writesEnabled := true } }


/-! ## The well-formedness checks: each refuses a term just outside its range and passes one just inside -/

theorem test_wf_heads_refused : ([{ headZero with srcDev := 16 }, { headZero with srcNode := 64 }, { headZero with srcPort := 4 },
    { headZero with entry := 64 }, { headZero with dstDev := 16 }, { headZero with dstNode := 64 }, { headZero with dstPort := 4 },
    { headZero with vc := 4 }, { headZero with tag := 256 }].any NocHead.wf) = false
    ∧ NocHead.wf { headZero with srcDev := 15, dstNode := 63, vc := 3, tag := 255 } = true := by decide

theorem test_wf_segments_refused : ([{ segZero with queue := 4096 }, { segZero with pktLen := 2 ^ 15 }, { segZero with lastBytes := 64 },
    { segZero with meta32 := 2 ^ 32 }, { segZero with payload := List.replicate 65 0 }].any Segment.wf) = false
    ∧ Segment.wf { segZero with queue := 4095, lastBytes := 63, payload := List.replicate 64 0 } = true := by decide

theorem test_wf_masters_and_operations_refused : ([MemMaster.mover 256, .slice 4].any MemMaster.wf) = false
    ∧ ([MemOp.readWord 8192, .writeWord 8192 0 0, .writeWord 0 0 65536, .readRow 512, .writeRow 512 0].any MemOp.wf) = false
    ∧ MemMaster.wf (.mover 255) = true ∧ MemOp.wf (.writeWord 8191 0 65535) = true ∧ MemOp.wf (.readRow 511) = true := by decide

theorem test_wf_register_stack_and_fabric_commands_refused : ([Instr.registerWrite (2 ^ 25) 0 4, .registerWrite 0 0 3, .readClear 0 8,
    .blkCommitWrite 2 0, .blkCommitWrite (2 ^ 25) 0, .commitSafePoint 2 0, .commitSafePoint (2 ^ 25) 0, .commitSafePoint 0 32,
    .parityMismatch 48 0 [] 0, .parityMismatch 0 1024 [] 0, .parityMismatch 0 0 [] 65, .bgtestVisitEnd 48 0 [] [] 0 [],
    .bgtestVisitEnd 0 1024 [] [] 0 [], .bgtestVisitEnd 0 0 [] [] 12288 [], .locWindowEnd 48 0 true true, .locWindowEnd 0 1024 true true,
    .restagePathTestDone 96 0, .restagePathTestDone 0 12288, .rowTokenGrant 48, .fabricClockEdge 48 false 0, .schedStart 96, .rowLoad 96 0 0,
    .rowLoad 0 1024 0, .rowStore 0 0 512, .rowCmdDone 96 0 [], .upperBurstDone 0 1024, .upperRead 96 0 0 1, .upperRead 0 1024 0 1,
    .upperRead 0 0 8 1, .upperRead 0 0 0 0, .upperRead 0 0 0 9, .upperWrite 96 0 0 0 [0], .upperWrite 0 1024 0 0 [0], .upperWrite 0 0 8 0 [0],
    .upperWrite 0 0 0 65536 [0], .upperWrite 0 0 0 0 [], .upperWrite 0 0 0 0 (List.replicate 9 0), .zConflict 48 0 0 false,
    .zConflict 0 1024 0 false, .zConflict 0 0 64 false, .edgeChannelWord 96 0 0 0, .edgeChannelWord 0 4 0 0, .edgeChannelWord 0 0 8 0,
    .serialSettingsWord 10 0, .flashUserRead 2097152, .captureGoCommand [3], .captureFabricTrigger 96 [], .captureFabricTrigger 0 [3],
    .ctxStrobe 96 0, .stage 0 8, .ctxCmdInvalid 96 0, .ctxCmdInvalid 0 5, .ctxCmdInvalid 0 16].any Instr.wf) = false
    ∧ ([Instr.registerWrite (2 ^ 25 - 1) 0 1, .blkCommitWrite 4 0, .commitSafePoint 4 31, .parityMismatch 47 1023 [] 64, .rowStore 95 1023 511,
    .upperRead 95 1023 7 8, .zConflict 47 1023 127 true, .zConflict 0 0 63 true, .edgeChannelWord 95 3 7 0, .serialSettingsWord 9 0,
    .flashUserErase 2097151, .captureGoCommand [0, 2], .switch 95 7, .ctxCmdInvalid 95 6, .ctxCmdInvalid 95 15].all Instr.wf) = true := by
  decide +kernel

theorem test_wf_memory_and_engine_commands_refused : ([Instr.memForegroundRequest (.mover 256) 0 false (.readWord 0) none [],
    .memForegroundRequest .fabric 12288 false (.readWord 0) none [], .memForegroundRequest .fabric 0 false (.readWord 8192) none [],
    .memBackgroundGrant 12288 none, .rowCopyDone 48, .narrowWrite (.slice 4) 0 0 0 0, .narrowWrite .fabric 12288 0 0 0,
    .narrowWrite .fabric 0 8192 0 0, .narrowWrite .fabric 0 0 0 65536, .remapCmd 12288 0, .remapCmd 0 8192, .mac 12288 [], .engPortPush 12288 0 0,
    .engPortPush 0 4 0, .sigPulseDelivered 12288 0, .sigPulseDelivered 0 4, .engineWindowRead 12288 0 4, .engineWindowRead 0 65536 4,
    .engineWindowWrite 0 0 3 0].any Instr.wf) = false
    ∧ ([Instr.narrowWrite (.slice 3) 12287 8191 0 65535, .remapCmd 12287 8191, .trap 12287 [], .engPortPush 12287 3 0, .sigPulseDelivered 12287 3,
    .engineWindowWrite 12287 65535 1 0, .rowCopyDone 47].all Instr.wf) = true := by decide +kernel

theorem test_wf_network_queue_and_dram_commands_refused : ([Instr.nocRead { headZero with vc := 4 } 0 1, .nocRead headZero (2 ^ 48) 1,
    .nocRead headZero 0 0, .nocWrite { headZero with tag := 256 } 0 [0], .nocWrite headZero (2 ^ 48) [0], .writePosted headZero 0 [],
    .readResp { headZero with vc := 4 } 0 [], .respTimeout 64 0 0, .respTimeout 0 4 0, .respTimeout 0 0 256, .wakeForward 64,
    .streamSegment { headZero with vc := 4 } segZero false, .streamSegment headZero { segZero with queue := 4096 } false, .farCellAck 4096 false,
    .macEnable 96 0, .portSlotStart 4 0 0 false, .portSlotStart 0 32 0 false, .farCellsWrite 4 0, .farCellsWrite 0 (2 ^ 29), .fsKill 0 (2 ^ 20),
    .dramLineRead 5 0 [], .dramLineRead 0 (2 ^ 48) [], .perBankRefresh 16, .mr4Read 16 0 0 0, .mr4Read 0 32 0 0, .meePartialWrite 5 0 [0],
    .meePartialWrite 0 (2 ^ 48) [0], .meePartialWrite 0 0 [], .meePartialWrite 0 0 (List.replicate 65 0), .keyRetire 64, .rekey 32 0, .rekey 0 64,
    .meeInit 32].any Instr.wf) = false
    ∧ ([Instr.nocRead headZero (2 ^ 48 - 1) 1, .respTimeout 63 3 255, .wakeForward 63, .farCellAck 4095 false, .macEnable 95 0,
    .portSlotStart 3 31 0 false, .farCellsWrite 3 (2 ^ 29 - 1), .fsKill 0 (2 ^ 20 - 1), .dramLineRead 4 (2 ^ 48 - 1) [], .mr4Read 15 31 0 0,
    .meePartialWrite 4 0 (List.replicate 64 0), .rekey 31 63, .meeInit 31].all Instr.wf) = true := by decide +kernel

theorem test_wf_link_host_and_system_commands_refused : ([Instr.bringupStart 12, .bringupStageDone 12 0 0 [] 0, .bringupStageDone 0 8 0 [] 0,
    .graftFlitReceive 12 (List.replicate 88 0) false, .graftFlitReceive 0 (List.replicate 87 0) false, .hostRead 33 0 0 1 0, .hostRead 0 6 0 1 0,
    .hostRead 0 0 0 0 0, .hostRead 0 0 0 1 1024, .hostWrite 33 0 0 [0] false, .hostWrite 0 6 0 [0] false, .hostWrite 0 0 0 [] false,
    .ringEnable 256 0, .doorbell 256 0, .doorbell 0 65536, .pcieFunctionReset [33] false, .msixUnmask 33 0, .msixUnmask 0 2048,
    .pfcPauseExpire 96 0, .pfcPauseExpire 0 8, .imageStreamWrite [], .porRelease 8 false false, .scanFrameRead 96 0 0 0 [] false,
    .scanFrameRead 0 0 8 0 [] false, .scanFrameRead 0 0 0 6144 [] false, .loopLock true 48, .loopLock false 12, .opTargetWrite 48 0,
    .opTargetWrite 0 16, .missingClock 62, .mbCmdPost 65536, .monFrame 4 [], .progSlot 16 false, .i3cDynamicAddress 128].any Instr.wf) = false
    ∧ ([Instr.bringupStageDone 11 7 0 [] 0, .graftFlitReceive 11 (List.replicate 88 0) false, .hostRead 32 5 0 1 1023, .doorbell 255 65535,
    .pcieFunctionReset [0, 32] false, .msixUnmask 32 2047, .pfcPauseExpire 95 7, .scanFrameRead 95 0 7 6143 [] false, .loopLock true 47,
    .loopLock false 11, .opTargetWrite 47 15, .missingClock 61, .mbCmdPost 65535, .progSlot 15 false, .i3cDynamicAddress 127,
    .lapEnd].all Instr.wf) = true := by decide +kernel

/-! ## States and operands that meet the hypotheses of each statement, clause by clause -/

theorem witness_StepTakesFrontCommand : (State.reset.withCommand .lapEnd).pending = .lapEnd :: [] := by decide +kernel

theorem witness_IdleStepPassesTime : State.reset.pending = [] ∧ State.reset.timeRate = 0 ∧ State.reset.time.frac < 2 ^ 32
    ∧ State.reset.time.ns < 2 ^ 63 := by decide +kernel

theorem witness_EveryStepKeepsCanonical : Memory.wf State.reset = true ∧ (State.reset.withCommand .lapEnd).pending.all Instr.wf = true
    ∧ (State.reset.csr.map (·.1)) = [] := by decide +kernel

theorem witness_RegisterAccess : ((4 : Nat) % 4 = 0 ∧ (2 : Nat) ≠ 4) ∧ ((6 : Nat) % 4 ≠ 0)
    ∧ (findReg 0x1FFFFFC = none ∧ 0x1FFFFFC / 0x100000 ≠ 4 ∧ 0x1FFFFFC / 0x100000 ≠ 25)
    ∧ State.reset.capBusy = false
    ∧ ((State.reset.setFlag F.FAB_STATUS_cap_pending true).capBusy = true
        ∧ (1 : Word) ≠ (State.reset.setFlag F.FAB_STATUS_cap_pending true).reg R.FAB_CAP_MASK0)
    ∧ NSet.has State.reset.locked (regKey R.SEC_TAMPER_CFG 0) = false
    ∧ NSet.has ({ State.reset with locked := NSet.put [] (regKey R.SEC_TAMPER_CFG 0) true }).locked (regKey R.SEC_TAMPER_CFG 0) = true := by
  decide +kernel

theorem witness_CommitGroups :
    let p := State.reset.setFlag F.VX_BLK_COMMIT_grp0 true
    let q := { p with staged := [(regKey R.VX_CTRL 0, 7)] }
    State.reset.flag F.VX_BLK_COMMIT_grp0 = false ∧ p.flag F.VX_BLK_COMMIT_grp0 = true
      ∧ ((1 : Word).getLsbD 0 = true ∧ (2 : Word).getLsbD 0 = false)
      ∧ (q.flag F.VX_BLK_COMMIT_grp0 = true ∧ (q.vx.bundles.any fun e => e.2.loc.isSome) = false
        ∧ (q.staged.filter fun e => inGroup 0x800000 0 e.1) = [(regKey R.VX_CTRL 0, 7)])
      ∧ ((p.vx.bundles.any fun e => e.2.loc.isSome) = false ∧ (p.staged.filter fun e => inGroup 0x800000 0 e.1) = [])
      ∧ State.reset.commitPends (windowBase R.VX_BLK_COMMIT) 0 = false := by decide +kernel

/-- A running device with the bundle of island 47, tile 1023 as given. -/
def withBundle (b : Bundle) : State := { run with vx := { run.vx with bundles := [(47 * 1024 + 1023, b)] } }

theorem witness_StackRepairCommands :
    (run.held 47 = false ∧ (run.bundle 47 1023).recorded = false ∧ (run.bundle 47 1023).loc = none
      ∧ (((run.bundle 47 1023).stamps ++ [run.fabCycle 47]).filter fun c => decide (run.fabCycle 47 - c < 65536)).length < run.locThreshold)
    ∧ (let s := (withBundle { recorded := true, spares := [.parity, .localising, .free, .free] }).setReg R.VX_CTRL 0x11001
       s.held 47 = false ∧ (s.bundle 47 1023).recorded = true ∧ (s.bundle 47 1023).loc = none ∧ freeSpare (s.bundle 47 1023) = some 2
        ∧ s.locThreshold ≤ (((s.bundle 47 1023).stamps ++ [s.fabCycle 47]).filter fun c => decide (s.fabCycle 47 - c < 65536)).length)
    ∧ (∀ l ∈ [(⟨3, 1, 0, 64, 0⟩ : LocRun), ⟨0, 1, 0, 64, 15⟩, ⟨0, 8, 63, 1, 16⟩], ((withBundle { loc := some l }).bundle 47 1023).loc = some l
        ∧ (withBundle { loc := some l }).held 47 = false)
    ∧ (run.held 47 = false ∧ run.flag F.VX_CTRL_bgtest_en = true) := by decide +kernel

/-- A running device whose sectors 0 and 48 have landing tile 0 with its land_en set, owned by the fabric, attached. -/
def landed : State :=
  let f : Frames := [(5, BitVec.ofNat 2048 (2 ^ 1688 + 2 ^ 1696 + 255 * 2 ^ 1714))]
  (run.setLive 0 f).setLive 48 f

/-- The same with landing 0 as given. -/
def withLanding (l : Landing) : State := landed.setLand 0 l

/-- A map of the defect entries. -/
def mapEntry : MapEntry := ⟨.restagePath, 95, 0, 127, none, 0⟩

theorem witness_RepairAndTuneCommands :
    let p := run.setPath 95 { testing := true, steered := [(1, 128)] }
    ((p.path 95).testing = true ∧ ((p.path 95).steered.any fun g => decide (g.1 = 127 / 128)) = false ∧ SMap.get none p.stu.starting 95 = none)
    ∧ (let s := { run with vx := { run.vx with retune := [(47, some 0)] } }
       s.held 47 = false ∧ SMap.get none s.vx.retune 47 = some 0
        ∧ (60 + 8 ≤ 67 + 1 ∧ (SMap.get ({} : DelayLine) s.vx.lines (47 * 65536 + 5)).pos < (60 + 67) / 2)
        ∧ (6 + 1 < 0 + 8 ∧ (0 + 6) / 2 < (SMap.get ({} : DelayLine) s.vx.lines (47 * 65536 + 5)).pos))
    ∧ (run.flag (F.CTX_STATUS_restaging.ctx 95) = false ∧ (run.sec 95).request = none)
    ∧ (let s := { run with vx := { run.vx with mapWrites := [mapEntry] } }
       s.vx.mapWrites = mapEntry :: [] ∧ s.mgt.warm = false ∧ s.vx.map.length < 8192)
    ∧ (let s := { run with vx := { run.vx with mapWrites := [mapEntry], map := List.replicate 8192 mapEntry } }
       s.vx.mapWrites = mapEntry :: [] ∧ s.mgt.warm = false ∧ 8192 ≤ s.vx.map.length) := by decide +kernel

theorem witness_LandingAndWireCommands_commands :
    (landed.canCommand 0 0 = true ∧ (landed.land (bankUnder 0 0)).cmd = none ∧ landed.stu.writesEnabled = true
      ∧ landed.fgAllowed .fabric (bankUnder 0 0) false = true)
    ∧ (let s := withLanding { cmd := some ⟨true, 511, 0, false⟩ }
       s.canCommand 0 0 = true ∧ (s.land (bankUnder 0 0)).cmd.isSome = true)
    ∧ (let s := { landed with stu := { landed.stu with writesEnabled := false } }
       s.canCommand 0 0 = true ∧ s.stu.writesEnabled = false)
    ∧ (let s := landed.setLive 0 [(5, BitVec.ofNat 2048 (255 * 2 ^ 1714))]
       s.canCommand 0 0 = true ∧ s.fgAllowed .fabric (bankUnder 0 0) false = false)
    ∧ (∀ st ∈ [true, false], let s := { withLanding { cmd := some ⟨st, 511, 0, false⟩ } with mem := { landed.mem with granted := [(0, true)] } }
       (s.land (bankUnder 0 0)).cmd = some ⟨st, 511, 0, false⟩ ∧ NSet.has s.mem.granted (bankUnder 0 0) = true
        ∧ NSet.has s.mem.filling (bankUnder 0 0) = false ∧ s.held 0 = false)
    ∧ NSet.has landed.mem.granted (bankUnder 47 1023) = false := by decide +kernel

theorem witness_LandingAndWireCommands_bursts :
    (isLandingTile 0 = true ∧ landed.landingMode (islandOf 48) 0 = true ∧ landed.held (islandOf 48) = false ∧ landed.released = true
      ∧ attOf (tileBits (landed.liveOf 48) 0) = 0xFF ∧ (landed.land (bankUnder (islandOf 48) 0)).burst = none)
    ∧ (let u : Burst := { write := false, group := 0, count := 8, mask := 0, data := [] }
       burstBusy u = true ∧ ((withLanding { burst := some u }).land (bankUnder (islandOf 48) 0)).burst = some u)
    ∧ (∀ u ∈ [({ write := true, group := 7, count := 1, mask := 65535, data := [1] } : Burst),
        { write := false, group := 7, count := 1, mask := 0, data := [] }],
        ((withLanding { burst := some u }).land (bankUnder (islandOf 48) 0)).burst = some u)
    ∧ ((run.setLive 0 [(5, BitVec.ofNat 2048 (2 ^ 1240))]).setLive 48 [(5, BitVec.ofNat 2048 (2 ^ 1240))]).zConflicts 0 0 0 = true
    ∧ (run.setLive 0 [(5, BitVec.ofNat 2048 (2 ^ 1688))]).zConflicts 0 0 127 = true
    ∧ (neighbour 0 1 = some 1 ∧ (SMap.get [] run.fab.edges (edgeKey 1 (oppositeEdge 1) 7)).length < 16)
    ∧ (let s := { run with fab := { run.fab with edges := [(edgeKey 1 (oppositeEdge 1) 7, List.replicate 16 0)] } }
       16 ≤ (SMap.get [] s.fab.edges (edgeKey 1 (oppositeEdge 1) 7)).length)
    ∧ neighbour 0 3 = none := by decide +kernel

theorem witness_FabricPortsAndCapture : (run.serialPort 9).settings.length = 2 ∧ (2097151 : Nat) < 2097152 ∧ run.capBusy = false
    ∧ (run.flashWord 2097151 &&& (1 : Half) = 1) ∧ ({ run with fab := { run.fab with flash := [(0, 0)] } }.flashWord 0 &&& (1 : Half) ≠ 1)
    ∧ (run.setFlag F.FAB_STATUS_cap_draining true).capBusy = true ∧ (run.setFlag F.FAB_STATUS_cap_draining true).flag F.FAB_STATUS_cap_draining = true
    ∧ 31 ∈ (run.setReg R.FAB_CAP_MASK0 0x80000000).capSelected := by decide +kernel

theorem witness_FabricClockEdge : State.reset.clocked 0 = false ∧ run.clocked 47 = true
    ∧ (ffSr (2 ^ 96 - 1) 1 = true ∧ ffCe (2 ^ 96 - 1) 1 = true) ∧ ffSr (cellBits 0 0) 0 = false ∧ ffCe (cellBits 0 0) 0 = false
    ∧ (∃ tb, ffSr (cellBits tb 1) 1 = true) ∧ (∃ tb, ffCe (cellBits tb 0) 0 = true) := by
  refine ⟨by decide +kernel, by decide +kernel, by decide +kernel, by decide +kernel, by decide +kernel, ⟨2 ^ 192 - 1, ?_⟩, ⟨2 ^ 96 - 1, ?_⟩⟩
    <;> decide +kernel

/-- A sector's fields set at once: (field in its CTX window, value). -/
def ctxSet (s : State) (k : Nat) (l : List (FieldRef × Nat)) : State := l.foldl (fun t e => t.setFld (e.1.ctx k) e.2) s

/-- Sector 95 of a running device: plane 0 live, planes 0 and 7 loaded, plane 7 staged and valid, fab_en 1. -/
def switchable : State :=
  ctxSet (run.setSec 95 { live := true }) 95 [(F.CTX_CTRL_fab_en, 1), (F.CTX_PLANE_INFO_loaded.nth 0, 1), (F.CTX_PLANE_INFO_loaded.nth 7, 1),
    (F.CTX_STATUS_staged_state, 1), (F.CTX_STATUS_staged_plane, 7)]

theorem witness_ContextSwitchCommands :
    (switchable.sec 95).live = true
    ∧ (switchable.held (islandOf 95) = false ∧ switchable.flag (F.CTX_CTRL_fab_en.ctx 95) = true
      ∧ switchable.flag (F.CTX_STATUS_sched_run.ctx 95) = false ∧ switchable.ctxBusy 95 = false ∧ 7 ≠ switchable.livePlane 95
      ∧ switchable.planeLoaded 95 7 = true ∧ switchable.stagedValid 95 7 = true ∧ switchable.stagedUnusable 95 7 = false)
    ∧ (ctxSet switchable 95 [(F.CTX_CTRL_fab_en, 0)]).flag (F.CTX_CTRL_fab_en.ctx 95) = false
    ∧ (ctxSet switchable 95 [(F.CTX_STATUS_sched_run, 1)]).flag (F.CTX_STATUS_sched_run.ctx 95) = true
    ∧ (ctxSet switchable 95 [(F.CTX_STATUS_wb_busy, 1)]).ctxBusy 95 = true
    ∧ (let s := ctxSet (run.setSec 95 { live := true, request := some 7 }) 95 [(F.CTX_PLANE_INFO_loaded.nth 7, 1)]
       (s.sec 95).request = some 7 ∧ s.flag (F.CTX_STATUS_restaging.ctx 95) = false ∧ s.held (islandOf 95) = false ∧ 7 ≠ s.livePlane 95
        ∧ s.planeLoaded 95 7 = true ∧ s.restageRefused 95 7 = false
        ∧ s.stagedValid 95 (s.fld (F.CTX_STATUS_staged_plane.ctx 95)) = false ∧ SMap.get none s.stu.starting 95 = none)
    ∧ (let s := ctxSet switchable 95 [(F.CTX_STATUS_restaging, 1), (F.CTX_STATUS_restage_plane, 7)]
       s.flag (F.CTX_STATUS_restaging.ctx 95) = true ∧ s.flag (F.CTX_STATUS_wb_busy.ctx 95) = false
        ∧ (SMap.get ({} : RestagePath) s.vx.paths 95).testing = false ∧ SMap.get none s.stu.starting 95 = none ∧ (s.sec 95).late = none
        ∧ s.stageFaults 95 (s.fld (F.CTX_STATUS_restage_plane.ctx 95)) (s.plane 95 (s.fld (F.CTX_STATUS_restage_plane.ctx 95))) = []) := by
  decide +kernel

/-- Sector 95 with a schedule running in entry 63, that entry as given. -/
def scheduling (entry : Nat) : State :=
  ctxSet ((run.setSec 95 { checked := true }).setReg (R.CTX_SCHED_ACT + 4 * 63 + 0x1000 * 95) (BitVec.ofNat 32 entry)) 95
    [(F.CTX_STATUS_sched_run, 1), (F.CTX_STATUS_cur_entry, 63)]

theorem witness_ScheduleCommands :
    (run.flag (F.CTX_STATUS_sched_run.ctx 95) = false ∧ (run.sec 95).checked = false)
    ∧ ((run.setSec 95 { checked := true }).flag (F.CTX_STATUS_sched_run.ctx 95) = false
      ∧ ((run.setSec 95 { checked := true }).sec 95).checked = true)
    ∧ (((run.setSec 95 { armed := true }).sec 95).armed = true ∧ (run.setSec 95 { armed := true }).held (islandOf 95) = false)
    ∧ (∀ e ∈ [2 ^ 25, 2 ^ 24, 0], let s := scheduling e
       s.flag (F.CTX_STATUS_sched_run.ctx 95) = true ∧ s.flag (F.CTX_STATUS_sched_wait.ctx 95) = false ∧ (s.sec 95).want = none
        ∧ (s.sec 95).evtLatched = false ∧ (s.sec 95).dwell = 0 ∧ (s.sec 95).nextWaits = false ∧ s.held (islandOf 95) = false
        ∧ entryWait (s.actEntry 95 (s.fld (F.CTX_STATUS_cur_entry.ctx 95))) = decide (e = 2 ^ 25)
        ∧ entryStop (s.actEntry 95 (s.fld (F.CTX_STATUS_cur_entry.ctx 95))) = decide (e = 2 ^ 24))
    ∧ (Instr.event 95 = .event 95 ∧ (ctxSet run 95 [(F.CTX_TICK_period_ns, 1)]).fld (F.CTX_TICK_period_ns.ctx 95) ≠ 0
      ∧ run.held (islandOf 95) = false)
    ∧ (let s := run.setSec 95 { nextWaits := true }
       (s.sec 95).nextWaits = true ∧ s.flag (F.CTX_STATUS_sched_run.ctx 95) = false) := by decide +kernel

/-- A running device with the memory layer as given. -/
def withMem (m : MemSt) : State := { run with mem := m }

/-- The last bank's settings: class and background access. -/
def bankCfg (s : State) (cls bg : Nat) : State :=
  (s.setFld (F.MEM_BANK_CFG_owner_class.nth 255) cls 47).setFld (F.MEM_BANK_CFG_bg_access.nth 255) bg 47

theorem witness_MemoryRequests_foreground :
    (landed.fgAllowed .fabric 0 false = true ∧ landed.held 0 = false ∧ NSet.has landed.mem.filling 0 = false)
    ∧ ((bankCfg run 1 0).fgAllowed .management 12287 false = true ∧ (bankCfg run 1 0).ownerClass 12287 ≠ 0)
    ∧ ((bankCfg run 2 0).fgAllowed (.slice 3) 12287 false = true ∧ isForegroundMaster (.slice 3) = true)
    ∧ (run.fgAllowed .management 0 true = false ∧ run.held 0 = false)
    ∧ ((run.setHeld 47 true).ownerClass (47 * 256) = 0 ∧ (run.setHeld 47 true).held (47 * 256 / 256) = true)
    ∧ (isForegroundMaster .fabric = true ∧ isNarrow (landed.codeOf 0) 1 = true
      ∧ (landed.mergeOf (0 / 256)).find? (fun e => decide (e.bank = 0) && decide (e.word = 0)) = none
      ∧ (landed.mergeOf (0 / 256)).length < 8) := by decide +kernel

theorem witness_MemoryRequests_background :
    let r : MemReq := ⟨.dma, .writeWord 8191 1 65535, 0, false, none, 0⟩
    (∀ bg ∈ [0, 2], let s := bankCfg (withMem { queue := [(12287, [r])] }) 1 bg
       NSet.has s.mem.filling 12287 = false ∧ s.bgOf 12287 = r :: []
        ∧ (s.setBg 12287 []).bgAllowed r.master 12287 r.op = decide (bg = 2) ∧ r.job = none ∧ r.starved = false)
    ∧ ((withMem { queue := [(0, [{ r with starved := true }])] }).bgOf 0 = { r with starved := true } :: [])
    ∧ (let s := withMem { rowWait := [(47, [⟨12287, false, 0⟩])] }
       s.rowWaits 47 = (⟨12287, false, 0⟩ : RowWait) :: [] ∧ 4096 ≤ s.rowTokens 47)
    ∧ (let s := withMem { rowWait := [(47, [⟨12287, false, 0⟩])], spent := [(47, (64 * 4096, 0))] }
       s.rowWaits 47 = (⟨12287, false, 0⟩ : RowWait) :: [] ∧ s.rowTokens 47 < 4096)
    ∧ run.rowCopyRefused (run.fld F.MEM_COL_SEL_column) 0 = true
    ∧ (let s := (run.setFld F.MEM_BANK_CFG_bg_access 2 0)
       s.rowCopyRefused (s.fld F.MEM_COL_SEL_column) 512 = false)
    ∧ (run.setFlag F.MEM_RC_CTRL_busy true 47).flag F.MEM_RC_CTRL_busy 47 = true := by decide +kernel

theorem witness_MergeDrainOfBadWord :
    let e : MergeEntry := ⟨12287, 8191, 1, 1, 0⟩
    let s := withMem { merge := [(47, [e])], words := [(12287 * 8192 + 8191, poisonWord 0)] }
    let u := withMem { merge := [(47, [e])], words := [(12287 * 8192 + 8191, 0x80000000000000000000000000000003)] }
    ((((s.mergeOf 47).find? fun e => decide (e.mask = 0xFFFF)).or (s.mergeOf 47).head?) = some e ∧ e.mask ≠ 0xFFFF
      ∧ ((s.upset e.bank e.word []).decodeAt e.bank e.word).found = .poison)
    ∧ ((((u.mergeOf 47).find? fun e => decide (e.mask = 0xFFFF)).or (u.mergeOf 47).head?) = some e
      ∧ ((u.upset e.bank e.word []).decodeAt e.bank e.word).found = .uncorrectable) := by decide +kernel

theorem witness_ScrubAndRepairCommands_words :
    let e : MergeEntry := ⟨12287, 8191, 1, 0xFFFF, 0⟩
    (((withMem { merge := [(47, [e])] }).mergeOf 47).find? fun e => decide (e.mask = 0xFFFF)) = some e
    ∧ SMap.get [] (withMem { repair := [(47, [⟨12287, 8191, 1⟩])] }).mem.repair 47 = (⟨12287, 8191, 1⟩ : RepairEntry) :: []
    ∧ NSet.has (withMem { filling := [(12287, true)] }).mem.filling 12287 = true
    ∧ (let s := (withMem { filling := [(0, true)], rawWaits := some 1 })
       NSet.has s.mem.filling 0 = true ∧ s.mem.rawWaits = some 1 ∧ s.rawTarget.1 = 0)
    ∧ (run.lapForced = true ∧ SMap.get 0 run.mem.lapNext 12287 < 8192 ∧ NSet.has run.mem.filling 12287 = false
      ∧ (run.decodeAt 12287 (SMap.get 0 run.mem.lapNext 12287)).found = .clean)
    ∧ (let s := run.setFlag F.MI_CTRL_lap_en true
       s.flag F.MI_CTRL_lap_en = true)
    ∧ (let s := (run.setFlag F.MI_CTRL_lap_en false).setFlag F.DEV_STATUS_done true
       s.flag F.MI_CTRL_lap_en = false ∧ s.lapForced = false) := by decide +kernel

theorem witness_ScrubAndRepairCommands_passes :
    (run.setFlag F.MI_SCRUB_CTRL_busy true).flag F.MI_SCRUB_CTRL_busy = true
    ∧ (let s := run.setFld F.MI_SCRUB_FIRST_word 1
       s.fld F.MI_SCRUB_LAST_word < s.fld F.MI_SCRUB_FIRST_word)
    ∧ (0x6000000 ≤ (run.setFld F.MI_SCRUB_LAST_word 0x6000000).fld F.MI_SCRUB_LAST_word)
    ∧ (let s := run.setFld F.MI_SCRUB_LAST_word 0x5FFFFFF
       s.flag F.MI_SCRUB_CTRL_busy = false ∧ s.fld F.MI_SCRUB_FIRST_word ≤ s.fld F.MI_SCRUB_LAST_word ∧ s.fld F.MI_SCRUB_LAST_word < 0x6000000)
    ∧ ((withMem { pass := some ⟨6, 5⟩ }).mem.pass = some ⟨6, 5⟩ ∧ (5 : Nat) < 6)
    ∧ (let s := withMem { pass := some ⟨0x5FFFFFF, 0x5FFFFFF⟩ }
       s.mem.pass = some ⟨0x5FFFFFF, 0x5FFFFFF⟩ ∧ NSet.has s.mem.filling (s.locate 0x5FFFFFF).1 = false
        ∧ (s.decodeAt (s.locate 0x5FFFFFF).1 (s.locate 0x5FFFFFF).2).found = .clean)
    ∧ (run.fld F.MI_COL_SEL_column * 256 + 255) * 8192 + 8191 ∉ run.mem.remapAsked
    ∧ (∀ n ∈ [63, 64], let s := withMem { remapAsked := [8191], remap := [(0, List.replicate n 5)] }
       s.mem.remapAsked = 8191 :: [] ∧ 8191 ∉ SMap.get [] s.mem.remap (8191 / 8192 / 256)
        ∧ (SMap.get [] s.mem.remap (8191 / 8192 / 256)).length = n ∧ (s.decodeAt (8191 / 8192) (8191 % 8192)).found = .clean)
    ∧ ((withMem { remapWrites := [(0, 5)] }).mem.remapWrites = (0, 5) :: [] ∧ run.mgt.warm = false) := by decide +kernel

theorem witness_RawAndMarchCommands :
    (run.flag F.MI_RAW_CTRL_busy = false ∧ NSet.has run.mem.filling run.rawTarget.1 = false)
    ∧ (run.setFld F.MEM_BANK_CFG_owner_class 3).ownerClass (run.setFld F.MEM_BANK_CFG_owner_class 3).rawTarget.1 = 3
    ∧ State.reset.colStopped (State.reset.rawTarget.1 / 256) State.reset.released = true
    ∧ (run.setFlag F.MI_RAW_CTRL_busy true).flag F.MI_RAW_CTRL_busy = true
    ∧ (run.ownerClass run.rawTarget.1 < 3 ∧ run.colStopped (run.rawTarget.1 / 256) run.released = false)
    ∧ run.marchRefused (run.fld F.MI_COL_SEL_column) (bits 0 15 8) (bits 0 23 16) run.released = true
    ∧ State.reset.marchRefused (State.reset.fld F.MI_COL_SEL_column) (bits 0xFF0000 15 8) (bits 0xFF0000 23 16) State.reset.released = false
    ∧ (let m : MarchRun := ⟨0, 0, 255, true, []⟩
       (withMem { march := some m }).mem.march = some m ∧ m.preserve = true ∧ m.tableFails = [])
    ∧ ((run.setFlag F.MI_CTRL_tt_en true).flag F.MI_CTRL_tt_en = true ∧ (run.setFlag F.MI_CTRL_tt_en false).flag F.MI_CTRL_tt_en = false) := by
  decide +kernel

/-- A running device whose engine 12287 is as given, runs, and holds the word `w` at address 0. -/
def coreAt (g : Engine) (w : Nat) : State := run.setEngine 12287 { g with halted := false, pmem := [(0, pmemCode w)] }

/-- An engine with a return address stacked and a word in each input FIFO. -/
def coreReady : Engine := { regs := [(20, 2), (22, 3), (48, 9), (55, 1), (56, 9)], in0 := [1], in1 := [2] }

/-- The control opcodes and what they are (08 R243); bits [8:0] hold 1, a legal REP count and XFER length. -/
def controlWords : List (EngKind × Nat) :=
  [(EngKind.nop, 0x00), (.ldi, 0x01), (.ldih, 0x02), (.mov, 0x03), (.ldd, 0x04), (.std, 0x05), (.bra, 0x08), (.bcc, 0x09), (.call, 0x0A),
    (.ret, 0x0B), (.rti, 0x0C), (.dbnz, 0x0D), (.rep, 0x0E), (.exp, 0x10), (.norm, 0x11), (.shl, 0x12), (.shr, 0x13), (.sat, 0x14),
    (.and, 0x15), (.or, 0x16), (.xor, 0x17), (.in, 0x18), (.out, 0x19), (.wait, 0x1A), (.sig, 0x1B), (.xfer, 0x1C), (.ei, 0x20), (.di, 0x21),
    (.lock, 0x22), (.kick, 0x24), (.tas, 0x25), (.halt, 0x28), (.trap, 0x29)].map fun x => (x.1, x.2 * 2 ^ 25 + 1)

/-- Every instruction but UNLOCK issues and executes from that engine, UNLOCK inside a locked sequence. -/
theorem witness_engine_issues :
    (∀ op < 16, (coreAt coreReady (2 ^ 31 + op * 2 ^ 27)).engIssues 12287 (2 ^ 31 + op * 2 ^ 27) (parallelKind op))
    ∧ (∀ x ∈ controlWords, (coreAt coreReady x.2).engIssues 12287 x.2 x.1)
    ∧ (coreAt { lock := some 7 } (0x23 * 2 ^ 25)).engIssues 12287 (0x23 * 2 ^ 25) .unlock := by
  unfold State.engIssues; decide +kernel

theorem witness_EngineParallelArithmetic : ∀ op < 16, let w := 2 ^ 31 + op * 2 ^ 27 + 3 * 2 ^ 25 + 7 * 2 ^ 22
    (coreAt coreReady w).engIssues 12287 w (parallelKind op) ∧ bit w 31 = true ∧ bit w 21 = false ∧ bit w 10 = false := by
  unfold State.engIssues; decide +kernel

theorem witness_EngineAccumulatorShiftsAndLogic : ∀ x ∈ [(EngKind.norm, 0x11), (.shl, 0x12), (.shr, 0x13), (.sat, 0x14), (.and, 0x15), (.or, 0x16),
    (.xor, 0x17)], ∀ n ∈ [0, 47], let w := x.2 * 2 ^ 25 + 3 * 2 ^ 22 + n
    (coreAt coreReady w).engIssues 12287 w x.1 ∧ bit w 31 = false := by
  unfold State.engIssues; decide +kernel

theorem witness_EngineMoves :
    (∀ x ∈ [(EngKind.ldi, 0x01), (.mov, 0x03), (.exp, 0x10), (.in, 0x18), (.ldd, 0x04), (.ldih, 0x02), (.std, 0x05), (.nop, 0)],
      ∀ d ∈ [0, 5, 24, 47, 52], let w := x.2 * 2 ^ 25 + d * 2 ^ 16 + (if x.1 = .ldih then 255 else 1)
      (coreAt coreReady w).engIssues 12287 w x.1 ∧ bit w 31 = false)
    ∧ (dmemDecode (SMap.get 0 (coreReady.applyPend).dmem (bits (4 * 2 ^ 25 + 0xFFF) 11 0))).1 = .clean
    ∧ (17 ≤ engWidth 52 ∧ engWidth 47 < 17) ∧ (isAccHigh 0 = false ∧ 5 = 5 + 4 * 0) := by
  unfold State.engIssues; decide +kernel

theorem witness_EnginePointerUpdate : ∀ m ∈ [(1, 0), (2, 1), (3, 2), (1024, 10), (1025, 11), (2047, 11)], m.1 < 2048 ∧ 1 ≤ m.1 ∧ m.1 ≤ 2 ^ m.2
    ∧ ∀ j, m.1 ≤ 2 ^ j → m.2 ≤ j := by
  intro m hm
  have key : ∀ (a k j : Nat), (k = 0 ∨ 2 ^ (k - 1) < a) → a ≤ 2 ^ j → k ≤ j := by
    intro a k j h h'
    rcases h with h | h
    · omega
    · have : 2 ^ (k - 1) < 2 ^ j := by omega
      have := (Nat.pow_lt_pow_iff_right (by decide : 1 < 2)).1 this
      omega
  refine ⟨?_, ?_, ?_, fun j => key m.1 m.2 j ?_⟩ <;> revert m <;> decide

theorem witness_EngineMoveSlots : ∀ st ∈ [0, 1], ∀ z ∈ [0, 1], ∀ r ∈ [0, 7], let w := 2 ^ 31 + 2 ^ 21 + (st * 2 ^ 9 + 7 * 2 ^ 6 + 2 ^ 4 + r * 2 + z) * 2 ^ 11
    (coreAt coreReady w).engIssues 12287 w .nopa ∧ bit w 21 = true ∧ bit w 10 = false ∧ bit (bits w 21 11) 9 = decide (st = 1)
      ∧ bit (bits w 21 11) 0 = decide (z = 1) ∧ (dmemDecode (SMap.get 0 coreReady.applyPend.dmem 0)).1 = .clean := by
  unfold State.engIssues; decide +kernel

theorem witness_EngineDecrementAndBranch : ∀ lc ∈ [0, 1, 2047], let s := coreAt { regs := [(20, lc)] } (0x0D * 2 ^ 25 + 1023)
    s.engIssues 12287 (0x0D * 2 ^ 25 + 1023) .dbnz ∧ (s.engine 12287).applyPend.reg 20 = lc := by
  unfold State.engIssues; decide +kernel

theorem witness_EngineProgramFlow :
    (∀ x ∈ controlWords, (coreAt coreReady x.2).engIssues 12287 x.2 x.1)
    ∧ (∀ k ∈ [EngKind.bra, .bcc, .call, .ret, .rti, .rep, .lock, .nop, .std, .tas], (engPairs 12287).any fun p => decide (p.1 = k))
    ∧ (coreAt { lock := some 7 } (0x23 * 2 ^ 25)).engIssues 12287 (0x23 * 2 ^ 25) .unlock
    ∧ (∀ n ∈ [0, 1023], (coreAt { coreReady with regs := [(20, 1024)] } (0x0E * 2 ^ 25 + 2 ^ 24 + n)).engIssues 12287 (0x0E * 2 ^ 25 + 2 ^ 24 + n) .rep)
    ∧ (∀ g ∈ [{ coreReady with delay := 1 }, { coreReady with delay := 2 }, { coreReady with rep := 1 }, { coreReady with rep := 1024 }],
      (coreAt g 0).engIssues 12287 0 .nop) := by
  unfold State.engIssues; decide +kernel

/-- A device whose engine `e` of island 47 owns the first bank of its column. -/
def moverOwner (s : State) : State := s.setLive 47 [(5, BitVec.ofNat 2048 ((0x100 + 255) * 2 ^ 1696))]

theorem witness_EnginePortsAndControl :
    (∀ x ∈ [(EngKind.out, 0x19), (.wait, 0x1A), (.sig, 0x1B), (.xfer, 0x1C), (.ei, 0x20), (.di, 0x21), (.kick, 0x24), (.tas, 0x25), (.halt, 0x28),
      (.trap, 0x29)], ∀ n ∈ [1], let w := x.2 * 2 ^ 25 + n
      (coreAt coreReady w).engIssues 12287 w x.1 ∧ ((engPairs 12287).any fun p => decide (p.1 = x.1)) = true)
    ∧ (moverOwner (coreAt coreReady 0)).moverBank 12287 = some (47 * 256, false)
    ∧ (let s := coreAt { coreReady with out1 := List.replicate 16 0 } (0x19 * 2 ^ 25 + 1)
       s.engClocked 12287 = true ∧ (s.engine 12287).halted = false ∧ (s.engine 12287).stalled = false ∧ (s.engine 12287).waiting = false
        ∧ pmemDecode (SMap.get 0 (s.engine 12287).pmem ((s.engine 12287).reg 54 % 1024)) = (.clean, 0x19 * 2 ^ 25 + 1)
        ∧ engKind (0x19 * 2 ^ 25 + 1) = some .out ∧ placeError (s.engine 12287) .out = false
        ∧ operandError (s.engine 12287) .out (0x19 * 2 ^ 25 + 1) = false ∧ mustStall (s.engine 12287) .out (0x19 * 2 ^ 25 + 1) = true)
    ∧ (mustStall {} .in (0x18 * 2 ^ 25) = true ∧ mustStall { sig := [(3, 4)] } .sig (0x1B * 2 ^ 25 + 3) = true)
    ∧ (operandError coreReady .out (0x19 * 2 ^ 25 + 2) = true ∧ operandError { regs := [(55, 8)] } .call (0x0A * 2 ^ 25) = true
      ∧ operandError {} .ret (0x0B * 2 ^ 25) = true ∧ operandError coreReady .bcc (0x09 * 2 ^ 25 + 14 * 2 ^ 10) = true
      ∧ operandError coreReady .xfer (0x1C * 2 ^ 25 + 257) = true ∧ operandError coreReady .xfer (0x1C * 2 ^ 25 + 256) = false)
    ∧ (placeError { delay := 1 } .bra = true ∧ placeError { rep := 1 } .halt = true ∧ placeError { lock := some 7 } .nop = true
      ∧ placeError { lock := some 6 } .nop = false ∧ placeError {} .unlock = true) := by
  unfold State.engIssues; decide +kernel

theorem witness_EngineEventCommands_engine :
    (let g := { coreReady with regs := [(22, 7), (23, 1), (51, 1)] }
     let s := coreAt g 0
     s.engClocked 12287 = true ∧ (s.engine 12287).halted = false ∧ (s.engine 12287).reg 51 ≠ 0 ∧ (s.engine 12287).reg 23 ≠ 0)
    ∧ (∀ v ∈ [0, 3, 4, 5, 6, 7], let g : Engine :=
        { regs := [(22, 7)], in0 := [1], in1 := [1], timerPend := true, mboxPend := true, halted := false
          pmem := [(1016 + v, pmemCode (2 ^ 31 + 1023))] }
       g.stalled = false ∧ g.stepping = false ∧ g.handler = false ∧ g.heldOff = false ∧ bit (g.reg 22) 2 = true ∧ engRequest g = some v
        ∧ pmemDecode (SMap.get 0 g.pmem ((1016 + v) % 1024)) = (.clean, 2 ^ 31 + 1023))
    ∧ ((run.setLive 95 [(5, BitVec.ofNat 2048 (32 * 2 ^ 1714))]).attached (engSector 12287) (engAtt 12287) = true)
    ∧ (let w := 0x1B * 2 ^ 25 + 3
       let g : Engine := { stalled := true, halted := false, pmem := [(0, pmemCode w)] }
       g.stalled = true ∧ g.stepping = false ∧ (pmemDecode (SMap.get 0 g.pmem (g.reg 54))).2 = w ∧ engKind w = some .sig ∧ mustStall g .sig w = false
        ∧ operandError g .sig w = false ∧ placeError g .sig = false ∧ mustStall { g with sig := [(3, 4)] } .sig w = true)
    ∧ (let g : Engine := { rewrite := some 4095, dmem := [(4095, dmemCode 5 ^^^ 1)] }
       g.rewrite = some 4095 ∧ (dmemDecode (SMap.get 0 g.dmem 4095)).1 ≠ .uncorrectable)
    ∧ (0 < SMap.get 0 ((run.setEngine 12287 { sig := [(3, 1)] }).engine 12287).sig 3 ∧ run.held (engIsland 12287) = false) := by decide +kernel

theorem witness_EngineEventCommands_mover :
    (∀ dir ∈ [true, false], ∀ sm ∈ [true, false], ∀ left ∈ [1, 256],
      let s := moverOwner (coreAt { mover := { busy := true, toBank := dir, sample := sm, left := left, bank := 47 * 256, bword := 8191 } } 0)
      let m := (s.engine 12287).mover
      m.busy = true ∧ 0 < m.left ∧ NSet.has s.mem.filling m.bank = false ∧ s.fgAllowed (.mover (moverNumber 12287)) m.bank m.portB = true
        ∧ (s.decodeAt m.bank m.bword).found = .clean ∧ m.toBank = dir)
    ∧ (coreAt { mover := { busy := true, left := 1 } } 0).fgAllowed (.mover (moverNumber 12287)) 0 false = false
    ∧ (∀ a, (dmemDecode (SMap.get 0 ({} : Engine).dmem a)).1 = .clean)
    ∧ (({ busy := true } : Mover).busy = true ∧ ({ busy := true } : Mover).left = 0) := by
  refine ⟨by decide +kernel, by decide +kernel, fun a => ?_, by decide +kernel⟩
  show (dmemDecode 0).1 = .clean
  decide +kernel

theorem witness_EngineHaltResumeAndWindow :
    let sel := fun (g : Engine) => (run.setFld F.ENG_SEL_engine 12287).setEngine 12287 g
    let nop : Engine := { pmem := [(0, pmemCode 0)] }
    (sel nop).engSelected = 12287 ∧ (sel nop).held (engIsland (sel nop).engSelected) = false
    ∧ ((sel nop).engine 12287).halted = true ∧ ((sel { nop with halted := false }).engine 12287).halted = false
    ∧ ((sel nop).engClocked 12287 = true ∧ nop.delay = 0 ∧ nop.rep = 0 ∧ nop.lock = none
      ∧ pmemDecode (SMap.get 0 nop.pmem (nop.reg 54 % 1024)) = (.clean, 0) ∧ engKind 0 = some .nop)
    ∧ (((sel nop).setHeld 47 true).held (engIsland ((sel nop).setHeld 47 true).engSelected) = true)
    ∧ (let s := sel { nop with halted := false, cmdHalt := true }
       s.engClocked 12287 = true ∧ (s.engine 12287).stalled = false ∧ (s.engine 12287).heldOff = false ∧ (s.engine 12287).cmdHalt = true)
    ∧ (let s := ((sel { nop with halted := false }).setFlag (F.MON_BP_en.nth 3) true 12287).setFld (F.MON_BP_addr.nth 3) 1023 12287
       let u := s.setEngine 12287 { nop with halted := false, regs := [(54, 1023)] }
       (u.engine 12287).stepping = false ∧ (u.engine 12287).fresh = false ∧ u.breakpointAt 12287 ((u.engine 12287).reg 54) = true)
    ∧ (dmemDecode (SMap.get 0 ((sel { nop with dmem := [(0xFFF, dmemCode 5)] }).engine 12287).dmem (0x3FFC / 4)) = (.clean, 5)) := by decide +kernel

/-- Queue 4095 enabled: class, far, largest packet 64 bytes, near words, descriptor ring of 4; over the device given. -/
def queued (s : State) (cls near : Nat) (far : Bool := false) : State :=
  let q := 4095
  ((((((s.setFlag F.QM_Q_CFG0_en true q).setFld F.QM_Q_CFG0_class cls q).setFlag F.QM_Q_CFG0_far far q).setFld F.QM_Q_CFG0_max_pkt 63 q).setFld
    F.QM_Q_CFG2_near_words near q).setFld F.QM_Q_CFG3_desc_log 2 q)

/-- A segment of queue 4095 with one payload flit, from endpoint 0 of node 0 to the queue's slice. -/
def seg (sop eop abort : Bool) : Segment := { segZero with queue := 4095, sop := sop, eop := eop, abort := abort, ack := true, payload := [5] }

/-- Its packet's head. -/
def segHead : NocHead := { headZero with dstNode := 62, vc := 1 }

/-- An open packet of that producer. -/
def openPkt : OpenPkt :=
  { prod := ⟨0, 0, 0⟩, vc := 1, start := 0, pktLen := 0, reserved := 0, bytes := 64, meta32 := 0, ack := true, tag := 0, arrival := 0, last := 0,
    cells := [], tail := [], closing := false, bound := 0, bound0 := 0 }

/-- A committed packet of 64 bytes. -/
def qPkt : QPkt := { len := 64, meta32 := 0, arrival := 0, cls := 0, far := false, loc := 0, cells := [], bound := 0, bound0 := 0 }

theorem witness_QueuePackets_start : run.sound segHead (56 + 2 * sliceOf 4095)
    ∧ (∀ cls ∈ [1, 2], let s := queued run cls 1
      s.takesStart 4095 ∧ s.qFar 4095 = false ∧ s.qClass 4095 ≠ 0 ∧ (segmentBytes (seg true true false)).length ≤ s.qMax 4095
        ∧ (if s.qClass 4095 = 1 then s.qDepth 4095 + pktWords (s.qMax 4095) else s.qDepth 4095 + pktWords (segmentBytes (seg true true false)).length)
          ≤ s.fld F.QM_Q_CFG2_near_words 4095)
    ∧ ((run.queue 4095).opened = none ∧ (run.queue 4095).waiting = [] ∧ run.flag F.QM_Q_CFG0_en 4095 = false)
    ∧ (let s := (queued run 2 1).setQueue 4095 { pkts := [qPkt, qPkt, qPkt, qPkt] }
       (s.queue 4095).opened = none ∧ (s.queue 4095).waiting = [] ∧ s.qDescFree 4095 = 0)
    ∧ (let s := queued run 0 1
       s.takesStart 4095 ∧ s.qClass 4095 = 0 ∧ s.flag F.QM_CT_STAT_committed 4095 = false)
    ∧ (let s := queued run 1 0
       s.takesStart 4095 ∧ s.qClass 4095 = 1 ∧ s.qFar 4095 = false ∧ s.fld F.QM_Q_CFG2_near_words 4095 < s.qDepth 4095 + pktWords (s.qMax 4095)) := by
  unfold State.sound State.takesStart; decide +kernel

theorem witness_QueuePackets_open : ((run.queue 4095).dropping.contains (producerOf segHead) = false ∧ (seg false true false).sop = false)
    ∧ (let s := (queued run 2 1).setQueue 4095 { opened := some openPkt }
       (s.queue 4095).opened = some openPkt ∧ (s.queue 4095).waiting = [] ∧ openPkt.prod = producerOf segHead ∧ openPkt.closing = false
        ∧ openPkt.vc = segHead.vc ∧ (seg false true true).abort = true
        ∧ s.byteLimit 4095 openPkt < openPkt.bytes + (segmentBytes (seg false true false)).length)
    ∧ (sliceOf 3071 ≠ sliceOf 4095 ∧ (run.queue 3071).waiting = []) := by decide +kernel

theorem witness_QueueAdministration :
    run.qStopped 4095 = true
    ∧ ((queued run 2 1).flag F.QM_Q_CFG0_en 4095 = true ∧ (0 : Word) &&& 0x7FFFFFFF ≠ (queued run 2 1).reg R.QM_Q_CFG0 4095 &&& 0x7FFFFFFF)
    ∧ ((queued run 2 1).flag F.QM_CT_STAT_committed 4095 = false
      ∧ ((queued run 2 1).reg R.QM_Q_CFG0 4095) &&& 0x7FFFFFFF = (queued run 2 1).reg R.QM_Q_CFG0 4095 &&& 0x7FFFFFFF)
    ∧ ((queued run 0 1).setFlag F.QM_CT_STAT_committed true 4095).flag F.QM_CT_STAT_committed 4095 = true
    ∧ run.flag F.QM_Q_CFG0_en 4095 = false
    ∧ (run.fld F.QM_FAR_CELLS_cells 3 ≠ 402653184 ∧ 402653184 < 2 ^ 29 ∧ run.farStopped 3 = true
      ∧ ((List.range 4).map fun x => if x = 3 then 402653184 else run.fld F.QM_FAR_CELLS_cells x).sum ≤ 402653184
      ∧ 402653184 < ((List.range 4).map fun x => if x = 3 then 402653185 else run.fld F.QM_FAR_CELLS_cells x).sum)
    ∧ (queued run 2 0 true).farStopped 3 = false := by decide +kernel

/-- Egress port 23 of slice 3 whose first two calendar slots name queue 4095, over the device given. -/
def slotted (s : State) : State := (s.setFld F.QM_Q_CFG0_egress 23 4095).setReg R.QM_PORT_CAL 0x83FF83FF (portInst 3 23)

theorem witness_QueuePortsAndTimers_ports :
    (let s := (slotted (queued run 0 1)).setQueue 4095 { pkts := [qPkt] }
     s.calSlot 3 23 (s.time.ns / s.slotNs 3 23 % 64) = some 4095 ∧ (s.egress 3 23).busy = none ∧ (s.egress 3 23).entitled = []
      ∧ (s.queue 4095).pkts ≠ [] ∧ (s.queue 4095).descStop = false ∧ s.qClass 4095 = 0 ∧ s.classPaused (macOfPort 3 23) 0 = false)
    ∧ (let s := ((slotted (queued (run.setFld (F.MEM_BANK_CFG_owner_class.nth 255) 2 47) 0 1)).setQueue 4095 { pkts := [qPkt] }).setEgress 3 23 { busy := some 4095 }
       (s.egress 3 23).busy = some 4095 ∧ (s.queue 4095).pkts = qPkt :: [] ∧ s.qEgress 4095 < 24 ∧ qPkt.far = false ∧ bit qPkt.meta32 30 = false
        ∧ ((s.packetWords 4095 qPkt).1.all fun w => !w.2) = true)
    ∧ (let o := { openPkt with closing := true }
       let s := run.setQueue 4095 { opened := some o }
       (s.queue 4095).opened = some o ∧ (s.queue 4095).waiting = [] ∧ o.closing = true ∧ s.mee.writes.all (fun w => decide (w.dst ≠ cellKey 4095)) = true)
    ∧ (let s := { run.setQueue 4095 { opened := some openPkt } with time := { run.time with ns := 1023000 } }
       openPkt.closing = false ∧ openPkt.prod.dev ≠ 16 ∧ openPkt.last + max 1 (s.fld F.QM_CTRL_open_timeout_us) * 1000 ≤ s.time.ns) := by
  decide +kernel

theorem witness_QueuePortsAndTimers_streams :
    (let x : SpOpen := { queue := 0, dev := 0, vc := 1, len := 0, meta32 := 0, ack := true, flits := 0, words := List.replicate 64 0 }
     let s := run.setSp 95 { tx := some x }
     (s.spOf 95).tx = some x ∧ s.held (islandOf 95) = false ∧ x.words.length = 64 ∧ x.words ≠ [])
    ∧ (let s := (((queued run 2 1).setFlag F.ETH_MAC_CFG_en true 95).setFlag F.ETH_MAC_STAT_link_up true 95).setFld F.QM_PORT_CFG_dflt_q 4095
        (portInst (95 / 24) (95 % 24))
       let u := s.setFlag F.QM_PORT_CFG_dflt_en true (portInst (95 / 24) (95 % 24))
       let frame : List Byte := List.replicate 60 0
       s.flag F.ETH_MAC_CFG_en 95 = true ∧ s.flag F.ETH_MAC_STAT_link_up 95 = true ∧ (List.replicate 63 (0 : Byte)).length < 64
        ∧ max 63 (s.fld F.ETH_MAC_CFG_max_frame 95) + 1 < (List.replicate 1520 (0 : Byte)).length
        ∧ (64 ≤ (frame ++ leBytes 4 (crc32 frame)).length ∧ s.frameKey 95 frame = [] ∧ s.flag F.QM_PORT_CFG_dflt_en (portInst (95 / 24) (95 % 24)) = false)
        ∧ (u.flag F.QM_PORT_CFG_dflt_en (portInst (95 / 24) (95 % 24)) = true ∧ sliceOf 4095 = 95 / 24
          ∧ u.fld F.QM_PORT_CFG_dflt_q (portInst (95 / 24) (95 % 24)) = 4095 ∧ u.takesStart 4095 ∧ u.qClass 4095 = 2 ∧ u.qFar 4095 = false
          ∧ frame.length ≤ u.qMax 4095 ∧ u.qDepth 4095 + pktWords frame.length ≤ u.fld F.QM_Q_CFG2_near_words 4095
          ∧ leNat ((frame ++ leBytes 4 (crc32 frame)).drop 60) = crc32 frame ∧ leNat (List.replicate 4 (0 : Byte)) ≠ crc32 frame)) := by
  unfold State.takesStart; decide +kernel

/-- The state that a command leaves. -/
def after (c : Instr) (s : State) : State :=
  match exec c s with
  | .next t => t
  | .fault _ => s
  | .refused _ => s

/-- A lookup of a 40-byte key with learning as given. -/
def flowReq (learn : Bool) : FlowReq :=
  { key := 7, keyLen := 40, ret := true, count := true, touch := true, learn := learn, target := 9, countBytes := 64, queue := 4095, eflags := 0,
    opa := 1, opb := 2, user := none, long := false, reservedOp := false }

/-- Its packet, from a slice of the queue manager. -/
def flowHead : NocHead := { headZero with srcNode := 62, dstNode := 59, vc := 1 }

/-- The two candidate buckets of that key. -/
def flowBkt : Nat × Nat := run.flowBuckets (flowReq false).key.toNat 40

/-- A device whose flow store holds that key. -/
def flowKnown : State := run.setFlowEntry (4 * flowBkt.1) (newEntry 7 40 4095 0 0 0 [])

/-- A device whose flow store has an entry, of another key, at each of the places given. -/
def flowFull (l : List Nat) : State := { run with flow := { run.flow with words := l.map fun i => (i * 8 + 2, encodeS (BitVec.ofNat 128 (2 ^ 64))) } }

theorem witness_FlowOperations_sources :
    run.sound flowHead 59 ∧ run.flowSource flowHead = true
    ∧ ((run.issued flowHead.srcNode flowHead.srcPort flowHead.tag 2 3).bind fun t => t.flJoin flowHead.srcNode flowHead.srcPort flowHead.tag).isSome = true
    ∧ run.flowSource { flowHead with srcNode := 1, srcPort := 3 } = false
    ∧ ((run.issued 1 0 0 2 3).bind fun t => t.flJoin 1 0 0).isSome = true
    ∧ run.flowSource { flowHead with srcNode := 1 } = false := by
  unfold State.sound; decide +kernel

theorem witness_FlowOperations_results :
    (∀ x ∈ List.range 5, flowMalformed x (flowReq false) = false ∧ flowMalformed x { flowReq false with keyLen := 41 } = true
      ∧ flowMalformed x { flowReq false with keyLen := 0 } = true)
    ∧ flowMalformed 3 { flowReq false with target := 10 } = true
    ∧ (flowKnown.flowFind flowBkt 7 40 = some (4 * flowBkt.1) ∧ ∀ i ∈ flowReads flowBkt, (flowKnown.flowEntry i).2 = false)
    ∧ (bits (flowKnown.flowEntry (4 * flowBkt.1)).1 (flowTarget 9).1 (flowTarget 9).2 = 0 % 2 ^ ((flowTarget 9).1 + 1 - (flowTarget 9).2)
      ∧ bits (flowKnown.flowEntry (4 * flowBkt.1)).1 (flowTarget 9).1 (flowTarget 9).2 ≠ 1 % 2 ^ ((flowTarget 9).1 + 1 - (flowTarget 9).2))
    ∧ (run.flowFind flowBkt 7 40 = none ∧ run.flowPlace flowBkt = some (4 * flowBkt.1))
    ∧ (let s := flowFull (bucketWays (min flowBkt.1 flowBkt.2) ++ bucketWays (max flowBkt.1 flowBkt.2))
       s.flowPlace flowBkt = some stashBase)
    ∧ (let s := flowFull (bucketWays (min flowBkt.1 flowBkt.2) ++ bucketWays (max flowBkt.1 flowBkt.2) ++ stashSlots)
       s.flowPlace flowBkt = none ∧ s.flowFind flowBkt 7 40 = none ∧ ∀ i ∈ flowReads flowBkt, (s.flowEntry i).2 = false)
    ∧ (let s := { run with flow := { run.flow with words := [(stashBase * 8, 0x80000000000000000000000000000003)] } }
       ((flowReads flowBkt).find? fun i => (s.flowEntry i).2) = some stashBase) := by decide +kernel

theorem witness_FlowMaintenance_responses :
    (let s := { run with noc := { run.noc with reqs := [(reqKey 62 0 255, some ⟨2, 3, 0, true⟩)] } }
     SMap.get none s.noc.reqs (reqKey 62 0 255) ≠ none ∧ lookupPort 62 0 = none)
    ∧ (let s := ({ run with noc := { run.noc with reqs := [(reqKey 45 2 1, some ⟨2, 3, 0, true⟩)] } }).setFlPort 15 { waiting := [(1, none), (2, none)] }
       SMap.get none s.noc.reqs (reqKey 45 2 1) ≠ none ∧ lookupPort 45 2 = some 15 ∧ (s.flPort 15).waiting = (1, none) :: [(2, none)])
    ∧ (let s := ({ run with noc := { run.noc with reqs := [(reqKey 45 2 2, some ⟨2, 3, 0, true⟩)] } }).setFlPort 15 { waiting := [(1, none), (2, none)] }
       SMap.get none s.noc.reqs (reqKey 45 2 2) ≠ none ∧ (s.flPort 15).waiting = (1, none) :: [(2, none)] ∧ 1 ≠ 2) := by decide +kernel

theorem witness_FlowMaintenance_entries :
    (run.setFlag F.FS_CTRL_reloc_en false).flag F.FS_CTRL_reloc_en = false ∧ (∀ n < 64, entryKeyLen (run.flowEntry (stashBase + n)).1 = 0)
    ∧ (let s := flowFull [stashBase + 63]
       let v := (s.flowEntry (stashBase + 63)).1
       let b := s.flowBuckets (entryKey v) (entryKeyLen v)
       s.flag F.FS_CTRL_reloc_en = true ∧ s.stashNext s.flow.slot = some 63 ∧ s.flow.way < 4 ∧ (s.flowEntry (stashBase + 63)).2 = false
        ∧ (∀ w ∈ bucketWays b.1 ++ bucketWays b.2, (s.flowEntry w).2 = false) ∧ (s.flowWay b).isSome = true)
    ∧ (let v := ((flowFull [stashBase + 63]).flowEntry (stashBase + 63)).1
       let b := run.flowBuckets (entryKey v) (entryKeyLen v)
       let s := flowFull (bucketWays (min b.1 b.2) ++ bucketWays (max b.1 b.2) ++ [stashBase + 63])
       s.stashNext s.flow.slot = some 63 ∧ s.flowWay b = none ∧ (if 63 = s.flow.slot then s.flow.kicks else 0) < max 1 (s.fld F.FS_CTRL_max_kicks)
        ∧ s.flow.way < 4 ∧ (s.flowEntry (stashBase + 63)).2 = false ∧ (∀ w ∈ bucketWays b.1 ++ bucketWays b.2, (s.flowEntry w).2 = false))
    ∧ run.flow.scan = none
    ∧ (∀ b ∈ [0, 2 ^ 18, 2 ^ 18 + 1], ({ run with flow := { run.flow with scan := some b } } : State).flow.scan = some b)
    ∧ ((2 ^ 20 - 1 < 2 ^ 20) ∧ (63 : Nat) < 64) := by decide +kernel

/-- A class-0 queue 4095 of egress port 23 whose contract of 64-byte packets in every slot passes. -/
def contracted : State :=
  (((((slotted (queued run 0 65)).setFld F.QM_Q_CFG3_desc_log 7 4095).setFld F.QM_CT_PKT_c_unit 64 4095).setFld F.QM_CT_PKT_c_max 64 4095).setFld
    F.QM_CT_BURST_burst 64 4095).setFld F.QM_PORT_CFG_slot_ns 125 (portInst 3 23)

/-- The same with the contract committed and its bucket as given. -/
def promised (bucket : Nat) : State := ((contracted.setFlag F.QM_CT_STAT_committed true 4095).setReg R.QM_Q_BOUND 8305 4095).setPrm 4095 { bucket := bucket }

theorem witness_GuaranteedDelivery :
    contracted.ctCheck 4095 = 0 ∧ (contracted.setFld F.QM_CT_PKT_c_max 65 4095).ctCheck 4095 ≠ 0 ∧ run.ctCheck 4095 = 1
    ∧ (contracted.devState = 0 ∧ (∀ k < 48, contracted.islState k = 0) ∧ contracted.pm.commits = [] ∧ contracted.pm.devWaking = none
      ∧ contracted.pm.devAsked = false ∧ contracted.pm.waking = [] ∧ contracted.pm.wakeAsked = [])
    ∧ (let s := promised 512000
       s.sound segHead 62 ∧ s.takesStart 4095 ∧ s.qClass 4095 = 0 ∧ s.flag F.QM_CT_STAT_committed 4095 = true
        ∧ max (s.ctMax 4095) (s.ctUnit 4095) * 8000 ≤ s.bucketNow 4095 ∧ s.qFar 4095 = false
        ∧ s.qDepth 4095 + pktWords (s.ctMax 4095) ≤ s.fld F.QM_Q_CFG2_near_words 4095
        ∧ (segmentBytes (seg true true false)).length ≤ min (s.ctMax 4095) (s.qMax 4095) ∧ s.ctMax 4095 < 65)
    ∧ (promised 511999).bucketNow 4095 < max 64 ((promised 511999).ctUnit 4095) * 8000
    ∧ run.flag F.QM_CT_STAT_committed 4095 = false
    ∧ (let s := ((promised 0).setFlag F.QM_PROMISE_STATUS_susp true 4095).setFlag F.ETH_MAC_STAT_link_up true 95
       let u := { s with time := { s.time with ns := 8305 } }
       s.flag F.QM_PROMISE_STATUS_susp 4095 = true ∧ s.causes 4095 = 0 ∧ s.time.ns < (s.prmOf 4095).lastCause + (s.reg R.QM_Q_BOUND 4095).toNat
        ∧ (u.prmOf 4095).lastCause + (u.reg R.QM_Q_BOUND 4095).toNat ≤ u.time.ns) := by
  unfold State.sound State.takesStart; decide +kernel

/-- A running device with every DRAM channel ready and 2 GiB fitted to each. -/
def dramReady : State :=
  (List.range 16).foldl (fun s k => (s.setFld (F.LP_STATUS_state.win k) 2).setFld (F.LP_CFG_gib.win k) 2) run

/-- Region 31 of that memory over block 16383, in the mode given, open to class 4, initialised; counters at block 1, tree at block 1024. -/
def region (mode : Nat) : State :=
  let s := ((dramReady.setFld F.MEE_CTR_BASE_base 1).setFld F.MEE_TREE_BASE_base 1024)
  (((s.setFld F.MEE_REG_BASE_block 16383 31).setFld F.MEE_REG_LIMIT_block 16383 31).setReg R.MEE_REG_CFG
    (BitVec.ofNat 32 (2 ^ 31 + 2 ^ 30 + mode * 2 ^ 27 + 2 ^ 26)) 31).setReg R.MEE_REG_RIGHTS 0x1300 31

/-- The last line of the region. -/
def lastLine : Nat := 16384 * 2 ^ 21 - 64

theorem witness_DramLinesDecode : (23 : Nat) < 24 ∧ (1 : BitVec 24) ≠ 0 ∧ (511 : Nat) < 512 := by decide

/-- A device whose DRAM channel 15 is in the state given, in the training step given. -/
def channelIn (st step : Nat) : State :=
  let s := dramReady.setFld (F.LP_STATUS_state.win 15) st
  { s with lp := { s.lp with step := SMap.set 0 [] 15 step } }

theorem witness_DramChannelCommands :
    (∀ st ∈ [2, 5], let s := { channelIn st 0 with lp := { run.lp with rewrites := [(16 * 2 ^ 28 - 1, true)], lines := [(16 * 2 ^ 28 - 1, encodeE 0 ^^^ 1)] } }
       NSet.has s.lp.rewrites (15 * 2 ^ 28 + (2 ^ 28 - 1)) = true ∧ s.lpAnswers 15 = true ∧ (decodeE (s.lineBits 15 (2 ^ 28 - 1))).found = .corrected)
    ∧ ((channelIn 2 0).lpState 15 = 2 ∧ (channelIn 3 0).lpState 15 = 3)
    ∧ (∀ n ∈ [1, 5, 6], let s := channelIn 1 n
       s.lpState 15 = 1 ∧ SMap.get 0 s.lp.step 15 = n ∧ s.lpCfgGood 15 = true ∧ NSet.has s.lp.retried 15 = false
        ∧ NSet.has ({ s with lp := { s.lp with retried := [(15, true)] } } : State).lp.retried 15 = true)
    ∧ (let s := (queued (dramReady.setFlag F.QM_CT_STAT_committed true 4095) 0 1 true)
       s.farContract = true ∧ s.lpState 15 ≠ 6 ∧ (s.setFld (F.LP_STATUS_state.win 15) 6).lpState 15 = 6)
    ∧ (dramReady.farContract = false ∧ 2 ≤ dramReady.lpState 15 ∧ dramReady.lpAnswers 15 = true)
    ∧ (dramReady.lpState 15 = 2 ∧ dramReady.fld (F.LP_PWR_pd_idle_ns.win 15) ≠ 0) := by decide +kernel

theorem witness_DramReadsWhatWasWritten :
    (∀ mode ∈ [0, 1, 2], let s0 := region mode
      let s := s0.cachePut (s0.ctrAddr (lastLine / 4096)) 0 false
      s.regionOf lastLine = some 31 ∧ s.lineRefused 4 lastLine false = none ∧ s.lineRefused 4 lastLine true = none ∧ lastLine < 2 ^ 38
        ∧ lastLine / 4096 ∉ s.mee.badPages ∧ s.walkOf (lastLine / 4096) = none ∧ (s.mee.waiting.any fun w => decide (w.1 = lastLine / 4096)) = false
        ∧ s.regMode 31 = mode ∧ s.cached (s.ctrAddr (lastLine / 4096)) = some (0, false) ∧ blockMinor 0 (lastLine / 64 % 64) < 127
        ∧ s.flag F.MEE_REG_CFG_ecc 31 = true)
    ∧ ((region 0).meeRead ((region 0).protOf 31) lastLine).2.1 = false
    ∧ ((lastLine + 62) % 64 + [(1 : Byte)].length < 64) := by decide +kernel

theorem witness_DramAccessOutsideRegions :
    (dramReady.dramFits 64 = true ∧ dramReady.regionOf 64 = none)
    ∧ ((region 0).dramFits (2 ^ 21) = true ∧ (region 0).inCtr (2 ^ 21) = true)
    ∧ ((region 0).dramFits (1024 * 2 ^ 21) = true ∧ (region 0).inTree (1024 * 2 ^ 21) = true) := by decide +kernel

/-- The page of that line, and a device with it cached under the walk and the waiting list given. -/
def lastPage : Nat := lastLine / 4096

/-- Region 31 with its last page's counters in the cache and the walks given. -/
def walking (walks : List MeeWalk) (waiting : List (Nat × Bool)) : State :=
  let s := (region 1).cachePut ((region 1).ctrAddr lastPage) 5 false
  { s with mee := { s.mee with walks := walks, waiting := waiting } }

theorem witness_EncryptionEngineCommands_walks :
    (let s := (region 0).setFld F.MEE_REG_SEL_region 30
     s.regEn (s.fld F.MEE_REG_SEL_region) = false ∧ s.fld F.MEE_REG_SEL_region < 32)
    ∧ (let s := walking [] [(3, false), (lastPage, true)]
       let u : State := { s with mee := { s.mee with waiting := s.mee.waiting.filter fun w => decide (w.1 ≠ lastPage) } }
       (s.mee.waiting.find? (·.2)).or s.mee.waiting.head? = some (lastPage, true) ∧ s.mee.walks.length < 16 ∧ s.regionOf (lastPage * 4096) = some 31
        ∧ (u.fetchCtr lastPage (decide (s.regMode 31 = 2))).1 = some 5 ∧ blockMajor 5 ≠ 2 ^ 64 - 1)
    ∧ (let w : MeeWalk := ⟨lastPage, true, [(63, 1)]⟩
       let s := walking [w] []
       s.walkOf lastPage = some w ∧ s.regionOf (lastPage * 4096) = some 31 ∧ s.cached (s.ctrAddr lastPage) = some (5, false)
        ∧ (s.mee.writes.any fun x => decide (x.addr / 4096 = lastPage)) = false) := by decide +kernel

theorem witness_EncryptionEngineCommands_keys :
    (let s := run.setFlag F.SEC_STATUS_trng_ok true
     NSet.has s.mee.active 63 = false ∧ s.flag F.SEC_STATUS_trng_ok = true)
    ∧ (run.setFlag F.SEC_STATUS_trng_ok false).flag F.SEC_STATUS_trng_ok = false
    ∧ (let s := { run with secu := { run.secu with secrets := [(9, some 1)] } }
       SMap.get none s.secu.secrets 9 = some 1 ∧ SMap.get none s.secu.secrets 8 = none)
    ∧ (let s := { region 1 with mee := { run.mee with active := [(0, true), (63, true)] } }
       NSet.has s.mee.active 0 = true ∧ s.keyUsed 0 = true ∧ NSet.has s.mee.active 63 = true ∧ s.keyUsed 63 = false
        ∧ s.mee.walk = none ∧ s.regMode 31 ≠ 0)
    ∧ run.regMode 31 = 0
    ∧ (∀ op ∈ [1, 2, 3], ({ run with mee := { run.mee with walk := some ⟨op, 31, 63⟩ } } : State).mee.walk = some ⟨op, 31, 63⟩) := by decide +kernel

/-- Lane bundle 11 enabled: Graft mode or Ethernet mode at a rate, in a state; the lane part as given. -/
def laned (graft : Bool) (rate st : Nat) (x : LnSt := {}) : State :=
  let s := { run with stu := { run.stu with ioReleased := true } }
  (((((s.setFlag (F.LN_CTRL_en.win 11) true).setFlag (F.LN_CTRL_mode.win 11) graft).setFld (F.LN_CTRL_rate.win 11) rate).setFld
    (F.LN_CTRL_lane_en.win 11) 0x81).setFld (F.LN_STATE_state.win 11) st).setLn 11 x

/-- Graft bundle 11 in the link state given. -/
def linked (st : Nat) (g : GrSt := {}) : State := ((laned true 1 7).setFld F.GR_LINK_state st 11).setGr 11 g

theorem witness_LaneCommands :
    (run.flag (F.LN_CTRL_en.win 11) = false ∧ (laned true 1 0).flag (F.LN_CTRL_en.win 11) = true ∧ (laned true 1 0).lnGraft 11 = true
      ∧ (laned true 1 0).grState 11 ≠ 6)
    ∧ (∀ n < 7, let s := laned true 1 n
       s.flag (F.LN_CTRL_en.win 11) = true ∧ s.bundleOpen 11 = true ∧ s.lnState 11 = n ∧ s.fld (F.LN_CTRL_lb.win 11) ≠ 1 ∧ (s.lnOf 11).attempts < 2)
    ∧ ((48 : Nat) ≤ 48 ∧ 48 < 49 ∧ [1, 0, 2, 3, 4, 5, 6, 7] ≠ List.range 8 ∧ [1, 0, 2, 3, 4, 5, 6, 7] ≠ (List.range 8).reverse)
    ∧ (let s := laned false 6 1
       s.lnGraft 11 = false ∧ s.lnState 11 = 1 ∧ s.fld (F.LN_CTRL_rate.win 11) = 6 ∧ (s.lnOf 11).attempts < 2 ∧ s.bundleOpen 11 = true)
    ∧ (let s := laned false 5 1
       s.lnGraft 11 = false ∧ s.lnState 11 = 1 ∧ s.fld (F.LN_CTRL_rate.win 11) ≠ 6 ∧ s.lnLanes 11 ≠ 0)
    ∧ (∀ n ∈ [2, 6], let s := laned false 5 2 { lanes := [(0, 2), (7, n)] }
       2 ≤ s.lnState 11 ∧ s.lnState 11 < 8 ∧ bit (s.lnLanes 11) 7 = true ∧ 2 ≤ s.laneState 11 7 ∧ s.laneState 11 7 < 7)
    ∧ (∀ x ∈ [(1, 1), (2, 2), (4, 3), (5, 4), (6, 5)], ∀ a ∈ [1, 2], let s := laned true 1 x.1 { attempts := a }
       s.lnState 11 = x.1 ∧ s.bundleOpen 11 = true ∧ (s.lnOf 11).attempts = a)
    ∧ ((laned false 5 7 { lanes := [(7, 7)] }).laneState 11 7 = 7 ∧ (linked 5).lnGraft 11 = true ∧ (linked 5).grState 11 = 5)
    ∧ (let s := ((laned false 5 7).setFlag (F.LN_CTRL_test.win 11) true).setFld (F.LN_PRBS_CTRL_chk_en.win 11) 0x80
       s.flag (F.LN_CTRL_test.win 11) = true ∧ bit (s.fld (F.LN_PRBS_CTRL_chk_en.win 11)) 7 = true ∧ run.flag (F.LN_CTRL_test.win 11) = false) := by
  decide +kernel

/-- What a received capability word agrees on with bundle 11: identity and rate usable, the version, the least version, the rate. -/
def agreed (s : State) (cap : Nat) : Bool × Nat × Nat × Nat :=
  let own := s.graftCapWord 11
  let rate := min (bits own 47 45) (graftRate (bits cap 47 45))
  (decide (bits cap 63 56 ≠ 0x47 ∨ bits cap 44 41 ≠ 8 ∨ rate = 0 ∨ bits (bits own 40 37 &&& bits cap 40 37) 2 1 ≠ 3),
    min (bits own 55 52) (bits cap 55 52), max (bits own 51 48) (bits cap 51 48), rate)

theorem witness_GraftLink_states :
    ((linked 2).grState 11 = 2 ∧ (agreed (linked 2) 0).1 = true)
    ∧ (let a := agreed (linked 2) (putBits ((linked 2).graftCapWord 11) 51 48 3)
       a.1 = false ∧ a.2.1 < a.2.2.1)
    ∧ (let a := agreed (linked 2) ((linked 2).graftCapWord 11)
       a.1 = false ∧ a.2.2.1 ≤ a.2.1 ∧ a.2.2.2 ≠ ((linked 2).grOf 11).rate ∧ a.2.2.2 = ((linked 2 { rate := 6 }).grOf 11).rate)
    ∧ ((linked 4).grState 11 = 4 ∧ ((linked 4).grOf 11).waiting = [] ∧ ((linked 4).grOf 11).wasActive = false)
    ∧ ((linked 5).grState 11 = 5 ∧ (linked 5).fld F.GR_LAT_lat 11 < (linked 5).measured 11 0 0 0 1000000
      ∧ ((linked 5).setFld F.GR_LAT_lat 0xFFFFF 11).measured 11 0 0 0 0 ≤ ((linked 5).setFld F.GR_LAT_lat 0xFFFFF 11).fld F.GR_LAT_lat 11)
    ∧ (let f : GrSent := ⟨0, 0, 0, 1⟩
       ((linked 5 { replay := [f] }).grOf 11).replay = [f] ∧ f.sends < 2 ∧ ((linked 5).grOf 11).replay = []
        ∧ ((linked 5 { replay := [{ f with sends := 2 }] }).grOf 11).replay = [{ f with sends := 2 }]) := by decide +kernel

theorem witness_GraftLink_flits :
    ((linked 5).grState 11 = 5 ∧ ((linked 5).grOf 11).waiting = [] ∧ 0 = (((linked 5).grOf 11).ack + 1) % 512
      ∧ ((linked 5).grOf 11).ack < 512 ∧ ((linked 5).grOf 11).nak = false)
    ∧ (256 ≤ (((linked 5).grOf 11).ack + 512 - 255) % 512 ∧ 255 ≠ (((linked 5).grOf 11).ack + 1) % 512)
    ∧ (bits (0 : BitVec 64).toNat 63 62 < 2 ∧ 2 ≤ bits (BitVec.ofNat 64 (2 ^ 63)).toNat 63 62
      ∧ (packetOf (graftNode 11).1 ([] ++ [((0 : BitVec 512), BitVec.ofNat 64 (2 ^ 63 + 2 ^ 62 + 2 ^ 60))])).isSome = true)
    ∧ rsDecode ((slice (List.replicate 9 1 ++ List.replicate 79 0) 0 88).map BitVec.toNat) = none
    ∧ (let s := ((linked 5 { peer := some (2 ^ 17) }).setFld F.GR_LINK_ver 2 11)
       s.groveTime 11 = true ∧ (s.setFld F.GR_CTRL_time_role 1 11).timeRole 11 = 1 ∧ (s.setFld F.GR_CTRL_time_role 2 11).timeBundle = some 11)
    ∧ (let s := ((linked 5 { peer := some (2 ^ 17), lastTime := 0 }).setFld F.GR_LINK_ver 2 11).setFld F.GR_CTRL_time_role 2 11
       s.timeBundle = some 11 ∧ s.time.ns < (s.grOf 11).lastTime + 16000
        ∧ (s.grOf 11).lastTime + 16000 ≤ ({ s with time := { s.time with ns := 16000 } } : State).time.ns) := by decide +kernel

/-- Host ring 255 enabled: from the host or to it, with 16 descriptors, 15 posted; the ring's part as given. -/
def ringed (fromHost : Bool) (x : RingSt) : State :=
  ((((run.setFlag F.PCI_RING_CFG_en true 255).setFlag F.PCI_RING_CFG_dir fromHost 255).setFld F.PCI_RING_CFG_log_size 4 255).setFld
    F.PCI_RING_IDX_prod 15 255).setRing 255 x

theorem witness_HostRings :
    run.ringStopped 255 = true ∧ run.flag F.PCI_RING_CFG_en 255 = false
    ∧ (let s := ringed false {}
       s.flag F.PCI_RING_CFG_en 255 = true ∧ s.ringSize 255 = 16 ∧ (16 + 65536 - s.fld F.PCI_RING_IDX_cons 255) % 65536 ≤ s.ringSize 255
        ∧ s.ringSize 255 < (17 + 65536 - s.fld F.PCI_RING_IDX_cons 255) % 65536)
    ∧ (let p : HostPkt := ⟨0, [1, 2], 0, 0, 0, false⟩
       let s := ringed false { waiting := [p], sent := 1 }
       s.ringFrom 255 = false ∧ (s.ring 255).waiting = p :: [] ∧ s.fld F.PCI_RING_IDX_cons 255 ≠ s.fld F.PCI_RING_IDX_prod 255
        ∧ s.flag F.PCI_RING_IRQ_irq_en 255 = false)
    ∧ (let s := ringed true {}
       let x := s.ring 255
       let desc : List Byte := List.replicate 8 0 ++ leBytes 4 64 ++ List.replicate 10 0 ++ [3] ++ List.replicate 9 0
       s.ringFrom 255 = true ∧ x.fetch ≠ s.fld F.PCI_RING_IDX_prod 255 ∧ x.cur = [] ∧ x.tail = [] ∧ x.begun = false ∧ x.early = none
        ∧ bits (fieldAt desc 22 1) 1 0 = 3 ∧ fieldAt desc 8 4 = (List.replicate 64 (0 : Byte)).length)
    ∧ (let s := ringed false { irqHeld := true }
       let u := { s with pci := { s.pci with unmasked := [(0, true)] } }
       (s.ring 255).irqHeld = true ∧ s.pci.unmasked.has (s.fld F.PCI_RING_CFG_func 255 * 2048 + s.fld F.PCI_RING_IRQ_vec 255) = false
        ∧ u.pci.unmasked.has (s.fld F.PCI_RING_CFG_func 255 * 2048 + s.fld F.PCI_RING_IRQ_vec 255) = true) := by decide +kernel

theorem witness_HostAccess :
    (run.stu.hold = false ∧ run.stu.ended = false ∧ 0x1FFFFFC % 4 = 0)
    ∧ ((32 : Nat) ≠ 0 ∧ 0x8FFF + 1 ≤ 0x9000)
    ∧ (run.windowServed = true ∧ 2 ^ 36 - 1 < 2 ^ 36 ∧ (2 ^ 36 - 1) % 4096 + 1 ≤ 4096 ∧ (run.hostTag 1).isSome = true)
    ∧ ((run.setFlag F.DEV_STATUS_safe_state true).flag F.DEV_STATUS_safe_state = true ∧ run.flag F.DEV_STATUS_safe_state = false)
    ∧ (let s := run.setFld F.PCI_RING_CFG_func 32 255
       (((List.range 256).filter fun x => decide (s.fld F.PCI_RING_CFG_func x = 32))[0]? = some 255) ∧ (255 : Nat) < 256)
    ∧ ([1, 32].contains 0 = false ∧ [1, 32].contains ((32 * 2048 + 2047) / 2048) = true)
    ∧ (run.fld F.PCI_LTR_send_us = 0 ∧ run.fld F.PCI_LTR_send_us ≠ 0xFFFF) := by decide +kernel

theorem witness_TimeAndMacs :
    (run.committed = [] ∧ run.time.ns < 2 ^ 64 ∧ run.time.heldLo < 2 ^ 32 ∧ run.time.slew = 0)
    ∧ (run.setFlag F.QM_CT_STAT_committed true 4095).committed ≠ []
    ∧ ((0 : Int) < ({ run.time with slew := 1 } : TimeSt).slew ∧ ({ run.time with slew := -1 } : TimeSt).slew < 0
      ∧ 0 < ({ run.time with ns := 1 } : TimeSt).ns)
    ∧ (∀ n ∈ [1000, 1001, 10 ^ 9 - 1], let s := { run.setFld F.ETH_TIME_CTRL_src 2 with time := { run.time with ns := n } }
       s.fld F.ETH_TIME_CTRL_src = 2 ∧ (decide ((ppsOffset s.time.ns).natAbs ≤ 1000) = decide (n ≠ 1001)))
    ∧ (let s := { run.setFld F.ETH_TIME_CTRL_src 2 with time := { run.time with ns := 1100000000 } }
       s.eth.ppsLast + 1100000000 ≤ s.time.ns)
    ∧ (run.flag F.ETH_MAC_CFG_en 95 = false ∧ run.flag F.ETH_MAC_STAT_link_up 95 = false)
    ∧ ((run.setFlag F.ETH_MAC_CFG_en true 95).flag F.ETH_MAC_CFG_en 95 = true
      ∧ (run.setFlag F.ETH_MAC_STAT_link_up true 95).flag F.ETH_MAC_STAT_link_up 95 = true)
    ∧ ((run.setFlag F.ETH_PFC_en false 95).flag F.ETH_PFC_en 95 = false ∧ (run.setFlag F.ETH_PFC_en true 95).flag F.ETH_PFC_en 95 = true)
    ∧ (run.eth.stamps = [] ∧ ({ run.eth with stamps := [⟨127, 65535, 2 ^ 64 - 1⟩] } : EthSt).stamps = (⟨127, 65535, 2 ^ 64 - 1⟩ : TxStamp) :: []) := by
  decide +kernel

/-- An image header: version, part, flags, records, payload length. -/
def imgHead (version part flags records payload : Nat) : List Byte :=
  let h := leBytes 4 0x4D495A43 ++ leBytes 2 version ++ leBytes 2 64 ++ leBytes 4 part ++ leBytes 4 flags ++ leBytes 4 records ++ leBytes 4 payload
    ++ List.replicate 36 0
  h ++ leBytes 4 (crc32c h)

/-- A load from an external flash that has read the header of an image of `records` records, the record `count` being the last read:
the first attempt of a start-up, or a partial load whose region is plane 7 of sector 95. -/
def loading (partialLoad : Bool) (records count : Nat) (payload : Nat := 4096) : State :=
  let l : LoadSt := { active := true, running := partialLoad, src := 2, image := imgHead 0x302 0x9608 (if partialLoad then 2 else 0) records payload
                      count := count, region := some [(95, 128)] }
  { run with stu := { run.stu with load := l } }

/-- A frame of zeros as a record carries it. -/
def zeroFrame : List Byte := List.replicate 256 0

/-- Bodies of the seven frame records, each with its type, that write one frame of zeros. -/
def frameBodies : List (Nat × List Byte) :=
  [(1, leBytes 4 0 ++ zeroFrame), (2, leBytes 4 0 ++ leBytes 4 1 ++ zeroFrame), (3, leBytes 4 1 ++ leBytes 4 1 ++ leBytes 4 0 ++ zeroFrame),
    (4, leBytes 4 0 ++ leBytes 4 1 ++ leBytes 4 7), (5, leBytes 4 (2 ^ 23) ++ leBytes 4 1 ++ zeroFrame),
    (6, leBytes 4 (2 ^ 24) ++ leBytes 4 1 ++ zeroFrame), (7, leBytes 4 (3 * 2 ^ 23) ++ leBytes 4 1 ++ zeroFrame)]

theorem witness_ImageRecords_header :
    run.stu.load.active = false
    ∧ (let s := { run with stu := { run.stu with load := { active := true, src := 0 } } }
       s.stu.load.active = true ∧ s.stu.load.src = 0 ∧ (List.replicate 4 (0 : Byte)).length % 4 = 0)
    ∧ (let s := { run with stu := { run.stu with load := { active := true, src := 2 } } }
       s.stu.load.active = true ∧ s.stu.load.image = [] ∧ s.stu.load.src = 2 ∧ s.stu.load.avail = none)
    ∧ (∀ v ∈ [(0x1FF, 0x9608), (0x200, 0x9608), (0x302, 0x9608), (0x303, 0x9608), (0x302, 0)], let b := imgHead v.1 v.2 0 1 12
       b.length = 64 ∧ fieldAt b 0 4 = 0x4D495A43 ∧ fieldAt b 6 2 = 64 ∧ fieldAt b 60 4 = crc32c (b.take 60) ∧ fieldAt b 12 4 < 4 ∧ fieldAt b 30 2 = 0
        ∧ fieldAt b 44 16 = 0 ∧ fieldAt b 20 4 % 4 = 0 ∧ fieldAt b 5 1 * 256 + fieldAt b 4 1 = v.1 ∧ fieldAt b 8 4 = v.2
        ∧ bit (fieldAt b 12 4) 0 = false ∧ bit (fieldAt b 12 4) 1 = false)
    ∧ fieldAt (List.replicate 64 (0 : Byte)) 0 4 ≠ 0x4D495A43 := by decide +kernel

theorem witness_ImageRecords_frames :
    (∀ x ∈ frameBodies, let s := loading false 2 0
      let r := s.recordAt x.1 0 x.2
      s.readsRecord x.1 0 x.2 ∧ r.runs.isSome = true ∧ r.content.isSome = true ∧ s.stu.load.running = false)
    ∧ (let good := recordBytes 4 0 (leBytes 4 0 ++ leBytes 4 1 ++ leBytes 4 7)
       let b := good.take (good.length - 4) ++ (good.drop (good.length - 4)).map (· ^^^ 1)
       b.length = good.length ∧ b.take (b.length - 4) = good.take (good.length - 4) ∧ b ≠ good)
    ∧ ((loading false 2 0).readsRecord 1 0 (leBytes 4 (2 ^ 27) ++ zeroFrame)
      ∧ ((loading false 2 0).recordAt 1 0 (leBytes 4 (2 ^ 27) ++ zeroFrame)).runs = none)
    ∧ ((loading false 2 0).readsRecord 1 1 (leBytes 4 0) ∧ ((loading false 2 0).recordAt 1 1 (leBytes 4 0)).runs.isSome = true
      ∧ ((loading false 2 0).recordAt 1 1 (leBytes 4 0)).content = none)
    ∧ (let s := loading true 3 1
       let r := s.recordAt 1 0 (leBytes 4 0 ++ zeroFrame)
       s.readsRecord 1 0 (leBytes 4 0 ++ zeroFrame) ∧ s.stu.load.running = true
        ∧ (r.runs.bind fun l => l.find? (fun a => !s.inRegion a)).isSome = true) := by
  unfold State.readsRecord; decide +kernel

theorem witness_ImageRecords_others :
    (∀ n ∈ [11, 12], let b := leBytes 2 5 ++ leBytes 2 0 ++ List.replicate n 0
      let s := loading false 2 0
      let r := s.recordAt 8 0 b
      s.readsRecord 8 0 b ∧ s.stu.load.running = false ∧ kindInVersion s.imgVersion r.table.kind = true
        ∧ tableOk r.table.kind r.table.scope r.table.data = decide (n = 12) ∧ r.table.kind ≠ 3)
    ∧ (∀ a ∈ [2, 4, 0x10000000, 0xFFFFFFC], let b := leBytes 4 a ++ leBytes 4 1
      let s := loading false 2 0
      s.readsRecord 9 0 b ∧ s.stu.load.running = false
        ∧ (((s.recordAt 9 0 b).pairs.all fun e => decide (e.1 % 4 = 0 ∧ e.1 < 0x10000000)) = decide (a = 4 ∨ a = 0xFFFFFFC))) := by
  unfold State.readsRecord; decide +kernel

theorem witness_ImageRecords_more :
    (let s := loading false 2 0
     let b := leBytes 4 0 ++ leBytes 4 1 ++ leBytes 4 9
     s.readsRecord 10 0 b ∧ ((s.recordAt 10 0 b).runs.map List.length) = some 1)
    ∧ (let s := loading true 2 0
       let b := leBytes 4 1 ++ leBytes 4 (95 + 128 * 256)
       let r := s.recordAt 11 0 b
       s.readsRecord 11 0 b ∧ s.stu.load.running = true ∧ s.stu.load.held + r.size ≤ 0x400000
        ∧ (∀ e ∈ (List.range (r.word 0)).map fun i => r.word (1 + i), e < 2 ^ 16 ∧ bit e 7 = false ∧ bits e 6 0 < 96 ∧ s.livePlane (bits e 6 0) = 8)
        ∧ (((List.range (r.word 0)).map fun i => r.word (1 + i)).map fun e => bits e 6 0).Nodup)
    ∧ (let s := loading false 2 0
       s.readsRecord 12 0 [1, 2] ∧ s.stu.load.running = false ∧ s.training = false ∧ (s.setFld (F.LP_STATUS_state.win 15) 1).training = true) := by
  unfold State.readsRecord; decide +kernel

theorem witness_ImageAcceptance :
    (let s := loading false 1 0 12
     let auth : List Byte := List.replicate 224 0
     let v := s.afterRecord (recordBytes 13 0 [])
     s.readsRecord 13 0 [] ∧ auth.length = 224
      ∧ ({ v with stu := { v.stu with load := { v.stu.load with image := v.stu.load.image ++ auth } } } : State).authOk auth = false)
    ∧ ((loading true 1 0).stu.load.running = true ∧ (loading true 1 0).stu.stream = [] ∧ Flt.IMG_AUTH.code < 65536)
    ∧ (∀ n ∈ [0, 1, 2], let s := (loading false 1 0).setFld F.CFG_STATUS_attempt n
       s.stu.load.running = false ∧ s.fld F.CFG_STATUS_attempt = n ∧ s.stGoldenSrc = 0xFF)
    ∧ (let s := { loading false 1 0 with stu := { run.stu with settings := some (List.replicate 4096 0) } }
       s.stGoldenSrc ≠ 0xFF) := by
  unfold State.readsRecord; decide +kernel

/-- A running device in a start-up stage. -/
def staged (n : Nat) : State := run.setFld F.CFG_STATUS_stage n

theorem witness_StartupCommands_stages :
    (run.stu.hold = false ∧ ({ run.stu with hold := true } : StuSt).hold = true ∧ run.th.shutdown = false ∧ run.stu.ended = false)
    ∧ (∀ n ∈ [0, 1, 2], (staged n).fld F.CFG_STATUS_stage = n)
    ∧ (run.factoryOk = true ∧ ({ run with stu := { run.stu with factory := some [] } } : State).factoryOk = false)
    ∧ (run.secu.lc ≠ 4 ∧ ({ run.secu with lc := 4 } : SecSt).lc = 4)
    ∧ settingsValid none = false
    ∧ (let s := (staged 4).setFld (F.LP_STATUS_state.win 15) 1
       s.fld F.CFG_STATUS_stage = 4 ∧ s.stu.fills = [] ∧ s.training = true)
    ∧ (staged 5).fld F.CFG_STATUS_stage = 5
    ∧ ((staged 5).stu.seq = [] ∧ (staged 5).allLocked false = false)
    ∧ (let s := ((List.range 48).foldl (fun t k => t.setFlag F.CLK_ISL_STAT_locked true k) (staged 5)).setFld F.CLK_STATUS_loop_locked 4095
       s.allLocked true = true)
    ∧ (let s := { staged 5 with stu := { (staged 5).stu with seq := [(3, 0)], programs := [(12287, true)] } }
       s.stu.seq = (3, 0) :: [] ∧ NSet.has s.stu.programs 12287 = true ∧ NSet.has s.stu.programs 0 = false ∧ 0 ∉ NSet.members s.stu.programs) := by
  decide +kernel

theorem witness_StartupCommands_loads :
    ((loading false 1 0).stu.load.active = true ∧ (loading false 1 0).stu.load.running = false
      ∧ ({ (loading false 1 0).stu.load with first := some 0 } : LoadSt).first.isSome = true)
    ∧ (run.flag F.DEV_STATUS_done = false ∧ run.flag F.CFG_LOAD_STAT_busy = false ∧ run.stu.load.active = false
      ∧ (run.setFlag F.DEV_STATUS_done true).flag F.DEV_STATUS_done = true ∧ run.flag F.DEV_STATUS_safe_state = false)
    ∧ (let s := { staged 6 with stu := { (staged 6).stu with chain := { body := [1, 2] } } }
       s.chainReady = true ∧ s.stu.chain.sentAt = none ∧ s.stu.chain.done < s.stu.chain.bytes.length ∧ s.stu.chain.done = 0)
    ∧ (run.chainReady = false ∧ ({ body := [1], sentAt := some 5 } : ChainSt).sentAt ≠ none ∧ ({ body := [1], sentAt := some 5 } : ChainSt).resent = false
      ∧ ({ body := [1], sentAt := some 5, resent := true } : ChainSt).resent = true) := by decide +kernel

theorem witness_NetworkTravel :
    (segHead.badHead = none ∧ segHead.badFlit = none ∧ segHead.vc ≠ 0)
    ∧ ({ segHead with badHead := some segHead.entry } : NocHead).badHead = some segHead.entry
    ∧ (headZero.badHead = none ∧ headZero.vc = 0 ∧ (run.setReg R.NOC_LINK_CFG 0 63).linkCfg 63 0 = 0) := by decide +kernel

/-- A read or write from endpoint 0 of node 0 to a CSR register, and the response head back to port 1 of node 59. -/
def rqHead : NocHead := { headZero with vc := 1 }
def rspHead : NocHead := { headZero with srcNode := 57, dstNode := 59, dstPort := 1, vc := 1, tag := 7 }

/-- Port 1 of node 59 has a request outstanding under tag 7, issued at reset. -/
def requesting : State :=
  { run with noc := { run.noc with reqs := [(reqKey 59 1 7, some { kind := 0, space := 2, born := 0, arrived := true })] } }

/-- Packets held at a router. -/
def holding (l : List NocHeld) : State := { requesting with noc := { requesting.noc with held := l } }

theorem witness_NetworkRequestsAndResponses_requests :
    (rqHead.srcDev = run.fld F.NOC_GROVE_devnum ∧ rqHead.dstDev = run.fld F.NOC_GROVE_devnum ∧ rqHead.badHead = none ∧ rqHead.badFlit = none
      ∧ rqHead.vc ≠ 0 ∧ rqHead.poison = false ∧ run.fld F.PM_STATUS_dev_state = 0 ∧ rqHead.srcNode ≠ 57)
    ∧ (targetOf 0x4800000000 = .csr 0 ∧ targetOf 0x480FFFFFFC = .csr 0xFFFFFFC ∧ 0xFFFFFFC % 4 = 0 ∧ targetOf 0x4810000000 = .nowhere
      ∧ targetOf (2 ^ 48 - 1) = .nowhere)
    ∧ ((run.issued rqHead.srcNode rqHead.srcPort rqHead.tag 0 2).isSome = true ∧ (run.issued rqHead.srcNode rqHead.srcPort rqHead.tag 1 1).isSome = true
      ∧ (leBytes 4 5).length = 4 ∧ (run.issued rqHead.srcNode rqHead.srcPort rqHead.tag 0 (1 + (4096 + 63) / 64)).isSome = true)
    ∧ (∀ n ∈ [1, 64], (dramReady.routeOf 0 n = .dram 0 ∧ (dramReady.issued rqHead.srcNode rqHead.srcPort rqHead.tag 0 (1 + (n + 63) / 64)).isSome = true)
      ∧ dramReady.routeOf lastLine n = .dram lastLine)
    ∧ dramReady.fld F.PM_STATUS_dev_state = 0 := by decide +kernel

theorem witness_NetworkRequestsAndResponses_responses :
    (rspHead.dstDev = requesting.fld F.NOC_GROVE_devnum ∧ rspHead.badHead = none ∧ rspHead.badFlit = none ∧ rspHead.vc ≠ 0
      ∧ requesting.asleep rspHead.dstNode = false ∧ 48 ≤ rspHead.dstNode ∧ rspHead.dstNode ≠ 57)
    ∧ (SMap.get none requesting.noc.reqs (reqKey 59 1 7) ≠ none ∧ SMap.get none run.noc.reqs (reqKey 59 1 7) = none)
    ∧ (∀ us ∈ [0, 1], let s := { (requesting.setFld F.NOC_CTRL_resp_timeout_us us) with time := { run.time with ns := 1000 } }
       let r : NocReq := { kind := 0, space := 2, born := 0, arrived := true }
       SMap.get none s.noc.reqs (reqKey 59 1 7) = some r ∧ r.born + max 1 (s.fld F.NOC_CTRL_resp_timeout_us) * 1000 ≤ s.time.ns)
    ∧ (requesting.asleep 63 = false ∧ (requesting.noc.held.filter fun w => decide (w.router = 59)) = [])
    ∧ (let w : NocHeld := { router := 59, since := 0, exit := 0, pkt := ⟨rspHead, .resp 3 0 []⟩ }
       let s := holding [w]
       s.asleep 59 = false ∧ (s.noc.held.filter fun w => decide (w.router = 59)) = [w] ∧ w.pkt.head.dstNode = 59 ∧ w.pkt.head.dstPort < 2
        ∧ w.pkt.op = .resp 3 0 [] ∧ s.time.ns ≤ w.since + w.exit + 1000
        ∧ SMap.get none s.noc.reqs (reqKey 59 w.pkt.head.dstPort w.pkt.head.tag) ≠ none) := by decide +kernel

/-- Scanners on under a policy; sector 95's plane 0 loaded and live, its first live frame as given. -/
def scanning (policy v : Nat) : State :=
  let s := (ctxSet (run.setSec 95 { live := true }) 95 [(F.CTX_PLANE_INFO_loaded.nth 0, 1)]).setReg R.CI_CTRL 1
  (s.setReg (R.CI_POLICY + 20) (BitVec.ofNat 32 (policy * 2 ^ 30))).setLive 95 (if v = 0 then [] else [(0, BitVec.ofNat 2048 v)])

/-- Sector 95's scanner in a state, with what is given beside its registers. -/
def scanIn (st : Nat) (x : CiSec := {}) (policy v : Nat := 0) : State :=
  let s := (scanning policy v).setFld F.CI_SEC_STAT_state st 95
  { s with ci := { s.ci with secs := SMap.set {} [] 95 x } }

set_option maxRecDepth 100000 in
theorem witness_ScanCommands_latches :
    (run.setReg R.CI_CTRL 0).ciScans 95 = false
    ∧ (∀ policy ∈ [0, 1, 2, 3], ∀ v ∈ [0, 4], let s := scanning policy v
       s.ciScans 95 = true ∧ s.livePlane 95 = 0 ∧ s.sigBadAt 95 0 0 = false ∧ s.ciPolicy 95 = policy
        ∧ SMap.get 0 (s.ciSec 95).reported (0 * 6144 + 0) = 0
        ∧ decide (frameSig (frameMask (s.plane 95 0) 0) ((frame (s.liveOf 95) 0).toNat ^^^ 0) = s.scanSig 95 0 0) = decide (v = 0)) := by
  decide +kernel

set_option maxRecDepth 100000 in
theorem witness_ScanCommands_planes :
    (∀ f ∈ [0, 6143], let s := scanning 0 0
       s.ciScans 95 = true ∧ s.planeLoaded 95 0 = true ∧ s.sigBadAt 95 0 f = false
        ∧ frameSig (frameMask (s.plane 95 0) f) (frame (s.plane 95 0) f).toNat = s.scanSig 95 0 f)
    ∧ (2303 < 2304 ∧ 2302 < 2304 ∧ 2303 ≠ 2302 ∧ 2303 / 72 = 2302 / 72)
    ∧ (∀ policy ∈ [0, 2], let s := scanIn 0 { repair := some (true, 0, 6143) } policy
       (s.ciSec 95).repair = some (true, 0, 6143) ∧ s.livePlane 95 = 0 ∧ bit (s.fld F.CI_SEC_STAT_plane_bad 95) 0 = false
        ∧ frameSig (frameMask (s.plane 95 0) 6143) (frame (s.plane 95 0) 6143).toNat = s.scanSig 95 0 6143
        ∧ SMap.get 0 (s.ciSec 95).repaired (0 * 6144 + 6143) = 0 ∧ s.ciPolicy 95 = policy)
    ∧ (let s := scanIn 0 { lap := 3, repair := some (true, 0, 6143), repaired := [(6143, 2 * 4 + 2)] }
       let old := SMap.get 0 (s.ciSec 95).repaired (0 * 6144 + 6143)
       (s.ciSec 95).repair = some (true, 0, 6143) ∧ old % 4 = 2 ∧ old / 4 + 1 = (s.ciSec 95).lap)
    ∧ bit (((scanIn 0 { repair := some (true, 0, 6143) }).setFld F.CI_SEC_STAT_plane_bad 1 95).fld F.CI_SEC_STAT_plane_bad 95) 0 = true := by
  decide +kernel

theorem witness_ScanCommands_laps :
    (∀ st ∈ [0, 4], let s := scanIn st { reload := some 0 }
       (s.ciSec 95).reload = some 0 ∧ s.livePlane 95 = 0 ∧ s.ciState 95 = st)
    ∧ ((scanIn 0).ciScans 95 = true
      ∧ (let s := (List.range 95).foldl (fun t j => t.setFld F.CI_SEC_STAT_state 2 j) (scanIn 4)
         s.ciScans 95 = true ∧ ∀ j < 96, j ≠ 95 → s.ciScans j = false))
    ∧ (((scanIn 0).ciSec 95).stalled = none ∧ (let s := scanIn 0 { stalled := some 0, lap := 16 }
        s.ciScans 95 = true ∧ (s.ciSec 95).stalled = some 0 ∧ (s.ciSec 95).lap ≤ 0 + 16))
    ∧ (run.mgt.warm = false ∧ (scanIn 3).ciState 95 = 3 ∧ (scanIn 5).ciState 95 = 5)
    ∧ (∀ b ∈ [true, false], let s := scanIn 2 { listBad := b }
       s.mgt.warm = false ∧ s.ciState 95 = 2 ∧ s.ci.commit = none ∧ (s.ciSec 95).listBad = b)
    ∧ (let s := { scanIn 2 { listBad := true } with ci := { (scanIn 2 { listBad := true }).ci with sigBad := [((95 * 8 + 0) * 6144 + 6143, true)] } }
       s.ciState 95 = 2 ∧ s.ci.commit = none ∧ (s.ciSec 95).listBad = true ∧ s.planeLoaded 95 0 = true ∧ s.sigBadAt 95 0 6143 = true)
    ∧ (SMap.get 0 run.firsts (firstKey Flt.CI_VOTE_CORR 0) ≠ run.ms + 1
      ∧ (let s := { run with firsts := [(firstKey Flt.CI_VOTE_CORR 0, 1)] }
         SMap.get 0 s.firsts (firstKey Flt.CI_VOTE_CORR 0) = s.ms + 1)) := by
  decide +kernel

/-- Island 47 with a transition in progress. -/
def moving (m : ClkMove) : State := { run with clk := { run.clk with moves := [(47, some m)] } }

theorem witness_ClockCommands_trim :
    run.fld F.CLK_TRIM_src = 0
    ∧ (∀ n ∈ [0, 1, 2], let s := run.setFld F.CLK_TRIM_src 1
       ({ s with clk := { s.clk with trimMiss := n } } : State).fld F.CLK_TRIM_src ≠ 0 ∧ ({ s with clk := { s.clk with trimMiss := n } } : State).clk.trimMiss = n)
    := by decide +kernel

theorem witness_ClockCommands_points :
    run.bistOn 47 = false
    ∧ (moving { goal := 7, former := 0, up := true, switched := false, start := 0 }).clkMove 47 ≠ none
    ∧ (run.clkMove 47 = none ∧ run.fld F.CLK_ISL_STAT_op 47 < 8 ∧ 0 ≠ run.fld F.CLK_ISL_STAT_op 47 ∧ run.fld F.CLK_ISL_STAT_phase 47 ≠ 4
      ∧ run.bistOn 47 = false)
    ∧ (∀ sw ∈ [true, false], let m : ClkMove := { goal := 7, former := 0, up := true, switched := sw, start := 0 }
       let s := moving m
       s.clkMove 47 = some m ∧ m.goal < 8 ∧ m.former < 8 ∧ m.switched = sw ∧ s.commitPends clkBase 0 = false ∧ NSet.has s.clk.waiting 47 = false
        ∧ s.fld F.CLK_ISL_STAT_phase 47 ≠ 4)
    ∧ run.clkMove 0 = none := by decide +kernel

theorem witness_ClockCommands_references :
    (run.setFld F.CLK_ISL_STAT_phase 4 47).fld F.CLK_ISL_STAT_phase 47 = 4
    ∧ (∀ r ∈ [0, 1], NSet.has run.clk.lost r = false ∧ NSet.has ({ run.clk with lost := [(r, true)] } : ClkSt).lost r = true)
    ∧ (∃ n < 12, run.loopRef n = 0) ∧ (∃ n < 12, run.loopRef n ≠ 1)
    ∧ (∀ b ∈ [true, false], let s := run.setFlag F.CLK_STATUS_trimmed b
       (if s.flag F.CLK_STATUS_trimmed then 10000 else 80000) < 80001
        ∧ (let c := 61; (if 2 ≤ c then 5000 else if s.flag F.CLK_STATUS_trimmed then 10000 else 80000) < 5001)
        ∧ 10000 ≤ (if s.flag F.CLK_STATUS_trimmed then 10000 else 80000)) := by decide +kernel

/-- The device in a state, island 47 in a state. -/
def sleeping (dev isl : Nat) (p : PmSt := {}) : State :=
  { (run.setFld F.PM_STATUS_dev_state dev).setFld F.PM_ISL_STAT_state isl 47 with pm := p }

theorem witness_PowerCommands_wakes :
    (run.devState = 0 ∧ run.islState 47 = 0)
    ∧ (∀ st ∈ [1, 2, 3], ∀ e ∈ [true, false], let s := sleeping 0 st { entering := NSet.put [] 47 e }
       s.devState = 0 ∧ s.islState 47 ≠ 0 ∧ SMap.get none s.pm.waking 47 = none ∧ NSet.has s.pm.entering 47 = e)
    ∧ (SMap.get none run.pm.waking 47 = none ∧ SMap.get none (sleeping 0 3 { waking := [(47, some 0)] }).pm.waking 47 = some 0)
    ∧ (∀ st ∈ [1, 2, 3], ∀ e ∈ [true, false], let s := sleeping st 3 { devEntering := e }
       s.devState ≠ 0 ∧ s.pm.devWaking = none ∧ s.pm.devEntering = e)
    ∧ (run.pm.devWaking = none ∧ (sleeping 3 3 { devWaking := some 0 }).pm.devWaking = some 0)
    ∧ (∀ a ∈ [true, false], let s := sleeping 3 0 { devEntering := true, devAsked := a }
       s.pm.devEntering = true ∧ s.pm.devAsked = a ∧ s.devState ≠ 0 ∧ s.pm.devWaking = none)
    ∧ (∀ a ∈ [true, false], let s := sleeping 0 3 { entering := [(47, true)], wakeAsked := NSet.put [] 47 a }
       NSet.has s.pm.entering 47 = true ∧ s.devState = 0 ∧ s.islState 47 ≠ 0 ∧ SMap.get none s.pm.waking 47 = none) := by decide +kernel

theorem witness_PowerCommands_governor :
    (run.commitPends pmBase 0 = false ∧ run.devState = 0 ∧ (∀ j < 48, run.islState j = 0) ∧ run.fld F.PM_CTRL_dev_max = 0)
    ∧ (run.eligible [] 47 = false ∧ SMap.get 0 run.pm.since 47 = 0 ∧ 0 < run.fld F.PM_CTRL_idle_us)
    ∧ (∀ ns ∈ [9998, 9999, 10000, 20000], let s := { run with pm := { run.pm with since := [(47, 1)] }, time := { run.time with ns := ns } }
       let old := SMap.get 0 s.pm.since 47
       s.eligible [47, 95] 47 = true ∧ old ≠ 0 ∧ SMap.get none s.pm.waking 47 = none ∧ NSet.has s.pm.entering 47 = false ∧ s.fld F.PM_CTRL_dev_max = 0
        ∧ (s.time.ns + 1 < old + s.fld F.PM_CTRL_idle_us * 1000 ∨ old + s.fld F.PM_CTRL_idle_us * 1000 ≤ s.time.ns + 1))
    ∧ (∀ st ∈ [0, 1, 2, 3], run.islAllowed 47 st = true)
    ∧ ((run.setReg R.PM_GUAR_ISL_HI 0x8000).islAllowed 47 3 = true ∧ (run.setReg R.PM_GUAR_ISL_HI 0x8000).islGuaranteed 47 = true)
    ∧ (run.flag F.PCI_STATUS_up = false ∧ (run.setFlag F.PCI_STATUS_up true).flag F.PCI_STATUS_up = true)
    ∧ (let s := sleeping 1 0
       s.devState ≠ 0 ∧ s.pm.devWaking = none ∧ s.pm.devEntering = false) := by decide +kernel

/-- Readings of a sample: sensors 47, 95, 119 and 143, which island 47 has, at one value. -/
def readingsAt (r : Int) : List (Option Int) := (List.range 176).map fun n => if n ∈ islandSensors 47 then some r else if n = 0 then none else some 0

theorem witness_ThermalSample :
    (run.setFlag F.TH_SENSOR_failed true 175).flag F.TH_SENSOR_failed 175 = true
    ∧ (∀ n < 176, run.flag F.TH_SENSOR_failed n = false)
    ∧ (∀ r ∈ [-240, 600, 460], (readingsAt r)[47]? = some (some r) ∧ -240 ≤ r ∧ r ≤ 600)
    ∧ ((readingsAt 0).getD 0 none = none ∧ (readingsAt 601)[143]? = some (some 601) ∧ (600 : Int) < 601 ∧ (readingsAt (-241))[143]? = some (some (-241)))
    ∧ (∀ x ∈ [-240, 459, 460, 600], let s := { (run.setFld F.TH_RISE_limit 0) with th := { run.th with hot := [(47, true)] } }
       s.commitPends thBase 0 = false ∧ s.commitPends thBase 1 = false ∧ s.suspect 47 = false ∧ SMap.get 0 s.th.disSince 47 = 0
        ∧ (∀ n ∈ islandSensors 47, s.flag F.TH_SENSOR_failed n = false) ∧ (readingsAt x)[47]? = some (some x) ∧ (readingsAt x)[48 + 47]? = some (some x)
        ∧ (readingsAt x)[96 + 47 / 2]? = some (some x) ∧ (readingsAt x)[120 + 47 / 2]? = some (some x) ∧ s.fld F.TH_RISE_limit = 0
        ∧ NSet.has s.th.warned 47 = false ∧ NSet.has s.th.hot 47 = true)
    ∧ run.warnAt ≤ 460 := by decide +kernel

/-- A fault of a severity. -/
def faultOf (sev : Nat) : FaultEntry := { code := 0x1234, sev := sev, src := 1, loc := [65535, 0, 7] }

theorem witness_FaultCollector_queue :
    ([[faultOf 4], [faultOf 0, faultOf 1]][1]? = some [faultOf 0, faultOf 1] ∧ ∀ g ∈ [[faultOf 4], [faultOf 0, faultOf 1]], g ≠ [])
    ∧ (({ raised := [[faultOf 4]] } : FltSt).lostDue = false ∧ run.flt.queue = [] ∧ run.flt.lostDue = false)
    ∧ (∀ sev ∈ [0, 2, 3, 4], ∀ en ∈ [true, false], ∀ un ∈ [true, false],
       let s := { (run.setFlag F.FLT_CTRL_irq_en en) with flt := { run.flt with queue := [faultOf sev, faultOf 0] }
                                                          pci := { run.pci with unmasked := NSet.put [] (run.fld F.FLT_CTRL_vec) un } }
       s.flt.queue = faultOf sev :: [faultOf 0] ∧ s.flt.lostDue = false ∧ (faultOf sev).sev < 5 ∧ s.flag F.FLT_CTRL_irq_en = en ∧ s.pci.unmasked.has (s.fld F.FLT_CTRL_vec) = un
        ∧ (if sev < 2 then sev < s.fld F.FLT_CTRL_msi_sev else s.fld F.FLT_CTRL_msi_sev ≤ sev)) := by decide +kernel

theorem witness_FaultCollector_logs :
    (let r : RecEntry := ⟨0, 0, faultOf 4⟩
       ∀ dead ∈ [true, false], ∀ w ∈ [true, false], ∀ n ∈ [0, 63, 64],
        let s := { (run.setFlag F.MB_STATUS_dead dead) with flt := { run.flt with toFlash := [r], flashLog := List.replicate n r }
                                                            mgt := { run.mgt with warm := w } }
        s.flt.toFlash = r :: [] ∧ s.mgt.warm = w ∧ s.flag F.MB_STATUS_dead = dead ∧ s.flt.flashLog.length ≤ 64)
    ∧ (∀ h ∈ [true, false], let r : RecEntry := ⟨0, 0, faultOf 4⟩
       let s := { (run.setHeld 47 h) with flt := { run.flt with ports := [(95, [r])] } }
       SMap.get [] s.flt.ports 95 = r :: [] ∧ s.held (islandOf 95) = h)
    ∧ (∀ x ∈ (faultOf 0).loc, x < 65536) := by decide +kernel

/-- A device whose first 32 banks are general banks, with the voltage of operating point 4 or 0 in force at island 47. -/
def scratched (op : Nat) (s : State := run) : State :=
  (List.range 32).foldl (fun t i => t.setFld (F.MEM_BANK_CFG_owner_class.nth i) 3 0) (s.setFld F.CLK_ISL_STAT_op op 47)

/-- The value of a BT_CTRL write: kind and index. -/
def btValue (kind index : Nat) : Nat := kind * 256 + index

theorem witness_SelfTestCommands_refused :
    (run.setFlag F.BT_STATUS_busy true).flag F.BT_STATUS_busy = true
    ∧ (∀ x ∈ [(0, 96), (1, 64), (2, 4), (3, 1), (4, 1), (5, 0), (7, 127)], let kind := bits (btValue x.1 x.2) 10 8
       let index := bits (btValue x.1 x.2) 6 0
       kind = 0 ∧ 96 ≤ index ∨ kind = 1 ∧ 64 ≤ index ∨ kind = 2 ∧ 4 ≤ index ∨ (kind = 3 ∨ kind = 4) ∧ 1 ≤ index ∨ 5 ≤ kind)
    ∧ run.flag F.BT_STATUS_busy = false
    ∧ (bits (btValue 0 95) 10 8 = 0 ∧ bits (btValue 0 95) 6 0 = 95 ∧ (run.setHeld 47 true).held (islandOf 95) = true)
    ∧ (let s := run.setEngine 12287 { halted := false }
       128 * 95 ≤ 12287 ∧ 12287 < 128 * 95 + 128 ∧ (s.engine 12287).halted = false) := by decide +kernel

theorem halted_of_run (op e : Nat) : ((scratched op).engine e).halted = true := by
  show (SMap.get ({} : Engine) (scratched op).eng e).halted = true
  have h : (scratched op).eng = [] := by
    unfold scratched
    have g : ∀ (l : List Nat) (t : State), t.eng = [] →
        (l.foldl (fun t i => t.setFld (F.MEM_BANK_CFG_owner_class.nth i) 3 0) t).eng = [] := by
      intro l; induction l with
      | nil => intro t h; exact h
      | cons a l ih => intro t h; exact ih _ h
    exact g _ _ rfl
  rw [h]; rfl

theorem witness_SelfTestCommands_engines :
    (∀ op ∈ [0, 3, 5], let s := scratched op
      s.flag F.BT_STATUS_busy = false ∧ s.held (islandOf 95) = false ∧ s.fld F.CLK_ISL_STAT_op (islandOf 95) = op
        ∧ ((op < 3 ∨ 5 < op ∨ s.opVid op < 140 ∨ 170 < s.opVid op) ∨ 3 ≤ op ∧ op ≤ 5 ∧ 140 ≤ s.opVid op ∧ s.opVid op ≤ 170))
    ∧ (let s := scratched 4
       3 ≤ 4 ∧ 140 ≤ s.opVid 4 ∧ s.opVid 4 ≤ 170 ∧ s.fld F.BT_SCRATCH_bank % 32 = 0 ∧ s.fld F.BT_SCRATCH_column < 48
        ∧ (∀ i < 32, s.ownerClass (s.scratchBank + i) = 3) ∧ s.scratchBank + 32 ≤ 393215 / 8192)
    ∧ ((run.setFld F.CLK_ISL_STAT_op 4 47).ownerClass ((run.setFld F.CLK_ISL_STAT_op 4 47).scratchBank + 31) ≠ 3
      ∧ ((scratched 4).setFld F.BT_SCRATCH_bank 1).fld F.BT_SCRATCH_bank % 32 ≠ 0
      ∧ 48 ≤ ((scratched 4).setFld F.BT_SCRATCH_column 48).fld F.BT_SCRATCH_column) := by decide +kernel

theorem witness_SelfTestCommands_others :
    (∀ x ∈ [(1, 63), (2, 3), (3, 0), (4, 0)], let kind := bits (btValue x.1 x.2) 10 8
      let index := bits (btValue x.1 x.2) 6 0
      let s := scratched 7 (staged 8)
      1 ≤ kind ∧ kind ≤ 4 ∧ index < (if kind = 1 then 64 else if kind = 2 then 4 else 1) ∧ run.testMode = false ∧ s.testMode = true
        ∧ s.flag F.BT_STATUS_busy = false ∧ s.fld F.BT_SCRATCH_bank % 32 = 0 ∧ s.fld F.BT_SCRATCH_column < 48
        ∧ (∀ i < 32, s.ownerClass (s.scratchBank + i) = 3))
    ∧ (run.secu.run = none ∧ (∀ k ∈ [0, 4], let s := { run with secu := { run.secu with run := some (k, 0) } }
        s.secu.run = some (k, 0) ∧ s.secu.run ≠ none ∧ s.secu.wipe = none ∧ (2 : Nat) ^ 64 - 1 < 2 ^ 64 ∧ s.held (islandOf 0) = false))
    ∧ (let s := { run with secu := { run.secu with run := some (3, 0), wipe := some ⟨2, [.bist]⟩ } }
       s.secu.wipe ≠ none)
    ∧ (∀ x ∈ [(0, 0), (0, 11), (1, 11), (2, 0), (4, 31)], run.flag F.BT_STATUS_busy = false ∧ run.anaAllowed (bits (btValue x.1 x.2) 10 8) (bits (btValue x.1 x.2) 4 0) = true)
    ∧ (∀ x ∈ [(0, 12), (1, 12), (1, 16), (5, 0)], run.anaAllowed (bits (btValue x.1 x.2) 10 8) (bits (btValue x.1 x.2) 4 0) = false)
    ∧ (staged 8).anaAllowed 1 27 = true
    ∧ (run.secu.ana = none ∧ ({ run.secu with ana := some (2, 0) } : SecSt).ana = some (2, 0))
    ∧ ((255 : Nat) < 256 ∧ run.flag F.SEC_STATUS_scan = false ∧ run.secu.wipe = none
      ∧ (run.setFlag F.SEC_STATUS_scan true).flag F.SEC_STATUS_scan = true) := by decide +kernel

/-- A wipe in progress and what follows. -/
def wiping (after : List AfterWipe) : State :=
  { (run.setFld F.MEE_REG_CFG_mode 1 31) with secu := { run.secu with wipe := some ⟨1, after⟩, secrets := [(7, some 5)] } }

theorem witness_LifeCycleAndWipes :
    (run.secu.wipe = none ∧ ∀ l ∈ [[AfterWipe.nothing], [.scan], [.startUp], [.burn 1], [.burn 4]], (wiping l).secu.wipe = some ⟨1, l⟩
      ∧ (wiping l).fld F.MEE_REG_CFG_mode 31 ≠ 0)
    ∧ (0 &&& run.fld F.SEC_TAMPER_CFG_en = 0 ∧ 31 &&& run.fld F.SEC_TAMPER_CFG_en ≠ 0 ∧ run.pm.off = false
      ∧ ({ run.pm with off := true } : PmSt).off = true ∧ (run.setFlag F.SEC_TAMPER_CFG_erase true).flag F.SEC_TAMPER_CFG_erase = true
      ∧ (run.setFlag F.SEC_TAMPER_CFG_reset true).flag F.SEC_TAMPER_CFG_reset = true)
    ∧ (∀ t ∈ [1, 4], let v := (0x4C00 + t) * 65536 + t
       bits v 2 0 = t ∧ t ≤ 4 ∧ run.secu.lc < t ∧ bits v 31 16 = 0x4C00 + t ∧ run.secu.burn = none ∧ run.flag F.SEC_STATUS_busy = false
        ∧ run.secu.run = none)
    ∧ (4 < bits 5 2 0 ∧ bits 0 2 0 ≤ run.secu.lc ∧ bits 1 31 16 ≠ 0x4C00 + bits 1 2 0)
    ∧ ({ run.secu with burn := some 4 } : SecSt).burn = some 4 := by decide +kernel

/-- A device whose security commands use the buffer at the start of the bank window. -/
def keyed (x : SecSt) (s : State := run) : State := { (s.setReg R.SEC_CMD_ADDR_HI 0x40) with secu := x }

/-- The first and last word of a factory record: magic, part code, grade, the rest zero, CRC; with `good` false the first is zero. -/
def recFirst (good : Bool) : BankData := if good then BitVec.ofNat 128 (0x52465A43 + 2 ^ 64 * 0x19608A5B + 2 ^ 96) else 0
def recLast : BankData := BitVec.ofNat 128 (2103280354 * 2 ^ 96)

/-- That record as bytes, its words, and a device in test mode with it in its buffer. -/
def recBytes (good : Bool) : List Byte := leBytes 16 (recFirst good).toNat ++ List.replicate 4064 0 ++ leBytes 16 recLast.toNat
def recWord (good : Bool) (w : Nat) : BankData := if w = 0 then recFirst good else if w = 255 then recLast else 0
def withRecord (good : Bool) : State :=
  let s := keyed {} (staged 8)
  { s with mem := { s.mem with words := [(0, encodeS (recFirst good)), (255, encodeS recLast)] } }

theorem recWord_decodes (good : Bool) (w : Nat) : (withRecord good).decodeAt 0 w = ⟨.clean, recWord good w, []⟩ := by
  by_cases h0 : w = 0
  · subst h0; cases good <;> decide +kernel
  by_cases h1 : w = 255
  · subst h1; cases good <;> decide +kernel
  have e : (withRecord good).wordBits 0 w = 0 := by
    show SMap.get (0 : BankBits) [(0, encodeS (recFirst good)), (255, encodeS recLast)] (0 * 8192 + w) = 0
    rw [Nat.zero_mul, Nat.zero_add]
    show (if 0 = w then encodeS (recFirst good) else if 255 = w then encodeS recLast else 0) = 0
    rw [if_neg (Ne.symm h0), if_neg (Ne.symm h1)]
  rw [State.decodeAt, e, recWord, if_neg h0, if_neg h1]
  cases good <;> decide +kernel

theorem recWord_reads (good : Bool) (w : Nat) : (withRecord good).readWord 0 w = (recWord good w, false, withRecord good) := by
  rw [State.readWord, recWord_decodes]; rfl

theorem recWord_located (good : Bool) (w : Nat) (h : w < 256) : (withRecord good).locate w = (0, w) := by
  have z : (withRecord good).fld (F.MEM_BANK_CFG_set_size.nth (0 % 256)) (0 / 256) = 0 := by cases good <;> decide +kernel
  unfold State.locate
  have g : w / 8192 = 0 := by omega
  simp only [g, z]
  simp
  exact Nat.mod_one w

set_option maxRecDepth 1000000 in
theorem recBytes_read (good : Bool) : (withRecord good).devRead 1 (withRecord good).secAddr 4096 = (some (recBytes good), withRecord good) := by
  have f : ∀ (l : List Nat) (a : List Byte), (∀ w ∈ l, w < 256) → l.foldl (fun (a : List Byte × Bool × State) w =>
      let p := a.2.2.locate w
      let x := a.2.2.readWord p.1 p.2
      (a.1 ++ leBytes 16 x.1.toNat, a.2.1 || x.2.1, x.2.2)) (a, false, withRecord good)
      = (a ++ (l.map fun w => leBytes 16 (recWord good w).toNat).flatten, false, withRecord good) := by
    intro l
    induction l with
    | nil => intro a _; simp
    | cons w l ih =>
      intro a h
      simp only [List.foldl_cons, recWord_located good w (h w (by simp)), recWord_reads, Bool.or_false]
      rw [ih _ fun x hx => h x (by simp [hx])]
      simp [List.append_assoc]
  have t : targetOf (withRecord good).secAddr = .bank 0 := by cases good <;> decide +kernel
  rw [State.devRead, t]
  show (withRecord good).bankBytes 0 4096 = _
  unfold State.bankBytes
  rw [f _ [] (by intro w hw; simp [wordsOf] at hw; omega)]
  have e : slice ([] ++ ((wordsOf 0 4096).map fun w => leBytes 16 (recWord good w).toNat).flatten) (0 % 16) 4096 = recBytes good := by
    cases good <;> decide +kernel
  simp only [e]; rfl

theorem witness_KeyStoreCommands_slots :
    (∀ n < 4, let s := keyed {}
      s.secu.lc < 2 ∧ NSet.has s.secu.slotProg n = false ∧ (s.devRead 1 s.secAddr 48).1.isSome = true)
    ∧ (run.secu.lc < 2 ∧ NSet.has run.secu.slotProg 3 = false ∧ ((run.setReg R.SEC_CMD_ADDR_HI 0x50).devRead 1 (run.setReg R.SEC_CMD_ADDR_HI 0x50).secAddr 48).1 = none)
    ∧ (2 ≤ ({ lc := 2 } : SecSt).lc ∧ NSet.has ({ slotProg := [(3, true)] } : SecSt).slotProg 3 = true)
    ∧ (let x : SecSt := { slotProg := [(0, true), (3, true)] }
       let live := fun (n : Nat) => NSet.has x.slotProg n && !NSet.has x.slotRev n
       x.lc < 4 ∧ live 3 = true ∧ 0 ≠ 3 ∧ live 0 = true ∧ live 1 = false)
    ∧ (let x : SecSt := { slotProg := [(3, true)] }
       let live := fun (n : Nat) => NSet.has x.slotProg n && !NSet.has x.slotRev n
       ∀ n < 4, n ≠ 3 → live n = false) := by decide +kernel

theorem witness_KeyStoreCommands_secrets :
    (let s := keyed { secrets := [(7, some 5)], killed := 30 }
     s.secu.lc < 2 ∧ 8 ≠ 0 ∧ SMap.get none s.secu.secrets 8 = none ∧ s.secu.secrets.length + s.secu.killed < 32
      ∧ ((s.devRead 1 s.secAddr 160).1.map fun b => (slice b 97 3).all fun x => decide (x = 0)) = some true
      ∧ (({ s with mem := { s.mem with words := [(6, encodeS (BitVec.ofNat 128 (2 ^ 8)))] } } : State).devRead 1 s.secAddr 160).1.map
          (fun b => (slice b 97 3).all fun x => decide (x = 0)) = some false
      ∧ s.secu.lc < 4 ∧ SMap.get none s.secu.secrets 7 ≠ none)
    ∧ (32 ≤ ({ killed := 32 } : SecSt).secrets.length + ({ killed := 32 } : SecSt).killed ∧ 4 ≤ ({ lc := 4 } : SecSt).lc)
    ∧ ((keyed {}).devWrite 1 (keyed {}).secAddr (leBytes 97 5)).1 = true
    ∧ (run.testMode = false ∧ (let s := keyed {} (staged 8)
        s.secu.lc = 0 ∧ s.testMode = true)) := by decide +kernel

set_option maxRecDepth 1000000 in
theorem witness_KeyStoreCommands_factory :
    (∀ g, (withRecord g).secu.lc = 0 ∧ (withRecord g).testMode = true
      ∧ (withRecord g).devRead 1 (withRecord g).secAddr 4096 = (some (recBytes g), withRecord g))
    ∧ factoryGood (recBytes true) = true ∧ factoryGood (recBytes false) = false :=
  ⟨fun g => ⟨rfl, by cases g <;> decide +kernel, recBytes_read g⟩, by decide +kernel, by decide +kernel⟩

theorem witness_MailboxAndMonitor_complex :
    (run.mgtRuns = true ∧ ({ run with mgt := { run.mgt with warm := true } } : State).mgtRuns = false)
    ∧ (run.shed = 0 ∧ (run.setFld F.MB_STATUS_shed 3).shed = 3)
    ∧ (∀ l ∈ [[], [2000000001, 1000000000, 1000000000], [2000000000, 1000000001, 1000000000]],
       let s := { run with mgt := { run.mgt with warm := true, warmTimes := l } }
       s.mgt.warm = true ∧ s.flag F.MB_STATUS_dead = false ∧ s.thirdReset = decide (l = [2000000000, 1000000001, 1000000000]) ∧ s.mgt.executing = none)
    ∧ run.devState = 0 := by decide +kernel

/-- The command ring with one command, its parameter bytes those given; the version negotiated with a minor. -/
def ringHas (op : Nat) (minor : Option Nat) (param : List Byte := []) : State :=
  let s := (run.setFld F.MB_CMD_IDX_prod 1).bar2Put 0 (leBytes 2 op ++ leBytes 2 0xABCD ++ leBytes 16 0 ++ param)
  match minor with
  | none => s
  | some m => (s.setFlag F.MB_STATUS_negotiated true).setFld F.MB_VERSION_minor m

theorem witness_MailboxAndMonitor_ring :
    (run.mbReady = false ∧ ∀ op ∈ [1, 2, 3, 4, 5, 6, 7, 8, 9, 10], ∀ m ∈ [none, some 0, some 2], let s := ringHas op m
      s.mbReady = true ∧ mbOpcode s.mbEntry = op ∧ s.flag F.MB_STATUS_negotiated = m.isSome ∧ (m = some 2 → s.fld F.MB_VERSION_minor = 2)
        ∧ (m = some 0 → s.fld F.MB_VERSION_minor = 0))
    ∧ (∀ x ∈ [(9, 1), (10, 2)], (ringHas x.1 (some 0)).fld F.MB_VERSION_minor < x.2)
    ∧ ((255 : Nat) < 256 ∧ mbParam (ringHas 1 none [2, 7]).mbEntry 0 1 = 2 ∧ mbParam (ringHas 1 none [1]).mbEntry 0 1 ≠ 2
      ∧ mbParam (ringHas 8 none (leBytes 2 12287)).mbEntry 0 2 < 12288)
    ∧ (fieldAt (leBytes 4 0x52535A43) 0 4 = 0x52535A43 ∧ fieldAt ([] : List Byte) 0 4 ≠ 0x52535A43) := by decide +kernel

/-- A device whose monitor transports are open. -/
def opened : State := (run.setFlag F.MON_CFG_uart_en true).setFlag F.MON_CFG_i3c_en true

/-- A monitor request at the front, HELLO done with a minor or not. -/
def asked (cmd : Nat) (minor : Option Nat) (p : List Byte) : State :=
  { opened with mgt := { run.mgt with requests := [⟨0, 1, cmd, p⟩], monMinor := minor } }

theorem witness_MailboxAndMonitor_frames :
    (∀ tr < 2, opened.monOpen tr = true ∧ opened.devState = 0 ∧ (run.setReg R.MON_CFG 0).monOpen tr = false)
    ∧ (monReceive (monFrameBytes 255 2 [3, 4]) = .frame 255 2 [3, 4] [] ∧ (255 : Nat) < 256 ∧ [(3 : Byte), 4].length ≤ 1024)
    ∧ (SMap.get none opened.mgt.cache 1 = none ∧ opened.shed < 2 ∧ monKnown 2 = true ∧ 2 ≤ (opened.setFld F.MB_STATUS_shed 2).shed
      ∧ (opened.setFld F.MB_STATUS_shed 2).devState = 0 ∧ (opened.setFld F.MB_STATUS_shed 2).monOpen 1 = true)
    ∧ (let s := { opened with mgt := { run.mgt with cache := [(1, some ⟨255, 2, [9]⟩)] } }
       SMap.get none s.mgt.cache 1 = some ⟨255, 2, [9]⟩)
    ∧ (∃ rest, monReceive [0xA5, 0x5A, 1, 0, 0, 1, 0, 0, 0] = .bad rest) := by
  refine ⟨by decide +kernel, by decide +kernel, by decide +kernel, by decide +kernel, [], by decide +kernel⟩

theorem witness_MailboxAndMonitor_requests :
    (∀ x ∈ [(1, 2), (2, 5), (3, 5), (4, 8), (5, 10), (6, 9), (8, 6), (9, 2), (10, 4), (11, 3), (12, 0), (14, 2), (16, 13), (17, 6)],
      ∀ m ∈ [none, some 0, some 1], let s := asked x.1 m (List.replicate x.2 0)
      s.mgtRuns = true ∧ s.mgt.requests = ⟨0, 1, x.1, List.replicate x.2 0⟩ :: [] ∧ s.mgt.monMinor = m)
    ∧ ((asked 16 (some 0) []).mgt.monMinor = some 0 ∧ (0 : Nat) < 1 ∧ decide (([] : List Byte).length = 13) = false)
    ∧ (fieldAt [(1 : Byte), 7] 0 1 = 1 ∧ fieldAt [(2 : Byte), 7] 0 1 ≠ 1)
    ∧ (let p : List Byte := leBytes 2 12287 ++ [3, 1] ++ leBytes 2 1023
       fieldAt p 0 2 < 12288 ∧ fieldAt p 2 1 ≤ 3 ∧ fieldAt p 3 1 ≤ 1 ∧ fieldAt p 4 2 ≤ 1023)
    ∧ (∀ h ∈ [true, false], ∀ a ∈ [1, 2, 4], let p : List Byte := leBytes 2 12287 ++ leBytes 1 a
       let s := (asked 7 (some 1) p).setEngine 12287 { halted := h }
       s.mgtRuns = true ∧ s.mgt.requests = ⟨0, 1, 7, p⟩ :: [] ∧ s.mgt.monMinor ≠ none ∧ p.length = 3 ∧ fieldAt p 0 2 < 12288 ∧ s.mgt.ctrlSince = none
        ∧ s.held (engIsland (fieldAt p 0 2)) = false ∧ fieldAt p 2 1 = a ∧ (s.engine (fieldAt p 0 2)).halted = h)
    ∧ (let s := asked 7 (some 1) (leBytes 2 12287 ++ [1])
       let s' := { (s.setEngine 12287 { halted := false }) with mgt := { s.mgt with ctrlSince := some 0 } }
       s'.mgt.ctrlSince = some 0 ∧ s'.engState 12287 % 8 ≠ 1)
    ∧ (asked 13 (some 0) []).mgt.requests = ⟨0, 1, 13, []⟩ :: [] := by decide +kernel


/-! ## Single steps, and codes against the check values of their published definitions -/

/-- The ASCII digits 1 to 9, the check string of the published CRC definitions. -/
def digits : List Byte := [0x31, 0x32, 0x33, 0x34, 0x35, 0x36, 0x37, 0x38, 0x39]

/-- The check values of CRC-32 (IEEE 802.3), CRC-32C (RFC 3720), CRC-16 with polynomial 0x1021 and initial value 0xFFFF, and CRC-8 with
polynomial 0x07. -/
theorem test_crc_check_values : crc32 digits = 0xCBF43926 ∧ crc32c digits = 0xE3069283 ∧ crc16 digits = 0x29B1 ∧ crc8 digits = 0xF4 := by
  decide +kernel

/-- What a step answers, by a property of the next state. -/
def nextIs (p : State → Bool) : Host.Outcome State Fault Refusal → Bool
  | .next t => p t
  | _ => false

/-- 00 R2: a READ of the CSR window's first word answers status 0 and DEV_ID, and takes the command from the queue. -/
theorem test_step_reads_the_device_identifier :
    nextIs (fun t => decide (t.out.length = 1 ∧ (t.out.all fun o => decide (∃ k ∈ [answerKey 0 0 0], o = .answer k 0 (leBytes 4 0x19608A5B))) = true)
      && t.pending.isEmpty) (step (run.withCommand (.nocRead rqHead 0x4800000000 4))) = true := by
  decide +kernel

/-- A device with nothing to do lets a nanosecond pass. -/
theorem test_idle_step_passes_a_nanosecond :
    nextIs (fun t => decide (t.time.ns = 1 ∧ t.out = [])) (step run) = true := by decide +kernel

end Sys2Proof.Tests
end

section
/-! O18: the merge drain that meets a bad word (06 R184). First what a stored word, a merge buffer and the raised faults
read as after each operation the drain is made of, then the drain itself. -/

namespace Sys2Proof.Machine

/-! ## Stored words (06 R194) -/

/-- A word just written reads back, through the remap table as it was written through it. -/
@[simp] theorem State.wordBits_setWordBits_same (s : State) (bank word : Nat) (v : BankBits) :
    (s.setWordBits bank word v).wordBits bank word = v := by
  unfold State.setWordBits
  cases h : s.remapSlot bank word with
  | some n =>
    have h' : ∀ x, State.remapSlot { s with mem := { s.mem with spares := x } } bank word = some n := fun _ => h
    simp [State.wordBits, h']
  | none =>
    have h' : ∀ x, State.remapSlot { s with mem := { s.mem with words := x } } bank word = none := fun _ => h
    simp [State.wordBits, h']

@[simp] theorem State.setWordBits_csr (s : State) (bank word : Nat) (v : BankBits) :
    (s.setWordBits bank word v).csr = s.csr := by
  unfold State.setWordBits; split <;> rfl

@[simp] theorem State.mergeOf_setWordBits (s : State) (bank word : Nat) (v : BankBits) (col : Nat) :
    (s.setWordBits bank word v).mergeOf col = s.mergeOf col := by
  unfold State.setWordBits; split <;> rfl

/-- The code of a bank is read from the registers alone. -/
theorem State.codeOf_congr {s t : State} (h : t.csr = s.csr) (bank : Nat) : t.codeOf bank = s.codeOf bank := by
  unfold State.codeOf State.reg; rw [h]

/-- Upsets turn stored bits over, not a bank's code. -/
@[simp] theorem State.codeOf_upset (s : State) (bank word : Nat) (u : List Nat) (b : Nat) :
    (s.upset bank word u).codeOf b = s.codeOf b := by
  unfold State.upset
  split
  · rfl
  · exact State.codeOf_congr (State.setWordBits_csr ..) b

@[simp] theorem State.mergeOf_upset (s : State) (bank word : Nat) (u : List Nat) (col : Nat) :
    (s.upset bank word u).mergeOf col = s.mergeOf col := by
  unfold State.upset
  split
  · rfl
  · exact State.mergeOf_setWordBits ..

/-! ## The merge buffer and the repair queue (06 R178, R181) -/

@[simp] theorem State.mergeOf_setMerge_same (s : State) (col : Nat) (l : List MergeEntry) :
    (s.setMerge col l).mergeOf col = l := SMap.get_set_same _ _ _ _

@[simp] theorem State.decodeAt_setMerge (s : State) (col : Nat) (l : List MergeEntry) (bank word : Nat) :
    (s.setMerge col l).decodeAt bank word = s.decodeAt bank word := rfl

@[simp] theorem State.mergeOf_cancelRepair (s : State) (bank word col : Nat) :
    (s.cancelRepair bank word).mergeOf col = s.mergeOf col := rfl

@[simp] theorem State.wordBits_cancelRepair (s : State) (bank word b w : Nat) :
    (s.cancelRepair bank word).wordBits b w = s.wordBits b w := rfl

/-! ## Reads and faults (06 R176, 25 R620) -/

/-- Counting and recording the outcome of a read leaves the memories as they were. -/
@[simp] theorem State.noteRead_mem (s : State) (bank word : Nat) (d : Decoded) : (s.noteRead bank word d).mem = s.mem := by
  unfold State.noteRead
  cases d.found <;> simp

@[simp] theorem State.mergeOf_noteRead (s : State) (bank word : Nat) (d : Decoded) (col : Nat) :
    (s.noteRead bank word d).mergeOf col = s.mergeOf col := by
  unfold State.mergeOf; rw [State.noteRead_mem]

@[simp] theorem State.mergeOf_raise (s : State) (f : FaultCode) (l : List Nat) (src col : Nat) :
    (s.raise f l src).mergeOf col = s.mergeOf col := rfl

@[simp] theorem State.wordBits_raise (s : State) (f : FaultCode) (l : List Nat) (src bank word : Nat) :
    (s.raise f l src).wordBits bank word = s.wordBits bank word := rfl

/-- The fault raised last stands last, as a group of its own. -/
@[simp] theorem State.getLast?_raised_raise (s : State) (f : FaultCode) (l : List Nat) (src : Nat) :
    (s.raise f l src).flt.raised.getLast? = some [f.entry l src] := by
  simp [State.raise, State.raiseGroup]

/-! ## The drain (06 R182, R184) -/

theorem Decoded.bad_iff (d : Decoded) : d.bad = true ↔ d.found = .uncorrectable ∨ d.found = .poison := by
  simp [Decoded.bad]

/-- An entry that is not full and whose word reads bad drains as a write of the poison pattern, on the record. -/
theorem State.drainEntry_of_bad (s : State) (col : Nat) (e : MergeEntry) (hm : e.mask ≠ 0xFFFF)
    (hb : (s.decodeAt e.bank e.word).bad = true) :
    s.drainEntry col e
      = (((((s.setMerge col ((s.mergeOf col).erase e)).noteRead e.bank e.word (s.decodeAt e.bank e.word)).setWordBits
          e.bank e.word (poisonWord (s.codeOf e.bank))).cancelRepair e.bank e.word).raise Flt.MI_MERGE_POISONED
          [col, e.bank, e.word]) := by
  simp [State.drainEntry, hm, hb]

/-- What a drain that meets a bad word leaves: the word poisoned, the entry gone, the fault last on the record. -/
theorem State.drainEntry_of_bad_spec (s : State) (col : Nat) (e : MergeEntry) (hm : e.mask ≠ 0xFFFF)
    (hb : (s.decodeAt e.bank e.word).bad = true) :
    (s.drainEntry col e).wordBits e.bank e.word = poisonWord (s.codeOf e.bank)
      ∧ (s.drainEntry col e).mergeOf col = (s.mergeOf col).erase e
      ∧ (s.drainEntry col e).flt.raised.getLast? = some [Flt.MI_MERGE_POISONED.entry [col, e.bank, e.word]] := by
  simp [State.drainEntry_of_bad s col e hm hb]

/-- MERGE_DRAIN drains the entry that R182 chooses, after the upsets of its word. -/
theorem execMergeDrain_of_some (s : State) (col : Nat) (e : MergeEntry) (u : List Nat)
    (he : ((s.mergeOf col).find? fun e => decide (e.mask = 0xFFFF)).or (s.mergeOf col).head? = some e) :
    execMergeDrain col u s = .next ((s.upset e.bank e.word u).drainEntry col e) := by
  simp [execMergeDrain, he]

/-- Settles O18: the upsets come before the read and change neither the bank's code nor the buffer, so the rule for a drain
that meets a bad word applies to the upset state. -/
theorem mergeDrainOfBadWord : Obligations.MergeDrainOfBadWord := by
  unfold Obligations.MergeDrainOfBadWord
  intro s col e u he hm hd
  obtain ⟨hword, hmerge, hfault⟩ :=
    (s.upset e.bank e.word u).drainEntry_of_bad_spec col e hm ((Decoded.bad_iff _).mpr hd)
  rw [State.codeOf_upset] at hword
  rw [State.mergeOf_upset] at hmerge
  exact ⟨_, execMergeDrain_of_some s col e u he, hword, hmerge, hfault⟩

end Sys2Proof.Machine
end

section
/-! O24: the modulo rule of the engine's address generation (07 R218, R219). First the least k with 2^k ≥ L and the step of
an update field, then the pointer of the modulo mode. -/

namespace Sys2Proof.Machine

/-! ## The buffer's size and the step (07 R218) -/

theorem log2Up_eq_clog (l : Nat) : log2Up l = Nat.clog 2 l := by
  unfold log2Up log2
  split
  case isTrue h => rw [Nat.clog_of_right_le_one h]
  case isFalse h =>
    refine eq_of_forall_ge_iff fun j => ?_
    rw [Nat.clog_le_iff_le_pow (by decide), Nat.succ_le_iff, Nat.log2_lt (by omega)]
    omega

/-- A length's base-2 logarithm, rounded up, is the only exponent that is least among those whose power reaches it. -/
theorem log2Up_eq_of_least {l k : Nat} (hk : l ≤ 2 ^ k) (hmin : ∀ j, l ≤ 2 ^ j → k ≤ j) : log2Up l = k := by
  rw [log2Up_eq_clog]
  exact Nat.le_antisymm (Nat.clog_le_of_le_pow hk) (hmin _ (Nat.le_pow_clog (by decide) l))

/-- A number already within `n` bits is read by its sign bit alone. -/
theorem signed_of_lt {n v : Nat} (h : v < 2 ^ n) :
    signed n v = if v < 2 ^ (n - 1) then (v : Int) else v - (2 ^ n : Nat) := by
  rw [signed, Nat.mod_eq_of_lt h]

/-- The step of each update field but 00, of a 12-bit step register. -/
theorem stepOf_of_lt {upd s : Nat} (hs : s < 4096) (hpos : 1 ≤ upd) (hle : upd ≤ 3) :
    stepOf upd s = if upd = 1 then 1 else if upd = 2 then (if s < 2048 then (s : Int) else s - 4096) else -1 := by
  match upd with
  | 1 => rfl
  | 2 => exact signed_of_lt hs
  | 3 => rfl

/-! ## The modulo mode (07 R218, R219) -/

theorem bit_of_lt {v i : Nat} (h : v < 2 ^ i) : bit v i = false := by
  simp [bit, Nat.div_eq_of_lt h]

theorem bits_zero_of_lt {v hi : Nat} (h : v < 2 ^ (hi + 1)) : bits v hi 0 = v := by
  simp [bits, Nat.mod_eq_of_lt h]

/-- With bit 11 clear the modulo register is the buffer's length, and the update goes round the buffer. -/
theorem newPointer_of_modulo {m upd : Nat} (p s : Nat) (hm : m < 2048) (hpos : 1 ≤ m) (hupd : 1 ≤ upd) :
    newPointer p s m upd = p / 2 ^ log2Up m * 2 ^ log2Up m
      + (((p : Int) - (p / 2 ^ log2Up m * 2 ^ log2Up m : Nat) + stepOf upd s) % m).toNat := by
  have hbit : bit m 11 = false := bit_of_lt hm
  have hlen : bits m 10 0 = m := bits_zero_of_lt hm
  have hu : upd ≠ 0 := by omega
  have hm0 : m ≠ 0 := by omega
  simp [newPointer, hu, hbit, hm0, hlen]

/-- Settles O24: the remainder of a positive length lies in 0 to length − 1 for any pointer and any step, so base plus it
lies in the buffer. -/
theorem enginePointerUpdate : Obligations.EnginePointerUpdate := by
  unfold Obligations.EnginePointerUpdate
  intro p s m upd k _ hs hm hpos hupd hle hk hmin base d
  have hnew : newPointer p s m upd = base + (((p : Int) - base + d) % m).toNat := by
    rw [newPointer_of_modulo p s hm hpos hupd, stepOf_of_lt hs hupd hle, log2Up_eq_of_least hk hmin]
  have hnonneg : 0 ≤ ((p : Int) - base + d) % m := Int.emod_nonneg _ (by omega)
  have hlt : ((p : Int) - base + d) % m < m := Int.emod_lt_of_pos _ (by omega)
  have hvalue : (newPointer p s m upd : Int) = base + ((p : Int) - base + d) % m := by
    rw [hnew, Nat.cast_add, Int.toNat_of_nonneg hnonneg]
  have hlow : base ≤ newPointer p s m upd := by omega
  have hhigh : newPointer p s m upd < base + m := by omega
  exact ⟨hvalue, hlow, hhigh, fun hone => by omega⟩

end Sys2Proof.Machine
end

section
/-! O26: DBNZ (08 R250). First what a command that changes one engine leaves alone, then what every branch-type instruction
does (08 R246), then DBNZ's own change. -/

namespace Sys2Proof.Machine

/-! ## A command that changes one engine -/

/-- `t` is `s` but for engine `e`, which is `g`. -/
structure State.OnlyEngine (s : State) (e : Nat) (g : Engine) (t : State) : Prop where
  engine_same : t.engine e = g
  engine_other : ∀ j, j ≠ e → t.engine j = s.engine j
  frame : t = { s with eng := t.eng }

theorem State.onlyEngine_self (s : State) (e : Nat) : s.OnlyEngine e (s.engine e) s :=
  ⟨rfl, fun _ _ => rfl, rfl⟩

theorem State.OnlyEngine.setEngine {s t : State} {e : Nat} {g : Engine} (h : s.OnlyEngine e g t) (g' : Engine) :
    s.OnlyEngine e g' (t.setEngine e g') where
  engine_same := State.engine_setEngine_same t e g'
  engine_other j hj := (State.engine_setEngine_other t e j g' hj).trans (h.engine_other j hj)
  frame := by
    unfold State.setEngine
    rw [h.frame]

theorem State.OnlyEngine.updEngine {s t : State} {e : Nat} {g : Engine} (h : s.OnlyEngine e g t) (f : Engine → Engine) :
    s.OnlyEngine e (f g) (t.updEngine e f) := by
  rw [← h.engine_same]
  exact h.setEngine _

/-! ## The engine that E1 finds (09 R262, R264) -/

/-- The engine out of a stall or a wait, as every instruction that executes leaves it. -/
def Engine.resume (g : Engine) : Engine := { g with stalled := false, waiting := false, fresh := false }

/-- The engine as a control-format instruction that leaves nothing for E2 finds it: resumed, the address register written
before it in place, one clock edge passed. -/
def Engine.controlEntry (g : Engine) : Engine := g.resume.applyPend.tick.quietE2

@[simp] theorem Engine.resume_pend (g : Engine) : g.resume.pend = g.pend := rfl
@[simp] theorem Engine.resume_dmem (g : Engine) : g.resume.dmem = g.dmem := rfl
@[simp] theorem Engine.resume_pmem (g : Engine) : g.resume.pmem = g.pmem := rfl
@[simp] theorem Engine.resume_stepping (g : Engine) : g.resume.stepping = g.stepping := rfl

/-- What the pending write does to the registers does not depend on whether the engine stalls or waits. -/
theorem Engine.reg_applyPend_resume (g : Engine) (r : Nat) : g.resume.applyPend.reg r = g.applyPend.reg r := by
  unfold Engine.applyPend
  rw [Engine.resume_pend]
  cases g.pend with
  | none => rfl
  | some p =>
    unfold Engine.setReg Engine.reg
    dsimp only
    split <;> rfl

theorem Engine.reg_controlEntry (g : Engine) {r : Nat} (htmr : r ≠ 50) (hwdt : r ≠ 53) :
    g.controlEntry.reg r = g.applyPend.reg r :=
  (Engine.reg_tick g.resume.applyPend r htmr hwdt).trans (g.reg_applyPend_resume r)

@[simp] theorem Engine.controlEntry_dmem (g : Engine) : g.controlEntry.dmem = g.dmem := by
  simp [Engine.controlEntry, Engine.quietE2]

@[simp] theorem Engine.controlEntry_pmem (g : Engine) : g.controlEntry.pmem = g.pmem := by
  simp [Engine.controlEntry, Engine.quietE2]

@[simp] theorem Engine.controlEntry_stepping (g : Engine) : g.controlEntry.stepping = g.stepping := by
  simp [Engine.controlEntry, Engine.quietE2]

/-! ## Branch-type instructions (08 R246) -/

theorem isBranch_parallelKind (op : Nat) : isBranch (parallelKind op) = false := by
  unfold parallelKind
  split <;> rfl

/-- Every branch-type instruction is of the control format. -/
theorem bit31_of_isBranch {w : Nat} {k : EngKind} (hk : engKind w = some k) (hb : isBranch k = true) : bit w 31 = false := by
  by_contra hbit
  rw [engKind, if_pos (by simpa using hbit), Option.some.injEq] at hk
  rw [← hk, isBranch_parallelKind] at hb
  exact Bool.false_ne_true hb

/-- No branch-type instruction computes an accumulator. -/
theorem controlAlu_of_isBranch (g : Engine) {k : EngKind} (w : Nat) (hb : isBranch k = true) : controlAlu g k w = none := by
  simp only [isBranch, List.contains_eq_mem, List.mem_cons, List.not_mem_nil, or_false, decide_eq_true_eq] at hb
  rcases hb with rfl | rfl | rfl | rfl | rfl | rfl <;> rfl

/-- What the command of a control-format instruction but HALT and TRAP does when the instruction executes. -/
theorem State.engCommand_control {s : State} {e w : Nat} {k : EngKind} (h : s.engIssues e w k) (hformat : bit w 31 = false)
    (hhalt : k ≠ .halt) (htrap : k ≠ .trap) :
    s.engCommand e [] k =
      (let r := (s.setEngine e (s.engine e).resume).controlIssue e k w
       r.2.updEngine e fun g =>
         let g1 := g.advance k
         if r.1 then g1.noFlow.haltAt 6 (g1.reg 54) else if g1.stepDone then g1.haltAt 1 (g1.reg 54) else g1) := by
  rw [State.engCommand_issues s e w k h htrap]
  simp only [hformat, hhalt, Bool.false_eq_true, if_false]
  rfl

/-- A branch-type instruction has its own change made on the engine that E1 finds. -/
theorem State.OnlyEngine.controlIssue_branch {s t : State} {e w : Nat} {k : EngKind} {f : Engine → Engine} {g : Engine}
    (ht : s.OnlyEngine e g t) (hb : isBranch k = true)
    (hcontrol : ∀ t g0, State.control t e k w g0 = (false, t.updEngine e f)) :
    (t.controlIssue e k w).1 = false ∧ s.OnlyEngine e (f g.applyPend.tick.quietE2) (t.controlIssue e k w).2 := by
  unfold State.controlIssue
  simp only [controlAlu_of_isBranch _ w hb, hcontrol, ht.engine_same, true_and]
  exact (ht.setEngine _).updEngine f

/-- A branch-type instruction that executes, its own change being `f`, changes its engine alone: by `f`, then by the
advance to the next address. -/
theorem State.engCommand_branch {s : State} {e w : Nat} {k : EngKind} {f : Engine → Engine} (h : s.engIssues e w k)
    (hb : isBranch k = true) (hcontrol : ∀ t g0, State.control t e k w g0 = (false, t.updEngine e f))
    (hstep : ∀ g, (f g).stepping = g.stepping) :
    s.OnlyEngine e ((f (s.engine e).controlEntry).advance k) (s.engCommand e [] k) := by
  obtain ⟨-, -, -, -, hstepping, -, hkind, -, -, -⟩ := id h
  have hformat : bit w 31 = false := bit31_of_isBranch hkind hb
  have hhalt : k ≠ .halt := by rintro rfl; cases hb
  have htrap : k ≠ .trap := by rintro rfl; cases hb
  have hdone : ((f (s.engine e).controlEntry).advance k).stepDone = false := by
    simp [Engine.stepDone, hstep, hstepping]
  obtain ⟨hread, hchange⟩ :=
    ((s.onlyEngine_self e).setEngine (s.engine e).resume).controlIssue_branch hb hcontrol
  have hnext := hchange.updEngine fun g =>
    if (g.advance k).stepDone = true then (g.advance k).haltAt 1 ((g.advance k).reg 54) else g.advance k
  rw [← Engine.controlEntry, if_neg (ne_true_of_eq_false hdone)] at hnext
  rw [State.engCommand_control h hformat hhalt htrap]
  simpa only [hread, Bool.false_eq_true, if_false] using hnext

/-- After a branch-type instruction comes the next address, the first delay slot's. -/
theorem Engine.pc_advance_of_isBranch (g : Engine) {k : EngKind} (hb : isBranch k = true) :
    (g.advance k).reg 54 = (g.reg 54 + 1) % 1024 := by
  simp only [Engine.advance, hb, Bool.true_or, if_true]
  exact Engine.reg_setReg_same _ _ _ (by decide)

theorem Engine.delay_advance_of_isBranch (g : Engine) {k : EngKind} (hb : isBranch k = true) :
    (g.advance k).delay = g.delay := by
  simp [Engine.advance, hb]

theorem Engine.target_advance_of_isBranch (g : Engine) {k : EngKind} (hb : isBranch k = true) :
    (g.advance k).target = g.target := by
  simp [Engine.advance, hb]

@[simp] theorem Engine.reg_branch (g : Engine) (taken : Bool) (target r : Nat) : (g.branch taken target).reg r = g.reg r := rfl

/-! ## DBNZ (08 R250) -/

/-- What DBNZ makes of the engine that E1 finds: lc counted down, the branch taken unless lc is now 0. -/
def Engine.decrementAndBranch (w : Nat) (g : Engine) : Engine :=
  (g.setReg 20 ((g.reg 20 + 2047) % 2048)).branch (decide ((g.reg 20 + 2047) % 2048 ≠ 0)) (bits w 9 0)

theorem State.control_dbnz (t : State) (e w : Nat) (g0 : Engine) :
    t.control e .dbnz w g0 = (false, t.updEngine e (Engine.decrementAndBranch w)) := rfl

theorem exec_dbnz (e : Nat) (s : State) : exec (.dbnz e []) s = .next (s.engCommand e [] .dbnz) := rfl

theorem Engine.lc_decrementAndBranch (w : Nat) (g : Engine) :
    (g.decrementAndBranch w).reg 20 = (g.reg 20 + 2047) % 2048 := by
  rw [Engine.decrementAndBranch, Engine.reg_branch, Engine.reg_setReg_same _ _ _ (by decide)]
  exact Nat.mod_mod _ 2048

theorem Engine.reg_decrementAndBranch (w : Nat) (g : Engine) {r : Nat} (h : r ≠ 20) :
    (g.decrementAndBranch w).reg r = g.reg r := by
  rw [Engine.decrementAndBranch, Engine.reg_branch, Engine.reg_setReg_other _ _ _ _ h (.inl (by decide))]

/-- DBNZ keeps the address field as its target, or the address after the delay slots where lc has come to 0. -/
theorem Engine.target_decrementAndBranch (w : Nat) (g : Engine) :
    (g.decrementAndBranch w).target
      = if (g.reg 20 + 2047) % 2048 = 0 then (g.reg 54 + 3) % 1024 else bits w 9 0 := by
  have hpc : (g.setReg 20 ((g.reg 20 + 2047) % 2048)).reg 54 = g.reg 54 :=
    Engine.reg_setReg_other g 20 54 _ (by decide) (by decide)
  have haddr : bits w 9 0 % 1024 = bits w 9 0 := Nat.mod_mod _ _
  simp only [Engine.decrementAndBranch, Engine.branch, hpc, haddr, decide_eq_true_eq, ne_eq, ite_not]

/-- Settles O26: DBNZ counts lc down and decides the branch on the engine that E1 finds, which differs from the engine
before in tmr and wdt alone; what follows any branch-type instruction then moves only pc. -/
theorem engineDecrementAndBranch : Obligations.EngineDecrementAndBranch := by
  unfold Obligations.EngineDecrementAndBranch
  intro s e w h g lc
  have honly := State.engCommand_branch h rfl (State.control_dbnz · e w) fun _ => by
    simp [Engine.decrementAndBranch, Engine.branch]
  have hentry : ∀ {r}, r ≠ 50 → r ≠ 53 → (s.engine e).controlEntry.reg r = g.reg r :=
    Engine.reg_controlEntry (s.engine e)
  have hlc : ((s.engine e).controlEntry.reg 20 + 2047) % 2048 = lc := by rw [hentry (by decide) (by decide)]
  have hreg : ((s.engCommand e [] .dbnz).engine e).reg 20 = lc := by
    rw [honly.engine_same, Engine.reg_advance _ _ _ (by decide), Engine.lc_decrementAndBranch, hlc]
  have htarget : ((s.engCommand e [] .dbnz).engine e).target = if lc = 0 then (g.reg 54 + 3) % 1024 else bits w 9 0 := by
    rw [honly.engine_same, Engine.target_advance_of_isBranch _ rfl, Engine.target_decrementAndBranch, hlc,
      hentry (by decide) (by decide)]
  refine ⟨_, exec_dbnz e s, hreg, ?pc, ?delay, htarget, ?fromZero, ?others, ?dmem, ?pmem, honly.engine_other, honly.frame⟩
  case pc =>
    rw [honly.engine_same, Engine.pc_advance_of_isBranch _ rfl, Engine.reg_decrementAndBranch _ _ (by decide),
      hentry (by decide) (by decide)]
  case delay => rw [honly.engine_same, Engine.delay_advance_of_isBranch _ rfl]; rfl
  case fromZero =>
    intro hzero
    have hlast : lc = 2047 := by simp only [lc, hzero]
    rw [hreg, htarget, hlast]
    exact ⟨rfl, if_neg (by decide)⟩
  case others =>
    intro r hr
    simp only [List.mem_cons, List.not_mem_nil, or_false, not_or] at hr
    obtain ⟨hnotLc, htmr, hwdt, hnotPc⟩ := hr
    rw [honly.engine_same, Engine.reg_advance _ _ _ hnotPc, Engine.reg_decrementAndBranch _ _ hnotLc, hentry htmr hwdt]
  case dmem => simp [honly.engine_same, Engine.decrementAndBranch, Engine.branch, g]
  case pmem => simp [honly.engine_same, Engine.decrementAndBranch, Engine.branch, g]

end Sys2Proof.Machine
end

section
/-! O40: accesses outside every enabled region (15 R387). First the refusal of an access whose first line is refused, then
what a refused read or write of the DRAM window answers, then the refusal R387 gives. -/

namespace Sys2Proof.Machine

/-! ## An access whose first line is refused -/

@[simp] theorem length_leBytes (n v : Nat) : (leBytes n v).length = n := by
  induction n generalizing v with
  | zero => rfl
  | succ n ih => simp [leBytes, ih]

/-- An access of at least one byte touches the line it begins in, first of all. -/
theorem linesOf_eq_cons (a : Nat) {n : Nat} (hn : 0 < n) : ∃ rest, linesOf a n = a / 64 * 64 :: rest := by
  obtain ⟨k, hk⟩ : ∃ k, (a + n - 1) / 64 + 1 - a / 64 = k + 1 := ⟨(a + n - 1) / 64 - a / 64, by omega⟩
  rw [linesOf, hk, List.range_succ_eq_map, List.map_cons, Nat.add_zero]
  exact ⟨_, rfl⟩

theorem State.accessRefused_of_lineRefused {s : State} {cls a n : Nat} {write : Bool} {f : Option FaultCode} (hn : 0 < n)
    (h : s.lineRefused cls (a / 64 * 64) write = some f) : s.accessRefused cls a n write = some f := by
  obtain ⟨rest, hlines⟩ := linesOf_eq_cons a hn
  rw [State.accessRefused, hlines, List.findSome?_cons_of_isSome (by rw [h]; rfl), h]

/-! ## Refused reads and writes -/

@[simp] theorem State.lineUpset_nil (s : State) (ch line : Nat) : s.lineUpset ch line [] = s := rfl

theorem State.dramRead_of_refused {s : State} {cls a n : Nat} {f : Option FaultCode}
    (h : s.accessRefused cls a n false = some f) : s.dramRead cls a n = (1, [], s.raiseOpt f cls) := by
  rw [State.dramRead, h]

theorem State.dramWrite_of_refused {s : State} {cls a : Nat} {data : List Byte} {f : Option FaultCode} (dst : Nat)
    (h : s.accessRefused cls a data.length true = some f) : s.dramWrite cls a data dst = (some 1, s.raiseOpt f cls) := by
  rw [State.dramWrite, h]

theorem exec_dramLineRead_of_refused {s : State} {cls addr : Nat} {f : Option FaultCode}
    (h : s.accessRefused cls (addr / 64 * 64) 64 false = some f) :
    exec (.dramLineRead cls addr []) s
      = .next ((s.raiseOpt f cls).answer (0x20000 + dramChannel (addr / 64 * 64)) 1) := by
  change execDramLineRead cls addr [] s = _
  simp only [execDramLineRead, State.lineUpset_nil, State.dramRead_of_refused h]

theorem exec_dramLineWrite_of_refused {s : State} {cls addr : Nat} {f : Option FaultCode} (data : BitVec 512)
    (h : s.accessRefused cls (addr / 64 * 64) 64 true = some f) :
    exec (.dramLineWrite cls addr data) s
      = .next ((s.raiseOpt f cls).answer (0x20000 + dramChannel (addr / 64 * 64)) 1) := by
  change execDramLineWrite cls addr data s = _
  have hlen : s.accessRefused cls (addr / 64 * 64) (leBytes 64 data.toNat).length true = some f := by
    rwa [length_leBytes]
  simp only [execDramLineWrite, State.dramWrite_of_refused _ hlen]

theorem exec_meePartialWrite_of_refused {s : State} {cls addr : Nat} {data : List Byte} {f : Option FaultCode}
    (h : s.accessRefused cls addr data.length true = some f) :
    exec (.meePartialWrite cls addr data) s = .next ((s.raiseOpt f cls).answer (0x20000 + dramChannel addr) 1) := by
  change execMeePartialWrite cls addr data s = _
  simp only [execMeePartialWrite, State.dramWrite_of_refused _ h]

/-! ## Outside every enabled region (15 R387) -/

/-- The check of the regions comes before those of rights and of the channel, so neither the class nor the direction of the
access matters. -/
theorem State.lineRefused_outside_regions {s : State} {a : Nat} (hfit : s.dramFits a = true)
    (hout : s.regionOf a = none ∨ s.inCtr a = true ∨ s.inTree a = true) (cls : Nat) (write : Bool) :
    s.lineRefused cls a write = some (some Flt.MEE_NO_REGION) := by
  rcases hout with hnone | hctr | htree
  · simp [State.lineRefused, hfit, hnone]
  · simp [State.lineRefused, hfit, hctr]
  · simp [State.lineRefused, hfit, htree]

/-- Only an address with no memory is located; this one is recorded without a place. -/
theorem State.raiseOpt_noRegion (s : State) (cls : Nat) :
    s.raiseOpt (some Flt.MEE_NO_REGION) cls = s.raise Flt.MEE_NO_REGION := rfl

/-- Settles O40: the line an access begins in is the first it touches, and R387 refuses that line, so the whole access is
refused with MEE_NO_REGION and nothing of it reaches the memory. -/
theorem dramAccessOutsideRegions : Obligations.DramAccessOutsideRegions := by
  unfold Obligations.DramAccessOutsideRegions
  refine ⟨?_, rfl⟩
  intro s cls addr a hfit hout
  have hline : ∀ write, s.lineRefused cls a write = some (some Flt.MEE_NO_REGION) :=
    State.lineRefused_outside_regions hfit hout cls
  have haligned : a / 64 * 64 = a := by omega
  have hwhole : ∀ write, s.accessRefused cls a 64 write = some (some Flt.MEE_NO_REGION) := fun write =>
    State.accessRefused_of_lineRefused (by decide) (haligned.symm ▸ hline write)
  rw [← State.raiseOpt_noRegion s cls]
  refine ⟨fun data => ⟨?read, ?wholeWrite⟩, fun data hdata => ?partialWrite⟩
  case read => exact exec_dramLineRead_of_refused (hwhole false)
  case wholeWrite => exact exec_dramLineWrite_of_refused data (hwhole true)
  case partialWrite =>
    exact exec_meePartialWrite_of_refused
      (State.accessRefused_of_lineRefused (List.length_pos_of_ne_nil hdata) (hline true))

end Sys2Proof.Machine
end
